-- ==== Sys2Proof/Word.lean ====
section
/-! DEFINITION. The word types of the LC-220: bytes of the link and of the array, and belt positions. -/

namespace Sys2Proof

/-- One byte of the message link (R175) or of the non-volatile array (R165). -/
abbrev Byte := BitVec 8

/-- A belt position: an unsigned 32-bit count of millimetres that wraps (section 1.5, R37). -/
abbrev Pos := BitVec 32

end Sys2Proof
end

