-- ==== Sys2Proof/Syntax.lean ====
section
/-! DEFINITION. The commands of the LC-220: one constructor of Instr for each row of spec/opcode_table.json, with
the names their operands need. Host requests carry the frame's token and their body fields at the widths of R188. -/

namespace Sys2Proof

/-- A lane (section 1.5). -/
inductive Lane | a | b
deriving DecidableEq, Repr

/-- The eight photo-eyes, in the index order of R186. -/
inductive Eye | ia | ib | ca | cb | ma | mb | bg | ex
deriving DecidableEq, Repr

/-- The five tracked eyes of R24. -/
inductive TrackedEye | ca | cb | ma | mb | ex
deriving DecidableEq, Repr

/-- The five belts, in the index order of R186. -/
inductive Belt | infeedA | infeedB | accumA | accumB | outfeed
deriving DecidableEq, Repr

/-- The three accumulators of line time (R133). -/
inductive LineTime | run | hold | stop
deriving DecidableEq, Repr

/-- What a RESET that comes while a page program is in flight leaves of it (the table of R166). -/
inductive Tear
  /-- After the erase and before the program: the page reads erased. -/
  | beforeProgram
  /-- During the program: for a header page, whether its marker reads as the one being programmed. -/
  | duringProgram (markerReads : Bool)
deriving DecidableEq, Repr

/-- The nine fields a RECIPE_WRITE carries (R48, R49), at the widths of R188; the name without its padding. -/
structure RecipeFields where
  code : BitVec 16
  name : List Byte
  nominal : BitVec 16
  tolerance : Byte
  feed : BitVec 16
  crumb : Byte
  blast : BitVec 16
  shelf : Byte
  reject : Byte
deriving DecidableEq, Repr

/-- The commands. `tok` is the token of a request frame (R187). -/
inductive Instr
  -- host requests (R183 to R188)
  | identify (tok : Byte)
  | status (tok : Byte)
  | restart (tok : Byte)
  | clockSet (tok : Byte) (day : BitVec 16) (second : BitVec 32)
  | configSet (tok : Byte) (id index : Byte) (value : BitVec 16)
  | configGet (tok : Byte) (id index : Byte)
  | recipeWrite (tok : Byte) (slot : Byte) (fields : RecipeFields)
  | recipeRead (tok : Byte) (slot : Byte)
  | recipeSave (tok : Byte)
  | laneSelect (tok : Byte) (lane slot : Byte)
  | lineStart (tok : Byte)
  | lineHold (tok : Byte)
  | lineResume (tok : Byte)
  | lineDrain (tok : Byte)
  | lineStandby (tok : Byte)
  | laneEnable (tok : Byte) (lane on : Byte)
  | crumbClear (tok : Byte) (lane : Byte)
  | magazineLoad (tok : Byte) (which : Byte) (count : BitVec 16)
  | tyerResolve (tok : Byte) (action : Byte)
  | faultList (tok : Byte) (first : Byte)
  | faultClear (tok : Byte)
  | trackList (tok : Byte) (zone lane : Byte)
  | loafQuery (tok : Byte) (tag : BitVec 16)
  | totalsRead (tok : Byte) (part : Byte)
  | shiftClose (tok : Byte)
  | shiftRead (tok : Byte) (number : BitVec 16) (part : Byte)
  | logIndex (tok : Byte)
  | sensorRead (tok : Byte) (channel : Byte)
  -- reset and start-up
  | reset (baud1 baud0 : Bool) (tear : Tear)
  | startUpScanComplete
  -- the link
  | byteReceived (byte : Byte) (stopBit : Bool)
  | assemblerTakesByte
  | gapTimerRunOut
  | dispatchFrame
  | transmitStart (txHold : Bool)
  | frameSent (baud1 baud0 : Bool)
  -- eyes, edges and belts
  | eyeSample (eye : Eye) (level : Byte)
  | debounceConfirm (eye : Eye)
  | infeedTrailingEdge (lane : Lane)
  | slicerLeadingEdge (lane : Lane)
  | slicerTrailingEdge (lane : Lane)
  | mergeLeadingEdge (lane : Lane)
  | mergeTrailingEdge (lane : Lane)
  | exitLeadingEdge
  | exitTrailingEdge
  | bagConfirm
  | encoderCount (belt : Belt) (phaseA phaseB : Bool)
  | headAtGate (lane : Lane)
  | bladeWindowRunOut (lane : Lane)
  | mergeWindowRunOut (lane : Lane)
  | exitWindowRunOut
  | stuckLimitExceeded (eye : TrackedEye)
  -- the Scan Converter, the lanes, the stations
  | scanTimerExpiry
  | conversionComplete (result : BitVec 10)
  | spinUpWaitEnd (lane : Lane)
  | gateStrokeEnd (lane : Lane)
  | pushStrokeTimerRunOut
  | flapSettleEnd
  | openingEnd
  | bagConfirmWatchRunOut
  | bagBlastEnd
  | extendedSwitchCloses (lane : Lane)
  | pusherHomeSwitchChange (lane : Lane) (closed : Bool)
  | deadTimeEnd (lane : Lane)
  | purgeEnd
  | twistEnd
  | clipEnd
  | tyerHomeSwitchChange (closed : Bool)
  | tieTimerRunOut
  | airWaitTimerRunOut (lane : Lane)
  | blowingEnd (lane : Lane)
  | settleEnd (lane : Lane)
  | backoffEnd (lane : Lane)
  -- safety, calendar, line time, record store
  | safetySample (estopOpen guardOpen : Bool)
  | calendarTick
  | lineTimeSecond (kind : LineTime)
  | pageProgramComplete (verified : Bool)
deriving DecidableEq, Repr

end Sys2Proof
end

