-- ==== Sys2Proof/Decode.lean ====
section
/-! DEFINITION. The host's decoding question. No row of spec/opcode_table.json gives bits (every "fields" is empty),
so no word spells a command. The request frames' own encoding is R187 and R188, in Machine/Requests.lean. -/

namespace Sys2Proof

/-- The command that a word spells by the bits of spec/opcode_table.json: none, since no row gives bits. -/
def decodeTableWord (_nbits _w : Nat) : Option Instr := none

end Sys2Proof
end

