-- ==== Sys2Proof/Config.lean ====
section
/-! DEFINITION. What one part fixes and the free values: constants with no body, so that nothing can be proved of
their values. The configuration the host sets by CONFIG_SET (R186) is state, in Machine/State.lean. -/

namespace Sys2Proof.Config

/-- The silicon revision less one: the revision is 1–255 (R183) and each part has its own. LOG 19. -/
opaque revisionLessOne : Fin 255

/-- Free value: which of several events that are due at once an idle block takes first, by the free-value counter.
The spec says of such pairs that either may be taken first. LOG 2. -/
opaque dueChoice : Nat → Nat

/-- Free value: the bytes of a page whose program failed its verify or was torn by a reset, by the free-value counter
and the place in the page (R165, R166). LOG 15. -/
opaque tornByte : Nat → Nat → Byte

end Sys2Proof.Config
end

