-- ==== Sys2Proof/Machine/State.lean ====
section
/-! DEFINITION. The state of the LC-220 as plain data, one structure for each block of section 1.3, and its value right
after reset. Counts and durations are natural numbers with the bounds the rules give; what wraps is a bit vector. -/

namespace Sys2Proof.Machine

/-! ## Shapes -/

/-- One value for each lane. -/
structure PerLane (α : Type) where
  a : α
  b : α
deriving DecidableEq, Repr

/-- One value for each belt. -/
structure PerBelt (α : Type) where
  infeedA : α
  infeedB : α
  accumA : α
  accumB : α
  outfeed : α
deriving DecidableEq, Repr

/-- One value for each photo-eye. -/
structure PerEye (α : Type) where
  ia : α
  ib : α
  ca : α
  cb : α
  ma : α
  mb : α
  bg : α
  ex : α
deriving DecidableEq, Repr

/-- One value for each tracked eye (R24). -/
structure PerTracked (α : Type) where
  ca : α
  cb : α
  ma : α
  mb : α
  ex : α
deriving DecidableEq, Repr

/-- The five analog channels, in the order of their numbers (section 3.3). -/
inductive Channel | tna | tnb | airp | cra | crb
deriving DecidableEq, Repr

/-- One value for each analog channel. -/
structure PerChannel (α : Type) where
  tna : α
  tnb : α
  airp : α
  cra : α
  crb : α
deriving DecidableEq, Repr

/-- The four requesters of manifold air, in the order of R117. -/
inductive Requester | bag | purge | kna | knb
deriving DecidableEq, Repr

/-- One value for each requester. -/
structure PerRequester (α : Type) where
  bag : α
  purge : α
  kna : α
  knb : α
deriving DecidableEq, Repr

/-- A channel of the air manifold. -/
inductive AirChannel | air0 | air1
deriving DecidableEq, Repr

/-- One value for each air channel. -/
structure PerAir (α : Type) where
  air0 : α
  air1 : α
deriving DecidableEq, Repr

/-- The two magazines. -/
inductive Magazine | bags | clips
deriving DecidableEq, Repr

/-- A timer: absent, or the whole milliseconds that remain. At 0 its event is due. LOG 41. -/
abbrev Timer := Option Nat

/-! ## Loaf tracking (section 2) -/

/-- The zones, in the order of R1. -/
inductive Zone | approach | blade | accum | bagger | tyer | exit
deriving DecidableEq, Repr

inductive Verdict | ok | short | long
deriving DecidableEq, Repr

inductive Condition | sound | uncertain | reject
deriving DecidableEq, Repr

inductive RejectReason | offSize | uncertain
deriving DecidableEq, Repr

/-- The belt and position from which a gate run or a window is measured (R1). -/
structure Departure where
  belt : Belt
  pos : Pos
deriving DecidableEq, Repr

/-- A loaf record (R1). Its zone is the queue that holds it. -/
structure LoafRecord where
  tag : Nat
  lane : Lane
  length : Nat
  admitted : Bool
  recipeSlot : Option Nat
  verdict : Option Verdict
  condition : Condition
  rejectReason : Option RejectReason
  stopDiscard : Bool
  jammed : Bool
  arrived : Bool
  departure : Option Departure
  clipCode : Option (List Byte)
deriving DecidableEq, Repr

/-- The Tracking Table: the nine zone queues, head first (R3), the tag counter (R7), the stuck watches and flags (R24). -/
structure Tracking where
  approach : PerLane (List LoafRecord)
  blade : PerLane (Option LoafRecord)
  accum : PerLane (List LoafRecord)
  bagger : Option LoafRecord
  tyer : Option LoafRecord
  exit : List LoafRecord
  nextTag : Nat
  watch : PerTracked (Option Pos)
  stuck : PerTracked Bool
deriving DecidableEq, Repr

/-! ## Eyes, belts and the Scan Converter (section 3) -/

/-- A pending change of an eye (R30, R32): its start stamp, and the milliseconds it has held, which BG uses. -/
structure PendingChange where
  stamp : Pos
  held : Nat
deriving DecidableEq, Repr

/-- An eye channel (R30). `raw` and `debounced` are true for BLOCKED; `sampled` says that the first sample after reset,
which sets both without an edge, has been taken. -/
structure EyeChannel where
  sampled : Bool
  raw : Bool
  debounced : Bool
  change : Option PendingChange
  lastLeading : Option Pos
deriving DecidableEq, Repr

/-- An edge given by the Eye Unit (R33); `length` is the blocked length of R34, on infeed trailing edges. -/
structure Edge where
  eye : Eye
  leading : Bool
  stamp : Pos
  length : Nat
deriving DecidableEq, Repr

/-- The Eye Unit: its channels, and the edges given that their block has not yet taken, oldest first. LOG 7. -/
structure EyeUnit where
  channels : PerEye EyeChannel
  edges : List Edge
deriving DecidableEq, Repr

/-- The Belt Encoder Unit (section 3.2). -/
structure BeltUnit where
  position : PerBelt Pos
  remainder : PerBelt Nat
  pair : PerBelt (Option (Bool × Bool))
deriving DecidableEq, Repr

/-- The Scan Converter (R39). An age of 65535 says that no result has been stored since reset. -/
structure ScanConverter where
  result : PerChannel Nat
  age : PerChannel Nat
  flag : PerChannel Bool
  inFlight : Option Channel
  timer : Nat
deriving DecidableEq, Repr

/-! ## Recipes and lanes (sections 4 and 5) -/

/-- A recipe slot (R48); product code 0 marks an empty slot. -/
structure Recipe where
  code : Nat
  name : List Byte
  nominal : Nat
  tolerance : Nat
  feed : Nat
  crumb : Nat
  blast : Nat
  shelf : Nat
  reject : Bool
deriving DecidableEq, Repr

/-- The empty slot: no other field is held, and each reads as R48 gives. -/
def Recipe.empty : Recipe where
  code := 0
  name := []
  nominal := 0
  tolerance := 0
  feed := 0
  crumb := 0
  blast := 0
  shelf := 0
  reject := false

inductive BladeState | off | spinning | ready
deriving DecidableEq, Repr

/-- The gate states, in the order of R60. -/
inductive GateState | shut | isOpen | stroke
deriving DecidableEq, Repr

/-- The closure set: which of the eight reasons of R65 are present, in the order of its table. -/
structure ClosureSet where
  laneDisabled : Bool
  lineNotRunning : Bool
  bladeNotReady : Bool
  bladeOccupied : Bool
  accFull : Bool
  crumbGap : Bool
  faultHold : Bool
  noRecipe : Bool
deriving DecidableEq, Repr

/-- A Lane Infeed Controller (R60). The gate state is computed from the closure set and the stroke. -/
structure LaneInfeed where
  enabled : Bool
  blade : BladeState
  spinWait : Timer
  closure : ClosureSet
  accFull : Bool
  approachHigh : Bool
  tunnelReady : Bool
  active : Option Nat
  pendingSel : Option Nat
  feedRef : Nat
  appliedTag : Nat
deriving DecidableEq, Repr

/-! ## Merge, bagging and tying (section 6) -/

/-- The bagger states, in the order of R78. -/
inductive BaggerState | idle | select | airWait | opening | pushing | confirm | handoff
deriving DecidableEq, Repr

inductive Route | bag | reject
deriving DecidableEq, Repr

/-- The stroke phases, in the order of R78. -/
inductive StrokePhase | none | homing | flapSettle | extend | dwell | retract
deriving DecidableEq, Repr

/-- The Merge and Bag Controller (R78). The reject flap is the flap output's command. -/
structure MergeBag where
  bagger : BaggerState
  route : Option Route
  selected : Option (Lane × Nat)
  lastServed : Option Lane
  phase : StrokePhase
  strokeTimer : Timer
  flapTimer : Timer
  openTimer : Timer
  confirmWatch : Timer
  confirmed : Bool
  blast : Timer
  stopped : Bool
  bagCount : Nat
  bagLow : Bool
deriving DecidableEq, Repr

/-- The tyer states, in the order of R79. -/
inductive TyerState | idle | purgeWait | twist | clip | homeWait
deriving DecidableEq, Repr

/-- The Tie Station Controller (R79). -/
structure TieStation where
  tyer : TyerState
  purge : Timer
  phaseTimer : Timer
  tieTimer : Timer
  leftHome : Bool
  code : Option (List Byte)
  tiesSincePurge : Nat
  clipCount : Nat
  clipLow : Bool
deriving DecidableEq, Repr

/-! ## Crumb and air (section 7) -/

/-- The crumb cycle states, in the order of R104. -/
inductive CycleState | idle | requested | airWait | blowing | settle | backoff
deriving DecidableEq, Repr

inductive CycleCause | estimate | level | host
deriving DecidableEq, Repr

/-- A Crumb Controller (R104). -/
structure Crumb where
  estimate : Nat
  lastLevel : Nat
  levelSince : Bool
  cycle : CycleState
  cause : Option CycleCause
  shakerOnly : Bool
  airWait : Timer
  phaseTimer : Timer
  backoff : Timer
  lastClear : Option (CycleCause × Bool)
deriving DecidableEq, Repr

/-- The Air Manifold Arbiter (R117): the holder of each channel, and for each requester the channel in whose waiting
set it stands. Its steering table and P_min are configuration. -/
structure AirArbiter where
  holder : PerAir (Option Requester)
  waiting : PerRequester (Option AirChannel)
  pressureLow : Bool
  lastKnife : Option Requester
deriving DecidableEq, Repr

/-! ## Line states and drive outputs (section 8) -/

/-- The line states, in the order of R124. -/
inductive LineState | init | standby | spinUp | run | hold | drain | stop
deriving DecidableEq, Repr

/-- The Line State Controller (R124). Its stop-fault, spun and pool-empty flags are computed. -/
structure LineControl where
  line : LineState
  previous : Option LineState
  returnState : Option LineState
  holdHost : Bool
  runMs : Nat
  holdMs : Nat
  stopMs : Nat
deriving DecidableEq, Repr

inductive Valve | extend | retract
deriving DecidableEq, Repr

/-- A pusher's two valves as the Drive Output Unit has turned them on, the valve that waits out the dead time, the valve
last turned off, and the dead-time timer (R140). -/
structure Pusher where
  extendOn : Bool
  retractOn : Bool
  waiting : Option Valve
  lastOff : Option Valve
  dead : Timer
deriving DecidableEq, Repr

/-- A safety input (R137): whether its taken state is OPEN, and, while an OPEN input is found closed, how many 250 µs
samples have followed the first that found it so. LOG 11. -/
structure SafetyInput where
  isOpen : Bool
  closedFor : Option Nat
deriving DecidableEq, Repr

/-- The Drive Output Unit (R134 to R140): the command of each output, the pushers' valves, the gates' arming flags and
stroke timers, the safety inputs. -/
structure DriveUnit where
  infeed : PerLane Bool
  accum : PerLane Bool
  outfeed : Bool
  blade : PerLane Bool
  gate : PerLane Bool
  pusher : PerLane Pusher
  flap : Bool
  tyer : Bool
  printer : Option (List Byte)
  bagBlast : Bool
  purge : Bool
  knife : PerLane Bool
  shaker : PerLane Bool
  armed : PerLane Bool
  gateTimer : PerLane Timer
  estop : SafetyInput
  guardIn : SafetyInput
deriving DecidableEq, Repr

/-- The outputs of R134. -/
inductive Output
  | infeed (l : Lane) | accum (l : Lane) | outfeed | blade (l : Lane) | gate (l : Lane)
  | extend (l : Lane) | retract (l : Lane) | flap | tyer | printer | bagBlast | purge
  | knife (l : Lane) | shaker (l : Lane) | tunnelReady (l : Lane)
deriving DecidableEq, Repr

/-! ## Faults (section 9) -/

/-- The subjects (section 1.4), in the order of R188. -/
inductive Subject | line | a | b | out
deriving DecidableEq, Repr

/-- The fault kinds, in the order of R141. -/
inductive FaultKind
  | estop | guardOpen | bladeBreak | bladeTension | spinupFail | tyerJam | baggerJam | crumbOverfull | eyeStuck
  | lostLoaf | unexpectedLoaf | approachOverrun | bagMiss | airLow | bagsOut | clipsOut | airTimeout | nvWriteFail
  | bagsLow | clipsLow
deriving DecidableEq, Repr

/-- A fault entry (R143). Its priority is its kind's, its state its place in the table, its cause-present field the
pair's cause flag. -/
structure FaultEntry where
  kind : FaultKind
  subject : Subject
  day : Nat
  second : Nat
  clockValid : Bool
  seq : BitVec 32
  detail : Option Nat
deriving DecidableEq, Repr

/-- The sixteen cause flags of R142. -/
structure CauseFlags where
  estop : Bool
  guardOpen : Bool
  tensionA : Bool
  tensionB : Bool
  baggerJam : Bool
  tyerJam : Bool
  stuckA : Bool
  stuckB : Bool
  stuckOut : Bool
  overfullA : Bool
  overfullB : Bool
  airLow : Bool
  bagsOut : Bool
  clipsOut : Bool
  bagsLow : Bool
  clipsLow : Bool
deriving DecidableEq, Repr

/-- The Fault Table (R143): the service stack, PRESENTED on top and INTERRUPTED beneath it, and the PENDING entries. -/
structure FaultTable where
  stack : List FaultEntry
  waiting : List FaultEntry
  causes : CauseFlags
  raiseCounter : BitVec 32
  changeNumber : BitVec 16
deriving DecidableEq, Repr

/-! ## Totals and the record store (section 10) -/

/-- The thirteen line counters, in the order of R156. -/
structure LineBlock where
  admitted : Nat
  bagged : Nat
  rejected : Nat
  lost : Nat
  ties : Nat
  clipsUsed : Nat
  bagsUsed : Nat
  crumbClears : PerLane Nat
  runSeconds : Nat
  holdSeconds : Nat
  stopSeconds : Nat
  faultsTaken : Nat
deriving DecidableEq, Repr

/-- The eight counters of a product entry, in the order of R156. -/
structure Counters where
  admitted : Nat
  bagged : Nat
  rejectedOffSize : Nat
  rejectedUncertain : Nat
  rejectedTieFail : Nat
  rejectedStopDiscard : Nat
  lost : Nat
  offSizePassed : Nat
deriving DecidableEq, Repr

structure ProductEntry where
  code : Nat
  counters : Counters
deriving DecidableEq, Repr

/-- A reading of the Calendar: day number and second of day. -/
structure Stamp where
  day : Nat
  second : Nat
deriving DecidableEq, Repr

/-- The live totals (R156). -/
structure Totals where
  shift : Nat
  openTime : Option Stamp
  carriedIn : Nat
  line : LineBlock
  products : List ProductEntry
  other : Option Counters
deriving DecidableEq, Repr

/-- A closed shift: its totals, close time and carried_out (R161). -/
structure ClosedShift where
  totals : Totals
  closeTime : Stamp
  carriedOut : Nat
deriving DecidableEq, Repr

/-- The Totals Unit (R156, R189). `totalsSet` says that the start-up scan has set the live totals. -/
structure TotalsUnit where
  live : Totals
  closeBuffer : Option ClosedShift
  tally : Nat
  totalsSet : Bool
deriving DecidableEq, Repr

/-- How the marker of a header page reads (R165). -/
inductive Marker | valid | writing | erased | unrecognised
deriving DecidableEq, Repr

/-- A header page (R165): marker, shift number (shift slots and the checkpoint), content length, check value. -/
structure Header where
  marker : Marker
  number : Option Nat
  length : Nat
  check : BitVec 16
deriving DecidableEq, Repr

/-- The log index states, in the order of R168. -/
inductive LogState | blank | writing | valid | torn
deriving DecidableEq, Repr

/-- An entry of the log index (R168). -/
structure LogEntry where
  state : LogState
  number : Option Nat
deriving DecidableEq, Repr

/-- The area states, in the order of R172. -/
inductive AreaState | valid | torn | blank
deriving DecidableEq, Repr

inductive CheckpointUse | used | stale | unusable
deriving DecidableEq, Repr

inductive Origin | checkpoint | afterRecord | afterTorn | first
deriving DecidableEq, Repr

/-- What became of a lane's selection in the scan (R59). -/
inductive SelectionOutcome | restored | dropped | none
deriving DecidableEq, Repr

/-- The findings of the start-up scan, kept until the next reset (R172). -/
structure Findings where
  validSlots : Nat
  tornSlots : Nat
  blankSlots : Nat
  latest : Option (Nat × LogState)
  checkpoint : AreaState
  checkpointUse : CheckpointUse
  origin : Origin
  liveShift : Nat
  recipes : AreaState
  recipesLoaded : Nat
  selection : PerLane (SelectionOutcome × Nat)
deriving DecidableEq, Repr

inductive JobKind | shiftRecord | checkpoint | recipes
deriving DecidableEq, Repr

/-- A job (R167): its kind, the shift number for its header, and its content, a copy taken at the request. -/
structure Job where
  kind : JobKind
  number : Option Nat
  content : List Byte
deriving DecidableEq, Repr

/-- The job in progress: the area it writes (slots 0–23, checkpoint 24, recipes 25) and the programs verified so far. -/
structure JobInProgress where
  job : Job
  area : Nat
  programs : Nat
deriving DecidableEq, Repr

/-- At most one queued job of each kind (R167). -/
structure JobQueue where
  shiftRecord : Option Job
  checkpoint : Option Job
  recipes : Option Job
deriving DecidableEq, Repr

/-- The outcome of the most recent SHIFT_RECORD job (R169). -/
structure ShiftOutcome where
  number : Nat
  slot : Nat
  stored : Bool
deriving DecidableEq, Repr

/-- The Record Store (R165 to R172): the array as content cells and header records, the log index, the checkpoint
area's state, the writer and its queue, the latest outcomes and the scan's findings. LOG 14. -/
structure RecordStore where
  cells : List Host.Cell
  headers : List Header
  index : List LogEntry
  ckpt : AreaState × Option Nat
  writer : Option JobInProgress
  queue : JobQueue
  lastShift : Option ShiftOutcome
  lastCkpt : Option (Bool × Nat)
  lastRecipes : Option Bool
  findings : Option Findings
deriving DecidableEq, Repr

/-- The Calendar (R163). -/
structure Calendar where
  day : Nat
  second : Nat
  phase : Nat
  valid : Bool
deriving DecidableEq, Repr

/-! ## The message link (section 11) -/

/-- The subjects of LINK_NOTICE, in the order of R182. -/
inductive Notice | crc | timeout | overrun
deriving DecidableEq, Repr

/-- The subjects of STORE_DONE, in the order of R182. -/
inductive StoreKey | recipes | checkpoint
deriving DecidableEq, Repr

/-- The seventeen report keys of R182. -/
inductive ReportKey
  | lineState | faultChange | laneState (l : Lane) | recipeApplied (l : Lane) | crumbCleared (l : Lane)
  | magazine (m : Magazine) | shiftStored | startup | linkNotice (n : Notice) | storeDone (k : StoreKey)
deriving DecidableEq, Repr

/-- The frame assembler (R176). In BODY and COMPLETE it holds LEN and the bytes kept since, oldest first. -/
inductive Assembler
  | hunt
  | length
  | body (len : Byte) (kept : List Byte)
  | complete (len : Byte) (kept : List Byte)
deriving DecidableEq, Repr

/-- A queued reply (R180): the request's TYPE, its token, the status and the reply content. -/
structure Reply where
  type : Byte
  token : Byte
  status : Byte
  content : List Byte
deriving DecidableEq, Repr

/-- The frame being sent: whether it is a reply, and its bytes. -/
structure TxFrame where
  isReply : Bool
  bytes : List Byte
deriving DecidableEq, Repr

/-- The Message Link (R175). `strap` is the rate code read at the last reset. -/
structure MessageLink where
  strap : Nat
  fifo : List Byte
  rdy : Bool
  assembler : Assembler
  gap : Timer
  replies : List Reply
  reports : List ReportKey
  tx : Option TxFrame
  noticeCrc : Nat
  noticeTimeout : Nat
  noticeOverrun : Nat
  restartPending : Bool
deriving DecidableEq, Repr

/-! ## Configuration (R186) and pins -/

/-- A steering entry, in the order of R117. -/
inductive Steer | air0 | air1 | none
deriving DecidableEq, Repr

/-- The auto-removal mask (R152): true for AUTO. -/
structure Mask where
  eyeStuck : Bool
  lostLoaf : Bool
  unexpectedLoaf : Bool
  bagMiss : Bool
deriving DecidableEq, Repr

/-- The low marks of the two magazines. -/
structure LowMarks where
  bags : Nat
  clips : Nat
deriving DecidableEq, Repr

/-- The configuration in force: the thirty parameters of R186. -/
structure Params where
  scale : PerBelt Nat
  threshold : PerEye Nat
  hysteresis : PerEye Nat
  debounce : PerEye Nat
  gateDistance : PerLane Nat
  slicerPath : PerLane Nat
  slicerTol : PerLane Nat
  accumLimit : Nat
  upper : PerLane Nat
  lower : PerLane Nat
  exitPath : Nat
  exitTol : Nat
  strokeTimeout : Nat
  deadTime : Nat
  tieTimeout : Nat
  purgeInterval : Nat
  spinCode : PerLane Nat
  eClear : Nat
  lClear : Nat
  lOver : Nat
  knifeMs : Nat
  airWaitMs : Nat
  backoffS : Nat
  tBreak : Nat
  tLow : Nat
  pMin : Nat
  scanPeriod : Nat
  lowMark : LowMarks
  mask : Mask
  steering : PerRequester Steer
deriving DecidableEq, Repr

/-- The input pins whose level a rule reads at a later moment: TXHOLD, the pusher and tyer home switches (true is
closed). LOG 10. -/
structure Pins where
  txHold : Bool
  home : PerLane Bool
  tyerHome : Bool
deriving DecidableEq, Repr

/-! ## The whole state -/

/-- The LC-220. `pending` is the queue of commands waiting, first in, first out; `freeCount` indexes the free values. -/
structure State where
  pending : List Instr
  freeCount : Nat
  pins : Pins
  params : Params
  tt : Tracking
  eu : EyeUnit
  beu : BeltUnit
  sc : ScanConverter
  rt : List Recipe
  lic : PerLane LaneInfeed
  mbc : MergeBag
  tsc : TieStation
  cc : PerLane Crumb
  ama : AirArbiter
  lsc : LineControl
  dou : DriveUnit
  ft : FaultTable
  tu : TotalsUnit
  rs : RecordStore
  cal : Calendar
  ml : MessageLink
deriving DecidableEq, Repr

/-- Why a command could stop the machine: no reason exists, since the spec gives every command of the table an effect. -/
inductive Fault
deriving DecidableEq, Repr

/-- Why a command is refused by the model. -/
inductive Refusal
  /-- Raised by exec's arm of a command that has no meaning yet; safe, since the model stops. No arm raises it. -/
  | notModelled (mnemonic : String)
deriving DecidableEq, Repr

/-! ## Reset -/

/-- The defaults of R186, in force after reset. -/
def Params.default : Params where
  scale := ⟨1000, 1000, 1000, 1000, 1000⟩
  threshold := ⟨128, 128, 128, 128, 128, 128, 128, 128⟩
  hysteresis := ⟨12, 12, 12, 12, 12, 12, 12, 12⟩
  debounce := ⟨4, 4, 4, 4, 4, 4, 4, 4⟩
  gateDistance := ⟨250, 250⟩
  slicerPath := ⟨900, 900⟩
  slicerTol := ⟨120, 120⟩
  accumLimit := 1200
  upper := ⟨8, 8⟩
  lower := ⟨5, 5⟩
  exitPath := 1500
  exitTol := 150
  strokeTimeout := 800
  deadTime := 40
  tieTimeout := 1200
  purgeInterval := 250
  spinCode := ⟨3, 3⟩
  eClear := 6000
  lClear := 700
  lOver := 900
  knifeMs := 1500
  airWaitMs := 3000
  backoffS := 10
  tBreak := 150
  tLow := 300
  pMin := 400
  scanPeriod := 25
  lowMark := ⟨200, 200⟩
  mask := ⟨false, false, false, false⟩
  steering := ⟨.air0, .air0, .air1, .air1⟩

/-- An empty Tracking Table (R2, R3, R7, R24). -/
def Tracking.reset : Tracking where
  approach := ⟨[], []⟩
  blade := ⟨none, none⟩
  accum := ⟨[], []⟩
  bagger := none
  tyer := none
  exit := []
  nextTag := 1
  watch := ⟨none, none, none, none, none⟩
  stuck := ⟨false, false, false, false, false⟩

/-- An eye channel after reset (R30). The first sample sets its raw and debounced states (R31); no rule gives them before
it, and they read CLEAR until then: DESIGN CHOICE, LOG 43. -/
def EyeChannel.reset : EyeChannel where
  sampled := false
  raw := false
  debounced := false
  change := none
  lastLeading := none

def EyeUnit.reset : EyeUnit where
  channels := ⟨.reset, .reset, .reset, .reset, .reset, .reset, .reset, .reset⟩
  edges := []

/-- Every position and remainder is 0 (R38), and no reference pair has been sampled (R36). -/
def BeltUnit.reset : BeltUnit where
  position := ⟨0, 0, 0, 0, 0⟩
  remainder := ⟨0, 0, 0, 0, 0⟩
  pair := ⟨none, none, none, none, none⟩

/-- The Scan Converter after reset (R39). -/
def ScanConverter.reset : ScanConverter where
  result := ⟨0, 0, 0, 0, 0⟩
  age := ⟨65535, 65535, 65535, 65535, 65535⟩
  flag := ⟨false, false, false, false, false⟩
  inFlight := none
  timer := 25

/-- A Lane Infeed Controller after reset (R60). -/
def LaneInfeed.reset : LaneInfeed where
  enabled := false
  blade := .off
  spinWait := none
  closure := ⟨true, true, true, false, false, false, false, true⟩
  accFull := false
  approachHigh := false
  tunnelReady := false
  active := none
  pendingSel := none
  feedRef := 50
  appliedTag := 0

/-- The Merge and Bag Controller after reset (R78). -/
def MergeBag.reset : MergeBag where
  bagger := .idle
  route := none
  selected := none
  lastServed := none
  phase := .none
  strokeTimer := none
  flapTimer := none
  openTimer := none
  confirmWatch := none
  confirmed := false
  blast := none
  stopped := false
  bagCount := 0
  bagLow := false

/-- The Tie Station Controller after reset (R79). -/
def TieStation.reset : TieStation where
  tyer := .idle
  purge := none
  phaseTimer := none
  tieTimer := none
  leftHome := false
  code := none
  tiesSincePurge := 0
  clipCount := 0
  clipLow := false

/-- A Crumb Controller after reset (R104). -/
def Crumb.reset : Crumb where
  estimate := 0
  lastLevel := 0
  levelSince := false
  cycle := .idle
  cause := none
  shakerOnly := false
  airWait := none
  phaseTimer := none
  backoff := none
  lastClear := none

/-- The Air Manifold Arbiter after reset (R117). -/
def AirArbiter.reset : AirArbiter where
  holder := ⟨none, none⟩
  waiting := ⟨none, none, none, none⟩
  pressureLow := false
  lastKnife := none

/-- The Line State Controller after reset (R124). -/
def LineControl.reset : LineControl where
  line := .init
  previous := none
  returnState := none
  holdHost := false
  runMs := 0
  holdMs := 0
  stopMs := 0

/-- A pusher after reset: both valves off and the dead-time timer started at its default of 40 ms (R134, R140). -/
def Pusher.reset : Pusher where
  extendOn := false
  retractOn := false
  waiting := none
  lastOff := none
  dead := some 40

/-- The Drive Output Unit after reset: every command off, both gates disarmed (R134, R139). LOG 11. -/
def DriveUnit.reset : DriveUnit where
  infeed := ⟨false, false⟩
  accum := ⟨false, false⟩
  outfeed := false
  blade := ⟨false, false⟩
  gate := ⟨false, false⟩
  pusher := ⟨.reset, .reset⟩
  flap := false
  tyer := false
  printer := none
  bagBlast := false
  purge := false
  knife := ⟨false, false⟩
  shaker := ⟨false, false⟩
  armed := ⟨false, false⟩
  gateTimer := ⟨none, none⟩
  estop := ⟨false, none⟩
  guardIn := ⟨false, none⟩

/-- All sixteen cause flags clear (R142). -/
def CauseFlags.clear : CauseFlags where
  estop := false
  guardOpen := false
  tensionA := false
  tensionB := false
  baggerJam := false
  tyerJam := false
  stuckA := false
  stuckB := false
  stuckOut := false
  overfullA := false
  overfullB := false
  airLow := false
  bagsOut := false
  clipsOut := false
  bagsLow := false
  clipsLow := false

/-- The Fault Table after reset (R143, R155). -/
def FaultTable.reset : FaultTable where
  stack := []
  waiting := []
  causes := .clear
  raiseCounter := 0
  changeNumber := 0

/-- A line block with every counter 0. -/
def LineBlock.zero : LineBlock where
  admitted := 0
  bagged := 0
  rejected := 0
  lost := 0
  ties := 0
  clipsUsed := 0
  bagsUsed := 0
  crumbClears := ⟨0, 0⟩
  runSeconds := 0
  holdSeconds := 0
  stopSeconds := 0
  faultsTaken := 0

/-- The eight product counters, each 0. -/
def Counters.zero : Counters where
  admitted := 0
  bagged := 0
  rejectedOffSize := 0
  rejectedUncertain := 0
  rejectedTieFail := 0
  rejectedStopDiscard := 0
  lost := 0
  offSizePassed := 0

/-- A new shift with nothing counted (R171). -/
def Totals.fresh (shift : Nat) : Totals where
  shift := shift
  openTime := none
  carriedIn := 0
  line := .zero
  products := []
  other := none

/-- The Totals Unit after reset (R156, R189). The live totals are set by the scan; shift 1 until then. LOG 12. -/
def TotalsUnit.reset : TotalsUnit where
  live := .fresh 1
  closeBuffer := none
  tally := 0
  totalsSet := false

/-- An erased header page (R165). -/
def Header.erased : Header where
  marker := .erased
  number := none
  length := 0
  check := 0

def LogEntry.blank : LogEntry where
  state := .blank
  number := none

/-- The Record Store after reset, over a never written array (R58, R165, R167, R169). LOG 12, LOG 13. -/
def RecordStore.reset : RecordStore where
  cells := []
  headers := List.replicate 26 .erased
  index := List.replicate 24 .blank
  ckpt := (.blank, none)
  writer := none
  queue := ⟨none, none, none⟩
  lastShift := none
  lastCkpt := none
  lastRecipes := none
  findings := none

/-- The Message Link after reset (R175). -/
def MessageLink.reset : MessageLink where
  strap := 0
  fifo := []
  rdy := true
  assembler := .hunt
  gap := none
  replies := []
  reports := []
  tx := none
  noticeCrc := 0
  noticeTimeout := 0
  noticeOverrun := 0
  restartPending := false

/-- The machine right after reset, over a never written array and with both pushers and the tyer at home. -/
def State.reset : State where
  pending := []
  freeCount := 0
  pins := ⟨false, ⟨true, true⟩, true⟩
  params := .default
  tt := .reset
  eu := .reset
  beu := .reset
  sc := .reset
  rt := List.replicate 16 .empty
  lic := ⟨.reset, .reset⟩
  mbc := .reset
  tsc := .reset
  cc := ⟨.reset, .reset⟩
  ama := .reset
  lsc := .reset
  dou := .reset
  ft := .reset
  tu := .reset
  rs := .reset
  cal := ⟨0, 0, 0, false⟩
  ml := .reset

end Sys2Proof.Machine
end

