-- ==== Sys2Proof/Machine/Ops.lean ====
section
/-! DEFINITION. The named operations the meanings are built from: reading and updating one place of each state structure,
the geometry of lanes, eyes and belts, distances, counting that holds at a limit, report keys, the bytes of the
non-volatile array, and the Tracking Table's views of its records. -/

namespace Sys2Proof.Machine

/-! ## One place of a structure -/

variable {α : Type}

def PerLane.get (p : PerLane α) : Lane → α
  | .a => p.a
  | .b => p.b

def PerLane.upd (l : Lane) (f : α → α) (p : PerLane α) : PerLane α :=
  match l with
  | .a => { p with a := f p.a }
  | .b => { p with b := f p.b }

def PerBelt.get (p : PerBelt α) : Belt → α
  | .infeedA => p.infeedA
  | .infeedB => p.infeedB
  | .accumA => p.accumA
  | .accumB => p.accumB
  | .outfeed => p.outfeed

def PerBelt.upd (b : Belt) (f : α → α) (p : PerBelt α) : PerBelt α :=
  match b with
  | .infeedA => { p with infeedA := f p.infeedA }
  | .infeedB => { p with infeedB := f p.infeedB }
  | .accumA => { p with accumA := f p.accumA }
  | .accumB => { p with accumB := f p.accumB }
  | .outfeed => { p with outfeed := f p.outfeed }

def PerEye.get (p : PerEye α) : Eye → α
  | .ia => p.ia
  | .ib => p.ib
  | .ca => p.ca
  | .cb => p.cb
  | .ma => p.ma
  | .mb => p.mb
  | .bg => p.bg
  | .ex => p.ex

def PerEye.upd (e : Eye) (f : α → α) (p : PerEye α) : PerEye α :=
  match e with
  | .ia => { p with ia := f p.ia }
  | .ib => { p with ib := f p.ib }
  | .ca => { p with ca := f p.ca }
  | .cb => { p with cb := f p.cb }
  | .ma => { p with ma := f p.ma }
  | .mb => { p with mb := f p.mb }
  | .bg => { p with bg := f p.bg }
  | .ex => { p with ex := f p.ex }

def PerTracked.get (p : PerTracked α) : TrackedEye → α
  | .ca => p.ca
  | .cb => p.cb
  | .ma => p.ma
  | .mb => p.mb
  | .ex => p.ex

def PerTracked.upd (e : TrackedEye) (f : α → α) (p : PerTracked α) : PerTracked α :=
  match e with
  | .ca => { p with ca := f p.ca }
  | .cb => { p with cb := f p.cb }
  | .ma => { p with ma := f p.ma }
  | .mb => { p with mb := f p.mb }
  | .ex => { p with ex := f p.ex }

def PerChannel.get (p : PerChannel α) : Channel → α
  | .tna => p.tna
  | .tnb => p.tnb
  | .airp => p.airp
  | .cra => p.cra
  | .crb => p.crb

def PerChannel.upd (c : Channel) (f : α → α) (p : PerChannel α) : PerChannel α :=
  match c with
  | .tna => { p with tna := f p.tna }
  | .tnb => { p with tnb := f p.tnb }
  | .airp => { p with airp := f p.airp }
  | .cra => { p with cra := f p.cra }
  | .crb => { p with crb := f p.crb }

def PerRequester.get (p : PerRequester α) : Requester → α
  | .bag => p.bag
  | .purge => p.purge
  | .kna => p.kna
  | .knb => p.knb

def PerRequester.upd (r : Requester) (f : α → α) (p : PerRequester α) : PerRequester α :=
  match r with
  | .bag => { p with bag := f p.bag }
  | .purge => { p with purge := f p.purge }
  | .kna => { p with kna := f p.kna }
  | .knb => { p with knb := f p.knb }

def PerAir.get (p : PerAir α) : AirChannel → α
  | .air0 => p.air0
  | .air1 => p.air1

def PerAir.upd (c : AirChannel) (f : α → α) (p : PerAir α) : PerAir α :=
  match c with
  | .air0 => { p with air0 := f p.air0 }
  | .air1 => { p with air1 := f p.air1 }

/-! ## One block of the state -/

def State.onPins (f : Pins → Pins) (s : State) : State := { s with pins := f s.pins }
def State.onParams (f : Params → Params) (s : State) : State := { s with params := f s.params }
def State.onTt (f : Tracking → Tracking) (s : State) : State := { s with tt := f s.tt }
def State.onEu (f : EyeUnit → EyeUnit) (s : State) : State := { s with eu := f s.eu }
def State.onBeu (f : BeltUnit → BeltUnit) (s : State) : State := { s with beu := f s.beu }
def State.onSc (f : ScanConverter → ScanConverter) (s : State) : State := { s with sc := f s.sc }
def State.onRt (f : List Recipe → List Recipe) (s : State) : State := { s with rt := f s.rt }
def State.onLic (f : PerLane LaneInfeed → PerLane LaneInfeed) (s : State) : State := { s with lic := f s.lic }
def State.onMbc (f : MergeBag → MergeBag) (s : State) : State := { s with mbc := f s.mbc }
def State.onTsc (f : TieStation → TieStation) (s : State) : State := { s with tsc := f s.tsc }
def State.onCc (f : PerLane Crumb → PerLane Crumb) (s : State) : State := { s with cc := f s.cc }
def State.onAma (f : AirArbiter → AirArbiter) (s : State) : State := { s with ama := f s.ama }
def State.onLsc (f : LineControl → LineControl) (s : State) : State := { s with lsc := f s.lsc }
def State.onDou (f : DriveUnit → DriveUnit) (s : State) : State := { s with dou := f s.dou }
def State.onFt (f : FaultTable → FaultTable) (s : State) : State := { s with ft := f s.ft }
def State.onTu (f : TotalsUnit → TotalsUnit) (s : State) : State := { s with tu := f s.tu }
def State.onRs (f : RecordStore → RecordStore) (s : State) : State := { s with rs := f s.rs }
def State.onCal (f : Calendar → Calendar) (s : State) : State := { s with cal := f s.cal }
def State.onMl (f : MessageLink → MessageLink) (s : State) : State := { s with ml := f s.ml }

def State.onLane (l : Lane) (f : LaneInfeed → LaneInfeed) (s : State) : State := s.onLic (PerLane.upd l f)
def State.onCrumb (l : Lane) (f : Crumb → Crumb) (s : State) : State := s.onCc (PerLane.upd l f)

/-- Does something to the state when a condition holds. -/
def when (c : Bool) (f : State → State) (s : State) : State := if c then f s else s

/-! ## Geometry (R30, R141, R186) -/

def otherLane : Lane → Lane
  | .a => .b
  | .b => .a

def infeedBelt : Lane → Belt
  | .a => .infeedA
  | .b => .infeedB

def accumBelt : Lane → Belt
  | .a => .accumA
  | .b => .accumB

def infeedEye : Lane → Eye
  | .a => .ia
  | .b => .ib

def slicerEye : Lane → TrackedEye
  | .a => .ca
  | .b => .cb

def mergeEye : Lane → TrackedEye
  | .a => .ma
  | .b => .mb

def eyeOf : TrackedEye → Eye
  | .ca => .ca
  | .cb => .cb
  | .ma => .ma
  | .mb => .mb
  | .ex => .ex

/-- The belt that stamps an eye's edges (R30). -/
def eyeBelt : Eye → Belt
  | .ia | .ca => .infeedA
  | .ib | .cb => .infeedB
  | .ma => .accumA
  | .mb => .accumB
  | .bg | .ex => .outfeed

/-- The subject of a tracked eye (R23, R24). -/
def eyeSubject : TrackedEye → Subject
  | .ca | .ma => .a
  | .cb | .mb => .b
  | .ex => .out

def laneSubject : Lane → Subject
  | .a => .a
  | .b => .b

def tensionChannel : Lane → Channel
  | .a => .tna
  | .b => .tnb

def crumbChannel : Lane → Channel
  | .a => .cra
  | .b => .crb

def knife : Lane → Requester
  | .a => .kna
  | .b => .knb

/-! ## Distances and counts (section 1.5) -/

/-- The distance from p to q: (q − p) modulo 2^32, read as a signed 32-bit number. -/
def dist (p q : Pos) : Int := (q - p).toInt

def position (b : Belt) (s : State) : Pos := s.beu.position.get b

/-- The distance travelled from a departure to its belt's present position (R11). -/
def travelled (d : Departure) (s : State) : Int := dist d.pos (position d.belt s)

/-- A totals counter after one more count: it saturates (section 1.5, R156). -/
def bump (n : Nat) : Nat := min (n + 1) 4294967295

/-- One less of a running timer; an absent or ended one stays. -/
def Timer.tick : Timer → Timer
  | none => none
  | some n => some (n - 1)

/-! ## Report keys (R182) -/

/-- A raise places the key at the tail unless it is already queued. -/
def raiseKey (k : ReportKey) (s : State) : State :=
  if k ∈ s.ml.reports then s else s.onMl (fun m => { m with reports := m.reports ++ [k] })

/-! ## The line state in other rules -/

/-- The line states in which the Tracking Table takes eye edges (R11). -/
def takesEdges (s : State) : Bool :=
  match s.lsc.line with
  | .init | .standby => false
  | _ => true

/-- RUN or DRAIN. -/
def producing (s : State) : Bool :=
  match s.lsc.line with
  | .run | .drain => true
  | _ => false

/-! ## The Tracking Table's records -/

/-- The records of the zone queues, in the order of R3's table. -/
def Tracking.records (t : Tracking) : List LoafRecord :=
  t.approach.a ++ t.approach.b ++ t.blade.a.toList ++ t.blade.b.toList ++ t.accum.a ++ t.accum.b
    ++ t.bagger.toList ++ t.tyer.toList ++ t.exit

def State.records (s : State) : List LoafRecord := s.tt.records

/-- The pool-empty flag of R124. -/
def poolEmpty (s : State) : Bool := s.records.isEmpty

def allocatedTag (tag : Nat) (s : State) : Bool := s.records.any (·.tag == tag)

/-- The number of admitted records allocated (R159, R161). -/
def admittedCount (s : State) : Nat := s.records.countP (·.admitted)

/-- The candidate of a lane: the ACCUM head when its arrived field is set (R5). -/
def candidate (l : Lane) (s : State) : Option LoafRecord :=
  match s.tt.accum.get l with
  | r :: _ => if r.arrived then some r else none
  | [] => none

/-- The zone queue that holds a record, with the record's place counted from 1 at the head (R29). -/
def Tracking.locate (tag : Nat) (t : Tracking) : Option (Zone × Nat × LoafRecord) :=
  let look (z : Zone) (q : List LoafRecord) : Option (Zone × Nat × LoafRecord) :=
    match q.findIdx? (·.tag == tag) with
    | some i => (q[i]?).map (fun r => (z, i + 1, r))
    | none => none
  (look .approach t.approach.a).or <| (look .approach t.approach.b).or <| (look .blade t.blade.a.toList).or <|
  (look .blade t.blade.b.toList).or <| (look .accum t.accum.a).or <| (look .accum t.accum.b).or <|
  (look .bagger t.bagger.toList).or <| (look .tyer t.tyer.toList).or (look .exit t.exit)

/-- An eye as the Tracking Table has taken it: the kind of the oldest edge in flight tells the state before it. LOG 8. -/
def eyeBlocked (e : Eye) (s : State) : Bool :=
  match s.eu.edges.find? (fun x => x.eye == e) with
  | some x => !x.leading
  | none => (s.eu.channels.get e).debounced

/-! ## Recipes -/

def recipeAt (slot : Nat) (s : State) : Recipe := s.rt.getD slot Recipe.empty

/-! ## The bytes of the non-volatile array (R165) -/

/-- What a byte that is not listed reads as: an erased page reads 0xFF (R165). LOG 14. -/
def Memory.unlisted : Byte := 0xFF

def Memory.read (m : List Host.Cell) (a : Nat) : Byte :=
  match m with
  | [] => Memory.unlisted
  | c :: rest => if c.1 == a then c.2 else Memory.read rest a

/-- The canonical form: addresses strictly rising, and no listed byte equal to what an unlisted one reads as. -/
def Memory.wf (m : List Host.Cell) : Bool :=
  match m with
  | [] => true
  | [c] => c.2 != Memory.unlisted
  | c :: d :: rest => c.2 != Memory.unlisted && decide (c.1 < d.1) && Memory.wf (d :: rest)

/-- Writes one byte and keeps the canonical form. -/
def Memory.write (m : List Host.Cell) (a : Nat) (b : Byte) : List Host.Cell :=
  match m with
  | [] => if b == Memory.unlisted then [] else [(a, b)]
  | c :: rest =>
    if c.1 < a then c :: Memory.write rest a b
    else if c.1 == a then (if b == Memory.unlisted then rest else (a, b) :: rest)
    else if b == Memory.unlisted then c :: rest else (a, b) :: c :: rest

/-- Writes bytes from an address upward. -/
def Memory.writeAll (m : List Host.Cell) (a : Nat) : List Byte → List Host.Cell
  | [] => m
  | b :: bs => Memory.writeAll (Memory.write m a b) (a + 1) bs

/-- Reads a number of bytes from an address upward. -/
def Memory.readAll (m : List Host.Cell) (a : Nat) : Nat → List Byte
  | 0 => []
  | n + 1 => Memory.read m a :: Memory.readAll m (a + 1) n

end Sys2Proof.Machine
end

