-- ==== Sys2Proof/Machine/Operands.lean ====
section
/-! DEFINITION. The operand forms: fields of message bodies as bytes (R188), the codes of named values, the readings of
request bodies and request arguments, and the CRC of R165 and R187. -/

namespace Sys2Proof.Machine

/-! ## Numbers, high byte first (R188) -/

def u8 (n : Nat) : List Byte := [BitVec.ofNat 8 n]

def u16 (n : Nat) : List Byte := [BitVec.ofNat 8 (n / 256), BitVec.ofNat 8 n]

def u32 (n : Nat) : List Byte := u16 (n / 65536) ++ u16 n

def bytes16 (b1 b0 : Byte) : BitVec 16 := b1 ++ b0

def bytes32 (b3 b2 b1 b0 : Byte) : BitVec 32 := b3 ++ b2 ++ b1 ++ b0

/-- A flag: 1 when set. LOG 20. -/
def flag (b : Bool) : List Byte := u8 (if b then 1 else 0)

/-- An optional one-byte field: a presence byte, then the value, sent as zero when absent (R188). -/
def opt8 : Option Nat → List Byte
  | some n => u8 1 ++ u8 n
  | none => [0, 0]

/-- An optional two-byte field. -/
def opt16 : Option Nat → List Byte
  | some n => u8 1 ++ u16 n
  | none => [0, 0, 0]

/-- A set: its n-th member is bit n (R188). -/
def setBits : List Bool → Nat
  | [] => 0
  | b :: bs => (if b then 1 else 0) + 2 * setBits bs

/-- Bytes padded at the end to a length. -/
def padTo (n : Nat) (fill : Byte) (l : List Byte) : List Byte := l ++ List.replicate (n - l.length) fill

/-! ## Named values (R188): positions in the lists of the rules -/

def laneCode : Lane → Nat
  | .a => 0
  | .b => 1

def beltCode : Belt → Nat
  | .infeedA => 0
  | .infeedB => 1
  | .accumA => 2
  | .accumB => 3
  | .outfeed => 4

def LineState.code : LineState → Nat
  | .init => 0
  | .standby => 1
  | .spinUp => 2
  | .run => 3
  | .hold => 4
  | .drain => 5
  | .stop => 6

def Zone.code : Zone → Nat
  | .approach => 0
  | .blade => 1
  | .accum => 2
  | .bagger => 3
  | .tyer => 4
  | .exit => 5

def Condition.code : Condition → Nat
  | .sound => 0
  | .uncertain => 1
  | .reject => 2

def Verdict.code : Verdict → Nat
  | .ok => 0
  | .short => 1
  | .long => 2

def RejectReason.code : RejectReason → Nat
  | .offSize => 0
  | .uncertain => 1

def BladeState.code : BladeState → Nat
  | .off => 0
  | .spinning => 1
  | .ready => 2

def GateState.code : GateState → Nat
  | .shut => 0
  | .isOpen => 1
  | .stroke => 2

/-- ENABLED 0, DISABLED 1 (R60). LOG 20. -/
def enableCode (on : Bool) : Nat := if on then 0 else 1

def ClosureSet.toList (c : ClosureSet) : List Bool :=
  [c.laneDisabled, c.lineNotRunning, c.bladeNotReady, c.bladeOccupied, c.accFull, c.crumbGap, c.faultHold, c.noRecipe]

def CycleState.code : CycleState → Nat
  | .idle => 0
  | .requested => 1
  | .airWait => 2
  | .blowing => 3
  | .settle => 4
  | .backoff => 5

def CycleCause.code : CycleCause → Nat
  | .estimate => 0
  | .level => 1
  | .host => 2

def Subject.code : Subject → Nat
  | .line => 0
  | .a => 1
  | .b => 2
  | .out => 3

/-- Fault kinds are coded from 1 in the order of R141. -/
def FaultKind.code : FaultKind → Nat
  | .estop => 1
  | .guardOpen => 2
  | .bladeBreak => 3
  | .bladeTension => 4
  | .spinupFail => 5
  | .tyerJam => 6
  | .baggerJam => 7
  | .crumbOverfull => 8
  | .eyeStuck => 9
  | .lostLoaf => 10
  | .unexpectedLoaf => 11
  | .approachOverrun => 12
  | .bagMiss => 13
  | .airLow => 14
  | .bagsOut => 15
  | .clipsOut => 16
  | .airTimeout => 17
  | .nvWriteFail => 18
  | .bagsLow => 19
  | .clipsLow => 20

def LogState.code : LogState → Nat
  | .blank => 0
  | .writing => 1
  | .valid => 2
  | .torn => 3

def AreaState.code : AreaState → Nat
  | .valid => 0
  | .torn => 1
  | .blank => 2

def CheckpointUse.code : CheckpointUse → Nat
  | .used => 0
  | .stale => 1
  | .unusable => 2

def Origin.code : Origin → Nat
  | .checkpoint => 0
  | .afterRecord => 1
  | .afterTorn => 2
  | .first => 3

def SelectionOutcome.code : SelectionOutcome → Nat
  | .restored => 0
  | .dropped => 1
  | .none => 2

/-- The job kinds as NV_WRITE_FAIL's detail names them (R141), and the writer states with IDLE 0. LOG 23. -/
def JobKind.code : JobKind → Nat
  | .shiftRecord => 1
  | .checkpoint => 2
  | .recipes => 3

def Steer.code : Steer → Nat
  | .air0 => 0
  | .air1 => 1
  | .none => 2

/-! ## Arguments of requests -/

def laneOf (b : Byte) : Option Lane :=
  if b == 0 then some .a else if b == 1 then some .b else none

def eyeAt (i : Nat) : Option Eye :=
  [Eye.ia, .ib, .ca, .cb, .ma, .mb, .bg, .ex][i]?

def beltAt (i : Nat) : Option Belt :=
  [Belt.infeedA, .infeedB, .accumA, .accumB, .outfeed][i]?

def laneAt (i : Nat) : Option Lane := [Lane.a, .b][i]?

def requesterAt (i : Nat) : Option Requester := [Requester.bag, .purge, .kna, .knb][i]?

def channelAt (i : Nat) : Option Channel := [Channel.tna, .tnb, .airp, .cra, .crb][i]?

def steerAt (i : Nat) : Option Steer := [Steer.air0, .air1, .none][i]?

/-- A name without the spaces that pad it at its end (R188). LOG 29. -/
def trimName (l : List Byte) : List Byte := (l.reverse.dropWhile (· == 0x20)).reverse

/-- The nine fields of RECIPE_WRITE from the 23 bytes that follow the slot, read in the order of R48. -/
def parseRecipe : List Byte → Option RecipeFields
  | c1 :: c0 :: rest =>
    match rest.drop 12 with
    | [n1, n0, tol, f1, f0, crumb, b1, b0, shelf, rej] =>
      some { code := bytes16 c1 c0, name := trimName (rest.take 12), nominal := bytes16 n1 n0, tolerance := tol,
             feed := bytes16 f1 f0, crumb := crumb, blast := bytes16 b1 b0, shelf := shelf, reject := rej }
    | _ => none
  | _ => none

/-- A slot's nine fields in the 24 bytes of RECIPE_WRITE and of the recipe area (R165, R188). -/
def recipeBytes (r : Recipe) : List Byte :=
  u16 r.code ++ padTo 12 0x20 r.name ++ u16 r.nominal ++ u8 r.tolerance ++ u16 r.feed ++ u8 r.crumb ++ u16 r.blast
    ++ u8 r.shelf ++ flag r.reject

/-- The slot that nine read fields make. -/
def recipeOf (f : RecipeFields) : Recipe where
  code := f.code.toNat
  name := trimName f.name
  nominal := f.nominal.toNat
  tolerance := f.tolerance.toNat
  feed := f.feed.toNat
  crumb := f.crumb.toNat
  blast := f.blast.toNat
  shelf := f.shelf.toNat
  reject := f.reject == 1

/-- The number, in the table of R48, of the first field out of its range (R49). -/
def firstBadField (f : RecipeFields) : Option Nat :=
  let inRange (lo hi n : Nat) : Bool := decide (lo ≤ n) && decide (n ≤ hi)
  if f.name.length > 12 || f.name.any (fun c => !inRange 0x20 0x7E c.toNat) then some 2
  else if !inRange 150 600 f.nominal.toNat then some 3
  else if !inRange 5 60 f.tolerance.toNat then some 4
  else if !inRange 50 400 f.feed.toNat then some 5
  else if !inRange 100 1500 f.blast.toNat then some 7
  else if !inRange 1 30 f.shelf.toNat then some 8
  else if f.reject.toNat > 1 then some 9
  else none

/-! ## The CRC (R165, R187): polynomial 0x1021, initial value 0xFFFF, most significant bit first -/

/-- Eight shifts of the register. -/
def crcShift : Nat → BitVec 16 → BitVec 16
  | 0, c => c
  | n + 1, c => crcShift n (if c.msb then (c <<< 1) ^^^ 0x1021 else c <<< 1)

def crcByte (c : BitVec 16) (b : Byte) : BitVec 16 := crcShift 8 (c ^^^ (b ++ (0 : BitVec 8)))

def crcFrom (c : BitVec 16) (l : List Byte) : BitVec 16 := l.foldl crcByte c

def crc16 (l : List Byte) : BitVec 16 := crcFrom 0xFFFF l

/-! ## ASCII -/

/-- A decimal digit's character. -/
def digit (n : Nat) : Byte := BitVec.ofNat 8 (0x30 + n % 10)

end Sys2Proof.Machine
end

