-- ==== Sys2Proof/Machine/Flags.lean ====
section
/-! DEFINITION. The flags that rules compute from other state: the fault kinds' priorities and action classes, the hold
counts and the stop-fault flag, the shutdown latch, the spun flags, a lane's closure set, gate state, ACC_FULL,
approach-high and TUNNEL_READY. -/

namespace Sys2Proof.Machine

/-! ## Fault kinds (R141) -/

inductive ActionClass | lineStop | outfeedHold | laneHold (l : Lane) | note
deriving DecidableEq, Repr

def FaultKind.priority : FaultKind → Nat
  | .estop | .guardOpen | .bladeBreak => 0
  | .bladeTension | .spinupFail => 1
  | .tyerJam | .baggerJam | .crumbOverfull => 2
  | .eyeStuck | .lostLoaf | .unexpectedLoaf => 3
  | .approachOverrun | .bagMiss => 4
  | .airLow | .bagsOut | .clipsOut => 5
  | .airTimeout | .nvWriteFail => 6
  | .bagsLow | .clipsLow => 7

/-- The hold of a lane kind: its lane in A and B, the outfeed in OUT. -/
def holdOf : Subject → ActionClass
  | .a => .laneHold .a
  | .b => .laneHold .b
  | .out => .outfeedHold
  | .line => .note

def actionOf (k : FaultKind) (subj : Subject) : ActionClass :=
  match k with
  | .estop | .guardOpen | .bladeBreak | .bladeTension | .spinupFail => .lineStop
  | .tyerJam | .baggerJam | .bagMiss | .airLow | .bagsOut | .clipsOut => .outfeedHold
  | .crumbOverfull | .eyeStuck | .lostLoaf | .unexpectedLoaf | .approachOverrun => holdOf subj
  | .airTimeout | .nvWriteFail | .bagsLow | .clipsLow => .note

def FaultTable.entries (t : FaultTable) : List FaultEntry := t.stack ++ t.waiting

/-- The number of standing entries of an action class (R143). -/
def holdCount (c : ActionClass) (s : State) : Nat :=
  s.ft.entries.countP (fun e => actionOf e.kind e.subject == c)

/-- FAULT_HOLD of a lane (R147). -/
def faultHold (l : Lane) (s : State) : Bool := decide (0 < holdCount (.laneHold l) s)

/-- The outfeed hold (R148). -/
def outfeedHeld (s : State) : Bool := decide (0 < holdCount .outfeedHold s)

/-- The stop-fault flag (R124, R148). -/
def stopFault (s : State) : Bool := decide (0 < holdCount .lineStop s)

/-! ## The Drive Output Unit -/

/-- The shutdown latch (R137). -/
def latch (s : State) : Bool := s.dou.estop.isOpen || s.dou.guardIn.isOpen

/-- The stop drop (R136). -/
def stopDrop (s : State) : Bool := s.lsc.line == .stop

/-! ## Lanes -/

/-- The spun flag of a lane (R124). -/
def spun (l : Lane) (s : State) : Bool := !(s.lic.get l).enabled || (s.lic.get l).blade == .ready

/-- Whether a crumb cycle state stands in need of a gap (R65, R109). -/
def CycleState.needsGap : CycleState → Bool
  | .requested | .airWait | .blowing | .settle => true
  | .idle | .backoff => false

/-- The ACC_FULL flag after an occupancy notice, by R72's table; with `lower` at 0 a set flag stays set: DESIGN CHOICE,
LOG 45. -/
def accFullNext (was : Bool) (occupancy upper lower : Nat) : Bool :=
  if was then !decide (occupancy < lower) else decide (upper ≤ occupancy)

/-- The approach-high flag after an occupancy notice (R74). -/
def approachHighNext (was : Bool) (occupancy : Nat) : Bool :=
  if was then !decide (occupancy ≤ 1) else decide (3 ≤ occupancy)

/-- The closure set of a lane: each reason while its condition of R65 holds. -/
def closureOf (l : Lane) (accFull : Bool) (s : State) : ClosureSet where
  laneDisabled := !(s.lic.get l).enabled && s.lsc.line != .drain
  lineNotRunning := !producing s
  bladeNotReady := (s.lic.get l).blade != .ready
  bladeOccupied := (s.tt.blade.get l).isSome
  accFull := accFull
  crumbGap := (s.cc.get l).cycle.needsGap
  faultHold := faultHold l s
  noRecipe := (s.lic.get l).active.isNone && (s.lic.get l).pendingSel.isNone

def ClosureSet.isEmpty (c : ClosureSet) : Bool := !c.toList.any id

/-- TUNNEL_READY of a lane (R74). -/
def tunnelReadyOf (l : Lane) (high : Bool) (s : State) : Bool :=
  s.lsc.line == .run && (s.lic.get l).enabled && !high

/-- The lane's flags, closure set and TUNNEL_READY from the conditions as they stand. -/
def laneFlags (l : Lane) (s : State) (i : LaneInfeed) : LaneInfeed :=
  let full := accFullNext i.accFull (s.tt.accum.get l).length (s.params.upper.get l) (s.params.lower.get l)
  let high := approachHighNext i.approachHigh (s.tt.approach.get l).length
  { i with accFull := full, approachHigh := high, closure := closureOf l full s, tunnelReady := tunnelReadyOf l high s }

/-- Brings a lane's flags, closure set and TUNNEL_READY up to date, and raises LANE_STATE when the set or the output has
changed (R65, R66, R72, R74). -/
def syncLane (l : Lane) (s : State) : State :=
  let old := s.lic.get l
  let new := laneFlags l s old
  when (new.closure != old.closure || new.tunnelReady != old.tunnelReady) (raiseKey (.laneState l))
    (s.onLane l (fun _ => new))

def syncLanes (s : State) : State := syncLane .b (syncLane .a s)

/-- Brings a lane's FAULT_HOLD up to its hold count, and raises LANE_STATE when the set has changed (R66, R147). -/
def syncHold (l : Lane) (s : State) : State :=
  when ((s.lic.get l).closure.faultHold != faultHold l s) (raiseKey (.laneState l))
    (s.onLane l (fun i => { i with closure := { i.closure with faultHold := faultHold l s } }))

def syncHolds (s : State) : State := syncHold .b (syncHold .a s)

/-- The gate state (R65): STROKE while a stroke is in flight, else by the closure set. -/
def gateState (l : Lane) (s : State) : GateState :=
  if s.dou.armed.get l then .stroke
  else if (s.lic.get l).closure.isEmpty then .isOpen else .shut

/-- Whether a lane is admitting for the Scan Converter (R41). -/
def admitting (l : Lane) (s : State) : Bool :=
  match s.lsc.line with
  | .drain => true
  | .run => (s.lic.get l).enabled
  | _ => false

end Sys2Proof.Machine
end

