-- ==== Sys2Proof/Machine/Totals.lean ====
section
/-! DEFINITION. Counting into the live totals (R157, R158, R189) and the records in the order of events that count. -/

namespace Sys2Proof.Machine

def State.onLive (f : Totals → Totals) (s : State) : State := s.onTu (fun t => { t with live := f t.live })

/-- Counts in the line block. -/
def countLine (f : LineBlock → LineBlock) (s : State) : State :=
  s.onLive (fun t => { t with line := f t.line })

/-- Counts for a code among the product entries; none when no entry has the code. -/
def countEntry (code : Nat) (f : Counters → Counters) : List ProductEntry → Option (List ProductEntry)
  | [] => none
  | e :: rest =>
    if e.code == code then some ({ e with counters := f e.counters } :: rest)
    else (countEntry code f rest).map (e :: ·)

/-- A product count (R158): into the code's entry, created at the tail while fewer than 24 exist, else into the other
entry. -/
def Totals.count (code : Nat) (f : Counters → Counters) (t : Totals) : Totals :=
  match countEntry code f t.products with
  | some l => { t with products := l }
  | none =>
    if t.products.length < 24 then { t with products := t.products ++ [{ code := code, counters := f .zero }] }
    else { t with other := some (f (t.other.getD .zero)) }

def countProduct (code : Nat) (f : Counters → Counters) (s : State) : State := s.onLive (Totals.count code f)

/-- A count that names a record's product: the code its recipe slot holds at this moment (R157). LOG 36. -/
def countRecord (r : LoafRecord) (f : Counters → Counters) (s : State) : State :=
  match r.recipeSlot with
  | some slot => countProduct (recipeAt slot s).code f s
  | none => s

/-- Lost, for the line and for the record's product. -/
def countLost (r : LoafRecord) (s : State) : State :=
  countRecord r (fun c => { c with lost := bump c.lost }) (countLine (fun b => { b with lost := bump b.lost }) s)

/-- Bagged, for the line and for the record's product. -/
def countBagged (r : LoafRecord) (s : State) : State :=
  countRecord r (fun c => { c with bagged := bump c.bagged }) (countLine (fun b => { b with bagged := bump b.bagged }) s)

/-- Rejected, for the line and, in the given counter, for the record's product. -/
def countRejected (r : LoafRecord) (f : Counters → Counters) (s : State) : State :=
  countRecord r f (countLine (fun b => { b with rejected := bump b.rejected }) s)

/-- The product counter of a rejection at the merge, by the reject reason (R157). -/
def rejectCounter (r : LoafRecord) (c : Counters) : Counters :=
  match r.rejectReason with
  | some .offSize => { c with rejectedOffSize := bump c.rejectedOffSize }
  | some .uncertain => { c with rejectedUncertain := bump c.rejectedUncertain }
  | none => c

/-- A fault taken: into the live totals, or into the start-up tally before the scan has set them (R189). -/
def countFault (s : State) : State :=
  if s.tu.totalsSet then countLine (fun b => { b with faultsTaken := bump b.faultsTaken }) s
  else s.onTu (fun t => { t with tally := t.tally + 1 })

end Sys2Proof.Machine
end

