-- ==== Sys2Proof/Machine/Faults.lean ====
section
/-! DEFINITION. The Fault Table: cause flags (R142), raising (R144, R145), service (R146), removal (R149), the notices
(R151) and the service order (R153). -/

namespace Sys2Proof.Machine

/-! ## Cause flags (R142) -/

/-- The cause flag of a pair; kinds without a cause show clear. -/
def CauseFlags.get (c : CauseFlags) (k : FaultKind) (subj : Subject) : Bool :=
  match k, subj with
  | .estop, _ => c.estop
  | .guardOpen, _ => c.guardOpen
  | .bladeTension, .a => c.tensionA
  | .bladeTension, .b => c.tensionB
  | .baggerJam, _ => c.baggerJam
  | .tyerJam, _ => c.tyerJam
  | .eyeStuck, .a => c.stuckA
  | .eyeStuck, .b => c.stuckB
  | .eyeStuck, .out => c.stuckOut
  | .crumbOverfull, .a => c.overfullA
  | .crumbOverfull, .b => c.overfullB
  | .airLow, _ => c.airLow
  | .bagsOut, _ => c.bagsOut
  | .clipsOut, _ => c.clipsOut
  | .bagsLow, _ => c.bagsLow
  | .clipsLow, _ => c.clipsLow
  | _, _ => false

def CauseFlags.set (k : FaultKind) (subj : Subject) (b : Bool) (c : CauseFlags) : CauseFlags :=
  match k, subj with
  | .estop, _ => { c with estop := b }
  | .guardOpen, _ => { c with guardOpen := b }
  | .bladeTension, .a => { c with tensionA := b }
  | .bladeTension, .b => { c with tensionB := b }
  | .baggerJam, _ => { c with baggerJam := b }
  | .tyerJam, _ => { c with tyerJam := b }
  | .eyeStuck, .a => { c with stuckA := b }
  | .eyeStuck, .b => { c with stuckB := b }
  | .eyeStuck, .out => { c with stuckOut := b }
  | .crumbOverfull, .a => { c with overfullA := b }
  | .crumbOverfull, .b => { c with overfullB := b }
  | .airLow, _ => { c with airLow := b }
  | .bagsOut, _ => { c with bagsOut := b }
  | .clipsOut, _ => { c with clipsOut := b }
  | .bagsLow, _ => { c with bagsLow := b }
  | .clipsLow, _ => { c with clipsLow := b }
  | _, _ => c

/-- The kinds whose cause flag a raise sets: every row of R142's table but the first three. -/
def FaultKind.raiseSetsCause : FaultKind → Bool
  | .tyerJam | .eyeStuck | .crumbOverfull | .airLow | .bagsOut | .clipsOut | .bagsLow | .clipsLow => true
  | _ => false

/-! ## Entries and service -/

def FaultEntry.isPair (k : FaultKind) (subj : Subject) (e : FaultEntry) : Bool := e.kind == k && e.subject == subj

/-- Whether an entry of the pair stands. -/
def standing (k : FaultKind) (subj : Subject) (s : State) : Bool := s.ft.entries.any (FaultEntry.isPair k subj)

def FaultEntry.priority (e : FaultEntry) : Nat := e.kind.priority

/-- The cause-present field (R143). -/
def FaultTable.causePresent (t : FaultTable) (e : FaultEntry) : Bool := t.causes.get e.kind e.subject

/-- Whether e comes before f among pending entries: higher priority, then older raise sequence, the two compared by
their signed distance (R143, R149). -/
def FaultEntry.before (e f : FaultEntry) : Bool :=
  decide (e.priority < f.priority) || (e.priority == f.priority && decide (0 < dist e.seq f.seq))

/-- The best pending entry (R149). -/
def bestPending : List FaultEntry → Option FaultEntry
  | [] => none
  | e :: rest =>
    match bestPending rest with
    | none => some e
    | some f => if f.before e then some f else some e

/-- An entry into a list that stands in service order. -/
def insertPending (e : FaultEntry) : List FaultEntry → List FaultEntry
  | [] => [e]
  | f :: rest => if e.before f then e :: f :: rest else f :: insertPending e rest

/-- The pending entries by priority and raise sequence. -/
def sortPending : List FaultEntry → List FaultEntry
  | [] => []
  | e :: rest => insertPending e (sortPending rest)

/-- The service order of R153. -/
def FaultTable.order (t : FaultTable) : List FaultEntry := t.stack ++ sortPending t.waiting

/-- One event that changes the table: the change number advances and FAULT_CHANGE is raised (R154). -/
def tableChanged (s : State) : State :=
  raiseKey .faultChange (s.onFt (fun t => { t with changeNumber := t.changeNumber + 1 }))

/-- The entry that a raise stamps now (R144). -/
def stampEntry (k : FaultKind) (subj : Subject) (detail : Option Nat) (s : State) : FaultEntry where
  kind := k
  subject := subj
  day := s.cal.day
  second := s.cal.second
  clockValid := s.cal.valid
  seq := s.ft.raiseCounter
  detail := detail

/-- Places a new entry in service (R146) and counts it when it is presented. -/
def placeEntry (e : FaultEntry) (s : State) : State :=
  match s.ft.stack with
  | [] => countFault (s.onFt (fun t => { t with stack := [e] }))
  | p :: rest =>
    if e.priority < p.priority then countFault (s.onFt (fun t => { t with stack := e :: p :: rest }))
    else s.onFt (fun t => { t with waiting := t.waiting ++ [e] })

/-- Gives the entry of a pair new contents where it stands. -/
def refreshList (e : FaultEntry) (l : List FaultEntry) : List FaultEntry :=
  l.map (fun f => if f.isPair e.kind e.subject then e else f)

/-- A raise: R145 when an entry of the pair stands, else R144. Of the lanes' flags it moves FAULT_HOLD alone (R144, step
5); what else has changed in a lane is told by the rule that changed it, after the raise (R5, R6). -/
def raiseFault (k : FaultKind) (subj : Subject) (detail : Option Nat) (s : State) : State :=
  let e := stampEntry k subj detail s
  let old := standing k subj s
  let s := s.onFt (fun t => { t with raiseCounter := t.raiseCounter + 1,
                                     causes := if k.raiseSetsCause then t.causes.set k subj true else t.causes })
  tableChanged <|
    if old then s.onFt (fun t => { t with stack := refreshList e t.stack, waiting := refreshList e t.waiting })
    else syncHolds (placeEntry e s)

/-- Presents a pending entry on top of the stack and counts it. -/
def present (e : FaultEntry) (s : State) : State :=
  countFault (s.onFt (fun t => { t with stack := e :: t.stack, waiting := t.waiting.filter (fun f => !f.isPair e.kind e.subject) }))

/-- Chooses the next entry to present, after the presented one has gone (R149). -/
def presentNext (s : State) : State :=
  match bestPending s.ft.waiting, s.ft.stack with
  | some e, [] => present e s
  | some e, top :: _ => if e.priority < top.priority then present e s else s
  | none, _ => s

/-- Removes the entry of a pair (R149, steps 1 to 3): out of the table, out of its hold, the next one presented. -/
def removeEntry (k : FaultKind) (subj : Subject) (s : State) : State :=
  let top := s.ft.stack.head?.any (FaultEntry.isPair k subj)
  let s := s.onFt (fun t => { t with stack := t.stack.filter (fun e => !e.isPair k subj),
                                     waiting := t.waiting.filter (fun e => !e.isPair k subj) })
  when top presentNext (syncHolds s)

/-! ## Notices (R142, R151) -/

/-- The kinds an end-of-cause notice removes (R151). -/
def FaultKind.removedAtEnd (k : FaultKind) (s : State) : Bool :=
  match k with
  | .crumbOverfull | .airLow | .bagsOut | .clipsOut | .bagsLow | .clipsLow => true
  | .eyeStuck => s.params.mask.eyeStuck
  | _ => false

/-- An owner tells whether the cause of a pair is present. -/
def noticeCause (k : FaultKind) (subj : Subject) (isPresent : Bool) (s : State) : State :=
  if s.ft.causes.get k subj == isPresent then s
  else
    let s := s.onFt (fun t => { t with causes := t.causes.set k subj isPresent })
    if standing k subj s then
      tableChanged (when (!isPresent && k.removedAtEnd s) (removeEntry k subj) s)
    else s

/-- Removes, in turn, the entries of the given pairs within one event. -/
def removeAll (l : List FaultEntry) (s : State) : State :=
  l.foldl (fun s e => removeEntry e.kind e.subject s) s

/-- An event notice that removes the standing entries it names, in service order. -/
def noticeRemoval (hit : FaultEntry → Bool) (s : State) : State :=
  match s.ft.order.filter hit with
  | [] => s
  | l => tableChanged (removeAll l s)

/-- The match notice of a subject (R23, R151). -/
def matchNotice (subj : Subject) (s : State) : State :=
  noticeRemoval (fun e => e.subject == subj
    && ((e.kind == .lostLoaf && s.params.mask.lostLoaf) || (e.kind == .unexpectedLoaf && s.params.mask.unexpectedLoaf))) s

/-- The bag confirm notice (R89, R151). -/
def bagConfirmNotice (s : State) : State :=
  noticeRemoval (fun e => e.kind == .bagMiss && s.params.mask.bagMiss) s

/-- The completed-clear notice of a lane (R113, R151). -/
def clearCompletedNotice (l : Lane) (s : State) : State :=
  noticeRemoval (FaultEntry.isPair .airTimeout (laneSubject l)) s

/-- EYE_STUCK set to AUTO removes the entries whose cause has ended (R152). -/
def eyeStuckToAuto (s : State) : State :=
  noticeRemoval (fun e => e.kind == .eyeStuck && !s.ft.causePresent e) s

/-- An accepted FAULT_CLEAR removes the presented entry (R150). -/
def clearPresented (e : FaultEntry) (s : State) : State := tableChanged (removeEntry e.kind e.subject s)

end Sys2Proof.Machine
end

