-- ==== Sys2Proof/Machine/Drive.lean ====
section
/-! DEFINITION. The Drive Output Unit: commands and levels (R134), conveyors (R135), the stop drop (R136), the safety
inputs (R137), the gates' arming (R139), the pushers' dead time (R140), the low flags of the magazines (R98). -/

namespace Sys2Proof.Machine

/-- A command that may turn an output on: in STOP it is not applied (R136). -/
def driveOn (f : DriveUnit → DriveUnit) (s : State) : State := if stopDrop s then s else s.onDou f

/-! ## Pushers (R140) -/

def Pusher.isOn (v : Valve) (p : Pusher) : Bool :=
  match v with
  | .extend => p.extendOn
  | .retract => p.retractOn

def otherValve : Valve → Valve
  | .extend => .retract
  | .retract => .extend

def Pusher.put (v : Valve) (b : Bool) (p : Pusher) : Pusher :=
  match v with
  | .extend => { p with extendOn := b }
  | .retract => { p with retractOn := b }

/-- A valve off: a turn-off starts the dead-time timer; a wait of that valve is removed. -/
def Pusher.off (deadTime : Nat) (v : Valve) (p : Pusher) : Pusher :=
  let p := if p.waiting == some v then { p with waiting := none } else p
  if p.isOn v then { p.put v false with lastOff := some v, dead := some deadTime } else p

/-- A valve commanded on: it waits while the timer runs, unless it was the valve last turned off. -/
def Pusher.on (deadTime : Nat) (v : Valve) (p : Pusher) : Pusher :=
  if p.isOn v then p
  else
    let p := p.off deadTime (otherValve v)
    if p.dead.isSome && p.lastOff != some v then { p with waiting := some v }
    else { p.put v true with waiting := none }

/-- The dead time ends: a waiting valve turns on. -/
def Pusher.deadEnd (p : Pusher) : Pusher :=
  match p.waiting with
  | some v => { p.put v true with waiting := none, dead := none }
  | none => { p with dead := none }

/-- The latch forces a valve off, which starts the timer; the command stays (R138, R140). LOG 30. -/
def Pusher.latched (deadTime : Nat) (p : Pusher) : Pusher :=
  if p.extendOn then { p with lastOff := some .extend, dead := some deadTime }
  else if p.retractOn then { p with lastOff := some .retract, dead := some deadTime }
  else p

/-- The stop drop: both valves off and a wait cancelled (R136). -/
def Pusher.drop (deadTime : Nat) (p : Pusher) : Pusher :=
  { (p.off deadTime .extend).off deadTime .retract with waiting := none }

def State.onPusher (l : Lane) (f : Pusher → Pusher) (s : State) : State :=
  s.onDou (fun d => { d with pusher := d.pusher.upd l f })

def valveOn (l : Lane) (v : Valve) (s : State) : State :=
  when (!stopDrop s) (State.onPusher l (Pusher.on s.params.deadTime v)) s

def valveOff (l : Lane) (v : Valve) (s : State) : State := s.onPusher l (Pusher.off s.params.deadTime v)

/-! ## Gates (R139) -/

/-- Arms a gate: an arming while the flag is set is ignored. -/
def armGate (l : Lane) (s : State) : State :=
  if s.dou.armed.get l then s
  else driveOn (fun d => { d with armed := d.armed.upd l (fun _ => true), gateTimer := d.gateTimer.upd l (fun _ => some 150),
                                  gate := d.gate.upd l (fun _ => true) }) s

/-- The end of a stroke: the command goes off and the flag is cleared. -/
def disarmGate (l : Lane) (s : State) : State :=
  s.onDou (fun d => { d with armed := d.armed.upd l (fun _ => false), gateTimer := d.gateTimer.upd l (fun _ => none),
                             gate := d.gate.upd l (fun _ => false) })

/-! ## Simple outputs -/

def setBlade (l : Lane) (b : Bool) (s : State) : State :=
  let f := fun d : DriveUnit => { d with blade := d.blade.upd l (fun _ => b) }
  if b then driveOn f s else s.onDou f

def setKnife (l : Lane) (b : Bool) (s : State) : State :=
  let f := fun d : DriveUnit => { d with knife := d.knife.upd l (fun _ => b) }
  if b then driveOn f s else s.onDou f

def setShaker (l : Lane) (b : Bool) (s : State) : State :=
  let f := fun d : DriveUnit => { d with shaker := d.shaker.upd l (fun _ => b) }
  if b then driveOn f s else s.onDou f

def setInfeed (l : Lane) (b : Bool) (s : State) : State :=
  let f := fun d : DriveUnit => { d with infeed := d.infeed.upd l (fun _ => b) }
  if b then driveOn f s else s.onDou f

def setFlap (b : Bool) (s : State) : State :=
  if b then driveOn (fun d => { d with flap := true }) s else s.onDou (fun d => { d with flap := false })

def setTyer (b : Bool) (s : State) : State :=
  if b then driveOn (fun d => { d with tyer := true }) s else s.onDou (fun d => { d with tyer := false })

def setBagBlast (b : Bool) (s : State) : State :=
  if b then driveOn (fun d => { d with bagBlast := true }) s else s.onDou (fun d => { d with bagBlast := false })

def setPurge (b : Bool) (s : State) : State :=
  if b then driveOn (fun d => { d with purge := true }) s else s.onDou (fun d => { d with purge := false })

/-- The clip printer, on with a code or off. -/
def setPrinter (code : Option (List Byte)) (s : State) : State :=
  if code.isSome then driveOn (fun d => { d with printer := code }) s else s.onDou (fun d => { d with printer := none })

/-- The accumulation and outfeed conveyors (R135). -/
def setConveyors (b : Bool) (s : State) : State :=
  s.onDou (fun d => { d with accum := ⟨b, b⟩, outfeed := b })

/-- Every drive output's command off, gates disarmed, waits cancelled (R136). -/
def DriveUnit.dropped (deadTime : Nat) (d : DriveUnit) : DriveUnit :=
  { d with
    infeed := ⟨false, false⟩, accum := ⟨false, false⟩, outfeed := false, blade := ⟨false, false⟩, gate := ⟨false, false⟩,
    pusher := ⟨d.pusher.a.drop deadTime, d.pusher.b.drop deadTime⟩, flap := false, tyer := false, printer := none,
    bagBlast := false, purge := false, knife := ⟨false, false⟩, shaker := ⟨false, false⟩, armed := ⟨false, false⟩,
    gateTimer := ⟨none, none⟩ }

def dropOutputs (s : State) : State := s.onDou (DriveUnit.dropped s.params.deadTime)

/-! ## Levels (R134, R138) -/

/-- Whether an output is a drive output: every output but the two tunnel-ready outputs. -/
def Output.isDrive : Output → Bool
  | .tunnelReady _ => false
  | _ => true

/-- Whether the shutdown latch holds an output. -/
def Output.latched : Output → Bool
  | .infeed _ | .accum _ | .outfeed | .blade _ | .gate _ | .extend _ | .retract _ => true
  | _ => false

/-- The command of an output. -/
def command (o : Output) (s : State) : Bool :=
  match o with
  | .infeed l => s.dou.infeed.get l
  | .accum l => s.dou.accum.get l
  | .outfeed => s.dou.outfeed
  | .blade l => s.dou.blade.get l
  | .gate l => s.dou.gate.get l
  | .extend l => (s.dou.pusher.get l).extendOn
  | .retract l => (s.dou.pusher.get l).retractOn
  | .flap => s.dou.flap
  | .tyer => s.dou.tyer
  | .printer => s.dou.printer.isSome
  | .bagBlast => s.dou.bagBlast
  | .purge => s.dou.purge
  | .knife l => s.dou.knife.get l
  | .shaker l => s.dou.shaker.get l
  | .tunnelReady l => (s.lic.get l).tunnelReady

/-- The level of an output's pin. -/
def level (o : Output) (s : State) : Bool :=
  command o s && !(o.isDrive && stopDrop s) && !(o.latched && latch s)

/-! ## Safety inputs (R137) -/

/-- An input after a sample that finds it open or closed: 40 samples of 250 µs make the 10 ms. -/
def SafetyInput.sample (found : Bool) (i : SafetyInput) : SafetyInput :=
  if found then { isOpen := true, closedFor := none }
  else if !i.isOpen then { isOpen := false, closedFor := none }
  else
    match i.closedFor with
    | none => { i with closedFor := some 0 }
    | some n => if 40 ≤ n + 1 then { isOpen := false, closedFor := none } else { i with closedFor := some (n + 1) }

/-- A change of a taken state: the cause notice, the raise on opening, LINE_STATE (R132, R137). LOG 24. -/
def inputTaken (k : FaultKind) (was now : Bool) (s : State) : State :=
  when (was != now) (fun s => raiseKey .lineState (when now (raiseFault k .line none) (noticeCause k .line now s))) s

/-! ## Magazines (R98) -/

/-- The bag low flag after a change of the count or the mark. -/
def evalBagLow (s : State) : State :=
  let low := decide (s.mbc.bagCount ≤ s.params.lowMark.bags)
  if low == s.mbc.bagLow then s
  else
    let t := s.onMbc (fun m => { m with bagLow := low })
    raiseKey (.magazine .bags)
      (if low then raiseFault .bagsLow .out (some s.mbc.bagCount) t else noticeCause .bagsLow .out false t)

/-- The clip low flag after a change of the count or the mark. -/
def evalClipLow (s : State) : State :=
  let low := decide (s.tsc.clipCount ≤ s.params.lowMark.clips)
  if low == s.tsc.clipLow then s
  else
    let t := s.onTsc (fun m => { m with clipLow := low })
    raiseKey (.magazine .clips)
      (if low then raiseFault .clipsLow .out (some s.tsc.clipCount) t else noticeCause .clipsLow .out false t)

/-- A change of the bag count: the low flag, and MAGAZINE when the count changes from above 0 to 0. -/
def setBagCount (n : Nat) (s : State) : State :=
  when (decide (0 < s.mbc.bagCount) && n == 0) (raiseKey (.magazine .bags))
    (evalBagLow (s.onMbc (fun m => { m with bagCount := n })))

/-- A change of the clip count. -/
def setClipCount (n : Nat) (s : State) : State :=
  when (decide (0 < s.tsc.clipCount) && n == 0) (raiseKey (.magazine .clips))
    (evalClipLow (s.onTsc (fun t => { t with clipCount := n })))

end Sys2Proof.Machine
end

