-- ==== Sys2Proof/Machine/Air.lean ====
section
/-! DEFINITION. The Air Manifold Arbiter (R117 to R123) and what each owner does when its requester is granted: the bag
grant (R87), the purge grant (R92), the knife grant and the shaker-only clear (R110, R112). -/

namespace Sys2Proof.Machine

/-- The channel a steering entry names. -/
def Steer.channel : Steer → Option AirChannel
  | .air0 => some .air0
  | .air1 => some .air1
  | .none => Option.none

def steering (r : Requester) (s : State) : Steer := s.params.steering.get r

def setWaiting (r : Requester) (c : Option AirChannel) (s : State) : State :=
  s.onAma (fun a => { a with waiting := a.waiting.upd r (fun _ => c) })

def setHolder (c : AirChannel) (r : Option Requester) (s : State) : State :=
  s.onAma (fun a => { a with holder := a.holder.upd c (fun _ => r) })

/-- The channel a requester holds. -/
def AirArbiter.held (r : Requester) (a : AirArbiter) : Option AirChannel :=
  if a.holder.air0 == some r then some .air0
  else if a.holder.air1 == some r then some .air1 else none

/-- Whether a channel may be granted: no holder, and the pressure-low flag clear (R119, R120). -/
def AirArbiter.grantable (c : AirChannel) (a : AirArbiter) : Bool := (a.holder.get c).isNone && !a.pressureLow

/-- Whether a requester is in a channel's waiting set. -/
def AirArbiter.waitsOn (r : Requester) (c : AirChannel) (a : AirArbiter) : Bool := a.waiting.get r == some c

/-! ## The owners at a grant -/

/-- BLOWING begins (R112): the phase timer, the shaker and, unless shaker-only, the knife valve. -/
def enterBlowing (l : Lane) (shakerOnly : Bool) (s : State) : State :=
  let s := s.onCrumb l (fun c => { c with cycle := .blowing, shakerOnly := shakerOnly, airWait := none,
                                          phaseTimer := some s.params.knifeMs })
  setShaker l true (when (!shakerOnly) (setKnife l true) s)

/-- The bag grant that finds a bag (R87): the count falls, bags used is counted, OPENING begins with its blast. -/
def openBag (s : State) : State :=
  let blastMs := match s.mbc.selected with
    | some (_, tag) => match s.tt.locate tag with
      | some (_, _, r) => (recipeAt (r.recipeSlot.getD 0) s).blast
      | none => 0
    | none => 0
  let s := setBagCount (s.mbc.bagCount - 1) s
  let s := countLine (fun b => { b with bagsUsed := bump b.bagsUsed }) s
  setBagBlast true (s.onMbc (fun m => { m with bagger := .opening, openTimer := some 100, blast := some blastMs }))

/-- The bag check that finds no bag (R86): BAGS_OUT is raised and the bagger waits in SELECT. -/
def waitForBags (s : State) : State :=
  raiseFault .bagsOut .out none (s.onMbc (fun m => { m with bagger := .select }))

/-- The purge grant (R92). -/
def startPurge (s : State) : State := setPurge true (s.onTsc (fun t => { t with purge := some 200 }))

/-- A requester becomes a channel's holder and leaves its waiting set; a knife becomes the last-served knife. -/
def becomeHolder (r : Requester) (c : AirChannel) (s : State) : State :=
  let s := setHolder c (some r) (setWaiting r none s)
  match r with
  | .kna | .knb => s.onAma (fun a => { a with lastKnife := some r })
  | _ => s

/-- A grant to a requester other than BAG: it becomes the holder and its owner is told. -/
def grantOther (r : Requester) (c : AirChannel) (s : State) : State :=
  let s := becomeHolder r c s
  match r with
  | .bag => s
  | .purge => startPurge s
  | .kna => enterBlowing .a false s
  | .knb => enterBlowing .b false s

/-- The knife a channel would be granted to (R120): of two that wait the one that is not the last-served. -/
def bestKnife (c : AirChannel) (a : AirArbiter) : Option Requester :=
  match a.waitsOn .kna c, a.waitsOn .knb c with
  | true, true => if a.lastKnife == some .kna then some .knb else some .kna
  | true, false => some .kna
  | false, true => some .knb
  | false, false => none

/-- Grants a free channel to its best waiter after BAG (R120). -/
def grantAfterBag (c : AirChannel) (s : State) : State :=
  if !s.ama.grantable c then s
  else if s.ama.waitsOn .purge c then grantOther .purge c s
  else
    match bestKnife c s.ama with
    | some r => grantOther r c s
    | none => s

/-- The grant to BAG. With no bag left the channel is released at once and goes to the next waiter (R87). -/
def grantBag (c : AirChannel) (s : State) : State :=
  if 0 < s.mbc.bagCount then openBag (becomeHolder .bag c s)
  else grantAfterBag c (waitForBags (setWaiting .bag none s))

/-- Grants a free channel to its best waiter, while the pressure-low flag is clear (R120). -/
def grantNext (c : AirChannel) (s : State) : State :=
  if s.ama.grantable c && s.ama.waitsOn .bag c then grantBag c s else grantAfterBag c s

/-- A grant to one requester. -/
def grantTo (r : Requester) (c : AirChannel) (s : State) : State :=
  match r with
  | .bag => grantBag c s
  | _ => grantOther r c s

/-! ## Requests, releases, withdrawals -/

/-- A request (R119); a knife steered to NONE is its owner's case (R110). -/
def airRequest (r : Requester) (s : State) : State :=
  match (steering r s).channel with
  | none => s
  | some c => if s.ama.grantable c then grantTo r c s else setWaiting r (some c) s

/-- The release of a channel (R120). -/
def releaseChannel (c : AirChannel) (s : State) : State := grantNext c (setHolder c none s)

/-- The owner releases what its requester holds. -/
def airRelease (r : Requester) (s : State) : State :=
  match s.ama.held r with
  | some c => releaseChannel c s
  | none => s

/-- A withdrawal (R121): out of the waiting set, or the release of a held channel. -/
def airWithdraw (r : Requester) (s : State) : State := airRelease r (setWaiting r none s)

/-! ## Steering and pressure -/

/-- An accepted change of a steering entry (R122). -/
def steer (r : Requester) (e : Steer) (s : State) : State :=
  let s := s.onParams (fun p => { p with steering := p.steering.upd r (fun _ => e) })
  match s.ama.waiting.get r, e.channel with
  | some old, some new =>
    if old == new then s
    else if s.ama.grantable new then grantTo r new s else setWaiting r (some new) s
  | some _, none =>
    let s := setWaiting r none s
    match r with
    | .kna => enterBlowing .a true s
    | .knb => enterBlowing .b true s
    | _ => s
  | none, _ => s

/-- A pressure result (R123). AIR0 is granted before AIR1: DESIGN CHOICE, LOG 46. -/
def airPressure (result : Nat) (s : State) : State :=
  if result < s.params.pMin then
    raiseFault .airLow .line (some result) (s.onAma (fun a => { a with pressureLow := true }))
  else if s.ama.pressureLow then
    grantNext .air1 (grantNext .air0 (noticeCause .airLow .line false (s.onAma (fun a => { a with pressureLow := false }))))
  else s

/-! ## The owners' own requests -/

/-- AIR_WAIT of the bagger (R87): BAG is requested, unless an earlier blast still runs. -/
def requestBag (s : State) : State :=
  let s := s.onMbc (fun m => { m with bagger := .airWait })
  if s.mbc.blast.isSome then s else airRequest .bag s

/-- AIR_WAIT of a clear cycle (R110). -/
def requestKnife (l : Lane) (s : State) : State :=
  if steering (knife l) s == .none then enterBlowing l true s
  else airRequest (knife l) (s.onCrumb l (fun c => { c with cycle := .airWait, shakerOnly := false, airWait := some s.params.airWaitMs }))

end Sys2Proof.Machine
end

