-- ==== Sys2Proof/Machine/Crumb.lean ====
section
/-! DEFINITION. The Crumb Controllers (R104 to R116): requests, the gap, completion, back-off, holds and stops, overfull. -/

namespace Sys2Proof.Machine

/-- A request of a clear cycle (R107, R108): the cause, and REQUESTED with CRUMB_GAP. -/
def requestClear (l : Lane) (cause : CycleCause) (s : State) : State :=
  syncLane l (s.onCrumb l (fun c => { c with cycle := .requested, cause := some cause, backoff := none }))

/-- The line states in which a test requests a clear by itself (R107). -/
def testsClear (s : State) : Bool :=
  match s.lsc.line with
  | .standby | .run | .drain | .hold => true
  | _ => false

/-- A test of R107 in IDLE. -/
def clearTest (l : Lane) (holds : Bool) (cause : CycleCause) (s : State) : State :=
  when (holds && testsClear s && (s.cc.get l).cycle == .idle) (requestClear l cause) s

/-- The estimate's test. -/
def estimateTest (l : Lane) (s : State) : State :=
  clearTest l (decide (s.params.eClear ≤ (s.cc.get l).estimate)) .estimate s

/-- The test at the end of BACKOFF and at the line's entry to a testing state (R107). -/
def entryTest (l : Lane) (s : State) : State :=
  let c := s.cc.get l
  if s.params.eClear ≤ c.estimate then clearTest l true .estimate s
  else clearTest l (c.levelSince && decide (s.params.lClear ≤ c.lastLevel)) .level s

/-- The gap of a requested cycle, at the first moment BLADE is empty and the line is not in HOLD (R109). -/
def makeGap (l : Lane) (s : State) : State :=
  when ((s.cc.get l).cycle == .requested && (s.tt.blade.get l).isNone && s.lsc.line != .hold) (requestKnife l) s

/-- The overfull check (R116). -/
def overfullCheck (l : Lane) (s : State) : State :=
  let level := (s.cc.get l).lastLevel
  if s.params.lOver ≤ level then raiseFault .crumbOverfull (laneSubject l) (some level) s
  else if level < s.params.lClear then noticeCause .crumbOverfull (laneSubject l) false s
  else s

/-- A crumb level result (R106). -/
def crumbResult (l : Lane) (result : Nat) (s : State) : State :=
  let s := s.onCrumb l (fun c => { c with lastLevel := result, levelSince := true })
  if s.lsc.line == .init then s
  else clearTest l (decide (s.params.lClear ≤ result)) .level (overfullCheck l s)

/-- The crumb factor of an admission (R105). -/
def addCrumb (l : Lane) (factor : Nat) (s : State) : State :=
  s.onCrumb l (fun c => { c with estimate := min (c.estimate + factor) 65535 })

/-- The end of BLOWING (R112): knife and shaker off, the channel released, SETTLE. -/
def endBlowing (l : Lane) (s : State) : State :=
  let s := setShaker l false (setKnife l false s)
  airRelease (knife l) (s.onCrumb l (fun c => { c with cycle := .settle, phaseTimer := some 500 }))

/-- The completion of a clear (R113). -/
def completeClear (l : Lane) (s : State) : State :=
  let s := s.onCrumb l (fun c => { c with estimate := 0, levelSince := false,
                                          lastClear := c.cause.map (fun k => (k, c.shakerOnly)) })
  let s := countLine (fun b => { b with crumbClears := b.crumbClears.upd l bump }) s
  let s := raiseKey (.crumbCleared l) (clearCompletedNotice l s)
  syncLane l (s.onCrumb l (fun c => { c with cause := none, shakerOnly := false, phaseTimer := none, cycle := .idle }))

/-- The air wait times out (R111). -/
def backOff (l : Lane) (s : State) : State :=
  let s := airWithdraw (knife l) (s.onCrumb l (fun c => { c with airWait := none }))
  let s := raiseFault .airTimeout (laneSubject l) (some (s.sc.result.get .airp)) s
  syncLane l (s.onCrumb l (fun c => { c with cycle := .backoff, backoff := some (s.params.backoffS * 1000) }))

/-- The end of BACKOFF (R111). -/
def endBackOff (l : Lane) (s : State) : State :=
  entryTest l (s.onCrumb l (fun c => { c with cycle := .idle, cause := none, backoff := none }))

/-- The entry to HOLD returns a cycle from AIR_WAIT to REQUESTED (R114). -/
def holdCrumb (l : Lane) (s : State) : State :=
  when ((s.cc.get l).cycle == .airWait)
    (fun s => airWithdraw (knife l) (s.onCrumb l (fun c => { c with cycle := .requested, airWait := none }))) s

/-- The entry to STOP abandons a cycle (R115). -/
def abandonCrumb (l : Lane) (s : State) : State :=
  when ((s.cc.get l).cycle != .idle)
    (fun s =>
      let s := s.onCrumb l (fun c => { c with cycle := .idle, cause := none, shakerOnly := false, airWait := none,
                                              phaseTimer := none, backoff := none })
      syncLane l (airWithdraw (knife l) (setShaker l false (setKnife l false s)))) s

end Sys2Proof.Machine
end

