-- ==== Sys2Proof/Machine/Field.lean ====
section
/-! DEFINITION. The field inputs of section 3: the Eye Unit's samples, debounce and edges (R30 to R35), the Belt Encoder
Unit's counts (R36, R37), the Scan Converter's triggers and starts (R40 to R43). -/

namespace Sys2Proof.Machine

/-! ## The Eye Unit -/

def State.onEye (e : Eye) (f : EyeChannel → EyeChannel) (s : State) : State :=
  s.onEu (fun u => { u with channels := u.channels.upd e f })

/-- The raw state after a sample (R31). -/
def rawNext (threshold hysteresis level : Nat) (blocked : Bool) : Bool :=
  if blocked then decide (level < min (threshold + hysteresis) 255) else decide (level < threshold)

/-- A channel after a sample (R30, R32); the first sample after reset sets both states without an edge. -/
def EyeChannel.sample (threshold hysteresis level : Nat) (at_ : Pos) (c : EyeChannel) : EyeChannel :=
  if c.sampled then
    let raw := rawNext threshold hysteresis level c.raw
    { c with raw := raw,
             change := if raw == c.debounced then none else some (c.change.getD { stamp := at_, held := 0 }) }
  else
    let raw := rawNext threshold hysteresis level false
    { c with sampled := true, raw := raw, debounced := raw, change := none }

def sampleEye (e : Eye) (level : Nat) (s : State) : State :=
  s.onEye e (EyeChannel.sample (s.params.threshold.get e) (s.params.hysteresis.get e) level (position (eyeBelt e) s))

/-- How far a pending change has gone toward its debounce: the size of the belt distance, or for BG the time (R32). -/
def debounceProgress (e : Eye) (p : PendingChange) (s : State) : Nat :=
  match e with
  | .bg => p.held
  | _ => (dist p.stamp (position (eyeBelt e) s)).natAbs

/-- Whether a pending change is to be confirmed (R32). -/
def confirmable (e : Eye) (s : State) : Bool :=
  let c := s.eu.channels.get e
  match c.change with
  | some p => c.raw != c.debounced && decide (s.params.debounce.get e ≤ debounceProgress e p s)
  | none => false

/-- The blocked length of a trailing edge of IA or IB (R34). -/
def blockedLength (lastLeading : Option Pos) (stamp : Pos) : Nat :=
  match lastLeading with
  | some p => min (dist p stamp).toNat 65535
  | none => 0

def isInfeedEye : Eye → Bool
  | .ia | .ib => true
  | _ => false

/-- Whether the block that receives an edge acts on it: the leading edges of IA and IB do nothing (R8), and the trailing
edges of BG are ignored (R89). -/
def edgeTaken (e : Eye) (leading : Bool) : Bool :=
  match e with
  | .ia | .ib => !leading
  | .bg => leading
  | _ => true

/-- A confirmed change (R32, R33): the debounced state, the last leading stamp, and the edge given to its block. LOG 7. -/
def confirmChange (e : Eye) (s : State) : State :=
  let c := s.eu.channels.get e
  match c.change with
  | none => s
  | some p =>
    let leading := c.raw
    let edge : Edge := { eye := e, leading := leading, stamp := p.stamp,
                         length := if isInfeedEye e && !leading then blockedLength c.lastLeading p.stamp else 0 }
    let s := s.onEye e (fun c => { c with debounced := c.raw, change := none,
                                          lastLeading := if isInfeedEye e && leading then some p.stamp else c.lastLeading })
    when (edgeTaken e leading) (State.onEu (fun u => { u with edges := u.edges ++ [edge] })) s

/-- The oldest edge in flight of an eye. -/
def nextEdge (e : Eye) (s : State) : Option Edge := s.eu.edges.find? (fun x => x.eye == e)

/-- The edges without the oldest one of an eye. -/
def dropEdge (e : Eye) : List Edge → List Edge
  | [] => []
  | x :: rest => if x.eye == e then rest else x :: dropEdge e rest

def takeEdge (e : Eye) (s : State) : State := s.onEu (fun u => { u with edges := dropEdge e u.edges })

/-! ## The Belt Encoder Unit -/

inductive Count | none | forward | backward
deriving DecidableEq, Repr

/-- The count a sample gives, from the reference pair to the new one (R36). -/
def countOf (a b a' b' : Bool) : Count :=
  if a != a' && b == b' then (if a' != b then .forward else .backward)
  else if a == a' && b != b' then (if b' == a then .forward else .backward)
  else .none

/-- A forward count: the remainder and the position (R37). -/
def countForward (scale rem : Nat) (p : Pos) : Nat × Pos :=
  if scale ≤ rem + 100 then (rem + 100 - scale, p + 1) else (rem + 100, p)

/-- A backward count. -/
def countBackward (scale rem : Nat) (p : Pos) : Nat × Pos :=
  if rem < 100 then (rem + scale - 100, p - 1) else (rem - 100, p)

/-- One sample of a belt's encoder (R36, R37). -/
def sampleEncoder (b : Belt) (phaseA phaseB : Bool) (s : State) : State :=
  let u := s.beu
  let c := match u.pair.get b with
    | some (a, b') => countOf a b' phaseA phaseB
    | none => .none
  let scale := s.params.scale.get b
  let moved := match c with
    | .none => (u.remainder.get b, u.position.get b)
    | .forward => countForward scale (u.remainder.get b) (u.position.get b)
    | .backward => countBackward scale (u.remainder.get b) (u.position.get b)
  s.onBeu (fun u => { position := u.position.upd b (fun _ => moved.2), remainder := u.remainder.upd b (fun _ => moved.1),
                      pair := u.pair.upd b (fun _ => some (phaseA, phaseB)) })

/-! ## The Scan Converter -/

/-- The lowest-numbered flagged channel (R40). -/
def ScanConverter.lowest (c : ScanConverter) : Option Channel :=
  [Channel.tna, .tnb, .airp, .cra, .crb].find? (fun x => c.flag.get x)

/-- Starts the next conversion when none is in flight and a flag is set (R40). -/
def ScanConverter.start (c : ScanConverter) : ScanConverter :=
  match c.inFlight, c.lowest with
  | none, some x => { c with flag := c.flag.upd x (fun _ => false), inFlight := some x }
  | _, _ => c

/-- A trigger of a channel (R41 to R43): ignored while the channel's conversion is in flight. -/
def ScanConverter.trigger (x : Channel) (c : ScanConverter) : ScanConverter :=
  if c.inFlight == some x then c else ({ c with flag := c.flag.upd x (fun _ => true) } : ScanConverter).start

def trigger (x : Channel) (s : State) : State := s.onSc (ScanConverter.trigger x)

/-- The triggers of a scan expiry (R41). -/
def scanTriggers (s : State) : State :=
  let s := trigger .airp (trigger .tnb (trigger .tna s))
  let s := when (!admitting .a s) (trigger .cra) s
  when (!admitting .b s) (trigger .crb) s

/-- A lane's quiet point (R42). -/
def quietPoint (l : Lane) (s : State) : State := trigger (crumbChannel l) s

end Sys2Proof.Machine
end

