-- ==== Sys2Proof/Machine/Tracking.lean ====
section
/-! DEFINITION. The Tracking Table: creation (R7 to R9), losing a record (R6), the three windows and their edges (R11 to
R22), stuck watches (R24), STOP marking, discard and purge (R25 to R27). -/

namespace Sys2Proof.Machine

def State.onApproach (l : Lane) (f : List LoafRecord → List LoafRecord) (s : State) : State :=
  s.onTt (fun t => { t with approach := t.approach.upd l f })

def State.onBladeZone (l : Lane) (f : Option LoafRecord → Option LoafRecord) (s : State) : State :=
  s.onTt (fun t => { t with blade := t.blade.upd l f })

def State.onAccum (l : Lane) (f : List LoafRecord → List LoafRecord) (s : State) : State :=
  s.onTt (fun t => { t with accum := t.accum.upd l f })

def State.onExit (f : List LoafRecord → List LoafRecord) (s : State) : State :=
  s.onTt (fun t => { t with exit := f t.exit })

/-- Changes the head of a queue. -/
def mapHead (f : LoafRecord → LoafRecord) : List LoafRecord → List LoafRecord
  | [] => []
  | r :: rest => f r :: rest

/-- Takes the oldest edge in flight of an eye when it is of the given kind; else nothing happens. LOG 7. -/
def withEdge (e : Eye) (leading : Bool) (f : Edge → State → State) (s : State) : State :=
  match nextEdge e s with
  | some x => if x.leading == leading then f x (takeEdge e s) else s
  | none => s

/-! ## Tags and creation -/

/-- The first value from a counter upward, in the ring 1 to 65535, that no allocated record holds (R7). -/
def freeTag (used : Nat → Bool) : Nat → Nat → Nat
  | 0, n => n
  | fuel + 1, n => if used n then freeTag used fuel (if n = 65535 then 1 else n + 1) else n

/-- The tag that the next creation issues. At most 35 values can be held. -/
def issuedTag (s : State) : Nat := freeTag (fun n => allocatedTag n s) 36 s.tt.nextTag

/-- A record at its creation (R1). -/
def newRecord (tag : Nat) (l : Lane) (length : Nat) (stamp : Pos) : LoafRecord where
  tag := tag
  lane := l
  length := length
  admitted := false
  recipeSlot := none
  verdict := none
  condition := .sound
  rejectReason := none
  stopDiscard := false
  jammed := false
  arrived := false
  departure := some { belt := infeedBelt l, pos := stamp }
  clipCode := none

/-- A trailing edge at IA or IB (R8, R9). -/
def createRecord (l : Lane) (x : Edge) (s : State) : State :=
  if (s.tt.approach.get l).length < 4 then
    let tag := issuedTag s
    let s := s.onTt (fun t => { t with nextTag := if tag = 65535 then 1 else tag + 1 })
    syncLane l (s.onApproach l (· ++ [newRecord tag l x.length x.stamp]))
  else raiseFault .approachOverrun (laneSubject l) none s

/-! ## Stuck eyes (R24) -/

def startWatch (e : TrackedEye) (at_ : Pos) (s : State) : State :=
  s.onTt (fun t => { t with watch := t.watch.upd e (fun _ => some at_) })

/-- Whether a tracked eye of a subject has its stuck flag set. -/
def subjectStuck (subj : Subject) (s : State) : Bool :=
  [TrackedEye.ca, .cb, .ma, .mb, .ex].any (fun e => eyeSubject e == subj && s.tt.stuck.get e)

/-- A trailing edge ends the blockage: the watch goes, the flag clears, and the cause may have ended. -/
def eyeCleared (e : TrackedEye) (s : State) : State :=
  let s := s.onTt (fun t => { t with watch := t.watch.upd e (fun _ => none), stuck := t.stuck.upd e (fun _ => false) })
  when (!subjectStuck (eyeSubject e) s) (noticeCause .eyeStuck (eyeSubject e) false) s

/-- The limit at CA or CB: from the BLADE record's recipe, else the lane's active one, else 860 mm. -/
def slicerLimit (l : Lane) (s : State) : Nat :=
  let ofSlot := fun slot => (recipeAt slot s).nominal + (recipeAt slot s).tolerance + 200
  match s.tt.blade.get l with
  | some r => match r.recipeSlot with
    | some slot => ofSlot slot
    | none => 860
  | none => match (s.lic.get l).active with
    | some slot => ofSlot slot
    | none => 860

def stuckLimit (e : TrackedEye) (s : State) : Nat :=
  match e with
  | .ca => slicerLimit .a s
  | .cb => slicerLimit .b s
  | .ma | .mb => 2000
  | .ex => 1500

/-- Whether a watch has run past its limit. -/
def stuckDue (e : TrackedEye) (s : State) : Bool :=
  match s.tt.watch.get e with
  | some p => decide ((stuckLimit e s : Int) < dist p (position (eyeBelt (eyeOf e)) s))
  | none => false

def raiseStuck (e : TrackedEye) (s : State) : State :=
  raiseFault .eyeStuck (eyeSubject e) none
    (s.onTt (fun t => { t with watch := t.watch.upd e (fun _ => none), stuck := t.stuck.upd e (fun _ => true) }))

/-- The watches that start as the line leaves STANDBY: every tracked eye that is blocked, at its belt's position. -/
def startWatches (s : State) : State :=
  [TrackedEye.ca, .cb, .ma, .mb, .ex].foldl
    (fun s e => when (eyeBlocked (eyeOf e) s) (startWatch e (position (eyeBelt (eyeOf e)) s)) s) s

def removeWatches (s : State) : State := s.onTt (fun t => { t with watch := ⟨none, none, none, none, none⟩ })

/-! ## Losing a record (R6) -/

/-- Counts a removed record lost, if admitted, and raises LOST_LOAF. -/
def lose (subj : Subject) (r : LoafRecord) (s : State) : State :=
  raiseFault .lostLoaf subj (some r.tag) (when r.admitted (countLost r) s)

/-! ## The blade window -/

/-- BLADE has become empty: the lane's controllers and the Scan Converter are told (R5, R42). -/
def bladeEmptied (l : Lane) (s : State) : State := syncLane l (quietPoint l s)

/-- Whether a record's window has run past a late limit. -/
def pastLimit (late : Nat) (r : LoafRecord) (s : State) : Bool :=
  match r.departure with
  | some d => !r.arrived && decide ((late : Int) < travelled d s)
  | none => false

def bladeWindowDue (l : Lane) (s : State) : Bool :=
  match s.tt.blade.get l with
  | some r => pastLimit (s.params.slicerPath.get l + s.params.slicerTol.get l) r s
  | none => false

/-- The blade window runs out (R14). -/
def loseBlade (l : Lane) (s : State) : State :=
  match s.tt.blade.get l with
  | some r => bladeEmptied l (lose (laneSubject l) r (s.onBladeZone l (fun _ => none)))
  | none => s

/-- Whether a leading edge's stamp is at or above an early limit for a waiting record. -/
def matchesAt (early : Int) (stamp : Pos) (r : LoafRecord) : Bool :=
  match r.departure with
  | some d => !r.arrived && decide (early ≤ dist d.pos stamp)
  | none => false

/-- The record at a match: arrived, its departure absent. -/
def LoafRecord.matched (r : LoafRecord) : LoafRecord := { r with arrived := true, departure := none }

/-- A leading edge at CA or CB (R12, R24). -/
def slicerLeading (l : Lane) (x : Edge) (s : State) : State :=
  let s := startWatch (slicerEye l) x.stamp s
  let early : Int := (s.params.slicerPath.get l : Int) - s.params.slicerTol.get l
  if (s.tt.blade.get l).any (matchesAt early x.stamp) then
    matchNotice (laneSubject l) (s.onBladeZone l (Option.map LoafRecord.matched))
  else raiseFault .unexpectedLoaf (laneSubject l) none s

/-! ## The merge window -/

/-- The merge window starts when the head is not arrived, has no departure, and the merge eye is clear (R15). -/
def startMergeWindow (l : Lane) (s : State) : State :=
  match s.tt.accum.get l with
  | r :: _ =>
    when (!r.arrived && r.departure.isNone && !eyeBlocked (eyeOf (mergeEye l)) s)
      (State.onAccum l (mapHead (fun r => { r with departure := some { belt := accumBelt l, pos := position (accumBelt l) s } }))) s
  | [] => s

/-- The ACCUM head has left: the lane is told, the new head's window may start, and a merge eye that an arrived head kept
without a watch starts one now (R15, R24). -/
def accumHeadLeft (l : Lane) (left : LoafRecord) (s : State) : State :=
  let s := syncLane l s
  if left.arrived && eyeBlocked (eyeOf (mergeEye l)) s then startWatch (mergeEye l) (position (accumBelt l) s) s
  else startMergeWindow l s

/-- Takes the head out of ACCUM. -/
def removeAccumHead (l : Lane) (s : State) : State := s.onAccum l List.tail

def mergeWindowDue (l : Lane) (s : State) : Bool :=
  match s.tt.accum.get l with
  | r :: _ => pastLimit s.params.accumLimit r s
  | [] => false

/-- The merge window runs out (R17). -/
def loseAccumHead (l : Lane) (s : State) : State :=
  match s.tt.accum.get l with
  | r :: _ => accumHeadLeft l r (lose (laneSubject l) r (removeAccumHead l s))
  | [] => s

/-- A trailing edge at CA or CB (R13): the arrived record joins ACCUM. -/
def slicerTrailing (l : Lane) (s : State) : State :=
  match s.tt.blade.get l with
  | some r =>
    if r.arrived then
      let s := (s.onBladeZone l (fun _ => none)).onAccum l (· ++ [{ r with arrived := false }])
      startMergeWindow l (bladeEmptied l s)
    else s
  | none => s

/-- A leading edge at MA or MB (R16, R24). -/
def mergeLeading (l : Lane) (x : Edge) (s : State) : State :=
  if (s.tt.accum.get l).head?.any (matchesAt 0 x.stamp) then
    matchNotice (laneSubject l) (s.onAccum l (mapHead LoafRecord.matched))
  else
    raiseFault .unexpectedLoaf (laneSubject l) none
      (when (candidate l s).isNone (startWatch (mergeEye l) x.stamp) s)

/-! ## The exit window -/

def exitWindowDue (s : State) : Bool :=
  match s.tt.exit with
  | r :: _ => pastLimit (s.params.exitPath + s.params.exitTol) r s
  | [] => false

/-- Loses the EXIT head. -/
def loseExitHead (s : State) : State :=
  match s.tt.exit with
  | r :: _ => lose .out r (s.onExit List.tail)
  | [] => s

/-- A record has become the head of EXIT: it is lost at once if its window has run out, and so on (R21). -/
def compareExitHead : Nat → State → State
  | 0, s => s
  | n + 1, s => if exitWindowDue s then compareExitHead n (loseExitHead s) else s

/-- The comparison for as many heads as EXIT can hold. -/
def exitHeadChanged (s : State) : State := compareExitHead 3 s

/-- A record joins the EXIT tail (R4, R19): an overrun first loses the head. -/
def joinExit (r : LoafRecord) (s : State) : State :=
  let s := when (decide (3 ≤ s.tt.exit.length)) (fun s => exitHeadChanged (loseExitHead s)) s
  s.onExit (· ++ [{ r with departure := some { belt := .outfeed, pos := position .outfeed s }, arrived := false }])

/-- A leading edge at EX (R20, R24). -/
def exitLeading (x : Edge) (s : State) : State :=
  let s := startWatch .ex x.stamp s
  let early : Int := (s.params.exitPath : Int) - s.params.exitTol
  if s.tt.exit.head?.any (matchesAt early x.stamp) then matchNotice .out (s.onExit (mapHead LoafRecord.matched))
  else raiseFault .unexpectedLoaf .out none s

/-- A trailing edge at EX (R22): the arrived head is counted bagged and freed. -/
def exitTrailing (s : State) : State :=
  match s.tt.exit with
  | r :: _ => if r.arrived then exitHeadChanged (countBagged r (s.onExit List.tail)) else s
  | [] => s

/-! ## Records and the line state -/

/-- STOP marking of a record in BLADE or ACCUM. -/
def LoafRecord.stopMarked (r : LoafRecord) : LoafRecord :=
  if r.condition == .sound then { r with condition := .uncertain } else r

/-- STOP marking (R25). -/
def stopMarking (s : State) : State :=
  s.onTt (fun t =>
    { t with blade := ⟨t.blade.a.map .stopMarked, t.blade.b.map .stopMarked⟩,
             accum := ⟨t.accum.a.map .stopMarked, t.accum.b.map .stopMarked⟩,
             bagger := t.bagger.map (fun r => { r with stopDiscard := true }),
             tyer := t.tyer.map (fun r => { r with stopDiscard := true }) })

/-- A stop-discarded record is counted. -/
def countStopDiscard (r : LoafRecord) (s : State) : State :=
  countRejected r (fun c => { c with rejectedStopDiscard := bump c.rejectedStopDiscard }) s

/-- The discard of the BAGGER record at LINE_RESUME in STOP (R26). -/
def discardBagger (s : State) : State :=
  match s.tt.bagger with
  | some r => if r.stopDiscard then countStopDiscard r (s.onTt (fun t => { t with bagger := none })) else s
  | none => s

/-- The discard of the TYER record; a jammed one takes the cause of TYER_JAM with it (R26, R96). -/
def discardTyer (s : State) : State :=
  match s.tt.tyer with
  | some r =>
    if r.stopDiscard then
      noticeCause .tyerJam .out false (countStopDiscard r (s.onTt (fun t => { t with tyer := none })))
    else s
  | none => s

def resumeDiscard (s : State) : State := discardTyer (discardBagger s)

/-- The purge (R27): every record is freed, the admitted ones counted lost. LOG 25. -/
def purgePool (s : State) : State :=
  let gone := s.records
  let bladeA := s.tt.blade.a.isSome
  let bladeB := s.tt.blade.b.isSome
  let s := s.onTt (fun t => { t with approach := ⟨[], []⟩, blade := ⟨none, none⟩, accum := ⟨[], []⟩, bagger := none,
                                     tyer := none, exit := [] })
  let s := gone.foldl (fun s r => when r.admitted (countLost r) s) s
  let s := when bladeB (quietPoint .b) (when bladeA (quietPoint .a) s)
  syncLanes (noticeCause .tyerJam .out false s)

end Sys2Proof.Machine
end

