-- ==== Sys2Proof/Machine/Lane.lean ====
section
/-! DEFINITION. The Lane Infeed Controllers: the blade (R62 to R64), the tension monitor (R46, R47), admission (R67 to
R70), the infeed belt (R71). -/

namespace Sys2Proof.Machine

/-! ## The blade -/

/-- Whether a lane's blade is demanded (R62). -/
def bladeDemanded (l : Lane) (s : State) : Bool :=
  let enabled := (s.lic.get l).enabled
  let holds := !(s.tt.approach.get l).isEmpty || (s.tt.blade.get l).isSome
  match s.lsc.line with
  | .spinUp | .run => enabled
  | .drain => enabled || holds
  | .hold => enabled || (s.lsc.returnState == some .drain && holds)
  | _ => false

/-- The spin-up wait of a code, in milliseconds (R62). -/
def spinUpMs (code : Nat) : Nat := [500, 1000, 1500, 2000, 3000, 4000, 6000, 8000].getD code 8000

/-- A change of blade state (R64): the closure set follows and LANE_STATE is raised. -/
def changeBlade (l : Lane) (b : BladeState) (wait : Timer) (s : State) : State :=
  raiseKey (.laneState l) (syncLane l (s.onLane l (fun i => { i with blade := b, spinWait := wait })))

def startSpinUp (l : Lane) (s : State) : State :=
  setBlade l true (changeBlade l .spinning (some (spinUpMs (s.params.spinCode.get l))) s)

/-- The blade goes OFF and its drive off. -/
def bladeOff (l : Lane) (s : State) : State :=
  setBlade l false (when ((s.lic.get l).blade != .off) (changeBlade l .off none) s)

/-- The blade follows its demand: a spin-up starts, or one that runs is abandoned (R62). -/
def bladeFollow (l : Lane) (s : State) : State :=
  let starts := match s.lsc.line with
    | .spinUp | .run | .drain => true
    | _ => false
  match (s.lic.get l).blade with
  | .off => when (starts && bladeDemanded l s) (startSpinUp l) s
  | .spinning => when (!bladeDemanded l s) (bladeOff l) s
  | .ready => s

/-- The end of a spin-up wait (R63). -/
def spinUpEnd (l : Lane) (s : State) : State :=
  let result := s.sc.result.get (tensionChannel l)
  if s.params.tLow ≤ result then changeBlade l .ready none s
  else raiseFault .spinupFail (laneSubject l) (some result) (bladeOff l s)

/-- A tension result handed to the monitor (R46, R47). LOG 24. -/
def tensionResult (l : Lane) (result : Nat) (s : State) : State :=
  let s := noticeCause .bladeTension (laneSubject l) (decide (result < s.params.tLow)) s
  if (s.lic.get l).blade != .ready then s
  else if result < s.params.tBreak then
    raiseFault .bladeBreak (laneSubject l) (some result) (bladeOff l s)
  else if result < s.params.tLow then raiseFault .bladeTension (laneSubject l) (some result) s
  else s

/-! ## Selections -/

/-- The active selection and, with it, the feed speed reference (R54, R71). -/
def activate (l : Lane) (slot : Nat) (s : State) : State :=
  let feed := (recipeAt slot s).feed
  s.onLane l (fun i => { i with active := some slot, pendingSel := none, feedRef := feed })

/-- Applies a pending selection at an admission (R54, R55, R69 step 1). -/
def applyPending (l : Lane) (tag : Nat) (s : State) : State :=
  match (s.lic.get l).pendingSel with
  | some slot => raiseKey (.recipeApplied l) ((activate l slot s).onLane l (fun i => { i with appliedTag := tag }))
  | none => s

/-! ## Admission -/

/-- The length verdict (R68). -/
def verdictOf (length nominal tolerance : Nat) : Verdict :=
  if length + tolerance < nominal then .short
  else if length ≤ nominal + tolerance then .ok else .long

/-- Whether the APPROACH head stands at the gate (R10). LOG 9. -/
def headAtGate (l : Lane) (s : State) : Bool :=
  match s.tt.approach.get l with
  | r :: _ =>
    match r.departure with
    | some d => decide ((s.params.gateDistance.get l : Int) ≤ travelled d s)
    | none => false
  | [] => false

/-- Whether the lane admits now (R67). -/
def admits (l : Lane) (s : State) : Bool :=
  headAtGate l s && (s.lic.get l).closure.isEmpty && !(s.dou.armed.get l)

/-- The record as it moves into BLADE (R4, R69 steps 2, 3 and 6). -/
def LoafRecord.passGate (slot : Nat) (recipe : Recipe) (at_ : Departure) (r : LoafRecord) : LoafRecord :=
  let verdict := verdictOf r.length recipe.nominal recipe.tolerance
  let rejected := verdict != .ok && recipe.reject
  { r with admitted := true, recipeSlot := some slot, verdict := some verdict,
           condition := if rejected then .reject else r.condition,
           rejectReason := if rejected then some .offSize else r.rejectReason,
           departure := some at_, arrived := false }

/-- Admission of the head (R69). -/
def admission (l : Lane) (r : LoafRecord) (s : State) : State :=
  let s := applyPending l r.tag s
  let slot := ((s.lic.get l).active).getD 0
  let recipe := recipeAt slot s
  let record := r.passGate slot recipe { belt := infeedBelt l, pos := position (infeedBelt l) s }
  let s := when (record.verdict != some .ok && !recipe.reject)
    (countProduct recipe.code (fun c => { c with offSizePassed := bump c.offSizePassed })) s
  let s := countProduct recipe.code (fun c => { c with admitted := bump c.admitted })
    (countLine (fun b => { b with admitted := bump b.admitted }) s)
  let s := addCrumb l recipe.crumb s
  let s := (s.onApproach l List.tail).onBladeZone l (fun _ => some record)
  estimateTest l (syncLane l (armGate l s))

/-- Admits the head when the lane admits now (R67). -/
def admitIfReady (l : Lane) (s : State) : State :=
  match s.tt.approach.get l with
  | r :: _ => when (admits l s) (admission l r) s
  | [] => s

/-- The infeed belt's command (R71). -/
def infeedFollow (l : Lane) (s : State) : State :=
  setInfeed l (producing s && !((s.tt.blade.get l).isSome && (s.lic.get l).blade != .ready)) s

end Sys2Proof.Machine
end

