-- ==== Sys2Proof/Machine/Merge.lean ====
section
/-! DEFINITION. The Merge and Bag Controller (R78 to R91) and the Tie Station Controller (R92 to R97): selection, routes,
the push stroke, the bag confirm, the handoff, the tyer cycle, jams and abandonment. -/

namespace Sys2Proof.Machine

/-- The cycle ends: selected record and route absent, bagger IDLE. -/
def endCycle (s : State) : State :=
  s.onMbc (fun m => { m with bagger := .idle, route := none, selected := none })

/-- The lane of the selected record. -/
def MergeBag.lane (m : MergeBag) : Option Lane := m.selected.map (·.1)

/-- The selected record while it is the head of its lane's ACCUM (R4). -/
def selectedHead (s : State) : Option (Lane × LoafRecord) :=
  match s.mbc.selected with
  | some (l, tag) =>
    match s.tt.accum.get l with
    | r :: _ => if r.tag == tag then some (l, r) else none
    | [] => none
  | none => none

/-- The record in BAGGER while it is the selected one. -/
def selectedInBagger (s : State) : Option LoafRecord :=
  match s.mbc.selected, s.tt.bagger with
  | some (_, tag), some r => if r.tag == tag then some r else none
  | _, _ => none

/-! ## The tyer cycle -/

/-- TWIST with a clip: the drive on, the tie timer and the twist's phase timer running (R93). -/
def startTwist (s : State) : State :=
  setTyer true (s.onTsc (fun t => { t with tyer := .twist, tieTimer := some s.params.tieTimeout, leftHome := false,
                                           phaseTimer := some 200 }))

/-- The entry to TWIST with its clip check (R93). -/
def enterTwist (s : State) : State :=
  if 0 < s.tsc.clipCount then startTwist s
  else raiseFault .clipsOut .out none (s.onTsc (fun t => { t with tyer := .twist, tieTimer := none, phaseTimer := none }))

/-- The start of a tyer cycle (R92). -/
def startTyer (s : State) : State :=
  if s.params.purgeInterval != 0 && decide (s.params.purgeInterval ≤ s.tsc.tiesSincePurge) then
    airRequest .purge (s.onTsc (fun t => { t with tyer := .purgeWait }))
  else enterTwist s

/-- The end of a purge (R92). -/
def endPurge (s : State) : State :=
  let s := setPurge false (s.onTsc (fun t => { t with purge := none, tiesSincePurge := 0 }))
  enterTwist (airRelease .purge s)

/-- A number as five decimal digits. -/
def fiveDigits (n : Nat) : List Byte := [digit (n / 10000), digit (n / 1000), digit (n / 100), digit (n / 10), digit n]

/-- The letter of a lane. -/
def laneLetter : Lane → Byte
  | .a => 0x41
  | .b => 0x42

/-- A clip code (R94). -/
def clipCode (day shelf : Nat) (l : Lane) (shift : Nat) : List Byte :=
  fiveDigits (day + shelf) ++ [laneLetter l] ++ [digit (shift / 10), digit shift]

/-- The entry to CLIP (R94). -/
def enterClip (s : State) : State :=
  let code := match s.tt.tyer with
    | some r => some (clipCode s.cal.day (recipeAt (r.recipeSlot.getD 0) s).shelf r.lane s.tu.live.shift)
    | none => none
  let s := when (decide (0 < s.tsc.clipCount)) (setClipCount (s.tsc.clipCount - 1)) s
  let s := countLine (fun b => { b with clipsUsed := bump b.clipsUsed }) s
  setPrinter code (s.onTsc (fun t => { t with tyer := .clip, phaseTimer := some 100, code := code }))

/-- The completion of a tie (R95). -/
def completeTie (s : State) : State :=
  let s := match s.tt.tyer with
    | some r => joinExit { r with clipCode := s.tsc.code } (s.onTt (fun t => { t with tyer := none }))
    | none => s
  let s := countLine (fun b => { b with ties := bump b.ties }) s
  s.onTsc (fun t => { t with tiesSincePurge := min (t.tiesSincePurge + 1) 65535, tieTimer := none, code := none,
                             leftHome := false, tyer := .idle })

/-- Completes a tie in HOME_WAIT when the switch is closed and the left-home mark set (R95). -/
def tieIfHome (s : State) : State :=
  when (s.tsc.tyer == .homeWait && s.pins.tyerHome && s.tsc.leftHome) completeTie s

/-- The end of CLIP (R95). LOG 26. -/
def enterHomeWait (s : State) : State :=
  tieIfHome (setPrinter none (setTyer false (s.onTsc (fun t => { t with tyer := .homeWait, phaseTimer := none }))))

/-- The tie timer runs out (R96). -/
def jamTyer (s : State) : State :=
  let tag := s.tt.tyer.map (·.tag)
  let s := setPrinter none (setTyer false s)
  let s := s.onTt (fun t => { t with tyer := t.tyer.map (fun r => { r with jammed := true }) })
  let s := s.onTsc (fun t => { t with phaseTimer := none, tieTimer := none, code := none, tyer := .idle })
  raiseFault .tyerJam .out tag s

/-! ## The handoff (R91) -/

/-- The handoff to an empty TYER, while the line is not in HOLD. -/
def handoff (s : State) : State :=
  match s.tt.bagger, s.tt.tyer with
  | some r, none =>
    if s.mbc.bagger == .handoff && s.lsc.line != .hold then
      let s := endCycle (s.onTt (fun t => { t with bagger := none, tyer := some r }))
      when (s.tsc.tyer == .idle) startTyer s
    else s
  | _, _ => s

/-! ## Selection (R80 to R82, R86) -/

/-- The lane that a selection takes (R81). -/
def chosenLane (s : State) : Option (Lane × LoafRecord) :=
  match candidate .a s, candidate .b s with
  | some r, none => some (.a, r)
  | none, some q => some (.b, q)
  | some r, some q => if s.mbc.lastServed == some .a then some (.b, q) else some (.a, r)
  | none, none => none

/-- The bag check (R86). -/
def bagCheck (s : State) : State := if 0 < s.mbc.bagCount then requestBag s else waitForBags s

/-- The route goes on from where it starts, after any homing motion (R82, R85, R86). -/
def startRoute (s : State) : State :=
  match s.mbc.route with
  | some .reject => setFlap true (s.onMbc (fun m => { m with phase := .flapSettle, flapTimer := some 100 }))
  | _ => bagCheck s

/-- The route of a record by its condition (R82). -/
def routeOf (r : LoafRecord) : Route := if r.condition == .sound then .bag else .reject

/-- An UNCERTAIN record at its selection (R82). -/
def LoafRecord.selected (r : LoafRecord) : LoafRecord :=
  if r.condition == .uncertain then { r with condition := .reject, rejectReason := some .uncertain } else r

/-- The homing motion of a pusher that is out (R82). -/
def startHoming (l : Lane) (s : State) : State :=
  valveOn l .retract (s.onMbc (fun m => { m with phase := .homing, strokeTimer := some s.params.strokeTimeout }))

/-- The selection of a lane's candidate (R81, R82). -/
def selectLane (l : Lane) (r : LoafRecord) (s : State) : State :=
  let s := (s.onAccum l (mapHead .selected)).onMbc
    (fun m => { m with bagger := .select, route := some (routeOf r), selected := some (l, r.tag), lastServed := some l })
  if s.pins.home.get l then startRoute s else startHoming l s

/-- Whether the arbiter may select (R80). -/
def maySelect (s : State) : Bool :=
  producing s && !outfeedHeld s && s.mbc.bagger == .idle && s.tt.bagger.isNone

/-- Selects a candidate when the arbiter may and a lane has one (R80). -/
def selectIfReady (s : State) : State :=
  match chosenLane s with
  | some (l, r) => when (maySelect s) (selectLane l r) s
  | none => s

/-! ## The push stroke (R83 to R85, R88, R91) -/

/-- EXTEND begins on the selected lane's pusher. -/
def startStroke (s : State) : State :=
  let s := s.onMbc (fun m => { m with bagger := .pushing, phase := .extend, strokeTimer := some s.params.strokeTimeout })
  match s.mbc.lane with
  | some l => valveOn l .extend s
  | none => s

/-- The end of FLAP_SETTLE (R85). -/
def flapSettled (s : State) : State := startStroke (s.onMbc (fun m => { m with flapTimer := none }))

/-- The end of the opening (R88): the record moves to BAGGER and the push starts. -/
def openingOver (s : State) : State :=
  let s := s.onMbc (fun m => { m with openTimer := none })
  match selectedHead s with
  | some (l, r) =>
    let s := (removeAccumHead l s).onTt (fun t => { t with bagger := some { r with arrived := false, departure := none } })
    let s := startStroke (accumHeadLeft l r s)
    s.onMbc (fun m => { m with confirmWatch := some 600, confirmed := false })
  | none => endCycle s

/-- RETRACT begins when the retract valve turns on (R83). -/
def startRetract (s : State) : State :=
  s.onMbc (fun m => { m with phase := .retract, strokeTimer := some s.params.strokeTimeout })

/-- The extended switch closes in EXTEND (R83): DWELL, until the retract valve turns on. -/
def endExtend (l : Lane) (s : State) : State :=
  let s := s.onMbc (fun m => { m with phase := .dwell, strokeTimer := none })
  let s := valveOn l .retract (valveOff l .extend s)
  when ((s.dou.pusher.get l).retractOn) startRetract s

/-- The freeing of a rejected record at pusher home (R85). -/
def freeRejected (s : State) : State :=
  let s := match selectedHead s with
    | some (l, r) => accumHeadLeft l r (countRejected r (rejectCounter r) (removeAccumHead l s))
    | none => s
  endCycle (setFlap false s)

/-- Where the bagger goes at the end of a stroke (R85, R91), and at the removal of BAGGER_JAM (R84). -/
def strokeDone (s : State) : State :=
  match s.mbc.route with
  | some .reject => freeRejected s
  | _ =>
    if s.mbc.confirmed && (selectedInBagger s).isSome then s.onMbc (fun m => { m with bagger := .handoff })
    else if s.mbc.confirmWatch.isSome then s.onMbc (fun m => { m with bagger := .confirm })
    else endCycle s

/-- A motion that ends at the home switch: the retract valve off, no phase, no timer. -/
def motionHome (l : Lane) (s : State) : State :=
  valveOff l .retract (s.onMbc (fun m => { m with phase := .none, strokeTimer := none }))

/-- The home switch of a pusher closes (R82, R83). -/
def pusherHome (l : Lane) (s : State) : State :=
  if s.mbc.lane != some l then s
  else
    match s.mbc.phase with
    | .homing => startRoute (motionHome l s)
    | .retract => strokeDone (motionHome l s)
    | _ => s

/-- The tag a BAGGER_JAM carries: the selected record's, while it is allocated (R83). -/
def jamDetail (s : State) : Option Nat :=
  match s.mbc.selected with
  | some (_, tag) => if allocatedTag tag s then some tag else none
  | none => none

/-- The stroke timer runs out in EXTEND or RETRACT (R83). -/
def strokeStopped (s : State) : State :=
  let detail := jamDetail s
  let s := match s.mbc.lane with
    | some l => valveOff l .retract (valveOff l .extend s)
    | none => s
  raiseFault .baggerJam .out detail (s.onMbc (fun m => { m with phase := .none, strokeTimer := none, stopped := true }))

/-- The stroke timer runs out in HOMING (R82): the cycle ends. -/
def homingFailed (s : State) : State :=
  let s := match s.mbc.lane with
    | some l => valveOff l .retract s
    | none => s
  endCycle (raiseFault .baggerJam .out none (s.onMbc (fun m => { m with phase := .none, strokeTimer := none })))

/-- The removal of BAGGER_JAM ends a stopped cycle (R84). -/
def endStopped (s : State) : State :=
  when s.mbc.stopped (fun s => strokeDone (s.onMbc (fun m => { m with stopped := false }))) s

/-! ## The bag confirm (R89 to R91) -/

/-- A leading edge at BG while the watch runs (R89). -/
def bagConfirmed (s : State) : State :=
  let s := bagConfirmNotice (s.onMbc (fun m => { m with confirmed := true, confirmWatch := none }))
  when (s.mbc.bagger == .confirm) (State.onMbc (fun m => { m with bagger := .handoff })) s

/-- The bag confirm watch runs out: a bag miss (R89). -/
def bagMissed (s : State) : State :=
  let s := s.onMbc (fun m => { m with confirmWatch := none })
  let s := match selectedInBagger s with
    | some r => raiseFault .bagMiss .out (some r.tag) (countLost r (s.onTt (fun t => { t with bagger := none })))
    | none => s
  when (s.mbc.bagger == .confirm) endCycle s

/-- The bag blast ends (R90): the valve closes, the channel is released, and a request that waited for it is made (R87). -/
def endBlast (s : State) : State :=
  let s := airRelease .bag (setBagBlast false (s.onMbc (fun m => { m with blast := none })))
  when (s.mbc.bagger == .airWait && (s.ama.waiting.get .bag).isNone) (airRequest .bag) s

/-! ## Abandonment (R102, R103) -/

/-- The Merge and Bag Controller abandons its cycle. -/
def abandonBagger (s : State) : State :=
  let s := s.onMbc (fun m => { m with bagger := .idle, route := none, selected := none, phase := .none, strokeTimer := none,
                                      flapTimer := none, openTimer := none, confirmWatch := none, confirmed := false,
                                      blast := none, stopped := false })
  let s := setFlap false (setBagBlast false s)
  let s := valveOff .a .retract (valveOff .a .extend (valveOff .b .retract (valveOff .b .extend s)))
  airWithdraw .bag s

/-- The Tie Station Controller abandons its cycle. -/
def abandonTyer (s : State) : State :=
  let s := s.onTsc (fun t => { t with tyer := .idle, purge := none, phaseTimer := none, tieTimer := none, code := none })
  airWithdraw .purge (setPurge false (setPrinter none (setTyer false s)))

end Sys2Proof.Machine
end

