-- ==== Sys2Proof/Machine/Store.lean ====
section
/-! DEFINITION. The Record Store: content layouts (R165, R188), headers and check values (R165), the writer and its jobs
(R166 to R169), the ring of shift numbers (R168), the checkpoint (R170), the start-up scan (R58, R59, R171, R172). -/

namespace Sys2Proof.Machine

/-! ## Contents (R165) -/

/-- A number from bytes, high byte first. -/
def natOf (l : List Byte) : Nat := l.foldl (fun n b => n * 256 + b.toNat) 0

/-- The number in n bytes at an offset. -/
def numAt (l : List Byte) (i n : Nat) : Nat := natOf ((l.drop i).take n)

/-- A calendar reading: day, second. -/
def stampBytes (t : Stamp) : List Byte := u16 t.day ++ u32 t.second

/-- An optional open time. -/
def openBytes : Option Stamp → List Byte
  | some t => u8 1 ++ stampBytes t
  | none => List.replicate 7 0

/-- The thirteen line block counters. -/
def lineBytes (b : LineBlock) : List Byte :=
  u32 b.admitted ++ u32 b.bagged ++ u32 b.rejected ++ u32 b.lost ++ u32 b.ties ++ u32 b.clipsUsed ++ u32 b.bagsUsed
    ++ u32 b.crumbClears.a ++ u32 b.crumbClears.b ++ u32 b.runSeconds ++ u32 b.holdSeconds ++ u32 b.stopSeconds
    ++ u32 b.faultsTaken

/-- A product code and its eight counters. -/
def entryBytes (code : Nat) (c : Counters) : List Byte :=
  u16 code ++ u32 c.admitted ++ u32 c.bagged ++ u32 c.rejectedOffSize ++ u32 c.rejectedUncertain ++ u32 c.rejectedTieFail
    ++ u32 c.rejectedStopDiscard ++ u32 c.lost ++ u32 c.offSizePassed

/-- The count of product entries, the other mark, the line block, as part 0 ends (R160, R174). -/
def tailBytes (t : Totals) : List Byte := u8 t.products.length ++ flag t.other.isSome ++ lineBytes t.line

/-- The product entries and the other entry, zeros when absent. -/
def entriesBytes (t : Totals) : List Byte :=
  (t.products.flatMap (fun e => entryBytes e.code e.counters)) ++ entryBytes 0 (t.other.getD .zero)

/-- Part 0 of SHIFT_READ without the shift number. -/
def closedHead (c : ClosedShift) : List Byte :=
  openBytes c.totals.openTime ++ stampBytes c.closeTime ++ u8 c.totals.carriedIn ++ u8 c.carriedOut ++ tailBytes c.totals

/-- A shift record's content. -/
def shiftContent (c : ClosedShift) : List Byte := closedHead c ++ entriesBytes c.totals

/-- The totals of a checkpoint: as a shift record's without the close time and carried_out. -/
def totalsContent (t : Totals) : List Byte :=
  openBytes t.openTime ++ u8 t.carriedIn ++ tailBytes t ++ entriesBytes t

/-- The checkpoint of the present moment (R170). -/
def checkpointContent (s : State) : List Byte :=
  totalsContent s.tu.live ++ u16 s.mbc.bagCount ++ u16 s.tsc.clipCount ++ u16 s.cc.a.estimate ++ u16 s.cc.b.estimate
    ++ opt8 s.lic.a.active ++ opt8 s.lic.b.active

/-- The recipe table's content. -/
def recipesContent (rt : List Recipe) : List Byte := rt.flatMap recipeBytes

/-! ## Reading contents back -/

def readStamp (l : List Byte) (i : Nat) : Stamp := { day := numAt l i 2, second := numAt l (i + 2) 4 }

def readOpen (l : List Byte) : Option Stamp := if numAt l 0 1 == 1 then some (readStamp l 1) else none

def readLine (l : List Byte) (i : Nat) : LineBlock where
  admitted := numAt l i 4
  bagged := numAt l (i + 4) 4
  rejected := numAt l (i + 8) 4
  lost := numAt l (i + 12) 4
  ties := numAt l (i + 16) 4
  clipsUsed := numAt l (i + 20) 4
  bagsUsed := numAt l (i + 24) 4
  crumbClears := ⟨numAt l (i + 28) 4, numAt l (i + 32) 4⟩
  runSeconds := numAt l (i + 36) 4
  holdSeconds := numAt l (i + 40) 4
  stopSeconds := numAt l (i + 44) 4
  faultsTaken := numAt l (i + 48) 4

def readCounters (l : List Byte) (i : Nat) : Counters where
  admitted := numAt l (i + 2) 4
  bagged := numAt l (i + 6) 4
  rejectedOffSize := numAt l (i + 10) 4
  rejectedUncertain := numAt l (i + 14) 4
  rejectedTieFail := numAt l (i + 18) 4
  rejectedStopDiscard := numAt l (i + 22) 4
  lost := numAt l (i + 26) 4
  offSizePassed := numAt l (i + 30) 4

/-- Product entries from an offset. -/
def readProducts (l : List Byte) (i : Nat) : Nat → List ProductEntry
  | 0 => []
  | n + 1 => { code := numAt l i 2, counters := readCounters l i } :: readProducts l (i + 34) n

/-- Totals whose product count stands at an offset, with the given header fields. -/
def readTotals (shift carriedIn : Nat) (base : Nat) (l : List Byte) : Totals where
  shift := shift
  openTime := readOpen l
  carriedIn := carriedIn
  line := readLine l (base + 2)
  products := readProducts l (base + 54) (numAt l base 1)
  other := if numAt l (base + 1) 1 == 1 then some (readCounters l (base + 54 + 34 * numAt l base 1)) else none

/-- A stored shift record. -/
def readShift (shift : Nat) (l : List Byte) : ClosedShift where
  totals := readTotals shift (numAt l 13 1) 15 l
  closeTime := readStamp l 7
  carriedOut := numAt l 14 1

/-- The totals of a stored checkpoint. -/
def readCheckpointTotals (shift : Nat) (l : List Byte) : Totals := readTotals shift (numAt l 7 1) 8 l

/-- Where a checkpoint's counts begin, after its totals. -/
def checkpointTail (l : List Byte) : Nat := 62 + 34 * (numAt l 8 1 + 1)

def readOpt8 (l : List Byte) (i : Nat) : Option Nat := if numAt l i 1 == 1 then some (numAt l (i + 1) 1) else none

/-- One slot from its 24 bytes. -/
def readRecipe (l : List Byte) : Recipe where
  code := numAt l 0 2
  name := trimName ((l.drop 2).take 12)
  nominal := numAt l 14 2
  tolerance := numAt l 16 1
  feed := numAt l 17 2
  crumb := numAt l 19 1
  blast := numAt l 20 2
  shelf := numAt l 22 1
  reject := numAt l 23 1 == 1

/-- Slots from consecutive 24-byte fields. -/
def readRecipes (l : List Byte) : Nat → List Recipe
  | 0 => []
  | n + 1 => readRecipe (l.take 24) :: readRecipes (l.drop 24) n

/-! ## Areas and check values -/

/-- The first page of an area: slots 0–23, checkpoint 24, recipes 25. -/
def areaPage (area : Nat) : Nat := if area < 24 then 16 * area else if area = 24 then 384 else 400

/-- How many content pages an area has. -/
def contentPages (area : Nat) : Nat := if area = 25 then 7 else 15

/-- The address of an area's content. -/
def contentAddress (area : Nat) : Nat := (areaPage area + 1) * 64

/-- The check value (R165): over the shift number, the length and the content. The length enters as two bytes, high byte
first, and the recipe area has no shift number: DESIGN CHOICE, LOG 49. -/
def checkValue (number : Option Nat) (content : List Byte) : BitVec 16 :=
  let head := match number with
    | some n => u16 n
    | none => []
  crc16 (head ++ u16 content.length ++ content)

def RecordStore.header (area : Nat) (r : RecordStore) : Header := r.headers.getD area .erased

def RecordStore.content (area : Nat) (r : RecordStore) : List Byte :=
  Memory.readAll r.cells (contentAddress area) (r.header area).length

/-- Whether an area's stored check value agrees with its contents. -/
def RecordStore.agrees (area : Nat) (r : RecordStore) : Bool :=
  (r.header area).check == checkValue (r.header area).number (r.content area)

/-- How the scan classifies an area, with the shift number it keeps (R171). -/
def RecordStore.classify (area : Nat) (r : RecordStore) : LogEntry :=
  let h := r.header area
  match h.marker with
  | .erased => .blank
  | .valid => if r.agrees area then { state := .valid, number := h.number } else { state := .torn, number := h.number }
  | .writing => { state := .torn, number := h.number }
  | .unrecognised => { state := .torn, number := none }

def LogState.area : LogState → AreaState
  | .valid => .valid
  | .blank => .blank
  | .writing | .torn => .torn

/-! ## The ring of shift numbers (R168) -/

/-- Whether shift number a is later than shift number b. -/
def later (a b : Nat) : Bool :=
  let d := (a + 65535 - b % 65535) % 65535
  decide (1 ≤ d) && decide (d ≤ 32767)

/-- The number an entry holds in the order of the log: VALID and TORN slots that hold one. -/
def LogEntry.numbered (e : LogEntry) : Option Nat :=
  match e.state with
  | .valid | .torn => e.number
  | _ => none

/-- The latest numbered slot, from a slot number upward. -/
def latestFrom (i : Nat) : List LogEntry → Option (Nat × Nat × LogState)
  | [] => none
  | e :: rest =>
    match e.numbered, latestFrom (i + 1) rest with
    | some n, some (j, m, st) => if later n m then some (i, n, e.state) else some (j, m, st)
    | some n, none => some (i, n, e.state)
    | none, best => best

/-- The slot, number and state of the latest shift number of the log. -/
def latest (index : List LogEntry) : Option (Nat × Nat × LogState) := latestFrom 0 index

/-- The slot the next SHIFT_RECORD job chooses. -/
def nextSlot (index : List LogEntry) : Nat :=
  match latest index with
  | some (slot, _, _) => (slot + 1) % 24
  | none => 0

/-- The shift number after another. -/
def nextShift (n : Nat) : Nat := if n = 65535 then 1 else n + 1

/-! ## The writer (R166, R167, R169) -/

/-- The area a job writes. -/
def jobArea (k : JobKind) (index : List LogEntry) : Nat :=
  match k with
  | .shiftRecord => nextSlot index
  | .checkpoint => 24
  | .recipes => 25

def RecordStore.begin (j : Job) (r : RecordStore) : RecordStore :=
  { r with writer := some { job := j, area := jobArea j.kind r.index, programs := 0 } }

/-- Serves the queue when the writer is IDLE: SHIFT_RECORD, CHECKPOINT, RECIPES (R167). -/
def RecordStore.serve (r : RecordStore) : RecordStore :=
  match r.queue.shiftRecord, r.queue.checkpoint, r.queue.recipes with
  | some j, _, _ => { r with queue := { r.queue with shiftRecord := none } }.begin j
  | none, some j, _ => { r with queue := { r.queue with checkpoint := none } }.begin j
  | none, none, some j => { r with queue := { r.queue with recipes := none } }.begin j
  | none, none, none => r

def JobQueue.put (j : Job) (q : JobQueue) : JobQueue :=
  match j.kind with
  | .shiftRecord => { q with shiftRecord := some j }
  | .checkpoint => { q with checkpoint := some j }
  | .recipes => { q with recipes := some j }

/-- A job is requested: it starts at once on an IDLE writer, else it is queued or replaces the queued one (R167). -/
def requestJob (j : Job) (s : State) : State :=
  s.onRs (fun r => if r.writer.isNone then r.begin j else { r with queue := r.queue.put j })

def JobQueue.isEmpty (q : JobQueue) : Bool := q.shiftRecord.isNone && q.checkpoint.isNone && q.recipes.isNone

/-- Whether a job is in progress or queued (R185). -/
def RecordStore.busy (r : RecordStore) : Bool := r.writer.isSome || !r.queue.isEmpty

def RecordStore.setHeader (area : Nat) (h : Header) (r : RecordStore) : RecordStore :=
  { r with headers := r.headers.set area h }

def RecordStore.setIndex (area : Nat) (e : LogEntry) (r : RecordStore) : RecordStore :=
  { r with index := r.index.set area e }

/-- The bytes of content page k, counted from 1, padded as an erased page. LOG 27. -/
def pageBytes (content : List Byte) (k : Nat) : List Byte := padTo 64 0xFF ((content.drop (64 * (k - 1))).take 64)

def RecordStore.writePage (area k : Nat) (b : List Byte) (r : RecordStore) : RecordStore :=
  { r with cells := Memory.writeAll r.cells ((areaPage area + k) * 64) b }

/-- The bytes of a page whose program did not finish or did not verify: free values. LOG 15. -/
def tornPage (count : Nat) : List Byte := (List.range 64).map (Config.tornByte count)

/-- The header of step 1. -/
def writingHeader (j : Job) : Header where
  marker := .writing
  number := j.number
  length := j.content.length
  check := 0

/-- The header of step 3. -/
def validHeader (j : Job) : Header where
  marker := .valid
  number := j.number
  length := j.content.length
  check := checkValue j.number j.content

/-- A header whose program failed or was torn. -/
def unrecognisedHeader : Header where
  marker := .unrecognised
  number := none
  length := 0
  check := 0

/-- NV_WRITE_FAIL of a failed job (R169). -/
def failureFault (k : JobKind) (done : Bool) (s : State) : State :=
  if done then s else raiseFault .nvWriteFail .line (some k.code) s

/-- A job ends (R57, R169); the area's entry is what the writer leaves of it. -/
def endJob (w : JobInProgress) (e : LogEntry) (s : State) : State :=
  let done := e.state == .valid
  let s := s.onRs (fun r => { r with writer := none })
  let s := match w.job.kind with
    | .shiftRecord =>
      let s := s.onRs (fun r => { r with index := r.index.set w.area e,
                                         lastShift := some { number := w.job.number.getD 0, slot := w.area, stored := done } })
      raiseKey .shiftStored (s.onTu (fun t => { t with closeBuffer := none }))
    | .checkpoint =>
      raiseKey (.storeDone .checkpoint)
        (s.onRs (fun r => { r with ckpt := (e.state.area, e.number), lastCkpt := some (done, w.job.number.getD 0) }))
    | .recipes => raiseKey (.storeDone .recipes) (s.onRs (fun r => { r with lastRecipes := some done }))
  (failureFault w.job.kind done s).onRs RecordStore.serve

/-- A program has been verified (R166, R168). -/
def programVerified (w : JobInProgress) (s : State) : State :=
  let n := contentPages w.area
  let advance := fun r : RecordStore => { r with writer := some { w with programs := w.programs + 1 } }
  if w.programs = 0 then
    let s := s.onRs (fun r => advance (r.setHeader w.area (writingHeader w.job)))
    when (w.job.kind == .shiftRecord) (State.onRs (RecordStore.setIndex w.area { state := .writing, number := w.job.number })) s
  else if w.programs ≤ n then
    s.onRs (fun r => advance (r.writePage w.area w.programs (pageBytes w.job.content w.programs)))
  else endJob w { state := .valid, number := w.job.number } (s.onRs (RecordStore.setHeader w.area (validHeader w.job)))

/-- A program has failed its verify (R166): the job is abandoned. -/
def programFailed (w : JobInProgress) (s : State) : State :=
  if w.programs = 0 ∨ contentPages w.area < w.programs then
    endJob w { state := .torn, number := none } (s.onRs (RecordStore.setHeader w.area unrecognisedHeader))
  else
    let page := tornPage s.freeCount
    let s := { s with freeCount := s.freeCount + 1 }
    endJob w { state := .torn, number := w.job.number } (s.onRs (RecordStore.writePage w.area w.programs page))

/-- What a reset leaves of the program in flight (R166). -/
def tearProgram (tear : Tear) (count : Nat) (w : JobInProgress) (r : RecordStore) : RecordStore :=
  let atHeader := w.programs = 0 ∨ contentPages w.area < w.programs
  match tear with
  | .beforeProgram =>
    if atHeader then r.setHeader w.area .erased else r.writePage w.area w.programs (List.replicate 64 0xFF)
  | .duringProgram markerReads =>
    if atHeader then
      if !markerReads then r.setHeader w.area unrecognisedHeader
      else if w.programs = 0 then r.setHeader w.area (writingHeader w.job)
      else r.setHeader w.area { validHeader w.job with check := ~~~(checkValue w.job.number w.job.content) }
    else r.writePage w.area w.programs (tornPage count)

/-! ## Checkpoint jobs -/

def requestCheckpoint (s : State) : State :=
  requestJob { kind := .checkpoint, number := some s.tu.live.shift, content := checkpointContent s } s

/-! ## The start-up scan (R171) -/

/-- The log index as the scan builds it. -/
def scanIndex (r : RecordStore) : List LogEntry := (List.range 24).map (fun k => r.classify k)

/-- The recipe table the scan loads (R58). -/
def scanRecipes (r : RecordStore) : List Recipe :=
  if (r.classify 25).state == .valid then readRecipes (r.content 25) 16 else List.replicate 16 .empty

/-- Whether the scan accepts the checkpoint. -/
def acceptsCheckpoint (index : List LogEntry) (c : LogEntry) : Bool :=
  c.state == .valid && index.all (fun e => match e.numbered with
    | some n => later (c.number.getD 0) n
    | none => true)

/-- The live totals that the scan sets (R171). -/
def scanTotals (r : RecordStore) (index : List LogEntry) (accepted : Bool) : Totals :=
  if accepted then readCheckpointTotals (((r.classify 24).number).getD 0) (r.content 24)
  else
    match latest index with
    | some (_, n, _) => .fresh (nextShift n)
    | none => .fresh 1

/-- What becomes of a lane's stored selection (R59), with the restored slot's product code. -/
def selectionOutcome (rt : List Recipe) : Option Nat → SelectionOutcome × Nat
  | none => (.none, 0)
  | some slot =>
    let code := (rt.getD slot .empty).code
    if code = 0 then (.dropped, 0) else (.restored, code)

/-- The stored selections of an accepted checkpoint. -/
def storedSelections (r : RecordStore) (accepted : Bool) : PerLane (Option Nat) :=
  let c := r.content 24
  let i := checkpointTail c
  if accepted then ⟨readOpt8 c (i + 8), readOpt8 c (i + 10)⟩ else ⟨none, none⟩

/-- The origin of the live totals (R172). -/
def originOf (index : List LogEntry) (accepted : Bool) : Origin :=
  if accepted then .checkpoint
  else
    match latest index with
    | some (_, _, .valid) => .afterRecord
    | some _ => .afterTorn
    | none => .first

/-- The findings of the scan (R172). -/
def findingsOf (r : RecordStore) (index : List LogEntry) (accepted : Bool) (live : Nat) (rt : List Recipe) : Findings where
  validSlots := index.countP (·.state == .valid)
  tornSlots := index.countP (·.state == .torn)
  blankSlots := index.countP (·.state == .blank)
  latest := (latest index).map (fun x => (x.2.1, x.2.2))
  checkpoint := (r.classify 24).state.area
  checkpointUse := if accepted then .used else if (r.classify 24).state == .valid then .stale else .unusable
  origin := originOf index accepted
  liveShift := live
  recipes := (r.classify 25).state.area
  recipesLoaded := rt.countP (·.code != 0)
  selection :=
    let sel := storedSelections r accepted
    ⟨selectionOutcome rt sel.a, selectionOutcome rt sel.b⟩

/-- Stage 1 of R190: the index, the table, the live totals with the start-up tally, the findings. -/
def scanSets (s : State) : State :=
  let r := s.rs
  let index := scanIndex r
  let rt := scanRecipes r
  let c := r.classify 24
  let accepted := acceptsCheckpoint index c
  let live := scanTotals r index accepted
  let live := { live with line := { live.line with faultsTaken := min (live.line.faultsTaken + s.tu.tally) 4294967295 } }
  let s := s.onRs (fun r => { r with index := index, ckpt := (c.state.area, c.number),
                                     findings := some (findingsOf r index accepted live.shift rt) })
  let s := s.onRt (fun _ => rt)
  s.onTu (fun t => { t with live := live, tally := 0, totalsSet := true })

/-- A lane takes a restored selection (R59, R60). -/
def restoreSelection (l : Lane) (slot : Option Nat) (s : State) : State :=
  match slot with
  | some n => if (recipeAt n s).code = 0 then s else activate l n s
  | none => s

/-- Stage 2 of R190: the restorations of an accepted checkpoint. -/
def scanRestores (s : State) : State :=
  let accepted := acceptsCheckpoint s.rs.index (s.rs.classify 24)
  if !accepted then s
  else
    let c := s.rs.content 24
    let i := checkpointTail c
    let sel := storedSelections s.rs accepted
    let s := s.onMbc (fun m => { m with bagCount := numAt c i 2 })
    let s := s.onTsc (fun t => { t with clipCount := numAt c (i + 2) 2 })
    let s := s.onCrumb .a (fun k => { k with estimate := numAt c (i + 4) 2 })
    let s := s.onCrumb .b (fun k => { k with estimate := numAt c (i + 6) 2 })
    syncLanes (restoreSelection .b sel.b (restoreSelection .a sel.a s))

end Sys2Proof.Machine
end

