-- ==== Sys2Proof/Machine/LineState.lean ====
section
/-! DEFINITION. The Line State Controller (R124 to R133): the entries to the line states and what every block does at
them, and the settling of one step: the line's own moves, the blades' demand, the gaps, the handoff, the selection, the
admissions, the infeed belts. LOG 4. -/

namespace Sys2Proof.Machine

/-- A change of line state (R124, R132). -/
def changeLine (new : LineState) (s : State) : State :=
  raiseKey .lineState (s.onLsc (fun c => { c with previous := some c.line, line := new }))

/-- A change of line state that ends a hold: the hold sources empty, the return state absent. -/
def leaveHold (s : State) : State := s.onLsc (fun c => { c with returnState := none, holdHost := false })

/-- The crumb entry test at a line state that comes from INIT, SPIN_UP or STOP (R107). -/
def crumbEntry (was : LineState) (s : State) : State :=
  match was with
  | .init | .spinUp | .stop => entryTest .b (entryTest .a s)
  | _ => s

/-- The entry to STOP (R130): every block abandons its work, in the order of LOG 18. -/
def enterStop (s : State) : State :=
  let s := leaveHold (changeLine .stop s)
  let s := stopMarking (dropOutputs s)
  let s := syncLanes (bladeOff .b (bladeOff .a s))
  let s := abandonTyer (abandonBagger s)
  abandonCrumb .b (abandonCrumb .a s)

/-- The entry to STANDBY (R131): the conveyors off, blades OFF, station cycles abandoned, watches removed; from DRAIN, HOLD
or STOP a checkpoint is queued. -/
def enterStandby (s : State) : State :=
  let was := s.lsc.line
  let s := leaveHold (changeLine .standby s)
  let s := removeWatches (setConveyors false s)
  let s := syncLanes (bladeOff .b (bladeOff .a s))
  let s := abandonTyer (abandonBagger s)
  let s := when (was == .drain || was == .hold || was == .stop) requestCheckpoint s
  crumbEntry was s

/-- The entry to SPIN_UP (R125, R128): the conveyors stay off; from STANDBY the watches of blocked eyes start. -/
def enterSpinUp (s : State) : State :=
  let was := s.lsc.line
  let s := setConveyors false (changeLine .spinUp s)
  syncLanes (when (was == .standby) startWatches s)

/-- The entry to RUN, also from HOLD (R126, R128, R135). -/
def enterRun (s : State) : State :=
  let was := s.lsc.line
  crumbEntry was (syncLanes (setConveyors true (leaveHold (changeLine .run s))))

/-- The entry to DRAIN, also from HOLD (R129, R135). -/
def enterDrain (s : State) : State := syncLanes (setConveyors true (leaveHold (changeLine .drain s)))

/-- The entry to HOLD (R127): the crumb cycles that wait for air go back (R114). -/
def enterHold (back : LineState) (s : State) : State :=
  let s := (changeLine .hold s).onLsc (fun c => { c with returnState := some back, holdHost := true })
  holdCrumb .b (holdCrumb .a (syncLanes (setConveyors false s)))

/-! ## Settling -/

/-- A stop fault drives the line to STOP from SPIN_UP, RUN, HOLD or DRAIN (R130). -/
def stopIfFaulted (s : State) : State :=
  match s.lsc.line with
  | .spinUp | .run | .hold | .drain => when (stopFault s) enterStop s
  | _ => s

/-- SPIN_UP ends when both spun flags are set (R126). -/
def runIfSpun (s : State) : State := when (s.lsc.line == .spinUp && spun .a s && spun .b s) enterRun s

/-- DRAIN ends when the pool is empty (R129). -/
def standbyIfDrained (s : State) : State := when (s.lsc.line == .drain && poolEmpty s) enterStandby s

/-- The moves that the line makes by itself, with the blades' demand between them. -/
def advanceLine (s : State) : State :=
  standbyIfDrained (runIfSpun (bladeFollow .b (bladeFollow .a (stopIfFaulted s))))

/-- What the blocks do at the first moment their conditions hold: gaps, handoff, selection, admissions, infeed belts. -/
def flow (s : State) : State :=
  let s := makeGap .b (makeGap .a s)
  let s := selectIfReady (handoff s)
  let s := admitIfReady .b (admitIfReady .a s)
  infeedFollow .b (infeedFollow .a s)

/-- The rest of a step after its command's own effect. -/
def settle (s : State) : State := flow (advanceLine s)

end Sys2Proof.Machine
end

