-- ==== Sys2Proof/Machine/Wire.lean ====
section
/-! DEFINITION. What the link sends: frames (R187), the bodies of the reports (R182 and the rules it names), the replies
(R180), the frame assembler (R176 to R178) and the transmitter (R181). -/

namespace Sys2Proof.Machine

/-! ## Frames (R187) -/

/-- A frame of a TYPE, a TOKEN and a BODY. -/
def frameOf (type token : Byte) (body : List Byte) : List Byte :=
  let covered := u8 (body.length + 2) ++ [type, token] ++ body
  0xC5 :: covered ++ u16 (crc16 covered).toNat

/-- The bytes of a queued reply (R180). A TYPE of 0x80 to 0xFF, which R179 answers UNKNOWN_TYPE, with 0x80 added does not fit
its byte; the sum is taken modulo 256: DESIGN CHOICE, LOG 53. -/
def Reply.frame (r : Reply) : List Byte := frameOf (r.type + 0x80) r.token (r.status :: r.content)

/-! ## Fields several bodies share -/

/-- The hold sources, a set whose one member is HOST. -/
def holdSources (s : State) : List Byte := flag s.lsc.holdHost

/-- The taken state of a safety input: OPEN 0, CLOSED 1 (R137, R188). -/
def takenByte (i : SafetyInput) : List Byte := u8 (if i.isOpen then 0 else 1)

def spunByte (l : Lane) (s : State) : List Byte := flag (spun l s)

/-- A tag, 0 when absent (R188). -/
def tagBytes (t : Nat) : List Byte := u16 t

def closureBytes (l : Lane) (s : State) : List Byte := u8 (setBits (s.lic.get l).closure.toList)

/-- The writer state: IDLE 0, else the kind of the job in progress. LOG 23. -/
def writerByte (s : State) : List Byte :=
  u8 (match s.rs.writer with
    | some w => w.job.kind.code
    | none => 0)

/-- The kinds queued, a set in the order of R167. -/
def queuedByte (s : State) : List Byte :=
  u8 (setBits [s.rs.queue.shiftRecord.isSome, s.rs.queue.checkpoint.isSome, s.rs.queue.recipes.isSome])

/-- A fault entry named by kind and subject, or none (R150, R184). One presence byte stands for both: LOG 23, LOG 52. -/
def namedEntry (e : Option FaultEntry) : List Byte :=
  match e with
  | some e => u8 1 ++ u8 e.kind.code ++ u8 e.subject.code
  | none => [0, 0, 0]

/-- The presented entry (R143). -/
def FaultTable.presented (t : FaultTable) : Option FaultEntry := t.stack.head?

/-! ## Report bodies, after the subject byte -/

/-- LINE_STATE (R132). -/
def lineStateBody (s : State) : List Byte :=
  u8 s.lsc.line.code ++ opt8 (s.lsc.previous.map LineState.code) ++ opt8 (s.lsc.returnState.map LineState.code)
    ++ holdSources s ++ flag (stopFault s) ++ spunByte .a s ++ spunByte .b s ++ flag (latch s) ++ takenByte s.dou.estop
    ++ takenByte s.dou.guardIn ++ u8 s.records.length

/-- FAULT_CHANGE (R154). DESIGN CHOICE: the change number in two bytes (LOG 54), one presence byte for the presented entry's
five fields (LOG 52), and the four actions in force as four flag bytes (LOG 51). -/
def faultChangeBody (s : State) : List Byte :=
  u16 s.ft.changeNumber.toNat ++ u8 s.ft.entries.length ++ u8 s.ft.stack.tail.length ++ u8 s.ft.waiting.length
    ++ (match s.ft.presented with
      | some e => u8 1 ++ u8 e.kind.code ++ u8 e.subject.code ++ u8 e.priority ++ flag (s.ft.causePresent e) ++ opt16 e.detail
      | none => List.replicate 8 0)
    ++ flag (faultHold .a s) ++ flag (faultHold .b s) ++ flag (outfeedHeld s) ++ flag (stopFault s)

/-- LANE_STATE (R66). LOG 21. -/
def laneStateBody (l : Lane) (s : State) : List Byte :=
  let i := s.lic.get l
  u8 (laneCode l) ++ u8 (enableCode i.enabled) ++ u8 i.blade.code ++ u8 (gateState l s).code ++ closureBytes l s ++ flag i.accFull
    ++ flag i.tunnelReady ++ opt8 i.active ++ opt8 i.pendingSel ++ u8 (s.tt.approach.get l).length
    ++ u8 (s.tt.blade.get l).toList.length ++ u8 (s.tt.accum.get l).length

/-- RECIPE_APPLIED (R55). -/
def recipeAppliedBody (l : Lane) (s : State) : List Byte :=
  let slot := ((s.lic.get l).active).getD 0
  u8 (laneCode l) ++ u8 slot ++ u16 (recipeAt slot s).code ++ tagBytes (s.lic.get l).appliedTag

/-- CRUMB_CLEARED (R113). The last level takes two bytes: DESIGN CHOICE, LOG 54. -/
def crumbClearedBody (l : Lane) (s : State) : List Byte :=
  let c := s.cc.get l
  let last := match c.lastClear with
    | some (cause, shakerOnly) => u8 cause.code ++ flag shakerOnly
    | none => [0, 0]
  u8 (laneCode l) ++ last ++ u16 c.estimate ++ u16 c.lastLevel ++ u32 (s.tu.live.line.crumbClears.get l)

/-- Whether a station stands waiting for stock (R98). -/
def stockWaits (m : Magazine) (s : State) : Bool :=
  match m with
  | .bags => s.mbc.bagger == .select && s.mbc.bagCount == 0
  | .clips => s.tsc.tyer == .twist && s.tsc.clipCount == 0

/-- MAGAZINE (R98). -/
def magazineBody (m : Magazine) (s : State) : List Byte :=
  match m with
  | .bags => u8 0 ++ u16 s.mbc.bagCount ++ u16 s.params.lowMark.bags ++ flag s.mbc.bagLow ++ flag (stockWaits .bags s)
  | .clips => u8 1 ++ u16 s.tsc.clipCount ++ u16 s.params.lowMark.clips ++ flag s.tsc.clipLow ++ flag (stockWaits .clips s)

/-- The outcome of a job: STORED or DONE 0, FAILED 1. LOG 20. -/
def outcomeByte (done : Bool) : List Byte := u8 (if done then 0 else 1)

/-- SHIFT_STORED (R169). -/
def shiftStoredBody (s : State) : List Byte :=
  match s.rs.lastShift with
  | some o => u16 o.number ++ u8 o.slot ++ outcomeByte o.stored
  | none => [0, 0, 0, 0]

/-- A lane's selection outcome and restored product code (R172). The code is two bytes with no presence byte, 0 where the
selection is DROPPED or NONE: DESIGN CHOICE, LOG 44. -/
def selectionBytes (x : SelectionOutcome × Nat) : List Byte := u8 x.1.code ++ u16 x.2

/-- STARTUP (R172). The latest shift number and the state of its slot share one presence byte: DESIGN CHOICE, LOG 52. -/
def startupBody (s : State) : List Byte :=
  match s.rs.findings with
  | some f =>
    u8 f.validSlots ++ u8 f.tornSlots ++ u8 f.blankSlots
      ++ (match f.latest with
        | some (n, st) => u8 1 ++ u16 n ++ u8 st.code
        | none => [0, 0, 0, 0])
      ++ u8 f.checkpoint.code ++ u8 f.checkpointUse.code ++ u8 f.origin.code ++ u16 f.liveShift ++ u8 f.recipes.code
      ++ u8 f.recipesLoaded ++ selectionBytes f.selection.a ++ selectionBytes f.selection.b
  | none => []

/-- LINK_NOTICE (R178): the count. -/
def noticeCount (n : Notice) (s : State) : Nat :=
  match n with
  | .crc => s.ml.noticeCrc
  | .timeout => s.ml.noticeTimeout
  | .overrun => s.ml.noticeOverrun

/-- STORE_DONE (R57, R169). -/
def storeDoneBody (k : StoreKey) (s : State) : List Byte :=
  match k with
  | .recipes => outcomeByte (s.rs.lastRecipes.getD false)
  | .checkpoint =>
    match s.rs.lastCkpt with
    | some (done, number) => outcomeByte done ++ u16 number
    | none => [1, 0, 0]

/-- The TYPE and subject of a report key (R182, R188). -/
def ReportKey.head : ReportKey → Nat × Nat
  | .lineState => (0x60, 0)
  | .faultChange => (0x61, 0)
  | .laneState l => (0x62, (laneSubject l).code)
  | .recipeApplied l => (0x63, (laneSubject l).code)
  | .crumbCleared l => (0x64, (laneSubject l).code)
  | .magazine .bags => (0x65, 0)
  | .magazine .clips => (0x65, 1)
  | .shiftStored => (0x66, 0)
  | .startup => (0x67, 0)
  | .linkNotice .crc => (0x68, 0)
  | .linkNotice .timeout => (0x68, 1)
  | .linkNotice .overrun => (0x68, 2)
  | .storeDone .recipes => (0x69, 0)
  | .storeDone .checkpoint => (0x69, 1)

/-- The fields of a report after its subject, composed from the present state. -/
def reportFields (k : ReportKey) (s : State) : List Byte :=
  match k with
  | .lineState => lineStateBody s
  | .faultChange => faultChangeBody s
  | .laneState l => laneStateBody l s
  | .recipeApplied l => recipeAppliedBody l s
  | .crumbCleared l => crumbClearedBody l s
  | .magazine m => magazineBody m s
  | .shiftStored => shiftStoredBody s
  | .startup => startupBody s
  | .linkNotice n => u8 (noticeCount n s)
  | .storeDone k => storeDoneBody k s

/-- The frame of a report (R182): TOKEN 0, body byte 0 the subject. -/
def reportFrame (k : ReportKey) (s : State) : List Byte :=
  frameOf (BitVec.ofNat 8 k.head.1) 0 (u8 k.head.2 ++ reportFields k s)

/-! ## Notices (R178) -/

def MessageLink.setNotice (n : Notice) (c : Nat) (m : MessageLink) : MessageLink :=
  match n with
  | .crc => { m with noticeCrc := c }
  | .timeout => { m with noticeTimeout := c }
  | .overrun => { m with noticeOverrun := c }

/-- A dropped frame or discarded byte: the count rises, held at 255, and the key is raised. -/
def linkNotice (n : Notice) (s : State) : State :=
  raiseKey (.linkNotice n) (s.onMl (MessageLink.setNotice n (min (noticeCount n s + 1) 255)))

/-! ## The receiver (R176, R177) -/

/-- RDY after a change of the FIFO fill (R177). -/
def rdyNext (rdy : Bool) (fill : Nat) : Bool := if rdy then decide (fill < 192) else decide (fill ≤ 64)

/-- A received byte (R175, R177). -/
def receiveByte (b : Byte) (s : State) : State :=
  if s.ml.fifo.length < 256 then
    s.onMl (fun m => { m with fifo := m.fifo ++ [b], rdy := rdyNext m.rdy (m.fifo.length + 1) })
  else linkNotice .overrun s

/-- The check of a frame whose LEN + 2 bytes have been kept (R176, R187). -/
def frameAgrees (len : Byte) (kept : List Byte) : Bool :=
  natOf (kept.drop len.toNat) == (crc16 (len :: kept.take len.toNat)).toNat

/-- The assembler takes a byte in its state (R176). -/
def assemble (b : Byte) (s : State) : State :=
  match s.ml.assembler with
  | .hunt =>
    if b == 0xC5 then s.onMl (fun m => { m with assembler := .length, gap := some 20 }) else s
  | .length =>
    if 2 ≤ b.toNat ∧ b.toNat ≤ 250 then s.onMl (fun m => { m with assembler := .body b [], gap := some 20 })
    else s.onMl (fun m => { m with assembler := .hunt, gap := none })
  | .body len kept =>
    let kept := kept ++ [b]
    if kept.length < len.toNat + 2 then s.onMl (fun m => { m with assembler := .body len kept, gap := some 20 })
    else if frameAgrees len kept then s.onMl (fun m => { m with assembler := .complete len kept, gap := none })
    else linkNotice .crc (s.onMl (fun m => { m with assembler := .hunt, gap := none }))
  | .complete _ _ => s

/-- Whether the assembler takes bytes. -/
def assemblerTakes (s : State) : Bool :=
  match s.ml.assembler with
  | .complete _ _ => false
  | _ => true

/-- The assembler takes the FIFO's head byte. -/
def takeByte (s : State) : State :=
  match s.ml.fifo with
  | b :: rest =>
    if assemblerTakes s then assemble b (s.onMl (fun m => { m with fifo := rest, rdy := rdyNext m.rdy rest.length })) else s
  | [] => s

/-- Whether the gap timer runs: in LENGTH or BODY with the FIFO empty (R176). -/
def gapRuns (s : State) : Bool :=
  s.ml.fifo.isEmpty && (match s.ml.assembler with
    | .length | .body _ _ => true
    | _ => false)

/-! ## The transmitter (R181, R182) -/

/-- Starts the oldest reply, or the report at the head of the queue. -/
def startFrame (s : State) : State :=
  match s.ml.replies, s.ml.reports with
  | r :: _, _ => s.onMl (fun m => { m with tx := some { isReply := true, bytes := r.frame } })
  | [], k :: rest =>
    let bytes := reportFrame k s
    let s := s.onMl (fun m => { m with reports := rest, tx := some { isReply := false, bytes := bytes } })
    match k with
    | .linkNotice n => s.onMl (MessageLink.setNotice n 0)
    | _ => s
  | [], [] => s

end Sys2Proof.Machine
end

