-- ==== Sys2Proof/Machine/Requests.lean ====
section
/-! DEFINITION. The host requests (R179 to R188): each request's own operation with its status and reply content, the
dispatcher's checks, and one meaning for each request command. LOG 5, LOG 6, LOG 22, LOG 38. -/

namespace Sys2Proof.Machine

/-- The outcome of a command. -/
abbrev Result := Host.Outcome State Fault Refusal

/-- What a request is answered: a status of R180 and the reply content. -/
structure Answer where
  status : Byte
  content : List Byte
deriving DecidableEq, Repr

/-! ## Statuses (R180) -/

def answerOk (c : List Byte) : Answer := { status := 0, content := c }
def unknownType : Answer := { status := 1, content := [] }
def badLength : Answer := { status := 2, content := [] }
def badValue : Answer := { status := 3, content := [] }
def wrongState : Answer := { status := 4, content := [] }
def busyAnswer : Answer := { status := 5, content := [] }
def inUseAnswer : Answer := { status := 6, content := [] }
def notFound : Answer := { status := 8, content := [] }
def clockUnset : Answer := { status := 9, content := [] }
def alreadyAnswer (c : List Byte) : Answer := { status := 10, content := c }
def startingAnswer : Answer := { status := 11, content := [] }

/-! ## The dispatcher (R179, R180) -/

/-- Places a reply at the tail of the reply queue. -/
def queueReply (type tok : Byte) (a : Answer) (s : State) : State :=
  s.onMl (fun m => { m with replies := m.replies ++ [{ type := type, token := tok, status := a.status, content := a.content }] })

/-- The block that owns a request takes it and the reply is queued; after an accepted one the step settles. -/
def answerRequest (type tok : Byte) (own : State → Answer × State) (after : State → State) (s : State) : State :=
  let r := own s
  when (r.1.status == 0) after (queueReply type tok r.1 r.2)

/-- A request of a known TYPE (R179). -/
def serveRequest (type tok : Byte) (own : State → Answer × State) (after : State → State) (s : State) : State :=
  if s.ml.restartPending then queueReply type tok busyAnswer s
  else if s.lsc.line == .init && type != 0x01 then queueReply type tok startingAnswer s
  else answerRequest type tok own after s

/-- A request command: the dispatcher takes it while fewer than 4 replies are queued. LOG 6. -/
def takeRequest (type tok : Byte) (own : State → Answer × State) (after : State → State) (s : State) : State :=
  if s.ml.replies.length < 4 then serveRequest type tok own after s else s

/-! ## The link's own requests (R183 to R185) -/

/-- "LC-220", padded with spaces to eight characters. -/
def partName : List Byte := [0x4C, 0x43, 0x2D, 0x32, 0x32, 0x30, 0x20, 0x20]

def identifyOwn (s : State) : Answer × State :=
  (answerOk (partName ++ u8 (Config.revisionLessOne.val + 1) ++ u8 s.ml.strap ++ u8 s.lsc.line.code), s)

def statusLane (l : Lane) (s : State) : List Byte :=
  let i := s.lic.get l
  u8 (enableCode i.enabled) ++ u8 i.blade.code ++ u8 (gateState l s).code ++ closureBytes l s ++ flag i.accFull
    ++ flag i.tunnelReady ++ opt8 i.active ++ opt8 i.pendingSel

/-- The summary of R184. The change number takes two bytes: DESIGN CHOICE, LOG 54. -/
def statusContent (s : State) : List Byte :=
  u8 s.lsc.line.code ++ opt8 (s.lsc.returnState.map LineState.code) ++ holdSources s ++ flag (stopFault s) ++ flag (latch s)
    ++ u16 s.cal.day ++ u32 s.cal.second ++ flag s.cal.valid ++ u16 s.tu.live.shift ++ u8 s.records.length
    ++ statusLane .a s ++ statusLane .b s
    ++ u8 s.cc.a.cycle.code ++ u16 s.cc.a.estimate ++ u8 s.cc.b.cycle.code ++ u16 s.cc.b.estimate
    ++ u16 s.mbc.bagCount ++ u16 s.tsc.clipCount ++ u8 s.ft.entries.length ++ namedEntry s.ft.presented
    ++ u16 s.ft.changeNumber.toNat ++ writerByte s ++ queuedByte s

def statusOwn (s : State) : Answer × State := (answerOk (statusContent s), s)

def restartOwn (s : State) : Answer × State :=
  if s.lsc.line != .standby then (wrongState, s)
  else if s.rs.busy then (busyAnswer, s)
  else (answerOk [], s.onMl (fun m => { m with restartPending := true }))

/-! ## The Calendar (R164) -/

def clockSetOwn (day : BitVec 16) (second : BitVec 32) (s : State) : Answer × State :=
  if 86399 < second.toNat then (badValue, s)
  else
    let fills := s.tu.live.openTime.isNone
    let s := s.onCal (fun _ => { day := day.toNat, second := second.toNat, phase := 0, valid := true })
    let s := when fills (State.onLive (fun t => { t with openTime := some { day := day.toNat, second := second.toNat } })) s
    (answerOk (u16 day.toNat ++ u32 second.toNat ++ flag true ++ flag fills), s)

/-! ## Configuration (R186) -/

def perMask (i : Nat) (m : Mask) : Option Bool := [m.eyeStuck, m.lostLoaf, m.unexpectedLoaf, m.bagMiss][i]?

/-- The value of a parameter's instance; none for an unknown id or index. -/
def paramGet (id index : Nat) (p : Params) : Option Nat :=
  let single := fun n : Nat => if index = 0 then some n else none
  match id with
  | 1 => (beltAt index).map p.scale.get
  | 2 => (eyeAt index).map p.threshold.get
  | 3 => (eyeAt index).map p.hysteresis.get
  | 4 => (eyeAt index).map p.debounce.get
  | 5 => (laneAt index).map p.gateDistance.get
  | 6 => (laneAt index).map p.slicerPath.get
  | 7 => (laneAt index).map p.slicerTol.get
  | 8 => single p.accumLimit
  | 9 => (laneAt index).map p.upper.get
  | 10 => (laneAt index).map p.lower.get
  | 11 => single p.exitPath
  | 12 => single p.exitTol
  | 13 => single p.strokeTimeout
  | 14 => single p.deadTime
  | 15 => single p.tieTimeout
  | 16 => single p.purgeInterval
  | 17 => (laneAt index).map p.spinCode.get
  | 18 => single p.eClear
  | 19 => single p.lClear
  | 20 => single p.lOver
  | 21 => single p.knifeMs
  | 22 => single p.airWaitMs
  | 23 => single p.backoffS
  | 24 => single p.tBreak
  | 25 => single p.tLow
  | 26 => single p.pMin
  | 27 => single p.scanPeriod
  | 28 => [p.lowMark.bags, p.lowMark.clips][index]?
  | 29 => (perMask index p.mask).map (fun b => if b then 1 else 0)
  | 30 => (requesterAt index).map (fun r => (p.steering.get r).code)
  | _ => none

/-- The ids accepted in STANDBY only. -/
def standbyOnly (id : Nat) : Bool := id = 1 ∨ id = 5 ∨ id = 6 ∨ id = 7 ∨ id = 8 ∨ id = 11 ∨ id = 12

/-- Whether a value is in its range and keeps the pairing with its present partner. -/
def paramOk (id index v : Nat) (p : Params) : Bool :=
  let within := fun lo hi : Nat => decide (lo ≤ v) && decide (v ≤ hi)
  match id with
  | 1 => within 100 20000
  | 2 => within 0 255
  | 3 => within 0 31
  | 4 => within 2 20
  | 5 => within 50 1000
  | 6 => within 300 3000
  | 7 => within 20 400
  | 8 => within 300 3000
  | 9 => within 2 9 && (laneAt index).any (fun l => decide (p.lower.get l < v))
  | 10 => within 0 8 && (laneAt index).any (fun l => decide (v < p.upper.get l))
  | 11 => within 300 4000
  | 12 => within 20 400
  | 13 => within 200 3000
  | 14 => within 10 200
  | 15 => within 400 3000
  | 16 => v == 0 || within 50 1000
  | 17 => within 0 7
  | 18 => within 500 60000
  | 19 => within 0 1022 && decide (v < p.lOver)
  | 20 => within 1 1023 && decide (p.lClear < v)
  | 21 => within 200 5000
  | 22 => within 500 10000
  | 23 => within 2 120
  | 24 => within 0 1022 && decide (v < p.tLow)
  | 25 => within 1 1023 && decide (p.tBreak < v)
  | 26 => within 0 1023
  | 27 => within 10 100
  | 28 => within 0 9999
  | 29 => within 0 1
  | 30 => within 0 2 && (v != 2 || decide (2 ≤ index))
  | _ => false

def setMask (i : Nat) (b : Bool) (m : Mask) : Mask :=
  match i with
  | 0 => { m with eyeStuck := b }
  | 1 => { m with lostLoaf := b }
  | 2 => { m with unexpectedLoaf := b }
  | _ => { m with bagMiss := b }

def setAtBelt (i v : Nat) (p : PerBelt Nat) : PerBelt Nat :=
  match beltAt i with
  | some b => p.upd b (fun _ => v)
  | none => p

def setAtEye (i v : Nat) (p : PerEye Nat) : PerEye Nat :=
  match eyeAt i with
  | some e => p.upd e (fun _ => v)
  | none => p

def setAtLane (i v : Nat) (p : PerLane Nat) : PerLane Nat :=
  match laneAt i with
  | some l => p.upd l (fun _ => v)
  | none => p

/-- A parameter's instance takes a value; the steering entries are set by R122's own operation. -/
def paramSet (id index v : Nat) (p : Params) : Params :=
  match id with
  | 1 => { p with scale := setAtBelt index v p.scale }
  | 2 => { p with threshold := setAtEye index v p.threshold }
  | 3 => { p with hysteresis := setAtEye index v p.hysteresis }
  | 4 => { p with debounce := setAtEye index v p.debounce }
  | 5 => { p with gateDistance := setAtLane index v p.gateDistance }
  | 6 => { p with slicerPath := setAtLane index v p.slicerPath }
  | 7 => { p with slicerTol := setAtLane index v p.slicerTol }
  | 8 => { p with accumLimit := v }
  | 9 => { p with upper := setAtLane index v p.upper }
  | 10 => { p with lower := setAtLane index v p.lower }
  | 11 => { p with exitPath := v }
  | 12 => { p with exitTol := v }
  | 13 => { p with strokeTimeout := v }
  | 14 => { p with deadTime := v }
  | 15 => { p with tieTimeout := v }
  | 16 => { p with purgeInterval := v }
  | 17 => { p with spinCode := setAtLane index v p.spinCode }
  | 18 => { p with eClear := v }
  | 19 => { p with lClear := v }
  | 20 => { p with lOver := v }
  | 21 => { p with knifeMs := v }
  | 22 => { p with airWaitMs := v }
  | 23 => { p with backoffS := v }
  | 24 => { p with tBreak := v }
  | 25 => { p with tLow := v }
  | 26 => { p with pMin := v }
  | 27 => { p with scanPeriod := v }
  | 28 => { p with lowMark := if index = 0 then { p.lowMark with bags := v } else { p.lowMark with clips := v } }
  | 29 => { p with mask := setMask index (v == 1) p.mask }
  | _ => p

/-- How an accepted value acts at once, by the rule of its parameter. -/
def paramActs (id index v : Nat) (s : State) : State :=
  match id with
  | 1 =>
    match beltAt index with
    | some b => s.onBeu (fun u => { u with remainder := u.remainder.upd b (fun _ => 0) })
    | none => s
  | 9 | 10 =>
    match laneAt index with
    | some l => syncLane l s
    | none => s
  | 18 => estimateTest .b (estimateTest .a s)
  | 28 => if index = 0 then evalBagLow s else evalClipLow s
  | 29 => when (index == 0 && v == 1) eyeStuckToAuto s
  | 30 =>
    match requesterAt index, steerAt v with
    | some r, some e => steer r e s
    | _, _ => s
  | _ => s

/-- The content of a configuration reply: id, index, the value in force. -/
def configContent (id index : Byte) (v : Nat) : List Byte := [id, index] ++ u16 v

def configSetOwn (id index : Byte) (value : BitVec 16) (s : State) : Answer × State :=
  let i := id.toNat
  let n := index.toNat
  let v := value.toNat
  if (paramGet i n s.params).isNone then (badValue, s)
  else if standbyOnly i && s.lsc.line != .standby then (wrongState, s)
  else if !paramOk i n v s.params then (badValue, s)
  else
    (answerOk (configContent id index v), paramActs i n v (s.onParams (paramSet i n v)))

def configGetOwn (id index : Byte) (s : State) : Answer × State :=
  match paramGet id.toNat index.toNat s.params with
  | some v => (answerOk (configContent id index v), s)
  | none => (badValue, s)

/-! ## Recipes and selections (R49 to R53, R56) -/

/-- Whether a slot is in use (R50). -/
def slotInUse (slot : Nat) (s : State) : Bool :=
  s.records.any (fun r => r.recipeSlot == some slot) || s.lic.a.active == some slot || s.lic.b.active == some slot
    || s.lic.a.pendingSel == some slot || s.lic.b.pendingSel == some slot

def setRecipe (slot : Nat) (r : Recipe) (s : State) : State := s.onRt (fun rt => rt.set slot r)

def recipeWriteOwn (slot : Byte) (f : RecipeFields) (s : State) : Answer × State :=
  let n := slot.toNat
  if 15 < n then ({ badValue with content := u8 0 }, s)
  else
    match (if f.code = 0 then none else firstBadField f) with
    | some field => ({ badValue with content := u8 field }, s)
    | none =>
      if slotInUse n s then (inUseAnswer, s)
      else (answerOk [], setRecipe n (if f.code = 0 then .empty else recipeOf f) s)

/-- The use marks of a slot: active A, active B, pending A, pending B. LOG 23. -/
def useMarks (slot : Nat) (s : State) : Nat :=
  setBits [s.lic.a.active == some slot, s.lic.b.active == some slot, s.lic.a.pendingSel == some slot,
           s.lic.b.pendingSel == some slot]

def recipeReadOwn (slot : Byte) (s : State) : Answer × State :=
  let n := slot.toNat
  if 15 < n then (badValue, s)
  else
    (answerOk (recipeBytes (recipeAt n s) ++ u8 (s.records.countP (fun r => r.recipeSlot == some n)) ++ u8 (useMarks n s)), s)

def recipeSaveOwn (s : State) : Answer × State :=
  (answerOk [], requestJob { kind := .recipes, number := none, content := recipesContent s.rt } s)

/-- A lane's selections. -/
def selectionContent (l : Lane) (s : State) : List Byte :=
  opt8 (s.lic.get l).active ++ opt8 (s.lic.get l).pendingSel

def laneSelectOwn (lane slot : Byte) (s : State) : Answer × State :=
  match laneOf lane with
  | none => (badValue, s)
  | some l =>
    let n := slot.toNat
    if 15 < n then (badValue, s)
    else if (recipeAt n s).code = 0 then ({ status := 12, content := selectionContent l s }, s)
    else if (s.lic.get l).active == some n && (s.lic.get l).pendingSel.isNone then (alreadyAnswer (selectionContent l s), s)
    else
      let s := syncLane l (s.onLane l (fun i => { i with pendingSel := some n }))
      (answerOk (selectionContent l s), s)

/-! ## The line (R125 to R131) -/

/-- Line state and stop-fault flag. -/
def startContent (s : State) : List Byte := u8 s.lsc.line.code ++ flag (stopFault s)

def lineStartOwn (s : State) : Answer × State :=
  if s.lsc.line != .standby || stopFault s then ({ wrongState with content := startContent s }, s)
  else if !s.cal.valid then ({ clockUnset with content := startContent s }, s)
  else
    let s := advanceLine (enterSpinUp s)
    (answerOk (startContent s), s)

/-- Line state, return state, hold sources. -/
def holdContent (s : State) : List Byte :=
  u8 s.lsc.line.code ++ opt8 (s.lsc.returnState.map LineState.code) ++ holdSources s

def lineHoldOwn (s : State) : Answer × State :=
  match s.lsc.line with
  | .run | .drain =>
    let s := advanceLine (enterHold s.lsc.line s)
    (answerOk (holdContent s), s)
  | .hold => (alreadyAnswer (holdContent s), s)
  | _ => (wrongState, s)

def lineResumeOwn (s : State) : Answer × State :=
  match s.lsc.line with
  | .hold =>
    let s := advanceLine (if s.lsc.returnState == some .drain then enterDrain s else enterRun s)
    (answerOk (holdContent s), s)
  | .stop =>
    if stopFault s then (wrongState, s)
    else
      let s := advanceLine (enterSpinUp (resumeDiscard s))
      (answerOk (holdContent s), s)
  | _ => (wrongState, s)

def lineDrainOwn (s : State) : Answer × State :=
  match s.lsc.line with
  | .run =>
    let s := advanceLine (enterDrain s)
    (answerOk (u8 s.lsc.line.code), s)
  | .drain => (alreadyAnswer (u8 s.lsc.line.code), s)
  | _ => (wrongState, s)

def lineStandbyOwn (s : State) : Answer × State :=
  match s.lsc.line with
  | .hold | .stop =>
    let s := enterStandby (purgePool s)
    (answerOk (u8 s.lsc.line.code), s)
  | _ => (wrongState, s)

/-! ## Lanes (R61, R108) -/

/-- Enable and blade state. -/
def enableContent (l : Lane) (s : State) : List Byte :=
  u8 (enableCode (s.lic.get l).enabled) ++ u8 (s.lic.get l).blade.code

def laneEnableOwn (lane on : Byte) (s : State) : Answer × State :=
  match laneOf lane with
  | none => (badValue, s)
  | some l =>
    if 1 < on.toNat then (badValue, s)
    else if (s.lic.get l).enabled == (on == 1) then (alreadyAnswer (enableContent l s), s)
    else
      let s := raiseKey (.laneState l) (syncLane l (s.onLane l (fun i => { i with enabled := on == 1 })))
      let s := advanceLine s
      (answerOk (enableContent l s), s)

/-- Cycle state, E, last level (R108). The last level takes two bytes: DESIGN CHOICE, LOG 54. -/
def clearContent (l : Lane) (s : State) : List Byte :=
  u8 (s.cc.get l).cycle.code ++ u16 (s.cc.get l).estimate ++ u16 (s.cc.get l).lastLevel

def crumbClearOwn (lane : Byte) (s : State) : Answer × State :=
  match laneOf lane with
  | none => (badValue, s)
  | some l =>
    if s.lsc.line == .spinUp || s.lsc.line == .stop then (wrongState, s)
    else if (s.cc.get l).cycle.needsGap then (alreadyAnswer (clearContent l s), s)
    else
      let s := requestClear l .host s
      (answerOk (clearContent l s), s)

/-! ## The stations (R97, R99) -/

/-- A waiting bagger makes its check again, and the cause of BAGS_OUT ends (R86, R99). -/
def bagsLoaded (s : State) : State :=
  noticeCause .bagsOut .out false
    (when (s.mbc.bagger == .select && s.mbc.route == some .bag && s.mbc.phase == .none) requestBag s)

/-- A waiting tyer makes its check again, and the cause of CLIPS_OUT ends (R93, R99). -/
def clipsLoaded (s : State) : State :=
  noticeCause .clipsOut .out false (when (s.tsc.tyer == .twist && s.tsc.phaseTimer.isNone) startTwist s)

/-- MAGAZINE_LOAD (R99): the count, the low flag, then the waiting station's check. The reply shows the count and the flag
after all of it. A load of 0 makes no check and refreshes neither BAGS_OUT nor CLIPS_OUT: DESIGN CHOICE,
LOG 42. -/
def magazineLoadOwn (which : Byte) (count : BitVec 16) (s : State) : Answer × State :=
  let n := count.toNat
  if 1 < which.toNat ∨ 9999 < n then (badValue, s)
  else if which = 0 then
    let s := when (decide (0 < n)) bagsLoaded (setBagCount n s)
    (answerOk (u16 s.mbc.bagCount ++ flag s.mbc.bagLow), s)
  else
    let s := when (decide (0 < n)) clipsLoaded (setClipCount n s)
    (answerOk (u16 s.tsc.clipCount ++ flag s.tsc.clipLow), s)

/-- A retie (R97): the jammed field clears and a cycle starts at the clip check. -/
def retie (s : State) : State :=
  enterTwist (noticeCause .tyerJam .out false
    (s.onTt (fun t => { t with tyer := t.tyer.map (fun r => { r with jammed := false }) })))

/-- A discard (R97). -/
def discardJammed (r : LoafRecord) (s : State) : State :=
  noticeCause .tyerJam .out false
    (countRejected r (fun c => { c with rejectedTieFail := bump c.rejectedTieFail }) (s.onTt (fun t => { t with tyer := none })))

def tyerResolveOwn (action : Byte) (s : State) : Answer × State :=
  if 1 < action.toNat then (badValue, s)
  else
    match s.tt.tyer with
    | some r =>
      if !r.jammed then (wrongState, s)
      else if action = 1 then (answerOk [], advanceLine (discardJammed r s))
      else if !producing s || !s.pins.tyerHome then (wrongState, s)
      else (answerOk [], advanceLine (retie s))
    | none => (wrongState, s)

/-! ## Faults (R150, R153) -/

/-- The state code of an entry at a place in the service order (R188). -/
def FaultTable.stateCode (t : FaultTable) (e : FaultEntry) : Nat :=
  if t.presented == some e then 1 else if e ∈ t.stack then 2 else 0

/-- A fault entry in FAULT_LIST, 19 bytes (R188). -/
def faultBytes (t : FaultTable) (e : FaultEntry) : List Byte :=
  u8 e.kind.code ++ u8 e.subject.code ++ u8 e.priority ++ u8 (t.stateCode e) ++ u16 e.day ++ u32 e.second ++ flag e.clockValid
    ++ u32 e.seq.toNat ++ flag (t.causePresent e) ++ opt16 e.detail

/-- FAULT_LIST (R153). The change number takes two bytes: DESIGN CHOICE, LOG 54. -/
def faultListOwn (first : Byte) (s : State) : Answer × State :=
  let n := first.toNat
  if n = 0 ∨ 32 < n then (badValue, s)
  else
    (answerOk (u8 s.ft.entries.length ++ u16 s.ft.changeNumber.toNat
      ++ ((s.ft.order.drop (n - 1)).take 8).flatMap (faultBytes s.ft)), s)

/-- Acted-on entry, next presented, entries left, change number (R150). The change number takes two bytes: DESIGN CHOICE,
LOG 54. -/
def clearAnswer (acted : FaultEntry) (s : State) : List Byte :=
  namedEntry (some acted) ++ namedEntry s.ft.presented ++ u8 s.ft.entries.length ++ u16 s.ft.changeNumber.toNat

/-- FAULT_CLEAR (R150). The change number takes two bytes also where the table is empty: DESIGN CHOICE, LOG 54. -/
def faultClearOwn (s : State) : Answer × State :=
  match s.ft.presented with
  | none => ({ wrongState with content := namedEntry none ++ namedEntry none ++ u8 0 ++ u16 s.ft.changeNumber.toNat }, s)
  | some e =>
    if s.ft.causePresent e then ({ status := 7, content := clearAnswer e s }, s)
    else
      let s := clearPresented e s
      let s := advanceLine (when (e.kind == .baggerJam) endStopped s)
      (answerOk (clearAnswer e s), s)

/-! ## Tracking queries (R28, R29) -/

/-- The queue that TRACK_LIST names. -/
def zoneQueue (zone lane : Byte) (s : State) : Option (List LoafRecord) :=
  match zone.toNat with
  | 0 => (laneOf lane).map s.tt.approach.get
  | 1 => (laneOf lane).map (fun l => (s.tt.blade.get l).toList)
  | 2 => (laneOf lane).map s.tt.accum.get
  | 3 => some s.tt.bagger.toList
  | 4 => some s.tt.tyer.toList
  | 5 => some s.tt.exit
  | _ => none

def trackListOwn (zone lane : Byte) (s : State) : Answer × State :=
  match zoneQueue zone lane s with
  | some q => (answerOk (u8 q.length ++ q.flatMap (fun r => tagBytes r.tag ++ u8 r.condition.code)), s)
  | none => (badValue, s)

/-- A clip code, optional. -/
def clipBytes : Option (List Byte) → List Byte
  | some c => u8 1 ++ padTo 8 0x20 c
  | none => List.replicate 9 0

/-- The departure of a record with the distance travelled, signed (R29, R188). One presence byte stands for all three fields:
DESIGN CHOICE, LOG 52. -/
def departureBytes (d : Option Departure) (s : State) : List Byte :=
  match d with
  | some d => u8 1 ++ u8 (beltCode d.belt) ++ u32 d.pos.toNat ++ u32 (position d.belt s - d.pos).toNat
  | none => List.replicate 10 0

/-- The whole record (R29). Place and departure at the end: LOG 23. The length takes two bytes: DESIGN CHOICE, LOG 54. -/
def loafContent (z : Zone) (place : Nat) (r : LoafRecord) (s : State) : List Byte :=
  tagBytes r.tag ++ u8 (laneCode r.lane) ++ u16 r.length ++ u8 z.code ++ flag r.admitted ++ opt8 r.recipeSlot
    ++ opt8 (r.verdict.map Verdict.code) ++ u8 r.condition.code ++ opt8 (r.rejectReason.map RejectReason.code)
    ++ flag r.stopDiscard ++ flag r.jammed ++ flag r.arrived ++ clipBytes r.clipCode ++ u8 place ++ departureBytes r.departure s

def loafQueryOwn (tag : BitVec 16) (s : State) : Answer × State :=
  if tag = 0 then (badValue, s)
  else
    match s.tt.locate tag.toNat with
    | some (z, place, r) => (answerOk (loafContent z place r s), s)
    | none => (notFound, s)

/-! ## Totals and the log (R160, R161, R173, R174) -/

/-- Part 0 of TOTALS_READ after the shift number. -/
def totalsHead (s : State) : List Byte :=
  openBytes s.tu.live.openTime ++ u8 s.tu.live.carriedIn ++ u8 (admittedCount s) ++ tailBytes s.tu.live

/-- A product entry or the other entry of totals, by part. -/
def partEntry (part : Nat) (t : Totals) : Option (List Byte) :=
  if part = 25 then t.other.map (entryBytes 0)
  else (t.products[part - 1]?).map (fun e => entryBytes e.code e.counters)

/-- TOTALS_READ (R160). The live shift number stands first in the parts 1 to 25 too: DESIGN CHOICE, LOG 48. -/
def totalsReadOwn (part : Byte) (s : State) : Answer × State :=
  let n := part.toNat
  let shift := u16 s.tu.live.shift
  if 25 < n then ({ badValue with content := shift }, s)
  else if n = 0 then (answerOk (shift ++ totalsHead s), s)
  else
    match partEntry n s.tu.live with
    | some b => (answerOk (shift ++ b), s)
    | none => ({ notFound with content := shift }, s)

/-- The totals of the next shift (R161, steps 4 to 7). -/
def nextTotals (t : Totals) (carried : Nat) (at_ : Stamp) : Totals :=
  { Totals.fresh (nextShift t.shift) with openTime := some at_, carriedIn := carried }

/-- An accepted close (R161, R162). -/
def closeShift (s : State) : State :=
  let carried := admittedCount s
  let at_ : Stamp := { day := s.cal.day, second := s.cal.second }
  let closed : ClosedShift := { totals := s.tu.live, closeTime := at_, carriedOut := carried }
  let s := s.onTu (fun t => { t with live := nextTotals t.live carried at_, closeBuffer := some closed })
  let s := s.onRs (fun r => { r with queue := { r.queue with checkpoint := none } })
  requestJob { kind := .shiftRecord, number := some closed.totals.shift, content := shiftContent closed } s

def shiftCloseOwn (s : State) : Answer × State :=
  if !s.cal.valid then (clockUnset, s)
  else if s.tu.closeBuffer.isSome then (busyAnswer, s)
  else
    (answerOk (u16 s.tu.live.shift ++ u16 (nextShift s.tu.live.shift) ++ u8 (admittedCount s)), closeShift s)

/-- The slot that holds a VALID record of a shift number. -/
def validSlot (number : Nat) (index : List LogEntry) : Option Nat :=
  index.findIdx? (fun e => e.state == .valid && e.number == some number)

/-- A part of a stored record. -/
def shiftPart (part : Nat) (c : ClosedShift) : Option (List Byte) :=
  if part = 0 then some (u16 c.totals.shift ++ closedHead c) else partEntry part c.totals

def shiftReadOwn (number : BitVec 16) (part : Byte) (s : State) : Answer × State :=
  if number = 0 ∨ 25 < part.toNat then (badValue, s)
  else
    match validSlot number.toNat s.rs.index with
    | none => (notFound, s)
    | some k =>
      if s.rs.agrees k then
        match shiftPart part.toNat (readShift number.toNat (s.rs.content k)) with
        | some b => (answerOk b, s)
        | none => (notFound, s)
      else (notFound, s.onRs (RecordStore.setIndex k { state := .torn, number := some number.toNat }))

/-- LOG_INDEX (R173). An absent checkpoint number is sent as 0 with no presence byte: DESIGN CHOICE, LOG 44. -/
def logIndexContent (s : State) : List Byte :=
  s.rs.index.flatMap (fun e => u8 e.state.code ++ u16 (e.number.getD 0)) ++ u8 (nextSlot s.rs.index)
    ++ u8 s.rs.ckpt.1.code ++ u16 (s.rs.ckpt.2.getD 0) ++ writerByte s ++ queuedByte s

def logIndexOwn (s : State) : Answer × State := (answerOk (logIndexContent s), s)

/-! ## Sensors (R45) -/

def sensorReadOwn (channel : Byte) (s : State) : Answer × State :=
  match channelAt channel.toNat with
  | some c => (answerOk (u16 (s.sc.result.get c) ++ u16 (s.sc.age.get c)), s)
  | none => (badValue, s)

/-! ## The catalogue (R188): body length, the owner's operation, how the step settles -/

/-- What DISPATCH_FRAME needs of a request. -/
structure Handler where
  length : Nat
  own : State → Answer × State
  after : State → State

def byteAt (body : List Byte) (i : Nat) : Byte := body.getD i 0

def wordAt (body : List Byte) (i : Nat) : BitVec 16 := bytes16 (byteAt body i) (byteAt body (i + 1))

/-- RECIPE_WRITE from a body of its length. -/
def recipeWriteBody (body : List Byte) (s : State) : Answer × State :=
  match parseRecipe (body.drop 1) with
  | some f => recipeWriteOwn (byteAt body 0) f s
  | none => (badLength, s)

def catalogue (type : Byte) (b : List Byte) : Option Handler :=
  match type.toNat with
  | 0x01 => some { length := 0, own := identifyOwn, after := id }
  | 0x02 => some { length := 0, own := statusOwn, after := id }
  | 0x03 => some { length := 0, own := restartOwn, after := id }
  | 0x08 => some { length := 6, own := clockSetOwn (wordAt b 0) (bytes32 (byteAt b 2) (byteAt b 3) (byteAt b 4) (byteAt b 5)), after := id }
  | 0x10 => some { length := 4, own := configSetOwn (byteAt b 0) (byteAt b 1) (wordAt b 2), after := settle }
  | 0x11 => some { length := 2, own := configGetOwn (byteAt b 0) (byteAt b 1), after := id }
  | 0x18 => some { length := 25, own := recipeWriteBody b, after := id }
  | 0x19 => some { length := 1, own := recipeReadOwn (byteAt b 0), after := id }
  | 0x1A => some { length := 0, own := recipeSaveOwn, after := id }
  | 0x1B => some { length := 2, own := laneSelectOwn (byteAt b 0) (byteAt b 1), after := settle }
  | 0x20 => some { length := 0, own := lineStartOwn, after := flow }
  | 0x21 => some { length := 0, own := lineHoldOwn, after := flow }
  | 0x22 => some { length := 0, own := lineResumeOwn, after := flow }
  | 0x23 => some { length := 0, own := lineDrainOwn, after := flow }
  | 0x24 => some { length := 0, own := lineStandbyOwn, after := flow }
  | 0x25 => some { length := 2, own := laneEnableOwn (byteAt b 0) (byteAt b 1), after := flow }
  | 0x28 => some { length := 1, own := crumbClearOwn (byteAt b 0), after := flow }
  | 0x2C => some { length := 3, own := magazineLoadOwn (byteAt b 0) (wordAt b 1), after := settle }
  | 0x2D => some { length := 1, own := tyerResolveOwn (byteAt b 0), after := flow }
  | 0x30 => some { length := 1, own := faultListOwn (byteAt b 0), after := id }
  | 0x31 => some { length := 0, own := faultClearOwn, after := flow }
  | 0x38 => some { length := 2, own := trackListOwn (byteAt b 0) (byteAt b 1), after := id }
  | 0x39 => some { length := 2, own := loafQueryOwn (wordAt b 0), after := id }
  | 0x40 => some { length := 1, own := totalsReadOwn (byteAt b 0), after := id }
  | 0x41 => some { length := 0, own := shiftCloseOwn, after := id }
  | 0x42 => some { length := 3, own := shiftReadOwn (wordAt b 0) (byteAt b 2), after := id }
  | 0x43 => some { length := 0, own := logIndexOwn, after := id }
  | 0x48 => some { length := 1, own := sensorReadOwn (byteAt b 0), after := id }
  | _ => none

/-- A frame that the dispatcher takes (R179). -/
def takeFrame (type tok : Byte) (body : List Byte) (s : State) : State :=
  match catalogue type body with
  | none => queueReply type tok unknownType s
  | some h =>
    if body.length = h.length then serveRequest type tok h.own h.after s
    else if s.ml.restartPending then queueReply type tok busyAnswer s
    else if s.lsc.line == .init && type != 0x01 then queueReply type tok startingAnswer s
    else queueReply type tok badLength s

/-- The dispatcher takes the frame the assembler holds when fewer than 4 replies are queued (R179). -/
def dispatch (s : State) : State :=
  match s.ml.assembler with
  | .complete len kept =>
    if s.ml.replies.length < 4 then
      takeFrame (byteAt kept 0) (byteAt kept 1) ((kept.take len.toNat).drop 2) (s.onMl (fun m => { m with assembler := .hunt }))
    else s
  | _ => s

/-! ## The request commands -/

def execIdentify (tok : Byte) (s : State) : Result := .next (takeRequest 0x01 tok identifyOwn id s)

def execStatus (tok : Byte) (s : State) : Result := .next (takeRequest 0x02 tok statusOwn id s)

def execRestart (tok : Byte) (s : State) : Result := .next (takeRequest 0x03 tok restartOwn id s)

def execClockSet (tok : Byte) (day : BitVec 16) (second : BitVec 32) (s : State) : Result :=
  .next (takeRequest 0x08 tok (clockSetOwn day second) id s)

def execConfigSet (tok id_ index : Byte) (value : BitVec 16) (s : State) : Result :=
  .next (takeRequest 0x10 tok (configSetOwn id_ index value) settle s)

def execConfigGet (tok id_ index : Byte) (s : State) : Result :=
  .next (takeRequest 0x11 tok (configGetOwn id_ index) id s)

def execRecipeWrite (tok slot : Byte) (fields : RecipeFields) (s : State) : Result :=
  .next (takeRequest 0x18 tok (recipeWriteOwn slot fields) id s)

def execRecipeRead (tok slot : Byte) (s : State) : Result := .next (takeRequest 0x19 tok (recipeReadOwn slot) id s)

def execRecipeSave (tok : Byte) (s : State) : Result := .next (takeRequest 0x1A tok recipeSaveOwn id s)

def execLaneSelect (tok lane slot : Byte) (s : State) : Result :=
  .next (takeRequest 0x1B tok (laneSelectOwn lane slot) settle s)

def execLineStart (tok : Byte) (s : State) : Result := .next (takeRequest 0x20 tok lineStartOwn flow s)

def execLineHold (tok : Byte) (s : State) : Result := .next (takeRequest 0x21 tok lineHoldOwn flow s)

def execLineResume (tok : Byte) (s : State) : Result := .next (takeRequest 0x22 tok lineResumeOwn flow s)

def execLineDrain (tok : Byte) (s : State) : Result := .next (takeRequest 0x23 tok lineDrainOwn flow s)

def execLineStandby (tok : Byte) (s : State) : Result := .next (takeRequest 0x24 tok lineStandbyOwn flow s)

def execLaneEnable (tok lane on : Byte) (s : State) : Result := .next (takeRequest 0x25 tok (laneEnableOwn lane on) flow s)

def execCrumbClear (tok lane : Byte) (s : State) : Result := .next (takeRequest 0x28 tok (crumbClearOwn lane) flow s)

def execMagazineLoad (tok which : Byte) (count : BitVec 16) (s : State) : Result :=
  .next (takeRequest 0x2C tok (magazineLoadOwn which count) settle s)

def execTyerResolve (tok action : Byte) (s : State) : Result := .next (takeRequest 0x2D tok (tyerResolveOwn action) flow s)

def execFaultList (tok first : Byte) (s : State) : Result := .next (takeRequest 0x30 tok (faultListOwn first) id s)

def execFaultClear (tok : Byte) (s : State) : Result := .next (takeRequest 0x31 tok faultClearOwn flow s)

def execTrackList (tok zone lane : Byte) (s : State) : Result := .next (takeRequest 0x38 tok (trackListOwn zone lane) id s)

def execLoafQuery (tok : Byte) (tag : BitVec 16) (s : State) : Result := .next (takeRequest 0x39 tok (loafQueryOwn tag) id s)

def execTotalsRead (tok part : Byte) (s : State) : Result := .next (takeRequest 0x40 tok (totalsReadOwn part) id s)

def execShiftClose (tok : Byte) (s : State) : Result := .next (takeRequest 0x41 tok shiftCloseOwn id s)

def execShiftRead (tok : Byte) (number : BitVec 16) (part : Byte) (s : State) : Result :=
  .next (takeRequest 0x42 tok (shiftReadOwn number part) id s)

def execLogIndex (tok : Byte) (s : State) : Result := .next (takeRequest 0x43 tok logIndexOwn id s)

def execSensorRead (tok channel : Byte) (s : State) : Result := .next (takeRequest 0x48 tok (sensorReadOwn channel) id s)

/-- DISPATCH_FRAME (R179). -/
def execDispatchFrame (s : State) : Result := .next (dispatch s)

end Sys2Proof.Machine
end

