-- ==== Sys2Proof/Machine/Events.lean ====
section
/-! DEFINITION. The commands that are no requests: resets and start-up, the link's events, edges, distances reached, timers
run out, switches, samples, conversions and page programs. An event whose moment has not come changes nothing; the command
of a timer's end is that moment, for a timer that runs. LOG 3. -/

namespace Sys2Proof.Machine

/-! ## Reset and start-up -/

/-- The rate code of the straps (R175). -/
def strapCode (baud1 baud0 : Bool) : Nat := (if baud1 then 2 else 0) + (if baud0 then 1 else 0)

/-- The Record Store after a reset: the array alone is kept, with the program in flight torn (R165, R166). -/
def resetStore (tear : Tear) (count : Nat) (r : RecordStore) : RecordStore :=
  let r := match r.writer with
    | some w => tearProgram tear count w r
    | none => r
  { RecordStore.reset with cells := r.cells, headers := r.headers }

/-- Whether a pusher is out of home (R84). -/
def pusherOut (p : Pins) : Bool := !p.home.a || !p.home.b

/-- The one effect of all three causes of reset (section 1.5). The queue of commands is the model's own and stays. LOG 16. -/
def resetMachine (baud1 baud0 : Bool) (tear : Tear) (s : State) : State :=
  { State.reset with
    pending := s.pending
    freeCount := s.freeCount + 1
    pins := s.pins
    rs := resetStore tear s.freeCount s.rs
    ft := { FaultTable.reset with causes := { CauseFlags.clear with baggerJam := pusherOut s.pins } }
    ml := { MessageLink.reset with strap := strapCode baud1 baud0 } }

/-- RESET (section 1.5, R2, R166). -/
def execReset (baud1 baud0 : Bool) (tear : Tear) (s : State) : Result := .next (resetMachine baud1 baud0 tear s)

/-- The overfull check at the end of INIT (R106, R116). -/
def endOfInitCheck (l : Lane) (s : State) : State := when (s.cc.get l).levelSince (overfullCheck l) s

/-- The completion of the start-up scan, in the stages of R190. -/
def completeScan (s : State) : State :=
  let s := scanRestores (scanSets s)
  let s := evalClipLow (evalBagLow s)
  let s := endOfInitCheck .b (endOfInitCheck .a s)
  enterStandby (raiseKey .startup s)

/-- START_UP_SCAN_COMPLETE (R190). -/
def execStartUpScanComplete (s : State) : Result :=
  .next (when (s.lsc.line == .init) (fun s => settle (completeScan s)) s)

/-! ## The link -/

/-- BYTE_RECEIVED (R175, R177): a byte whose stop bit is low is discarded. LOG 37. -/
def execByteReceived (byte : Byte) (stopBit : Bool) (s : State) : Result := .next (when stopBit (receiveByte byte) s)

/-- ASSEMBLER_TAKES_BYTE (R176). -/
def execAssemblerTakesByte (s : State) : Result := .next (takeByte s)

/-- The gap timer drops the partial frame (R176). -/
def dropFrame (s : State) : State := linkNotice .timeout (s.onMl (fun m => { m with assembler := .hunt, gap := none }))

/-- GAP_TIMER_RUN_OUT (R176). -/
def execGapTimerRunOut (s : State) : Result := .next (when (s.ml.gap.isSome && gapRuns s) dropFrame s)

/-- TRANSMIT_START (R181): TXHOLD is read, and the idle transmitter starts a frame when it is not asserted. -/
def execTransmitStart (txHold : Bool) (s : State) : Result :=
  let s := s.onPins (fun p => { p with txHold := txHold })
  .next (when (s.ml.tx.isNone && !txHold) startFrame s)

/-- A frame's last byte is sent (R181). -/
def frameOut (f : TxFrame) (s : State) : State :=
  s.onMl (fun m => { m with tx := none, replies := if f.isReply then m.replies.tail else m.replies })

/-- Whether a reply is that of an accepted RESTART (R185). -/
def Reply.restarts (r : Reply) : Bool := r.type == 0x03 && r.status == 0

/-- FRAME_SENT (R181, R185). -/
def execFrameSent (baud1 baud0 : Bool) (s : State) : Result :=
  .next (match s.ml.tx with
    | none => s
    | some f =>
      if f.isReply && s.ml.replies.head?.any Reply.restarts then resetMachine baud1 baud0 .beforeProgram s
      else frameOut f s)

/-! ## Eyes and belts -/

/-- EYE_SAMPLE (R30 to R32). -/
def execEyeSample (e : Eye) (level : Byte) (s : State) : Result := .next (sampleEye e level.toNat s)

/-- Whether a pending change can be confirmed by command: for BG the command is the moment its time has run (R32). -/
def mayConfirm (e : Eye) (s : State) : Bool :=
  match e with
  | .bg => (s.eu.channels.bg.change.isSome && s.eu.channels.bg.raw != s.eu.channels.bg.debounced)
  | _ => confirmable e s

/-- DEBOUNCE_CONFIRM (R32 to R34). -/
def execDebounceConfirm (e : Eye) (s : State) : Result := .next (when (mayConfirm e s) (confirmChange e) s)

/-- ENCODER_COUNT (R36, R37). -/
def execEncoderCount (b : Belt) (phaseA phaseB : Bool) (s : State) : Result := .next (sampleEncoder b phaseA phaseB s)

/-! ## Edges -/

/-- An edge in the line states of R11. -/
def onEdge (e : Eye) (leading : Bool) (f : Edge → State → State) (s : State) : State :=
  withEdge e leading (fun x s => settle (when (takesEdges s) (f x) s)) s

/-- A trailing edge of a tracked eye: it ends the blockage in every line state (R24). No rule orders that and the edge's own
move, window or count (R13, R18, R22); the blockage ends first: DESIGN CHOICE, LOG 50. -/
def onTrailing (e : TrackedEye) (f : State → State) (s : State) : State :=
  withEdge (eyeOf e) false (fun _ s => settle (when (takesEdges s) f (eyeCleared e s))) s

/-- INFEED_TRAILING_EDGE (R8, R9). -/
def execInfeedTrailingEdge (l : Lane) (s : State) : Result := .next (onEdge (infeedEye l) false (createRecord l) s)

/-- SLICER_LEADING_EDGE (R12). -/
def execSlicerLeadingEdge (l : Lane) (s : State) : Result := .next (onEdge (eyeOf (slicerEye l)) true (slicerLeading l) s)

/-- SLICER_TRAILING_EDGE (R13). -/
def execSlicerTrailingEdge (l : Lane) (s : State) : Result := .next (onTrailing (slicerEye l) (slicerTrailing l) s)

/-- MERGE_LEADING_EDGE (R16). -/
def execMergeLeadingEdge (l : Lane) (s : State) : Result := .next (onEdge (eyeOf (mergeEye l)) true (mergeLeading l) s)

/-- MERGE_TRAILING_EDGE (R18). -/
def execMergeTrailingEdge (l : Lane) (s : State) : Result := .next (onTrailing (mergeEye l) (startMergeWindow l) s)

/-- EXIT_LEADING_EDGE (R20). -/
def execExitLeadingEdge (s : State) : Result := .next (onEdge .ex true exitLeading s)

/-- EXIT_TRAILING_EDGE (R22). -/
def execExitTrailingEdge (s : State) : Result := .next (onTrailing .ex exitTrailing s)

/-- BAG_CONFIRM (R89): a BG leading edge; without a watch it is ignored. -/
def execBagConfirm (s : State) : Result :=
  .next (withEdge .bg true (fun _ s => settle (when s.mbc.confirmWatch.isSome bagConfirmed s)) s)

/-! ## Distances reached -/

/-- HEAD_AT_GATE (R10, R67). -/
def execHeadAtGate (l : Lane) (s : State) : Result :=
  .next (when (headAtGate l s) (fun s => infeedFollow l (admitIfReady l s)) s)

/-- BLADE_WINDOW_RUN_OUT (R14). -/
def execBladeWindowRunOut (l : Lane) (s : State) : Result :=
  .next (when (bladeWindowDue l s) (fun s => settle (loseBlade l s)) s)

/-- MERGE_WINDOW_RUN_OUT (R17). -/
def execMergeWindowRunOut (l : Lane) (s : State) : Result :=
  .next (when (mergeWindowDue l s) (fun s => settle (loseAccumHead l s)) s)

/-- EXIT_WINDOW_RUN_OUT (R21). -/
def execExitWindowRunOut (s : State) : Result :=
  .next (when (exitWindowDue s) (fun s => settle (exitHeadChanged (loseExitHead s))) s)

/-- STUCK_LIMIT_EXCEEDED (R24). -/
def execStuckLimitExceeded (e : TrackedEye) (s : State) : Result :=
  .next (when (stuckDue e s) (fun s => settle (raiseStuck e s)) s)

/-! ## The Scan Converter -/

/-- SCAN_TIMER_EXPIRY (R41). -/
def execScanTimerExpiry (s : State) : Result :=
  .next (scanTriggers (s.onSc (fun c => { c with timer := s.params.scanPeriod })))

/-- A result at its channel's monitor (R44). -/
def handResult (c : Channel) (result : Nat) (s : State) : State :=
  match c with
  | .tna => tensionResult .a result s
  | .tnb => tensionResult .b result s
  | .airp => airPressure result s
  | .cra => crumbResult .a result s
  | .crb => crumbResult .b result s

/-- A completed conversion (R40, R44). -/
def completeConversion (c : Channel) (result : Nat) (s : State) : State :=
  let s := s.onSc (fun x => { x with result := x.result.upd c (fun _ => result), age := x.age.upd c (fun _ => 0),
                                     inFlight := none })
  (handResult c result s).onSc ScanConverter.start

/-- CONVERSION_COMPLETE (R44). -/
def execConversionComplete (result : BitVec 10) (s : State) : Result :=
  .next (match s.sc.inFlight with
    | some c => settle (completeConversion c result.toNat s)
    | none => s)

/-! ## Lanes -/

/-- SPIN_UP_WAIT_END (R63). -/
def execSpinUpWaitEnd (l : Lane) (s : State) : Result :=
  .next (when ((s.lic.get l).blade == .spinning && (s.lic.get l).spinWait.isSome) (fun s => settle (spinUpEnd l s)) s)

/-- GATE_STROKE_END (R70, R139). -/
def execGateStrokeEnd (l : Lane) (s : State) : Result :=
  .next (when (s.dou.gateTimer.get l).isSome (fun s => settle (disarmGate l s)) s)

/-! ## The bagger -/

/-- The stroke timer of a motion runs out (R82, R83). -/
def strokeRunOut (s : State) : State :=
  match s.mbc.phase with
  | .extend | .retract => strokeStopped s
  | .homing => homingFailed s
  | _ => s.onMbc (fun m => { m with strokeTimer := none })

/-- PUSH_STROKE_TIMER_RUN_OUT (R82, R83). -/
def execPushStrokeTimerRunOut (s : State) : Result :=
  .next (when s.mbc.strokeTimer.isSome (fun s => settle (strokeRunOut s)) s)

/-- FLAP_SETTLE_END (R85). -/
def execFlapSettleEnd (s : State) : Result := .next (when s.mbc.flapTimer.isSome (fun s => settle (flapSettled s)) s)

/-- OPENING_END (R88). -/
def execOpeningEnd (s : State) : Result := .next (when s.mbc.openTimer.isSome (fun s => settle (openingOver s)) s)

/-- BAG_CONFIRM_WATCH_RUN_OUT (R89). -/
def execBagConfirmWatchRunOut (s : State) : Result :=
  .next (when s.mbc.confirmWatch.isSome (fun s => settle (bagMissed s)) s)

/-- BAG_BLAST_END (R90). -/
def execBagBlastEnd (s : State) : Result := .next (when s.mbc.blast.isSome (fun s => settle (endBlast s)) s)

/-- EXTENDED_SWITCH_CLOSES (R83): no effect outside the selected pusher's EXTEND. -/
def execExtendedSwitchCloses (l : Lane) (s : State) : Result :=
  .next (when (s.mbc.phase == .extend && s.mbc.lane == some l) (endExtend l) s)

/-- PUSHER_HOME_SWITCH_CHANGE (R82 to R85, R91). LOG 24. -/
def execPusherHomeSwitchChange (l : Lane) (closed : Bool) (s : State) : Result :=
  let s := s.onPins (fun p => { p with home := p.home.upd l (fun _ => closed) })
  let s := noticeCause .baggerJam .out (pusherOut s.pins) s
  .next (settle (when closed (pusherHome l) s))

/-- The dead time ends: a waiting valve turns on, and a retract valve ends DWELL (R83, R140). -/
def deadTimeOver (l : Lane) (s : State) : State :=
  let retracts := (s.dou.pusher.get l).waiting == some .retract && s.mbc.phase == .dwell && s.mbc.lane == some l
  when retracts startRetract (s.onPusher l Pusher.deadEnd)

/-- DEAD_TIME_END (R140). -/
def execDeadTimeEnd (l : Lane) (s : State) : Result := .next (when (s.dou.pusher.get l).dead.isSome (deadTimeOver l) s)

/-! ## The tyer -/

/-- PURGE_END (R92). -/
def execPurgeEnd (s : State) : Result := .next (when s.tsc.purge.isSome (fun s => settle (endPurge s)) s)

/-- TWIST_END (R94). -/
def execTwistEnd (s : State) : Result :=
  .next (when (s.tsc.tyer == .twist && s.tsc.phaseTimer.isSome) (fun s => settle (enterClip s)) s)

/-- CLIP_END (R95). -/
def execClipEnd (s : State) : Result :=
  .next (when (s.tsc.tyer == .clip && s.tsc.phaseTimer.isSome) (fun s => settle (enterHomeWait s)) s)

/-- TYER_HOME_SWITCH_CHANGE (R93, R95). LOG 39. -/
def execTyerHomeSwitchChange (closed : Bool) (s : State) : Result :=
  let s := s.onPins (fun p => { p with tyerHome := closed })
  .next (settle (if closed then tieIfHome s else s.onTsc (fun t => { t with leftHome := true })))

/-- TIE_TIMER_RUN_OUT (R96). -/
def execTieTimerRunOut (s : State) : Result := .next (when s.tsc.tieTimer.isSome (fun s => settle (jamTyer s)) s)

/-! ## Crumb -/

/-- AIR_WAIT_TIMER_RUN_OUT (R111). -/
def execAirWaitTimerRunOut (l : Lane) (s : State) : Result :=
  .next (when ((s.cc.get l).cycle == .airWait && (s.cc.get l).airWait.isSome) (fun s => settle (backOff l s)) s)

/-- BLOWING_END (R112). -/
def execBlowingEnd (l : Lane) (s : State) : Result :=
  .next (when ((s.cc.get l).cycle == .blowing && (s.cc.get l).phaseTimer.isSome) (fun s => settle (endBlowing l s)) s)

/-- SETTLE_END (R113). -/
def execSettleEnd (l : Lane) (s : State) : Result :=
  .next (when ((s.cc.get l).cycle == .settle && (s.cc.get l).phaseTimer.isSome) (fun s => settle (completeClear l s)) s)

/-- BACKOFF_END (R111). -/
def execBackoffEnd (l : Lane) (s : State) : Result :=
  .next (when ((s.cc.get l).cycle == .backoff && (s.cc.get l).backoff.isSome) (fun s => settle (endBackOff l s)) s)

/-! ## Safety, time, the store -/

/-- The safety inputs take a sample, and a latch that becomes set forces the pushers' valves off (R137, R138, R140). -/
def takeSafety (estopOpen guardOpen : Bool) (s : State) : State :=
  let was := latch s
  let s := s.onDou (fun d => { d with estop := d.estop.sample estopOpen, guardIn := d.guardIn.sample guardOpen })
  when (!was && latch s)
    (State.onDou (fun d => { d with pusher := ⟨d.pusher.a.latched s.params.deadTime, d.pusher.b.latched s.params.deadTime⟩ })) s

/-- SAFETY_SAMPLE (R137). ESTOP is raised before GUARD_OPEN where one sample opens both (R144): DESIGN CHOICE, LOG 47. -/
def execSafetySample (estopOpen guardOpen : Bool) (s : State) : Result :=
  let t := takeSafety estopOpen guardOpen s
  let t := inputTaken .estop s.dou.estop.isOpen t.dou.estop.isOpen t
  let t := inputTaken .guardOpen s.dou.guardIn.isOpen t.dou.guardIn.isOpen t
  .next (settle t)

/-- One second of the Calendar (R163). -/
def Calendar.tick (c : Calendar) : Calendar :=
  if c.second + 1 = 86400 then { c with phase := 0, second := 0, day := (c.day + 1) % 65536 }
  else { c with phase := 0, second := c.second + 1 }

/-- CALENDAR_TICK (R163). -/
def execCalendarTick (s : State) : Result := .next (s.onCal Calendar.tick)

/-- The kind of time a line state accrues (R133). -/
def timeKind : LineState → Option LineTime
  | .run | .drain => some .run
  | .hold => some .hold
  | .stop => some .stop
  | _ => none

def accumulator (k : LineTime) (c : LineControl) : Nat :=
  match k with
  | .run => c.runMs
  | .hold => c.holdMs
  | .stop => c.stopMs

/-- 1000 ms taken from an accumulator that has reached them. -/
def LineControl.takeSecond (k : LineTime) (c : LineControl) : LineControl :=
  match k with
  | .run => { c with runMs := c.runMs - 1000 }
  | .hold => { c with holdMs := c.holdMs - 1000 }
  | .stop => { c with stopMs := c.stopMs - 1000 }

/-- A second in the matching counter. -/
def LineBlock.addSecond (k : LineTime) (b : LineBlock) : LineBlock :=
  match k with
  | .run => { b with runSeconds := bump b.runSeconds }
  | .hold => { b with holdSeconds := bump b.holdSeconds }
  | .stop => { b with stopSeconds := bump b.stopSeconds }

/-- LINE_TIME_SECOND (R133): a second of the time the line state accrues, or of an accumulator that stands at 1000. -/
def execLineTimeSecond (k : LineTime) (s : State) : Result :=
  .next (when (timeKind s.lsc.line == some k || decide (1000 ≤ accumulator k s.lsc))
    (fun s => countLine (LineBlock.addSecond k) (s.onLsc (LineControl.takeSecond k))) s)

/-- PAGE_PROGRAM_COMPLETE (R166): the program in flight, verified or not. -/
def execPageProgramComplete (verified : Bool) (s : State) : Result :=
  .next (match s.rs.writer with
    | some w => if verified then programVerified w s else programFailed w s
    | none => s)

end Sys2Proof.Machine
end

