-- ==== Sys2Proof/Machine/Time.lean ====
section
/-! DEFINITION. What an idle block does: the events that are due by its own timers and belts, and the passing of one
millisecond. LOG 1, LOG 2. -/

namespace Sys2Proof.Machine

/-! ## Due events -/

/-- A timer that has run to 0. -/
def Timer.ended (t : Timer) : Bool := t == some 0

/-- The command of an edge in flight. -/
def Edge.command (x : Edge) : Option Instr :=
  match x.eye, x.leading with
  | .ia, false => some (.infeedTrailingEdge .a)
  | .ib, false => some (.infeedTrailingEdge .b)
  | .ca, true => some (.slicerLeadingEdge .a)
  | .cb, true => some (.slicerLeadingEdge .b)
  | .ca, false => some (.slicerTrailingEdge .a)
  | .cb, false => some (.slicerTrailingEdge .b)
  | .ma, true => some (.mergeLeadingEdge .a)
  | .mb, true => some (.mergeLeadingEdge .b)
  | .ma, false => some (.mergeTrailingEdge .a)
  | .mb, false => some (.mergeTrailingEdge .b)
  | .ex, true => some .exitLeadingEdge
  | .ex, false => some .exitTrailingEdge
  | .bg, true => some .bagConfirm
  | _, _ => none

/-- A command when a condition holds. -/
def dueIf (c : Bool) (i : Instr) : List Instr := if c then [i] else []

def allEyes : List Eye := [.ia, .ib, .ca, .cb, .ma, .mb, .bg, .ex]

/-- The edges that their blocks can take: the oldest of each eye. -/
def dueEdges (s : State) : List Instr := allEyes.filterMap (fun e => (nextEdge e s).bind Edge.command)

/-- The events of one lane's timers and belts. -/
def dueLane (l : Lane) (s : State) : List Instr :=
  dueIf (admits l s) (.headAtGate l) ++ dueIf (bladeWindowDue l s) (.bladeWindowRunOut l)
    ++ dueIf (mergeWindowDue l s) (.mergeWindowRunOut l)
    ++ dueIf ((s.lic.get l).blade == .spinning && (s.lic.get l).spinWait.ended) (.spinUpWaitEnd l)
    ++ dueIf (s.dou.gateTimer.get l).ended (.gateStrokeEnd l)
    ++ dueIf (s.dou.pusher.get l).dead.ended (.deadTimeEnd l)
    ++ dueIf ((s.cc.get l).cycle == .airWait && (s.cc.get l).airWait.ended) (.airWaitTimerRunOut l)
    ++ dueIf ((s.cc.get l).cycle == .blowing && (s.cc.get l).phaseTimer.ended) (.blowingEnd l)
    ++ dueIf ((s.cc.get l).cycle == .settle && (s.cc.get l).phaseTimer.ended) (.settleEnd l)
    ++ dueIf ((s.cc.get l).cycle == .backoff && (s.cc.get l).backoff.ended) (.backoffEnd l)

/-- The events of the stations. -/
def dueStations (s : State) : List Instr :=
  dueIf (exitWindowDue s) .exitWindowRunOut ++ dueIf s.mbc.strokeTimer.ended .pushStrokeTimerRunOut
    ++ dueIf s.mbc.flapTimer.ended .flapSettleEnd ++ dueIf s.mbc.openTimer.ended .openingEnd
    ++ dueIf s.mbc.confirmWatch.ended .bagConfirmWatchRunOut ++ dueIf s.mbc.blast.ended .bagBlastEnd
    ++ dueIf s.tsc.purge.ended .purgeEnd ++ dueIf (s.tsc.tyer == .twist && s.tsc.phaseTimer.ended) .twistEnd
    ++ dueIf (s.tsc.tyer == .clip && s.tsc.phaseTimer.ended) .clipEnd ++ dueIf s.tsc.tieTimer.ended .tieTimerRunOut

/-- The events of the eyes. -/
def dueEyes (s : State) : List Instr :=
  (allEyes.filter (fun e => confirmable e s)).map .debounceConfirm ++ dueEdges s
    ++ ([TrackedEye.ca, .cb, .ma, .mb, .ex].filter (fun e => stuckDue e s)).map .stuckLimitExceeded

/-- The events of the link. -/
def dueLink (s : State) : List Instr :=
  dueIf (!s.ml.fifo.isEmpty && assemblerTakes s) .assemblerTakesByte ++ dueIf (s.ml.gap.ended && gapRuns s) .gapTimerRunOut
    ++ dueIf (!assemblerTakes s && decide (s.ml.replies.length < 4)) .dispatchFrame
    ++ dueIf (s.ml.tx.isNone && !s.pins.txHold && (!s.ml.replies.isEmpty || !s.ml.reports.isEmpty)) (.transmitStart false)

/-- The events of the clocks. -/
def dueClocks (s : State) : List Instr :=
  dueIf (decide (1000 ≤ s.cal.phase)) .calendarTick ++ dueIf (s.sc.timer == 0) .scanTimerExpiry
    ++ dueIf (decide (1000 ≤ s.lsc.runMs)) (.lineTimeSecond .run) ++ dueIf (decide (1000 ≤ s.lsc.holdMs)) (.lineTimeSecond .hold)
    ++ dueIf (decide (1000 ≤ s.lsc.stopMs)) (.lineTimeSecond .stop)

/-- Every event that is due. -/
def dueEvents (s : State) : List Instr :=
  dueLane .a s ++ dueLane .b s ++ dueStations s ++ dueEyes s ++ dueLink s ++ dueClocks s

/-! ## One millisecond -/

def LaneInfeed.tick (i : LaneInfeed) : LaneInfeed := { i with spinWait := i.spinWait.tick }

def MergeBag.tick (m : MergeBag) : MergeBag :=
  { m with strokeTimer := m.strokeTimer.tick, flapTimer := m.flapTimer.tick, openTimer := m.openTimer.tick,
           confirmWatch := m.confirmWatch.tick, blast := m.blast.tick }

def TieStation.tick (t : TieStation) : TieStation :=
  { t with purge := t.purge.tick, phaseTimer := t.phaseTimer.tick, tieTimer := t.tieTimer.tick }

def Crumb.tick (c : Crumb) : Crumb :=
  { c with airWait := c.airWait.tick, phaseTimer := c.phaseTimer.tick, backoff := c.backoff.tick }

def DriveUnit.tick (d : DriveUnit) : DriveUnit :=
  { d with gateTimer := ⟨d.gateTimer.a.tick, d.gateTimer.b.tick⟩,
           pusher := ⟨{ d.pusher.a with dead := d.pusher.a.dead.tick }, { d.pusher.b with dead := d.pusher.b.dead.tick }⟩ }

/-- An age rises, held at 65534; 65535 says that no result has been stored (R39). -/
def ageTick (n : Nat) : Nat := if n < 65534 then n + 1 else n

def ScanConverter.tick (c : ScanConverter) : ScanConverter :=
  { c with timer := c.timer - 1,
           age := ⟨ageTick c.age.tna, ageTick c.age.tnb, ageTick c.age.airp, ageTick c.age.cra, ageTick c.age.crb⟩ }

/-- The time a pending change of BG has held (R32). -/
def EyeChannel.tick (c : EyeChannel) : EyeChannel := { c with change := c.change.map (fun p => { p with held := p.held + 1 }) }

def LineControl.tick (c : LineControl) : LineControl :=
  match timeKind c.line with
  | some .run => { c with runMs := c.runMs + 1 }
  | some .hold => { c with holdMs := c.holdMs + 1 }
  | some .stop => { c with stopMs := c.stopMs + 1 }
  | none => c

/-- One millisecond passes. -/
def tick (s : State) : State :=
  let gap := if gapRuns s then s.ml.gap.tick else s.ml.gap
  { s with
    eu := { s.eu with channels := s.eu.channels.upd .bg EyeChannel.tick }
    sc := s.sc.tick
    lic := ⟨s.lic.a.tick, s.lic.b.tick⟩
    mbc := s.mbc.tick
    tsc := s.tsc.tick
    cc := ⟨s.cc.a.tick, s.cc.b.tick⟩
    lsc := s.lsc.tick
    dou := s.dou.tick
    cal := { s.cal with phase := s.cal.phase + 1 }
    ml := { s.ml with gap := gap } }

/-- The event an idle block takes: the one that is due, or of several the one that a free value chooses. LOG 2. -/
def idleEvent (s : State) : Option Instr :=
  match dueEvents s with
  | [] => none
  | e :: rest => some ((e :: rest).getD (Config.dueChoice s.freeCount % (e :: rest).length) e)

/-- The state in which the chosen event is taken: the free value has been used. -/
def choiceUsed (s : State) : State := { s with freeCount := s.freeCount + 1 }

end Sys2Proof.Machine
end

