-- ==== Sys2Proof/Machine/Dispatch.lean ====
section
/-! DEFINITION. Execution of one command: one arm for each constructor of Instr. -/

namespace Sys2Proof.Machine

def exec (i : Instr) (s : State) : Host.Outcome State Fault Refusal :=
  match i with
  | .identify x0 => Sys2Proof.Machine.execIdentify x0 s
  | .status x0 => Sys2Proof.Machine.execStatus x0 s
  | .restart x0 => Sys2Proof.Machine.execRestart x0 s
  | .clockSet x0 x1 x2 => Sys2Proof.Machine.execClockSet x0 x1 x2 s
  | .configSet x0 x1 x2 x3 => Sys2Proof.Machine.execConfigSet x0 x1 x2 x3 s
  | .configGet x0 x1 x2 => Sys2Proof.Machine.execConfigGet x0 x1 x2 s
  | .recipeWrite x0 x1 x2 => Sys2Proof.Machine.execRecipeWrite x0 x1 x2 s
  | .recipeRead x0 x1 => Sys2Proof.Machine.execRecipeRead x0 x1 s
  | .recipeSave x0 => Sys2Proof.Machine.execRecipeSave x0 s
  | .laneSelect x0 x1 x2 => Sys2Proof.Machine.execLaneSelect x0 x1 x2 s
  | .lineStart x0 => Sys2Proof.Machine.execLineStart x0 s
  | .lineHold x0 => Sys2Proof.Machine.execLineHold x0 s
  | .lineResume x0 => Sys2Proof.Machine.execLineResume x0 s
  | .lineDrain x0 => Sys2Proof.Machine.execLineDrain x0 s
  | .lineStandby x0 => Sys2Proof.Machine.execLineStandby x0 s
  | .laneEnable x0 x1 x2 => Sys2Proof.Machine.execLaneEnable x0 x1 x2 s
  | .crumbClear x0 x1 => Sys2Proof.Machine.execCrumbClear x0 x1 s
  | .magazineLoad x0 x1 x2 => Sys2Proof.Machine.execMagazineLoad x0 x1 x2 s
  | .tyerResolve x0 x1 => Sys2Proof.Machine.execTyerResolve x0 x1 s
  | .faultList x0 x1 => Sys2Proof.Machine.execFaultList x0 x1 s
  | .faultClear x0 => Sys2Proof.Machine.execFaultClear x0 s
  | .trackList x0 x1 x2 => Sys2Proof.Machine.execTrackList x0 x1 x2 s
  | .loafQuery x0 x1 => Sys2Proof.Machine.execLoafQuery x0 x1 s
  | .totalsRead x0 x1 => Sys2Proof.Machine.execTotalsRead x0 x1 s
  | .shiftClose x0 => Sys2Proof.Machine.execShiftClose x0 s
  | .shiftRead x0 x1 x2 => Sys2Proof.Machine.execShiftRead x0 x1 x2 s
  | .logIndex x0 => Sys2Proof.Machine.execLogIndex x0 s
  | .sensorRead x0 x1 => Sys2Proof.Machine.execSensorRead x0 x1 s
  | .reset x0 x1 x2 => Sys2Proof.Machine.execReset x0 x1 x2 s
  | .startUpScanComplete => Sys2Proof.Machine.execStartUpScanComplete s
  | .byteReceived x0 x1 => Sys2Proof.Machine.execByteReceived x0 x1 s
  | .assemblerTakesByte => Sys2Proof.Machine.execAssemblerTakesByte s
  | .gapTimerRunOut => Sys2Proof.Machine.execGapTimerRunOut s
  | .dispatchFrame => Sys2Proof.Machine.execDispatchFrame s
  | .transmitStart x0 => Sys2Proof.Machine.execTransmitStart x0 s
  | .frameSent x0 x1 => Sys2Proof.Machine.execFrameSent x0 x1 s
  | .eyeSample x0 x1 => Sys2Proof.Machine.execEyeSample x0 x1 s
  | .debounceConfirm x0 => Sys2Proof.Machine.execDebounceConfirm x0 s
  | .infeedTrailingEdge x0 => Sys2Proof.Machine.execInfeedTrailingEdge x0 s
  | .slicerLeadingEdge x0 => Sys2Proof.Machine.execSlicerLeadingEdge x0 s
  | .slicerTrailingEdge x0 => Sys2Proof.Machine.execSlicerTrailingEdge x0 s
  | .mergeLeadingEdge x0 => Sys2Proof.Machine.execMergeLeadingEdge x0 s
  | .mergeTrailingEdge x0 => Sys2Proof.Machine.execMergeTrailingEdge x0 s
  | .exitLeadingEdge => Sys2Proof.Machine.execExitLeadingEdge s
  | .exitTrailingEdge => Sys2Proof.Machine.execExitTrailingEdge s
  | .bagConfirm => Sys2Proof.Machine.execBagConfirm s
  | .encoderCount x0 x1 x2 => Sys2Proof.Machine.execEncoderCount x0 x1 x2 s
  | .headAtGate x0 => Sys2Proof.Machine.execHeadAtGate x0 s
  | .bladeWindowRunOut x0 => Sys2Proof.Machine.execBladeWindowRunOut x0 s
  | .mergeWindowRunOut x0 => Sys2Proof.Machine.execMergeWindowRunOut x0 s
  | .exitWindowRunOut => Sys2Proof.Machine.execExitWindowRunOut s
  | .stuckLimitExceeded x0 => Sys2Proof.Machine.execStuckLimitExceeded x0 s
  | .scanTimerExpiry => Sys2Proof.Machine.execScanTimerExpiry s
  | .conversionComplete x0 => Sys2Proof.Machine.execConversionComplete x0 s
  | .spinUpWaitEnd x0 => Sys2Proof.Machine.execSpinUpWaitEnd x0 s
  | .gateStrokeEnd x0 => Sys2Proof.Machine.execGateStrokeEnd x0 s
  | .pushStrokeTimerRunOut => Sys2Proof.Machine.execPushStrokeTimerRunOut s
  | .flapSettleEnd => Sys2Proof.Machine.execFlapSettleEnd s
  | .openingEnd => Sys2Proof.Machine.execOpeningEnd s
  | .bagConfirmWatchRunOut => Sys2Proof.Machine.execBagConfirmWatchRunOut s
  | .bagBlastEnd => Sys2Proof.Machine.execBagBlastEnd s
  | .extendedSwitchCloses x0 => Sys2Proof.Machine.execExtendedSwitchCloses x0 s
  | .pusherHomeSwitchChange x0 x1 => Sys2Proof.Machine.execPusherHomeSwitchChange x0 x1 s
  | .deadTimeEnd x0 => Sys2Proof.Machine.execDeadTimeEnd x0 s
  | .purgeEnd => Sys2Proof.Machine.execPurgeEnd s
  | .twistEnd => Sys2Proof.Machine.execTwistEnd s
  | .clipEnd => Sys2Proof.Machine.execClipEnd s
  | .tyerHomeSwitchChange x0 => Sys2Proof.Machine.execTyerHomeSwitchChange x0 s
  | .tieTimerRunOut => Sys2Proof.Machine.execTieTimerRunOut s
  | .airWaitTimerRunOut x0 => Sys2Proof.Machine.execAirWaitTimerRunOut x0 s
  | .blowingEnd x0 => Sys2Proof.Machine.execBlowingEnd x0 s
  | .settleEnd x0 => Sys2Proof.Machine.execSettleEnd x0 s
  | .backoffEnd x0 => Sys2Proof.Machine.execBackoffEnd x0 s
  | .safetySample x0 x1 => Sys2Proof.Machine.execSafetySample x0 x1 s
  | .calendarTick => Sys2Proof.Machine.execCalendarTick s
  | .lineTimeSecond x0 => Sys2Proof.Machine.execLineTimeSecond x0 s
  | .pageProgramComplete x0 => Sys2Proof.Machine.execPageProgramComplete x0 s

end Sys2Proof.Machine
end

