-- ==== Sys2Proof/Machine/Step.lean ====
section
/-! DEFINITION. One step: the command at the front of the queue, or on an empty queue one internal event that is due, or
one millisecond. LOG 1. -/

namespace Sys2Proof.Machine

/-- The state with a queue of commands. -/
def State.withPending (q : List Instr) (s : State) : State := { s with pending := q }

def step (s : State) : Host.Outcome State Fault Refusal :=
  match s.pending with
  | c :: rest => exec c (s.withPending rest)
  | [] =>
    match idleEvent s with
    | some e => exec e (choiceUsed s)
    | none => .next (tick s)

/-- The command a table word spells, at the front of the queue; no row of the table gives bits. -/
def State.withFetchWord (s : State) (nbits w : Nat) : State :=
  match decodeTableWord nbits w with
  | some c => { s with pending := c :: s.pending }
  | none => s

end Sys2Proof.Machine
end

