-- ==== Sys2Proof/Safety.lean ====
section
/-! DEFINITION. What the statements speak of: the invariants of the machine (the canonical form of the array, the bounds of
the link's queues, the service order of the Fault Table, the exclusion of a pusher's two valves, the capacities of the
zones, the knives and shakers, the stored recipes, the stations and the air manifold, the records of the live shift), the
flags of a lane as their rules give them, the effects of a grant of air, the parameters' table, the bounds that a stored
shift record keeps, the balance of the live shift, the frames of the request commands, and what stands outside the line's
own operations. -/

namespace Sys2Proof.Machine

/-- R140: the two valves of a pusher are never both on; while one waits, both are off. -/
def Pusher.safe (p : Pusher) : Bool :=
  !(p.extendOn && p.retractOn) && (p.waiting.isNone || (!p.extendOn && !p.retractOn))

def pushersSafe (s : State) : Bool := s.dou.pusher.a.safe && s.dou.pusher.b.safe

/-- R175, R182: the bounds of the link's queues, and at most one entry for each report key. -/
def linkSafe (s : State) : Bool :=
  decide (s.ml.fifo.length ≤ 256) && decide (s.ml.replies.length ≤ 4) && decide s.ml.reports.Nodup

/-- R143: at most one entry for each pair of kind and subject. -/
def FaultTable.pairsOnce (t : FaultTable) : Bool := decide (t.entries.map (fun e => (e.kind, e.subject))).Nodup

/-- R146: each entry on the stack is strictly more urgent than every entry beneath it, and no pending entry is more urgent
than the presented one; a table that is not empty has a presented entry. -/
def FaultTable.inOrder (t : FaultTable) : Bool :=
  decide (t.stack.Pairwise (fun e f => e.priority < f.priority))
    && t.waiting.all (fun e => t.stack.head?.any (fun p => decide (p.priority ≤ e.priority)))

def faultsSafe (s : State) : Bool := s.ft.pairsOnce && s.ft.inOrder

/-- R165: the array's cells are in canonical form. -/
def arraySafe (s : State) : Bool := Memory.wf s.rs.cells

/-- What keeps a lane's ACCUM within its capacity (R13, R72): U is at most 9, an unset ACC_FULL flag says that the
occupancy is below U, and a record in BLADE still finds room. -/
def laneRoom (l : Lane) (s : State) : Bool :=
  decide ((s.tt.approach.get l).length ≤ 4) && decide ((s.tt.accum.get l).length ≤ 9)
    && ((s.tt.blade.get l).isNone || decide ((s.tt.accum.get l).length ≤ 8))
    && decide (s.params.upper.get l ≤ 9) && decide (s.params.lower.get l < s.params.upper.get l)
    && ((s.lic.get l).accFull || decide ((s.tt.accum.get l).length < s.params.upper.get l))
    && ((s.lic.get l).closure.accFull == (s.lic.get l).accFull)
    && (!(s.tt.blade.get l).isSome || (s.lic.get l).closure.bladeOccupied)

/-- R3: the zones are within their capacities. -/
def zonesSafe (s : State) : Bool := laneRoom .a s && laneRoom .b s && decide (s.tt.exit.length ≤ 3)

/-- R110, R112: a knife valve or a shaker is commanded on only while its lane's crumb cycle is in BLOWING, and a knife waits
for air only while the cycle is in AIR_WAIT. -/
def knivesSafe (s : State) : Bool :=
  [Lane.a, .b].all (fun l =>
    ((!(s.dou.knife.get l) && !(s.dou.shaker.get l)) || (s.cc.get l).cycle == .blowing)
      && ((s.ama.waiting.get (knife l)).isNone || (s.cc.get l).cycle == .airWait))

/-- R48: what a slot can hold, at the widths of R188; the name without its padding. -/
def Recipe.stored (r : Recipe) : Bool :=
  decide (r.code < 65536) && decide (r.name.length ≤ 12) && decide (trimName r.name = r.name) && decide (r.nominal < 65536)
    && decide (r.tolerance < 256) && decide (r.feed < 65536) && decide (r.crumb < 256) && decide (r.blast < 65536)
    && decide (r.shelf < 256)

/-- R48: sixteen slots, each as it can be stored. -/
def recipesSafe (s : State) : Bool := decide (s.rt.length = 16) && s.rt.all Recipe.stored

/-! ## The stations and the air manifold -/

/-- R78, R82 to R91: each phase and timer of a bagger cycle runs in its own bagger state, a stopped cycle is in PUSHING with
no phase, and BAGGER is empty from SELECT until the end of OPENING. -/
def baggerSafe (s : State) : Bool :=
  let m := s.mbc
  (m.phase == .none || (if m.phase == .homing || m.phase == .flapSettle then m.bagger == .select else m.bagger == .pushing))
    && (m.flapTimer.isNone || m.phase == .flapSettle) && (m.openTimer.isNone || m.bagger == .opening)
    && (!m.stopped || (m.bagger == .pushing && m.phase == .none))
    && (s.tt.bagger.isNone || !(m.bagger == .select || m.bagger == .airWait || m.bagger == .opening))

/-- R92 to R97: the tie timer runs in TWIST, CLIP and HOME_WAIT alone, a purge in PURGE_WAIT alone, and only the TYER record
of an idle tyer is jammed. -/
def tyerSafe (s : State) : Bool :=
  (s.tsc.tieTimer.isNone || !(s.tsc.tyer == .idle || s.tsc.tyer == .purgeWait))
    && (s.tsc.purge.isNone || s.tsc.tyer == .purgeWait) && (!s.tt.tyer.any (·.jammed) || s.tsc.tyer == .idle)
    && (s.tt.approach.a ++ s.tt.approach.b ++ s.tt.blade.a.toList ++ s.tt.blade.b.toList ++ s.tt.accum.a ++ s.tt.accum.b
      ++ s.tt.bagger.toList).all (fun r => !r.jammed)

/-- R117: a requester waits in one waiting set or holds one channel, not both. -/
def AirArbiter.placedOnce (r : Requester) (a : AirArbiter) : Bool :=
  !(a.holder.air0 == some r && a.holder.air1 == some r) && ((a.held r).isNone || (a.waiting.get r).isNone)

/-- R87, R90, R92, R110, R117: each requester waits or holds in one place at most, and only in the state of its owner that
a request or a grant belongs to. -/
def airSafe (s : State) : Bool :=
  baggerSafe s && tyerSafe s && [Requester.bag, .purge, .kna, .knb].all (fun r => s.ama.placedOnce r)
    && ((s.ama.held .bag).isNone || s.mbc.blast.isSome)
    && (s.ama.waiting.bag.isNone || (s.mbc.bagger == .airWait && s.mbc.blast.isNone))
    && ((s.ama.held .purge).isNone || s.tsc.purge.isSome)
    && (s.ama.waiting.purge.isNone || (s.tsc.tyer == .purgeWait && s.tsc.purge.isNone))
    && [Lane.a, .b].all (fun l => ((s.ama.held (knife l)).isNone || (s.cc.get l).cycle == .blowing)
      && ((s.ama.waiting.get (knife l)).isNone || (s.cc.get l).cycle == .airWait))

/-- R112: BLOWING begins in a lane, with the knife valve or with the shaker alone. In STOP no output turns on (R136). -/
def Blows (l : Lane) (shakerOnly : Bool) (s t : State) : Prop :=
  t.cc = s.cc.upd l (fun c => { c with cycle := .blowing, shakerOnly := shakerOnly, airWait := none,
                                       phaseTimer := some s.params.knifeMs }) ∧
  t.dou = (if s.lsc.line = .stop then s.dou else { s.dou with
    shaker := s.dou.shaker.upd l (fun _ => true)
    knife := if shakerOnly then s.dou.knife else s.dou.knife.upd l (fun _ => true) }) ∧
  { t with cc := s.cc, dou := s.dou, ama := s.ama } = s

/-- R87: the bag grant that finds a bag, but for the arbiter's own part. The blast takes its time from the slot of the
selected record. -/
def BagOpens (s t : State) : Prop :=
  (∃ ms, t.mbc = { s.mbc with
    bagger := .opening, openTimer := some 100, blast := some ms, bagCount := s.mbc.bagCount - 1
    bagLow := decide (s.mbc.bagCount - 1 ≤ s.params.lowMark.bags) } ∧
    ∀ l tag z n r slot, s.mbc.selected = some (l, tag) → s.tt.locate tag = some (z, n, r) → r.recipeSlot = some slot →
      ms = (recipeAt slot s).blast) ∧
  t.tu.live.line.bagsUsed = bump s.tu.live.line.bagsUsed ∧
  t.dou = (if s.lsc.line = .stop then s.dou else { s.dou with bagBlast := true }) ∧
  { t with mbc := s.mbc, dou := s.dou, ama := s.ama, ft := s.ft, tu := s.tu, lic := s.lic,
           ml := { t.ml with reports := s.ml.reports } } = s

/-- R87, R92, R112, R120: the grant of a channel to a requester and what its owner does; for BAG, with a bag left. -/
def Granted (r : Requester) (c : AirChannel) (s t : State) : Prop :=
  t.ama = { s.ama with
    holder := s.ama.holder.upd c (fun _ => some r)
    waiting := s.ama.waiting.upd r (fun _ => none)
    lastKnife := if r = .kna ∨ r = .knb then some r else s.ama.lastKnife } ∧
  match r with
  | .bag => BagOpens s t
  | .purge =>
    t.tsc = { s.tsc with purge := some 200 } ∧
    t.dou = (if s.lsc.line = .stop then s.dou else { s.dou with purge := true }) ∧
    { t with tsc := s.tsc, dou := s.dou, ama := s.ama } = s
  | .kna => Blows .a false s t
  | .knb => Blows .b false s t

/-! ## A lane's flags -/

/-- R65, R72, R74, R147: the closure set holds each reason just while its condition holds, ACC_FULL and the approach-high
flag stand as their occupancies let them, and TUNNEL_READY follows. -/
def laneInStep (l : Lane) (s : State) : Prop :=
  let i := s.lic.get l
  let filled := (s.tt.accum.get l).length
  let near := (s.tt.approach.get l).length
  i.closure = {
    laneDisabled := !i.enabled && s.lsc.line != .drain
    lineNotRunning := s.lsc.line != .run && s.lsc.line != .drain
    bladeNotReady := i.blade != .ready
    bladeOccupied := (s.tt.blade.get l).isSome
    accFull := i.accFull
    crumbGap := [CycleState.requested, .airWait, .blowing, .settle].any (fun c => c == (s.cc.get l).cycle)
    faultHold := s.ft.entries.any (fun e => actionOf e.kind e.subject == .laneHold l)
    noRecipe := i.active.isNone && i.pendingSel.isNone } ∧
  (i.accFull = true → s.params.lower.get l ≤ filled ∨ s.params.upper.get l ≤ filled) ∧
  (i.accFull = false → filled < s.params.upper.get l ∨ filled < s.params.lower.get l) ∧
  (i.approachHigh = true → 2 ≤ near) ∧ (i.approachHigh = false → near ≤ 2) ∧
  i.tunnelReady = (s.lsc.line == .run && i.enabled && !i.approachHigh)

/-- A lane's record of another state with the flags that follow from other state put aside: the closure set, ACC_FULL, the
approach-high flag and TUNNEL_READY are those of the given one. -/
def LaneInfeed.withFlagsOf (i j : LaneInfeed) : LaneInfeed :=
  { j with closure := i.closure, accFull := i.accFull, approachHigh := i.approachHigh, tunnelReady := i.tunnelReady }

/-! ## Parameters (R186) -/

/-- R186: id, number of instances, least value, greatest value, accepted in STANDBY only. -/
def paramTable : List (Nat × Nat × Nat × Nat × Bool) :=
  [(1, 5, 100, 20000, true), (2, 8, 0, 255, false), (3, 8, 0, 31, false), (4, 8, 2, 20, false), (5, 2, 50, 1000, true),
   (6, 2, 300, 3000, true), (7, 2, 20, 400, true), (8, 1, 300, 3000, true), (9, 2, 2, 9, false), (10, 2, 0, 8, false)]
  ++ [(11, 1, 300, 4000, true), (12, 1, 20, 400, true), (13, 1, 200, 3000, false), (14, 1, 10, 200, false),
   (15, 1, 400, 3000, false), (16, 1, 0, 1000, false), (17, 2, 0, 7, false), (18, 1, 500, 60000, false),
   (19, 1, 0, 1022, false), (20, 1, 1, 1023, false)]
  ++ [(21, 1, 200, 5000, false), (22, 1, 500, 10000, false), (23, 1, 2, 120, false), (24, 1, 0, 1022, false),
   (25, 1, 1, 1023, false), (26, 1, 0, 1023, false), (27, 1, 10, 100, false), (28, 2, 0, 9999, false), (29, 4, 0, 1, false),
   (30, 4, 0, 2, false)]

/-- R186: what a value must keep beside its range: the pairing with its partner, the gap of the purge interval, and NONE
for the knives alone. -/
def paired (id index v : Nat) (p : Params) : Prop :=
  (id = 9 → ∀ l, laneAt index = some l → p.lower.get l < v) ∧ (id = 10 → ∀ l, laneAt index = some l → v < p.upper.get l) ∧
  (id = 16 → v = 0 ∨ 50 ≤ v) ∧ (id = 19 → v < p.lOver) ∧ (id = 20 → p.lClear < v) ∧ (id = 24 → v < p.tLow) ∧
  (id = 25 → p.tBreak < v) ∧ (id = 30 → v = 2 → 2 ≤ index)

/-! ## Counts of products (R158) -/

/-- R158: a count for a product code goes into the first entry of the code, else into a new entry at the tail while fewer
than 24 exist, else into the other entry. -/
def productCounted (code : Nat) (f : Counters → Counters) (t : Totals) : Totals :=
  match t.products.findIdx? (fun e => e.code == code) with
  | some i => { t with products := t.products.modify i (fun e => { e with counters := f e.counters }) }
  | none =>
    if t.products.length < 24 then { t with products := t.products ++ [{ code := code, counters := f Counters.zero }] }
    else { t with other := some (f (t.other.getD Counters.zero)) }

/-- R146, R189: a presentation counts one fault taken, before the scan has set the live totals into the start-up tally. -/
def TotalsUnit.faultCounted (u : TotalsUnit) : TotalsUnit :=
  if u.totalsSet then { u with live := { u.live with line := { u.live.line with faultsTaken := bump u.live.line.faultsTaken } } }
  else { u with tally := u.tally + 1 }

/-! ## What a stored shift record holds (R156, R165, R188) -/

def LineBlock.fits (b : LineBlock) : Bool :=
  [b.admitted, b.bagged, b.rejected, b.lost, b.ties, b.clipsUsed, b.bagsUsed, b.crumbClears.a, b.crumbClears.b,
    b.runSeconds, b.holdSeconds, b.stopSeconds, b.faultsTaken].all (fun n => decide (n < 4294967296))

def Counters.fits (c : Counters) : Bool :=
  [c.admitted, c.bagged, c.rejectedOffSize, c.rejectedUncertain, c.rejectedTieFail, c.rejectedStopDiscard, c.lost,
    c.offSizePassed].all (fun n => decide (n < 4294967296))

def Stamp.fits (t : Stamp) : Bool := decide (t.day < 65536) && decide (t.second < 4294967296)

def Totals.fits (t : Totals) : Bool :=
  t.openTime.all Stamp.fits && decide (t.carriedIn < 256) && t.line.fits && decide (t.products.length ≤ 24)
    && t.products.all (fun e => decide (e.code < 65536) && e.counters.fits) && t.other.all Counters.fits

/-- A closed shift whose fields fit the widths of its record. -/
def ClosedShift.fits (c : ClosedShift) : Bool := c.totals.fits && c.closeTime.fits && decide (c.carriedOut < 256)

/-- R170: a state whose checkpoint's fields fit the widths of its record. -/
def checkpointFits (s : State) : Bool :=
  s.tu.live.fits && decide (s.mbc.bagCount < 65536) && decide (s.tsc.clipCount < 65536)
    && [Lane.a, .b].all (fun l => decide ((s.cc.get l).estimate < 65536) && (s.lic.get l).active.all (fun n => decide (n < 256)))

/-- R159: the balance of the live shift. -/
def balanced (s : State) : Prop :=
  s.tu.live.carriedIn + s.tu.live.line.admitted
    = s.tu.live.line.bagged + s.tu.live.line.rejected + s.tu.live.line.lost + admittedCount s

/-- R1, R65: the records in APPROACH are the ones not yet admitted, and a record in BLADE stands in the closure set. With
this an admission, a removal and a move keep the balance. -/
def liveSafe (s : State) : Bool :=
  [Lane.a, .b].all (fun l => (s.tt.approach.get l).all (fun r => !r.admitted) && (s.tt.blade.get l).all (·.admitted)
      && (s.tt.accum.get l).all (·.admitted) && ((s.tt.blade.get l).isNone || (s.lic.get l).closure.bladeOccupied))
    && s.tt.bagger.all (·.admitted) && s.tt.tyer.all (·.admitted) && s.tt.exit.all (·.admitted)

/-- The four counters of the balance have room for what one step can count: the records there are, and two admissions. -/
def countersBelow (s : State) : Prop :=
  ∀ n ∈ [s.tu.live.line.admitted, s.tu.live.line.bagged, s.tu.live.line.rejected, s.tu.live.line.lost],
    n + s.records.length + 2 ≤ 4294967295

/-! ## Requests -/

/-- R179: the dispatcher hands a request on: fewer than 4 replies are queued, no restart is pending, INIT is over. -/
def serves (s : State) : Bool :=
  decide (s.ml.replies.length < 4) && !s.ml.restartPending && s.lsc.line != .init

/-- R187, R188: the TYPE, the TOKEN and the BODY of a request command's frame. -/
def requestFrame : Instr → Option (Byte × Byte × List Byte)
  | .identify tok => some (0x01, tok, [])
  | .status tok => some (0x02, tok, [])
  | .restart tok => some (0x03, tok, [])
  | .clockSet tok day second => some (0x08, tok, u16 day.toNat ++ u32 second.toNat)
  | .configSet tok p index value => some (0x10, tok, [p, index] ++ u16 value.toNat)
  | .configGet tok p index => some (0x11, tok, [p, index])
  | .recipeWrite tok slot f =>
    some (0x18, tok, [slot] ++ u16 f.code.toNat ++ padTo 12 0x20 f.name ++ u16 f.nominal.toNat ++ [f.tolerance]
      ++ u16 f.feed.toNat ++ [f.crumb] ++ u16 f.blast.toNat ++ [f.shelf, f.reject])
  | .recipeRead tok slot => some (0x19, tok, [slot])
  | .recipeSave tok => some (0x1A, tok, [])
  | .laneSelect tok lane slot => some (0x1B, tok, [lane, slot])
  | .lineStart tok => some (0x20, tok, [])
  | .lineHold tok => some (0x21, tok, [])
  | .lineResume tok => some (0x22, tok, [])
  | .lineDrain tok => some (0x23, tok, [])
  | .lineStandby tok => some (0x24, tok, [])
  | .laneEnable tok lane on => some (0x25, tok, [lane, on])
  | .crumbClear tok lane => some (0x28, tok, [lane])
  | .magazineLoad tok which count => some (0x2C, tok, [which] ++ u16 count.toNat)
  | .tyerResolve tok action => some (0x2D, tok, [action])
  | .faultList tok first => some (0x30, tok, [first])
  | .faultClear tok => some (0x31, tok, [])
  | .trackList tok zone lane => some (0x38, tok, [zone, lane])
  | .loafQuery tok tag => some (0x39, tok, u16 tag.toNat)
  | .totalsRead tok part => some (0x40, tok, [part])
  | .shiftClose tok => some (0x41, tok, [])
  | .shiftRead tok number part => some (0x42, tok, u16 number.toNat ++ [part])
  | .logIndex tok => some (0x43, tok, [])
  | .sensorRead tok channel => some (0x48, tok, [channel])
  | _ => none

/-- R188: the TYPEs of the catalogue and the lengths of their bodies. -/
def requestLengths : List (Byte × Nat) :=
  [(0x01, 0), (0x02, 0), (0x03, 0), (0x08, 6), (0x10, 4), (0x11, 2), (0x18, 25), (0x19, 1), (0x1A, 0), (0x1B, 2),
   (0x20, 0), (0x21, 0), (0x22, 0), (0x23, 0), (0x24, 0), (0x25, 2), (0x28, 1), (0x2C, 3), (0x2D, 1), (0x30, 1),
   (0x31, 0), (0x38, 2), (0x39, 2), (0x40, 1), (0x41, 0), (0x42, 3), (0x43, 0), (0x48, 1)]

/-- The commands that read or write the non-volatile array or end the machine's run: page programs and resets. -/
def mayWriteArray : Instr → Bool
  | .pageProgramComplete _ | .reset _ _ _ | .frameSent _ _ => true
  | _ => false

/-- The commands that take an edge from the Eye Unit. -/
def isEdge : Instr → Bool
  | .infeedTrailingEdge _ | .slicerLeadingEdge _ | .slicerTrailingEdge _ | .mergeLeadingEdge _ | .mergeTrailingEdge _
  | .exitLeadingEdge | .exitTrailingEdge | .bagConfirm => true
  | _ => false

/-- The commands of distances, timers, conversions and samples that work on the line's own blocks alone. -/
def isLineEvent : Instr → Bool
  | .headAtGate _ | .bladeWindowRunOut _ | .mergeWindowRunOut _ | .exitWindowRunOut | .stuckLimitExceeded _
  | .scanTimerExpiry | .conversionComplete _ | .spinUpWaitEnd _ | .gateStrokeEnd _ | .pushStrokeTimerRunOut
  | .flapSettleEnd | .openingEnd | .bagConfirmWatchRunOut | .bagBlastEnd | .extendedSwitchCloses _ | .deadTimeEnd _
  | .purgeEnd | .twistEnd | .clipEnd | .tieTimerRunOut | .airWaitTimerRunOut _ | .blowingEnd _ | .settleEnd _
  | .backoffEnd _ | .safetySample _ _ | .lineTimeSecond _ => true
  | _ => false

/-! ## Frames -/

/-- The state with the blocks that the line's own operations change put aside: what such an operation leaves unchanged
is what stands here. These are the queue of commands, the free-value counter, the pins, the configuration, the eyes, the
belts, the recipes, the Calendar, the link but for its report queue, the Record Store but for its writer and job queue. -/
def State.outer (s : State) : State :=
  { s with tt := .reset, sc := .reset, lic := ⟨.reset, .reset⟩, mbc := .reset, tsc := .reset, cc := ⟨.reset, .reset⟩,
           ama := .reset, lsc := .reset, dou := .reset, ft := .reset, tu := .reset,
           rs := { s.rs with writer := none, queue := ⟨none, none, none⟩ }, ml := { s.ml with reports := [] } }

/-- An entry of a pair with a detail stands in the Fault Table. -/
def standsWith (k : FaultKind) (subj : Subject) (detail : Option Nat) (s : State) : Bool :=
  s.ft.entries.any (fun e => e.isPair k subj && e.detail == detail)

end Sys2Proof.Machine
end

