-- ==== Sys2Proof/WellFormed.lean ====
section
/-! DEFINITION. Which commands are well formed. Every operand's type already bounds it to what the link or the wiring
can carry; the one further check is the length of a recipe name, which has twelve bytes on the link (R48, R188). -/

namespace Sys2Proof

/-- A command that the link or the wiring can carry. -/
def Instr.WellFormed : Instr → Bool
  | .recipeWrite _ _ fields => decide (fields.name.length ≤ 12)
  | .identify _ | .status _ | .restart _ | .clockSet _ _ _ | .configSet _ _ _ _ | .configGet _ _ _
  | .recipeRead _ _ | .recipeSave _ | .laneSelect _ _ _ | .lineStart _ | .lineHold _ | .lineResume _
  | .lineDrain _ | .lineStandby _ | .laneEnable _ _ _ | .crumbClear _ _ | .magazineLoad _ _ _
  | .tyerResolve _ _ | .faultList _ _ | .faultClear _ | .trackList _ _ _ | .loafQuery _ _ | .totalsRead _ _
  | .shiftClose _ | .shiftRead _ _ _ | .logIndex _ | .sensorRead _ _ | .reset _ _ _ | .startUpScanComplete
  | .byteReceived _ _ | .assemblerTakesByte | .gapTimerRunOut | .dispatchFrame | .transmitStart _
  | .frameSent _ _ | .eyeSample _ _ | .debounceConfirm _ | .infeedTrailingEdge _ | .slicerLeadingEdge _
  | .slicerTrailingEdge _ | .mergeLeadingEdge _ | .mergeTrailingEdge _ | .exitLeadingEdge | .exitTrailingEdge
  | .bagConfirm | .encoderCount _ _ _ | .headAtGate _ | .bladeWindowRunOut _ | .mergeWindowRunOut _
  | .exitWindowRunOut | .stuckLimitExceeded _ | .scanTimerExpiry | .conversionComplete _ | .spinUpWaitEnd _
  | .gateStrokeEnd _ | .pushStrokeTimerRunOut | .flapSettleEnd | .openingEnd | .bagConfirmWatchRunOut
  | .bagBlastEnd | .extendedSwitchCloses _ | .pusherHomeSwitchChange _ _ | .deadTimeEnd _ | .purgeEnd
  | .twistEnd | .clipEnd | .tyerHomeSwitchChange _ | .tieTimerRunOut | .airWaitTimerRunOut _ | .blowingEnd _
  | .settleEnd _ | .backoffEnd _ | .safetySample _ _ | .calendarTick | .lineTimeSecond _
  | .pageProgramComplete _ => true

end Sys2Proof
end

