-- ==== Sys2Proof/Certificates/Slice0/Obligations.lean ====
section
/-! DEFINITION. The statements for the provers. A command that lets the line go on answers the settled form of its own
effect: such a statement gives the state before `settle` (or before `flow`), field by field, and the blocks it leaves. The order inside
`settle` and the place of a reply before `flow` are the model's choices: LOG 4, LOG 5. -/

open Sys2Proof Sys2Proof.Machine

/-! ## The machine's step -/

/-- A step runs the command at the front of the queue on the rest of it. -/
def Obligations.StepRunsTheFrontCommand : Prop :=
  ∀ (c : Instr) (rest : List Instr) (s : State),
    step (s.withPending (c :: rest)) = exec c (s.withPending rest)

/-- The model's choice, LOG 1 and LOG 2: with no command queued a step takes an event that is due, else one millisecond. In
a millisecond every timer that runs falls by one, held at 0, the ages of the results rise, and the clocks go on. -/
def Obligations.IdleBlockTakesADueEventOrAMillisecond : Prop :=
  ∀ s : State, s.pending = [] →
    (dueEvents s = [] → step s = .next (tick s)) ∧
    (dueEvents s ≠ [] → ∃ e ∈ dueEvents s, step s = exec e (choiceUsed s)) ∧
    (let down : Option Nat → Option Nat := Option.map (fun n => n - 1)
     let older : Nat → Nat := fun n => if n < 65534 then n + 1 else n
     let crumb : Crumb → Crumb := fun c =>
       { c with airWait := down c.airWait, phaseTimer := down c.phaseTimer, backoff := down c.backoff }
     let pusher : Pusher → Pusher := fun p => { p with dead := down p.dead }
     let more : Bool → Nat → Nat := fun b n => if b then n + 1 else n
     let receiving : Bool := match s.ml.assembler with
       | .length | .body _ _ => s.ml.fifo.isEmpty
       | _ => false
     tick s = { s with
       cal := { s.cal with phase := s.cal.phase + 1 }
       sc := { s.sc with
         timer := s.sc.timer - 1
         age := ⟨older s.sc.age.tna, older s.sc.age.tnb, older s.sc.age.airp, older s.sc.age.cra, older s.sc.age.crb⟩ }
       eu := { s.eu with channels := { s.eu.channels with bg := { s.eu.channels.bg with
         change := s.eu.channels.bg.change.map (fun p => { p with held := p.held + 1 }) } } }
       lic := ⟨{ s.lic.a with spinWait := down s.lic.a.spinWait }, { s.lic.b with spinWait := down s.lic.b.spinWait }⟩
       mbc := { s.mbc with
         strokeTimer := down s.mbc.strokeTimer, flapTimer := down s.mbc.flapTimer, openTimer := down s.mbc.openTimer
         confirmWatch := down s.mbc.confirmWatch, blast := down s.mbc.blast }
       tsc := { s.tsc with
         purge := down s.tsc.purge, phaseTimer := down s.tsc.phaseTimer, tieTimer := down s.tsc.tieTimer }
       cc := ⟨crumb s.cc.a, crumb s.cc.b⟩
       lsc := { s.lsc with
         runMs := more (s.lsc.line == .run || s.lsc.line == .drain) s.lsc.runMs
         holdMs := more (s.lsc.line == .hold) s.lsc.holdMs
         stopMs := more (s.lsc.line == .stop) s.lsc.stopMs }
       dou := { s.dou with
         gateTimer := ⟨down s.dou.gateTimer.a, down s.dou.gateTimer.b⟩
         pusher := ⟨pusher s.dou.pusher.a, pusher s.dou.pusher.b⟩ }
       ml := { s.ml with gap := if receiving then down s.ml.gap else s.ml.gap } })

/-- The state right after reset keeps every invariant stated below. -/
def Obligations.ResetStateIsSafe : Prop :=
  arraySafe State.reset = true ∧ linkSafe State.reset = true ∧ faultsSafe State.reset = true ∧
  pushersSafe State.reset = true ∧ zonesSafe State.reset = true ∧ knivesSafe State.reset = true ∧
  recipesSafe State.reset = true ∧ airSafe State.reset = true ∧ liveSafe State.reset = true ∧ balanced State.reset

/-- RESET leaves every block at its reset value, and the array but for the page in flight (section 1.5; R2, R30, R39, R60,
R78, R79, R104, R117, R124, R140, R142, R143, R156, R163, R166, R175, R189). The list of unserved edges, the
pins, the queue and what is left of a page in flight are the model's choices: LOG 7, 10, 13, 15, 16. -/
def Obligations.ResetLeavesTheResetValues : Prop :=
  ∀ (b1 b0 : Bool) (tear : Tear) (s : State), ∃ t, exec (.reset b1 b0 tear) s = .next t ∧
    t.records = [] ∧ t.tt.nextTag = 1 ∧ (∀ e, t.tt.watch.get e = none ∧ t.tt.stuck.get e = false) ∧
    (∀ e, (t.eu.channels.get e).change = none ∧ (t.eu.channels.get e).lastLeading = none) ∧ t.eu.edges = [] ∧
    (∀ b, t.beu.position.get b = 0 ∧ t.beu.remainder.get b = 0 ∧ t.beu.pair.get b = none) ∧
    (∀ c, t.sc.result.get c = 0 ∧ t.sc.age.get c = 65535 ∧ t.sc.flag.get c = false) ∧ t.sc.inFlight = none ∧
    t.sc.timer = 25 ∧ t.params = Params.default ∧ t.rt = List.replicate 16 Recipe.empty ∧
    (∀ l, (t.lic.get l).enabled = false ∧ (t.lic.get l).blade = .off ∧ (t.lic.get l).spinWait = none ∧
      (t.lic.get l).closure = ⟨true, true, true, false, false, false, false, true⟩ ∧ (t.lic.get l).accFull = false ∧
      (t.lic.get l).approachHigh = false ∧ (t.lic.get l).tunnelReady = false ∧ (t.lic.get l).active = none ∧
      (t.lic.get l).pendingSel = none ∧ (t.lic.get l).feedRef = 50 ∧ (t.lic.get l).appliedTag = 0) ∧
    t.mbc = MergeBag.reset ∧ t.tsc = TieStation.reset ∧ (∀ l, t.cc.get l = Crumb.reset) ∧ t.ama = AirArbiter.reset ∧
    t.lsc.line = .init ∧ t.lsc.previous = none ∧ t.lsc.returnState = none ∧ t.lsc.holdHost = false ∧
    t.lsc.runMs = 0 ∧ t.lsc.holdMs = 0 ∧ t.lsc.stopMs = 0 ∧
    (∀ o, command o t = false) ∧ (∀ l, t.dou.armed.get l = false ∧ (t.dou.pusher.get l).dead = some 40) ∧
    t.ft.entries = [] ∧ t.ft.raiseCounter = 0 ∧ t.ft.changeNumber = 0 ∧
    t.ft.causes = { CauseFlags.clear with baggerJam := !s.pins.home.a || !s.pins.home.b } ∧
    t.tu.closeBuffer = none ∧ t.tu.tally = 0 ∧ t.cal = ⟨0, 0, 0, false⟩ ∧
    t.rs.writer = none ∧ t.rs.queue = ⟨none, none, none⟩ ∧ t.rs.lastShift = none ∧ t.rs.lastCkpt = none ∧
    t.rs.lastRecipes = none ∧ t.rs.findings = none ∧
    t.ml = { MessageLink.reset with strap := (if b1 then 2 else 0) + (if b0 then 1 else 0) } ∧
    t.pins = s.pins ∧ t.pending = s.pending ∧
    (s.rs.writer = none → t.rs.cells = s.rs.cells ∧ t.rs.headers = s.rs.headers) ∧
    (∀ w, s.rs.writer = some w → arraySafe s = true →
      (∀ k, k ≠ w.area → t.rs.header k = s.rs.header k) ∧
      (∀ a, (a < (areaPage w.area + w.programs) * 64 ∨ (areaPage w.area + w.programs) * 64 + 64 ≤ a) →
        Memory.read t.rs.cells a = Memory.read s.rs.cells a))

/-! ## Invariants that every step keeps -/

/-- The array's cells stay in canonical form. The form is the model's: LOG 14. -/
def Obligations.EveryStepKeepsTheArraysForm : Prop :=
  ∀ s t : State, arraySafe s = true → step s = .next t → arraySafe t = true

/-- The receive FIFO, the reply queue and the report queue stay within their bounds, each key queued at most once. -/
def Obligations.EveryStepKeepsTheLinksBounds : Prop :=
  ∀ s t : State, linkSafe s = true → step s = .next t → linkSafe t = true

/-- The Fault Table keeps one entry for each pair and its service order. -/
def Obligations.EveryStepKeepsTheServiceOrder : Prop :=
  ∀ s t : State, faultsSafe s = true → step s = .next t → faultsSafe t = true

/-- The extend and retract valves of a pusher are never both on. -/
def Obligations.EveryStepKeepsTheValvesApart : Prop :=
  ∀ s t : State, pushersSafe s = true → step s = .next t → pushersSafe t = true

/-- The zones stay within their capacities. -/
def Obligations.EveryStepKeepsTheZonesCapacities : Prop :=
  ∀ s t : State, zonesSafe s = true → step s = .next t → zonesSafe t = true

/-- A knife valve or shaker is commanded on only in BLOWING, and a knife waits for air only in AIR_WAIT; each requester of
the air manifold waits in one waiting set or holds one channel, in the state of its owner that it belongs to. -/
def Obligations.EveryStepKeepsTheKnivesInBlowing : Prop :=
  (∀ s t : State, knivesSafe s = true → step s = .next t → knivesSafe t = true) ∧
  (∀ s t : State, airSafe s = true → step s = .next t → airSafe t = true)

/-- The recipe table keeps sixteen slots, each as it can be stored. -/
def Obligations.EveryStepKeepsTheRecipesStorable : Prop :=
  ∀ s t : State, recipesSafe s = true → step s = .next t → recipesSafe t = true

/-! ## Encodings -/

/-- A stored recipe table and a stored shift record read back as they were, at the lengths of R165. -/
def Obligations.StoredContentsReadBack : Prop :=
  (∀ rt : List Recipe, rt.length = 16 → rt.all Recipe.stored = true →
    readRecipes (recipesContent rt) 16 = rt ∧ (recipesContent rt).length = 384) ∧
  (∀ c : ClosedShift, c.fits = true →
    readShift c.totals.shift (shiftContent c) = c ∧ (shiftContent c).length = 103 + 34 * c.totals.products.length)

/-- The assembler makes a frame of the link whole again, with its CRC agreeing. -/
def Obligations.AssemblerMakesAFrameWhole : Prop :=
  ∀ (type tok : Byte) (body : List Byte) (s : State), body.length ≤ 248 → s.ml.assembler = .hunt →
    ∃ crc : List Byte, crc.length = 2 ∧
      ((frameOf type tok body).foldl (fun s b => assemble b s) s).ml.assembler
        = .complete (BitVec.ofNat 8 (body.length + 2)) ([type, tok] ++ body ++ crc)

/-- DISPATCH_FRAME of a request's frame is that request, with the assembler back in HUNT. The model's choices: LOG 29, 38. -/
def Obligations.FramesDispatchTheirRequests : Prop :=
  ∀ (c : Instr) (type tok : Byte) (body : List Byte) (len : Byte) (kept : List Byte) (s : State),
    c.WellFormed = true → requestFrame c = some (type, tok, body) → s.ml.assembler = .complete len kept →
    len.toNat = body.length + 2 → kept.take len.toNat = [type, tok] ++ body → s.ml.replies.length < 4 →
    ∃ t, exec .dispatchFrame s = .next t ∧ exec c (s.onMl (fun m => { m with assembler := .hunt })) = .next t

/-! ## Requests: the dispatcher -/

/-- A request is answered by one reply at the queue's tail, with its TYPE and token; a refused one changes nothing else,
and only the request that sets them changes the configuration, the recipes, the Calendar or the restart mark; none changes
the field inputs, the array or the rest of the link. The model's choices: LOG 5, 6. -/
def Obligations.EveryRequestIsAnswered : Prop :=
  ∀ (c : Instr) (type tok : Byte) (body : List Byte) (s : State), requestFrame c = some (type, tok, body) →
    (4 ≤ s.ml.replies.length → exec c s = .next s) ∧
    (s.ml.replies.length < 4 → ∃ t status content, exec c s = .next t ∧
      t.ml.replies = s.ml.replies ++ [⟨type, tok, status, content⟩] ∧
      { t.ml with replies := s.ml.replies, reports := s.ml.reports, restartPending := s.ml.restartPending } = s.ml ∧
      t.pending = s.pending ∧ t.freeCount = s.freeCount ∧ t.pins = s.pins ∧ t.eu = s.eu ∧
      t.beu.position = s.beu.position ∧ t.beu.pair = s.beu.pair ∧ t.sc.result = s.sc.result ∧ t.sc.age = s.sc.age ∧
      { t.rs with writer := s.rs.writer, queue := s.rs.queue, index := s.rs.index } = s.rs ∧
      ((∀ k n p, c ≠ .shiftRead k n p) → t.rs.index = s.rs.index) ∧
      ((∀ k p i v, c ≠ .configSet k p i v) → t.params = s.params ∧ t.beu = s.beu) ∧
      ((∀ k n f, c ≠ .recipeWrite k n f) → t.rt = s.rt) ∧ ((∀ k d n, c ≠ .clockSet k d n) → t.cal = s.cal) ∧
      ((∀ k, c ≠ .restart k) → t.ml.restartPending = s.ml.restartPending) ∧
      (status ≠ 0 → (∀ k n p, c ≠ .shiftRead k n p) → t = queueReply type tok ⟨status, content⟩ s))

/-- The dispatcher's own checks, in their order. The model's choice on a full reply queue: LOG 6. -/
def Obligations.DispatcherRefusesInOrder : Prop :=
  (∀ (c : Instr) (type tok : Byte) (body : List Byte) (s : State), requestFrame c = some (type, tok, body) →
    s.ml.replies.length < 4 →
    (s.ml.restartPending = true → exec c s = .next (queueReply type tok ⟨5, []⟩ s)) ∧
    (s.ml.restartPending = false → s.lsc.line = .init → type ≠ 0x01 →
      exec c s = .next (queueReply type tok ⟨11, []⟩ s))) ∧
  (∀ (type tok len : Byte) (body crc : List Byte) (s : State), s.ml.assembler = .complete len (type :: tok :: body ++ crc) →
    len.toNat = body.length + 2 →
    (4 ≤ s.ml.replies.length → exec .dispatchFrame s = .next s) ∧
    (s.ml.replies.length < 4 →
      let t := s.onMl (fun m => { m with assembler := .hunt })
      match requestLengths.lookup type with
      | none => exec .dispatchFrame s = .next (queueReply type tok ⟨1, []⟩ t)
      | some n =>
        (s.ml.restartPending = true → exec .dispatchFrame s = .next (queueReply type tok ⟨5, []⟩ t)) ∧
        (s.ml.restartPending = false → s.lsc.line = .init → type ≠ 0x01 →
          exec .dispatchFrame s = .next (queueReply type tok ⟨11, []⟩ t)) ∧
        (s.ml.restartPending = false → (s.lsc.line ≠ .init ∨ type = 0x01) → body.length ≠ n →
          exec .dispatchFrame s = .next (queueReply type tok ⟨2, []⟩ t))))

/-! ## Requests: queries -/

/-- IDENTIFY, in every line state. The revision is the model's choice: LOG 19. -/
def Obligations.IdentifyNamesThePart : Prop :=
  ∀ (tok : Byte) (s : State), s.ml.replies.length < 4 → s.ml.restartPending = false →
    exec (.identify tok) s = .next (queueReply 0x01 tok
      ⟨0, [0x4C, 0x43, 0x2D, 0x32, 0x32, 0x30, 0x20, 0x20] ++ u8 (Config.revisionLessOne.val + 1)
          ++ u8 s.ml.strap ++ u8 s.lsc.line.code⟩ s)

/-- SENSOR_READ. -/
def Obligations.SensorReadGivesResultAndAge : Prop :=
  ∀ (tok channel : Byte) (s : State), s.ml.replies.length < 4 → s.ml.restartPending = false →
    (s.lsc.line = .init → exec (.sensorRead tok channel) s = .next (queueReply 0x48 tok ⟨11, []⟩ s)) ∧
    (s.lsc.line ≠ .init → 4 < channel.toNat →
      exec (.sensorRead tok channel) s = .next (queueReply 0x48 tok ⟨3, []⟩ s)) ∧
    (s.lsc.line ≠ .init → ∀ c, [Channel.tna, .tnb, .airp, .cra, .crb][channel.toNat]? = some c →
      exec (.sensorRead tok channel) s
        = .next (queueReply 0x48 tok ⟨0, u16 (s.sc.result.get c) ++ u16 (s.sc.age.get c)⟩ s)) ∧
    (∀ b1 b0 tear t c, exec (.reset b1 b0 tear) s = .next t → t.sc.result.get c = 0 ∧ t.sc.age.get c = 65535)

/-- The other queries answer what they name, or refuse by their rules, and change nothing but the reply queue; a
SHIFT_READ that finds its record torn marks it so. The named values are coded by their places in the rules' lists. The
model's choices where R173 and R188 leave a coding open: LOG 20, 22, 23, 44, 48, 52, 54. -/
def Obligations.QueriesAnswerTheirTables : Prop :=
  (∀ (tok : Byte) (s : State), serves s = true →
    (let closures := fun (c : ClosureSet) => u8 (setBits [c.laneDisabled, c.lineNotRunning, c.bladeNotReady, c.bladeOccupied,
       c.accFull, c.crumbGap, c.faultHold, c.noRecipe])
     let lane := fun l => u8 (if (s.lic.get l).enabled then 0 else 1) ++ u8 (s.lic.get l).blade.code ++ u8 (gateState l s).code
       ++ closures (s.lic.get l).closure ++ flag (s.lic.get l).accFull ++ flag (s.lic.get l).tunnelReady
       ++ opt8 (s.lic.get l).active ++ opt8 (s.lic.get l).pendingSel
     exec (.status tok) s = .next (queueReply 0x02 tok ⟨0,
       u8 s.lsc.line.code ++ opt8 (s.lsc.returnState.map LineState.code) ++ flag s.lsc.holdHost
         ++ flag (stopFault s) ++ flag (latch s)
         ++ u16 s.cal.day ++ u32 s.cal.second ++ flag s.cal.valid
         ++ u16 s.tu.live.shift ++ u8 s.records.length
         ++ lane .a ++ lane .b
         ++ u8 s.cc.a.cycle.code ++ u16 s.cc.a.estimate ++ u8 s.cc.b.cycle.code ++ u16 s.cc.b.estimate
         ++ u16 s.mbc.bagCount ++ u16 s.tsc.clipCount
         ++ u8 s.ft.entries.length
         ++ (match s.ft.stack.head? with
           | some e => u8 1 ++ u8 e.kind.code ++ u8 e.subject.code
           | none => [0, 0, 0])
         ++ u16 s.ft.changeNumber.toNat
         ++ u8 (match s.rs.writer with
           | some w => w.job.kind.code
           | none => 0)
         ++ u8 (setBits [s.rs.queue.shiftRecord.isSome, s.rs.queue.checkpoint.isSome, s.rs.queue.recipes.isSome])⟩ s)) ∧
    (∀ p index v, paramGet p.toNat index.toNat s.params = some v →
      exec (.configGet tok p index) s = .next (queueReply 0x11 tok ⟨0, [p, index] ++ u16 v⟩ s)) ∧
    (∀ slot : Byte, slot.toNat ≤ 15 →
      exec (.recipeRead tok slot) s = .next (queueReply 0x19 tok
        ⟨0, recipeBytes (recipeAt slot.toNat s)
            ++ u8 (s.records.countP (fun r => r.recipeSlot == some slot.toNat)) ++ u8 (useMarks slot.toNat s)⟩ s)) ∧
    (∀ first : Byte, 1 ≤ first.toNat → first.toNat ≤ 32 →
      exec (.faultList tok first) s = .next (queueReply 0x30 tok
        ⟨0, u8 s.ft.entries.length ++ u16 s.ft.changeNumber.toNat
            ++ ((s.ft.order.drop (first.toNat - 1)).take 8).flatMap (faultBytes s.ft)⟩ s)) ∧
    (∀ zone lane q, zoneQueue zone lane s = some q →
      exec (.trackList tok zone lane) s = .next (queueReply 0x38 tok
        ⟨0, u8 q.length ++ q.flatMap (fun r => u16 r.tag ++ u8 r.condition.code)⟩ s)) ∧
    (∀ (tag : BitVec 16) z place r, tag ≠ 0 → s.tt.locate tag.toNat = some (z, place, r) →
      exec (.loafQuery tok tag) s = .next (queueReply 0x39 tok ⟨0,
        u16 r.tag ++ u8 (laneCode r.lane) ++ u16 r.length ++ u8 z.code ++ flag r.admitted ++ opt8 r.recipeSlot
          ++ opt8 (r.verdict.map Verdict.code) ++ u8 r.condition.code ++ opt8 (r.rejectReason.map RejectReason.code)
          ++ flag r.stopDiscard ++ flag r.jammed ++ flag r.arrived
          ++ (match r.clipCode with
            | some c => u8 1 ++ padTo 8 0x20 c
            | none => List.replicate 9 0)
          ++ u8 place
          ++ (match r.departure with
            | some d => u8 1 ++ u8 (beltCode d.belt) ++ u32 d.pos.toNat ++ u32 (position d.belt s - d.pos).toNat
            | none => List.replicate 10 0)⟩ s)) ∧
    exec (.totalsRead tok 0) s = .next (queueReply 0x40 tok
      ⟨0, u16 s.tu.live.shift ++ openBytes s.tu.live.openTime ++ u8 s.tu.live.carriedIn
          ++ u8 (admittedCount s) ++ u8 s.tu.live.products.length ++ flag s.tu.live.other.isSome
          ++ lineBytes s.tu.live.line⟩ s) ∧
    (∀ (part : Byte) e, 1 ≤ part.toNat → part.toNat ≤ 24 → s.tu.live.products[part.toNat - 1]? = some e →
      exec (.totalsRead tok part) s = .next (queueReply 0x40 tok
        ⟨0, u16 s.tu.live.shift ++ entryBytes e.code e.counters⟩ s)) ∧
    (∀ c, s.tu.live.other = some c →
      exec (.totalsRead tok 25) s = .next (queueReply 0x40 tok
        ⟨0, u16 s.tu.live.shift ++ entryBytes 0 c⟩ s)) ∧
    (∀ (number : BitVec 16) (part : Byte) k b, number ≠ 0 → part.toNat ≤ 25 →
      validSlot number.toNat s.rs.index = some k → s.rs.agrees k = true →
      shiftPart part.toNat (readShift number.toNat (s.rs.content k)) = some b →
      exec (.shiftRead tok number part) s = .next (queueReply 0x42 tok ⟨0, b⟩ s)) ∧
    exec (.logIndex tok) s = .next (queueReply 0x43 tok
      ⟨0, s.rs.index.flatMap (fun e => u8 e.state.code ++ u16 (e.number.getD 0))
          ++ u8 (nextSlot s.rs.index) ++ u8 s.rs.ckpt.1.code ++ u16 (s.rs.ckpt.2.getD 0) ++ writerByte s
          ++ queuedByte s⟩ s)) ∧
  (∀ (tok : Byte) (s : State), serves s = true →
    (∀ p index, paramGet p.toNat index.toNat s.params = none →
      exec (.configGet tok p index) s = .next (queueReply 0x11 tok ⟨3, []⟩ s)) ∧
    (∀ slot : Byte, 15 < slot.toNat →
      exec (.recipeRead tok slot) s = .next (queueReply 0x19 tok ⟨3, []⟩ s)) ∧
    (∀ first : Byte, (first.toNat = 0 ∨ 32 < first.toNat) →
      exec (.faultList tok first) s = .next (queueReply 0x30 tok ⟨3, []⟩ s)) ∧
    (∀ zone lane : Byte, (5 < zone.toNat ∨ (zone.toNat ≤ 2 ∧ 1 < lane.toNat)) →
      exec (.trackList tok zone lane) s = .next (queueReply 0x38 tok ⟨3, []⟩ s)) ∧
    exec (.loafQuery tok 0) s = .next (queueReply 0x39 tok ⟨3, []⟩ s) ∧
    (∀ tag : BitVec 16, tag ≠ 0 → allocatedTag tag.toNat s = false →
      exec (.loafQuery tok tag) s = .next (queueReply 0x39 tok ⟨8, []⟩ s)) ∧
    (∀ part : Byte, 25 < part.toNat →
      exec (.totalsRead tok part) s = .next (queueReply 0x40 tok ⟨3, u16 s.tu.live.shift⟩ s)) ∧
    (∀ part : Byte, 1 ≤ part.toNat → part.toNat ≤ 24 → s.tu.live.products.length < part.toNat →
      exec (.totalsRead tok part) s = .next (queueReply 0x40 tok ⟨8, u16 s.tu.live.shift⟩ s)) ∧
    (∀ (number : BitVec 16) (part : Byte), (number = 0 ∨ 25 < part.toNat) →
      exec (.shiftRead tok number part) s = .next (queueReply 0x42 tok ⟨3, []⟩ s)) ∧
    (∀ (number : BitVec 16) (part : Byte), number ≠ 0 → part.toNat ≤ 25 → validSlot number.toNat s.rs.index = none →
      exec (.shiftRead tok number part) s = .next (queueReply 0x42 tok ⟨8, []⟩ s)) ∧
    (∀ (number : BitVec 16) (part : Byte) k, number ≠ 0 → part.toNat ≤ 25 →
      validSlot number.toNat s.rs.index = some k → s.rs.agrees k = false →
      exec (.shiftRead tok number part) s = .next (queueReply 0x42 tok ⟨8, []⟩
        { s with rs := { s.rs with index := s.rs.index.set k { state := .torn, number := some number.toNat } } }))) ∧
  ([LineState.init, .standby, .spinUp, .run, .hold, .drain, .stop].map LineState.code = List.range 7 ∧
    [Zone.approach, .blade, .accum, .bagger, .tyer, .exit].map Zone.code = List.range 6 ∧
    [Condition.sound, .uncertain, .reject].map Condition.code = List.range 3 ∧
    [Verdict.ok, .short, .long].map Verdict.code = List.range 3 ∧
    [RejectReason.offSize, .uncertain].map RejectReason.code = List.range 2 ∧
    [BladeState.off, .spinning, .ready].map BladeState.code = List.range 3 ∧
    [GateState.shut, .isOpen, .stroke].map GateState.code = List.range 3 ∧
    [CycleState.idle, .requested, .airWait, .blowing, .settle, .backoff].map CycleState.code = List.range 6 ∧
    [Lane.a, .b].map laneCode = List.range 2 ∧
    [Belt.infeedA, .infeedB, .accumA, .accumB, .outfeed].map beltCode = List.range 5 ∧
    [Subject.line, .a, .b, .out].map Subject.code = List.range 4 ∧
    [JobKind.shiftRecord, .checkpoint, .recipes].map JobKind.code = [1, 2, 3] ∧
    [FaultKind.estop, .guardOpen, .bladeBreak, .bladeTension, .spinupFail, .tyerJam, .baggerJam, .crumbOverfull, .eyeStuck,
      .lostLoaf, .unexpectedLoaf, .approachOverrun, .bagMiss, .airLow, .bagsOut, .clipsOut, .airTimeout, .nvWriteFail,
      .bagsLow, .clipsLow].map FaultKind.code = (List.range 20).map (fun n => n + 1))

/-! ## Requests: settings -/

/-- CLOCK_SET. The coding of the two flags is the model's choice: LOG 20. -/
def Obligations.ClockSetSetsTheCalendar : Prop :=
  ∀ (tok : Byte) (day : BitVec 16) (second : BitVec 32) (s : State), s.ml.replies.length < 4 → s.ml.restartPending = false →
    (s.lsc.line = .init → exec (.clockSet tok day second) s = .next (queueReply 0x08 tok ⟨11, []⟩ s)) ∧
    (s.lsc.line ≠ .init → 86399 < second.toNat →
      exec (.clockSet tok day second) s = .next (queueReply 0x08 tok ⟨3, []⟩ s)) ∧
    (s.lsc.line ≠ .init → second.toNat ≤ 86399 →
      exec (.clockSet tok day second) s = .next (queueReply 0x08 tok
        ⟨0, u16 day.toNat ++ u32 second.toNat ++ [1] ++ flag s.tu.live.openTime.isNone⟩
        { s with
          cal := { day := day.toNat, second := second.toNat, phase := 0, valid := true }
          tu := { s.tu with live := { s.tu.live with openTime :=
            match s.tu.live.openTime with
            | some t => some t
            | none => some { day := day.toNat, second := second.toNat } } } }))

/-- RECIPE_WRITE and RECIPE_SAVE. The name's padding and the flag's code are the model's readings: LOG 20, LOG 29. -/
def Obligations.RecipeWriteAndSave : Prop :=
  ∀ (tok slot : Byte) (f : RecipeFields) (s : State), serves s = true →
    let used : Prop := (∃ r ∈ s.records, r.recipeSlot = some slot.toNat) ∨
      ∃ l, (s.lic.get l).active = some slot.toNat ∨ (s.lic.get l).pendingSel = some slot.toNat
    (15 < slot.toNat →
      exec (.recipeWrite tok slot f) s = .next (queueReply 0x18 tok ⟨3, [0]⟩ s)) ∧
    (slot.toNat ≤ 15 → f.code = 0 → used →
      exec (.recipeWrite tok slot f) s = .next (queueReply 0x18 tok ⟨6, []⟩ s)) ∧
    (slot.toNat ≤ 15 → f.code = 0 → ¬used →
      exec (.recipeWrite tok slot f) s
        = .next (queueReply 0x18 tok ⟨0, []⟩ { s with rt := s.rt.set slot.toNat Recipe.empty })) ∧
    (slot.toNat ≤ 15 → f.code ≠ 0 → f.name.length ≤ 12 → (∀ c ∈ f.name, 0x20 ≤ c.toNat ∧ c.toNat ≤ 0x7E) →
      150 ≤ f.nominal.toNat → f.nominal.toNat ≤ 600 → 5 ≤ f.tolerance.toNat → f.tolerance.toNat ≤ 60 →
      50 ≤ f.feed.toNat → f.feed.toNat ≤ 400 → 100 ≤ f.blast.toNat → f.blast.toNat ≤ 1500 → 1 ≤ f.shelf.toNat →
      f.shelf.toNat ≤ 30 → f.reject.toNat ≤ 1 →
      (used → exec (.recipeWrite tok slot f) s = .next (queueReply 0x18 tok ⟨6, []⟩ s)) ∧
      (¬used → exec (.recipeWrite tok slot f) s = .next (queueReply 0x18 tok ⟨0, []⟩ { s with rt := s.rt.set slot.toNat {
        code := f.code.toNat, name := trimName f.name, nominal := f.nominal.toNat, tolerance := f.tolerance.toNat
        feed := f.feed.toNat, crumb := f.crumb.toNat, blast := f.blast.toNat, shelf := f.shelf.toNat
        reject := f.reject == 1 } }))) ∧
    (let inRange : List (Nat × Bool) :=
       [(2, decide (f.name.length ≤ 12) && f.name.all (fun c => decide (0x20 ≤ c.toNat) && decide (c.toNat ≤ 0x7E))),
        (3, decide (150 ≤ f.nominal.toNat) && decide (f.nominal.toNat ≤ 600)),
        (4, decide (5 ≤ f.tolerance.toNat) && decide (f.tolerance.toNat ≤ 60)),
        (5, decide (50 ≤ f.feed.toNat) && decide (f.feed.toNat ≤ 400)),
        (7, decide (100 ≤ f.blast.toNat) && decide (f.blast.toNat ≤ 1500)),
        (8, decide (1 ≤ f.shelf.toNat) && decide (f.shelf.toNat ≤ 30)), (9, decide (f.reject.toNat ≤ 1))]
     slot.toNat ≤ 15 → f.code ≠ 0 → ∀ n, (inRange.find? (fun x => !x.2)).map Prod.fst = some n →
       exec (.recipeWrite tok slot f) s = .next (queueReply 0x18 tok ⟨3, [BitVec.ofNat 8 n]⟩ s)) ∧
    exec (.recipeSave tok) s = .next (queueReply 0x1A tok ⟨0, []⟩
      { s with rs :=
          let job : Job := { kind := .recipes, number := none, content := recipesContent s.rt }
          match s.rs.writer with
          | none => { s.rs with writer := some { job := job, area := 25, programs := 0 } }
          | some _ => { s.rs with queue := { s.rs.queue with recipes := some job } } })

/-- SHIFT_CLOSE; and the balance of the live shift, which every step keeps outside INIT while the counters have room. -/
def Obligations.ShiftCloseOpensTheNextShift : Prop :=
  (∀ (tok : Byte) (s : State), s.ml.replies.length < 4 → s.ml.restartPending = false →
    (s.lsc.line = .init → exec (.shiftClose tok) s = .next (queueReply 0x41 tok ⟨11, []⟩ s)) ∧
    (s.lsc.line ≠ .init → s.cal.valid = false →
      exec (.shiftClose tok) s = .next (queueReply 0x41 tok ⟨9, []⟩ s)) ∧
    (s.lsc.line ≠ .init → s.cal.valid = true → s.tu.closeBuffer ≠ none →
      exec (.shiftClose tok) s = .next (queueReply 0x41 tok ⟨5, []⟩ s)) ∧
    (s.lsc.line ≠ .init → s.cal.valid = true → s.tu.closeBuffer = none →
      let old := s.tu.live.shift
      let new := if old = 65535 then 1 else old + 1
      let now : Stamp := { day := s.cal.day, second := s.cal.second }
      let closed : ClosedShift := { totals := s.tu.live, closeTime := now, carriedOut := admittedCount s }
      let job : Job := { kind := .shiftRecord, number := some old, content := shiftContent closed }
      exec (.shiftClose tok) s = .next (queueReply 0x41 tok
        ⟨0, u16 old ++ u16 new ++ u8 (admittedCount s)⟩
        { s with
          tu := { s.tu with
            live := { shift := new, openTime := some now, carriedIn := admittedCount s, line := LineBlock.zero,
                      products := [], other := none }
            closeBuffer := some closed }
          rs := match s.rs.writer with
            | none => { s.rs with queue := { s.rs.queue with checkpoint := none },
                                  writer := some { job := job, area := nextSlot s.rs.index, programs := 0 } }
            | some _ => { s.rs with queue := { s.rs.queue with checkpoint := none, shiftRecord := some job } } })) ∧
    (balanced s → ∀ t, exec (.shiftClose tok) s = .next t → balanced t)) ∧
  (∀ s t : State, airSafe s = true → liveSafe s = true → balanced s → countersBelow s → s.lsc.line ≠ .init →
    step s = .next t → t.lsc.line ≠ .init → liveSafe t = true ∧ balanced t)

/-- CONFIG_SET: the checks, the value in force, and how it acts at once by the rule of its parameter (R38, R73, R98, R107,
R122, R152). The model's choices: LOG 4, 5, 45. -/
def Obligations.ConfigSetSetsOneParameter : Prop :=
  ∀ (tok p index : Byte) (value : BitVec 16) (s : State), serves s = true →
    ((∀ n lo hi only, (p.toNat, n, lo, hi, only) ∈ paramTable → n ≤ index.toNat) →
      exec (.configSet tok p index value) s = .next (queueReply 0x10 tok ⟨3, []⟩ s)) ∧
    (∀ n lo hi only, (p.toNat, n, lo, hi, only) ∈ paramTable → index.toNat < n →
      (only = true → s.lsc.line ≠ .standby →
        exec (.configSet tok p index value) s = .next (queueReply 0x10 tok ⟨4, []⟩ s)) ∧
      ((only = true → s.lsc.line = .standby) →
        ¬(lo ≤ value.toNat ∧ value.toNat ≤ hi ∧ paired p.toNat index.toNat value.toNat s.params) →
        exec (.configSet tok p index value) s = .next (queueReply 0x10 tok ⟨3, []⟩ s)) ∧
      ((only = true → s.lsc.line = .standby) →
        lo ≤ value.toNat → value.toNat ≤ hi → paired p.toNat index.toNat value.toNat s.params →
        ∃ u, exec (.configSet tok p index value) s
            = .next (settle (queueReply 0x10 tok ⟨0, [p, index] ++ u16 value.toNat⟩ u)) ∧
          (settle (queueReply 0x10 tok ⟨0, [p, index] ++ u16 value.toNat⟩ u)).ml.replies = s.ml.replies
            ++ [⟨0x10, tok, 0, [p, index] ++ u16 value.toNat⟩] ∧
          (settle (queueReply 0x10 tok ⟨0, [p, index] ++ u16 value.toNat⟩ u)).params = u.params ∧
          paramGet p.toNat index.toNat u.params = some value.toNat ∧
          (∀ q i : Nat, (q ≠ p.toNat ∨ i ≠ index.toNat) → paramGet q i u.params = paramGet q i s.params) ∧
          (∀ b, p = 1 → beltAt index.toNat = some b →
            u = { s with params := u.params,
                         beu := { s.beu with remainder := s.beu.remainder.upd b (fun _ => 0) } }) ∧
          (∀ l, (p = 9 ∨ p = 10) → laneAt index.toNat = some l →
            let filled := (s.tt.accum.get l).length
            (u.lic.get l).accFull = (if (s.lic.get l).accFull then decide (u.params.lower.get l ≤ filled)
              else decide (u.params.upper.get l ≤ filled)) ∧
            laneInStep l u ∧ u.lic.get l = (u.lic.get l).withFlagsOf (s.lic.get l) ∧
            u.lic.get (otherLane l) = s.lic.get (otherLane l) ∧
            { u with params := s.params, lic := s.lic, ml := { u.ml with reports := s.ml.reports } } = s) ∧
          (p = 18 →
            (∀ l, u.cc.get l = (if value.toNat ≤ (s.cc.get l).estimate ∧ (s.cc.get l).cycle = .idle ∧
                (s.lsc.line = .standby ∨ s.lsc.line = .run ∨ s.lsc.line = .drain ∨ s.lsc.line = .hold)
              then { s.cc.get l with cycle := .requested, cause := some .estimate, backoff := none } else s.cc.get l)) ∧
            { u with params := s.params, lic := s.lic, cc := s.cc, ml := { u.ml with reports := s.ml.reports } } = s) ∧
          (p = 28 →
            (index = 0 → u.mbc = { s.mbc with bagLow := decide (s.mbc.bagCount ≤ value.toNat) } ∧ u.tsc = s.tsc) ∧
            (index = 1 → u.tsc = { s.tsc with clipLow := decide (s.tsc.clipCount ≤ value.toNat) } ∧ u.mbc = s.mbc)) ∧
          (p = 29 → (index ≠ 0 ∨ value = 0) → { u with params := s.params } = s) ∧
          (p = 29 → index = 0 → value = 1 →
            (∀ j, standing .eyeStuck j u = (standing .eyeStuck j s && s.ft.causes.get .eyeStuck j)) ∧
            (∀ k j, k ≠ .eyeStuck → standing k j u = standing k j s)) ∧
          (∀ r e, p = 30 → requesterAt index.toNat = some r → steerAt value.toNat = some e → u = steer r e s) ∧
          (p ≠ 1 → p ≠ 9 → p ≠ 10 → p ≠ 18 → p ≠ 28 → p ≠ 29 → p ≠ 30 → { u with params := s.params } = s)))

/-- LANE_SELECT, before the step settles: the pending selection, and the lane's flags in step with it. The model's choices:
LOG 4, 5, 45. -/
def Obligations.LaneSelectNamesThePendingSlot : Prop :=
  ∀ (tok lane slot : Byte) (s : State), serves s = true →
    ((1 < lane.toNat ∨ 15 < slot.toNat) →
      exec (.laneSelect tok lane slot) s = .next (queueReply 0x1B tok ⟨3, []⟩ s)) ∧
    (∀ l, laneOf lane = some l → slot.toNat ≤ 15 →
      let now := opt8 (s.lic.get l).active ++ opt8 (s.lic.get l).pendingSel
      ((recipeAt slot.toNat s).code = 0 →
        exec (.laneSelect tok lane slot) s = .next (queueReply 0x1B tok ⟨12, now⟩ s)) ∧
      ((recipeAt slot.toNat s).code ≠ 0 → (s.lic.get l).active = some slot.toNat → (s.lic.get l).pendingSel = none →
        exec (.laneSelect tok lane slot) s = .next (queueReply 0x1B tok ⟨10, now⟩ s)) ∧
      ((recipeAt slot.toNat s).code ≠ 0 → ((s.lic.get l).active ≠ some slot.toNat ∨ (s.lic.get l).pendingSel ≠ none) →
        ∃ u, exec (.laneSelect tok lane slot) s = .next (settle (queueReply 0x1B tok
            ⟨0, opt8 (s.lic.get l).active ++ opt8 (some slot.toNat)⟩ u)) ∧
          (u.lic.get l).pendingSel = some slot.toNat ∧ (u.lic.get l).active = (s.lic.get l).active ∧
          (u.lic.get l).closure.noRecipe = false ∧ laneInStep l u ∧
          u.lic.get l = (u.lic.get l).withFlagsOf { s.lic.get l with pendingSel := some slot.toNat } ∧
          u.lic.get (otherLane l) = s.lic.get (otherLane l) ∧
          { u with lic := s.lic, ml := { u.ml with reports := s.ml.reports } } = s))

/-! ## Requests: the line -/

/-- LINE_START. The model's choices: LOG 4, 5, 20, 22. -/
def Obligations.LineStartSpinsUp : Prop :=
  ∀ (tok : Byte) (s : State), serves s = true →
    ((s.lsc.line ≠ .standby ∨ stopFault s = true) → exec (.lineStart tok) s = .next (queueReply 0x20 tok
      ⟨4, u8 s.lsc.line.code ++ flag (stopFault s)⟩ s)) ∧
    (s.lsc.line = .standby → stopFault s = false → s.cal.valid = false → exec (.lineStart tok) s = .next (queueReply 0x20 tok
      ⟨9, [1, 0]⟩ s)) ∧
    (s.lsc.line = .standby → stopFault s = false → s.cal.valid = true →
      ∃ t, exec (.lineStart tok) s = .next t ∧
        t.lsc.line = (if spun .a s && spun .b s then .run else .spinUp) ∧
        t.lsc.previous = some (if spun .a s && spun .b s then .spinUp else .standby) ∧
        t.ml.replies = s.ml.replies ++ [⟨0x20, tok, 0, [if spun .a s && spun .b s then 3 else 2, 0]⟩] ∧
        t.dou.outfeed = (spun .a s && spun .b s) ∧
        (∀ l, t.dou.accum.get l = (spun .a s && spun .b s)) ∧
        (∀ l, (s.lic.get l).enabled = true → (s.lic.get l).blade = .off →
          (t.lic.get l).blade = .spinning ∧ t.dou.blade.get l = true ∧
          (t.lic.get l).spinWait = some (spinUpMs (s.params.spinCode.get l))) ∧
        .lineState ∈ t.ml.reports)

/-- LINE_HOLD and LINE_DRAIN. The model's choices: LOG 4, 5, 20, 22. -/
def Obligations.HoldAndDrain : Prop :=
  ∀ (tok : Byte) (s : State), serves s = true →
    (s.lsc.line = .hold → exec (.lineHold tok) s = .next (queueReply 0x21 tok
      ⟨10, [4] ++ opt8 (s.lsc.returnState.map LineState.code) ++ flag s.lsc.holdHost⟩ s)) ∧
    ((s.lsc.line = .standby ∨ s.lsc.line = .spinUp ∨ s.lsc.line = .stop) →
      exec (.lineHold tok) s = .next (queueReply 0x21 tok ⟨4, []⟩ s)) ∧
    ((s.lsc.line = .run ∨ s.lsc.line = .drain) → stopFault s = false →
      ∃ t, exec (.lineHold tok) s = .next t ∧ t.lsc.line = .hold ∧ t.lsc.previous = some s.lsc.line ∧
        t.lsc.returnState = some s.lsc.line ∧ t.lsc.holdHost = true ∧
        t.ml.replies = s.ml.replies ++ [⟨0x21, tok, 0, [4, 1] ++ u8 s.lsc.line.code ++ [1]⟩] ∧
        t.dou.outfeed = false ∧ (∀ l, t.dou.accum.get l = false ∧ t.dou.infeed.get l = false) ∧
        (∀ l, (t.cc.get l).cycle ≠ .airWait)) ∧
    (s.lsc.line = .drain → exec (.lineDrain tok) s = .next (queueReply 0x23 tok ⟨10, [5]⟩ s)) ∧
    (s.lsc.line ≠ .run → s.lsc.line ≠ .drain →
      exec (.lineDrain tok) s = .next (queueReply 0x23 tok ⟨4, []⟩ s)) ∧
    (s.lsc.line = .run → stopFault s = false →
      ∃ t, exec (.lineDrain tok) s = .next t ∧ t.lsc.line = (if poolEmpty s then .standby else .drain) ∧
        t.ml.replies = s.ml.replies ++ [⟨0x23, tok, 0, [if poolEmpty s then 1 else 5]⟩] ∧
        (∀ l, (t.lic.get l).tunnelReady = false))

/-- LINE_RESUME. The model's choices: LOG 4, 5, 20, 22. -/
def Obligations.ResumeEndsAHoldOrAStop : Prop :=
  ∀ (tok : Byte) (s : State), serves s = true →
    ((s.lsc.line ≠ .hold ∧ s.lsc.line ≠ .stop) ∨ (s.lsc.line = .stop ∧ stopFault s = true) →
      exec (.lineResume tok) s = .next (queueReply 0x22 tok ⟨4, []⟩ s)) ∧
    (s.lsc.line = .hold → stopFault s = false →
      let back : LineState := if s.lsc.returnState = some .drain then (if poolEmpty s then .standby else .drain) else .run
      ∃ t, exec (.lineResume tok) s = .next t ∧ t.lsc.line = back ∧ t.lsc.returnState = none ∧ t.lsc.holdHost = false ∧
        t.ml.replies = s.ml.replies ++ [⟨0x22, tok, 0, u8 back.code ++ [0, 0, 0]⟩] ∧
        t.dou.outfeed = (back != .standby) ∧ (∀ l, t.dou.accum.get l = (back != .standby))) ∧
    (s.lsc.line = .stop → stopFault s = false →
      let next : LineState := if spun .a s && spun .b s then .run else .spinUp
      let goes := fun r : Option LoafRecord => r.any LoafRecord.stopDiscard
      ∃ u, exec (.lineResume tok) s = .next (flow (queueReply 0x22 tok
          ⟨0, u8 next.code ++ opt8 (u.lsc.returnState.map LineState.code) ++ flag u.lsc.holdHost⟩ u)) ∧
        u.lsc.line = next ∧
        (s.lsc.returnState = none → s.lsc.holdHost = false → u.lsc.returnState = none ∧ u.lsc.holdHost = false) ∧
        u.tt.bagger = (if goes s.tt.bagger then none else s.tt.bagger) ∧
        u.tt.tyer = (if goes s.tt.tyer then none else s.tt.tyer) ∧
        u.tt.accum = s.tt.accum ∧ u.tt.blade = s.tt.blade ∧ u.tt.approach = s.tt.approach ∧ u.tt.exit = s.tt.exit ∧
        (s.tu.live.line.rejected + 2 < 4294967296 → u.tu.live.line.rejected
          = s.tu.live.line.rejected + (if goes s.tt.bagger then 1 else 0) + (if goes s.tt.tyer then 1 else 0)))

/-- LINE_STANDBY. The model's choices: LOG 4, 5, 22, 25. -/
def Obligations.StandbyPurgesAndQueuesACheckpoint : Prop :=
  ∀ (tok : Byte) (s : State), serves s = true →
    (s.lsc.line ≠ .hold → s.lsc.line ≠ .stop →
      exec (.lineStandby tok) s = .next (queueReply 0x24 tok ⟨4, []⟩ s)) ∧
    ((s.lsc.line = .hold ∨ s.lsc.line = .stop) →
      ∃ u, exec (.lineStandby tok) s = .next (flow (queueReply 0x24 tok ⟨0, [1]⟩ u)) ∧
        u.lsc.line = .standby ∧ u.lsc.previous = some s.lsc.line ∧ u.lsc.returnState = none ∧ u.lsc.holdHost = false ∧
        u.records = [] ∧ u.tt.nextTag = s.tt.nextTag ∧ u.tt.stuck = s.tt.stuck ∧
        (∀ e, u.tt.watch.get e = none) ∧
        (s.tu.live.line.lost ≤ 4294967295 →
          u.tu.live.line.lost = min (s.tu.live.line.lost + admittedCount s) 4294967295) ∧
        (∀ l, (u.lic.get l).blade = .off ∧ u.dou.blade.get l = false ∧ u.dou.accum.get l = false) ∧ u.dou.outfeed = false ∧
        u.mbc.bagger = .idle ∧ u.tsc.tyer = .idle ∧
        (s.rs.writer = none → ∃ w, u.rs.writer = some w ∧ w.job.kind = .checkpoint ∧
          w.job.number = some s.tu.live.shift ∧ w.area = 24 ∧ w.programs = 0) ∧
        (s.rs.writer ≠ none → u.rs.writer = s.rs.writer ∧ ∃ j, u.rs.queue.checkpoint = some j ∧ j.kind = .checkpoint ∧
          j.number = some s.tu.live.shift))

/-- LANE_ENABLE: before the line moves, the enable state and the lane's flags in step with it. The model's choices: LOG 4,
5, 20, 45. -/
def Obligations.LaneEnableSetsTheLane : Prop :=
  ∀ (tok lane on : Byte) (s : State), serves s = true →
    ((1 < lane.toNat ∨ 1 < on.toNat) →
      exec (.laneEnable tok lane on) s = .next (queueReply 0x25 tok ⟨3, []⟩ s)) ∧
    (∀ l, laneOf lane = some l → on.toNat ≤ 1 → (s.lic.get l).enabled = (on == 1) →
      exec (.laneEnable tok lane on) s = .next (queueReply 0x25 tok
        ⟨10, u8 (if on == 1 then 0 else 1) ++ u8 (s.lic.get l).blade.code⟩ s)) ∧
    (∀ l, laneOf lane = some l → on.toNat ≤ 1 → (s.lic.get l).enabled ≠ (on == 1) →
      ∃ u, exec (.laneEnable tok lane on) s = .next (flow (queueReply 0x25 tok
          ⟨0, u8 (if on == 1 then 0 else 1) ++ u8 ((advanceLine u).lic.get l).blade.code⟩
          (advanceLine u))) ∧
        (u.lic.get l).enabled = (on == 1) ∧
        (u.lic.get l).closure.laneDisabled = (!(on == 1) && s.lsc.line != .drain) ∧
        laneInStep l u ∧ u.lic.get l = (u.lic.get l).withFlagsOf { s.lic.get l with enabled := on == 1 } ∧
        u.lic.get (otherLane l) = s.lic.get (otherLane l) ∧
        .laneState l ∈ u.ml.reports ∧ { u with lic := s.lic, ml := { u.ml with reports := s.ml.reports } } = s ∧
        (s.lsc.line = .run → stopFault s = false → on = 1 → (s.lic.get l).blade = .off →
          ((advanceLine u).lic.get l).blade = .spinning ∧ (advanceLine u).dou.blade.get l = true ∧
          ((advanceLine u).lic.get l).spinWait = some (spinUpMs (s.params.spinCode.get l))))

/-- MAGAZINE_LOAD: the count, the low flag and the waiting station's check, with the reply after them. The model's choices:
LOG 4, 5, 20, 42. -/
def Obligations.MagazineLoadSetsTheCount : Prop :=
  ∀ (tok which : Byte) (count : BitVec 16) (s : State), serves s = true →
    ((1 < which.toNat ∨ 9999 < count.toNat) →
      exec (.magazineLoad tok which count) s = .next (queueReply 0x2C tok ⟨3, []⟩ s)) ∧
    (which = 0 → count.toNat ≤ 9999 →
      let waits : Prop := s.mbc.bagger = .select ∧ s.mbc.route = some .bag ∧ s.mbc.phase = .none ∧ count ≠ 0
      let granted : Prop := s.mbc.blast = none ∧ s.ama.pressureLow = false ∧
        ∃ c, (s.params.steering.get .bag).channel = some c ∧ s.ama.holder.get c = none
      ∃ u, exec (.magazineLoad tok which count) s
          = .next (settle (queueReply 0x2C tok ⟨0, u16 u.mbc.bagCount ++ flag u.mbc.bagLow⟩ u)) ∧
        (¬waits → u.mbc = { s.mbc with bagCount := count.toNat, bagLow := decide (count.toNat ≤ s.params.lowMark.bags) }) ∧
        (waits → ¬granted → u.mbc = { s.mbc with
          bagger := .airWait, bagCount := count.toNat, bagLow := decide (count.toNat ≤ s.params.lowMark.bags) }) ∧
        (waits → granted → u.mbc.bagger = .opening ∧ u.mbc.bagCount = count.toNat - 1 ∧
          u.mbc.bagLow = decide (count.toNat - 1 ≤ s.params.lowMark.bags) ∧
          u.tu.live.line.bagsUsed = bump s.tu.live.line.bagsUsed) ∧
        (count ≠ 0 → s.ft.causes.bagsOut = true → standing .bagsOut .out u = false ∧ u.ft.causes.bagsOut = false) ∧
        u.tsc = s.tsc ∧ u.tt = s.tt ∧ u.lsc = s.lsc) ∧
    (which = 1 → count.toNat ≤ 9999 →
      ∃ u, exec (.magazineLoad tok which count) s = .next (settle (queueReply 0x2C tok
          ⟨0, u16 count.toNat ++ flag (decide (count.toNat ≤ s.params.lowMark.clips))⟩ u)) ∧
        u.tsc.clipCount = count.toNat ∧ u.tsc.clipLow = decide (count.toNat ≤ s.params.lowMark.clips) ∧
        ((s.tsc.tyer ≠ .twist ∨ s.tsc.phaseTimer ≠ none ∨ count = 0) →
          { u.tsc with clipCount := s.tsc.clipCount, clipLow := s.tsc.clipLow } = s.tsc) ∧
        (s.tsc.tyer = .twist → s.tsc.phaseTimer = none → count ≠ 0 →
          u.tsc.tyer = .twist ∧ u.tsc.phaseTimer = some 200 ∧ u.tsc.tieTimer = some s.params.tieTimeout ∧
          u.tsc.leftHome = false ∧ (s.lsc.line ≠ .stop → u.dou.tyer = true)) ∧
        (count ≠ 0 → s.ft.causes.clipsOut = true → standing .clipsOut .out u = false ∧ u.ft.causes.clipsOut = false) ∧
        u.mbc = s.mbc ∧ u.tt = s.tt ∧ u.lsc = s.lsc)

/-- TYER_RESOLVE. The model's choices: LOG 4, 5. -/
def Obligations.TyerResolveEndsTheJam : Prop :=
  ∀ (tok action : Byte) (s : State), serves s = true →
    (1 < action.toNat → exec (.tyerResolve tok action) s = .next (queueReply 0x2D tok ⟨3, []⟩ s)) ∧
    (action.toNat ≤ 1 → s.tt.tyer.any LoafRecord.jammed = false →
      exec (.tyerResolve tok action) s = .next (queueReply 0x2D tok ⟨4, []⟩ s)) ∧
    (s.tt.tyer.any LoafRecord.jammed = true → (producing s = false ∨ s.pins.tyerHome = false) →
      exec (.tyerResolve tok 0) s = .next (queueReply 0x2D tok ⟨4, []⟩ s)) ∧
    (∀ r, s.tt.tyer = some r → r.jammed = true → producing s = true → s.pins.tyerHome = true →
      ∃ u, exec (.tyerResolve tok 0) s = .next (flow (queueReply 0x2D tok ⟨0, []⟩ (advanceLine u))) ∧
        u.tt = { s.tt with tyer := some { r with jammed := false } } ∧ u.ft.causes.tyerJam = false ∧
        u.tsc.tyer = .twist ∧ u.tsc.clipCount = s.tsc.clipCount ∧
        (0 < s.tsc.clipCount → u.tsc.phaseTimer = some 200 ∧ u.tsc.tieTimer = some s.params.tieTimeout ∧
          u.tsc.leftHome = false ∧ u.dou.tyer = true) ∧
        (s.tsc.clipCount = 0 → u.tsc.phaseTimer = none ∧ u.tsc.tieTimer = none ∧
          standsWith .clipsOut .out none u = true)) ∧
    (∀ r, s.tt.tyer = some r → r.jammed = true →
      ∃ u, exec (.tyerResolve tok 1) s = .next (flow (queueReply 0x2D tok ⟨0, []⟩ (advanceLine u))) ∧
        u.tt = { s.tt with tyer := none } ∧ u.ft.causes.tyerJam = false ∧ u.tsc = s.tsc ∧ u.mbc = s.mbc ∧
        u.tu.live.line.rejected = bump s.tu.live.line.rejected)

/-- FAULT_CLEAR: the presented entry leaves, and of the pending entries the best one is presented if it is more urgent than
the entry it would cover; its presentation counts a fault taken. The model's choices: LOG 4, 5, 22, 23, 52, 54. -/
def Obligations.FaultClearRemovesThePresented : Prop :=
  ∀ (tok : Byte) (s : State), serves s = true →
    (s.ft.stack = [] → exec (.faultClear tok) s = .next (queueReply 0x31 tok
      ⟨4, [0, 0, 0, 0, 0, 0, 0] ++ u16 s.ft.changeNumber.toNat⟩ s)) ∧
    (∀ e rest, s.ft.stack = e :: rest → s.ft.causes.get e.kind e.subject = true →
      exec (.faultClear tok) s = .next (queueReply 0x31 tok
        ⟨7, namedEntry (some e) ++ namedEntry (some e) ++ u8 s.ft.entries.length
            ++ u16 s.ft.changeNumber.toNat⟩ s)) ∧
    (∀ e rest, s.ft.stack = e :: rest → s.ft.causes.get e.kind e.subject = false →
      ∃ u, exec (.faultClear tok) s = .next (flow (queueReply 0x31 tok
          ⟨0, namedEntry (some e) ++ namedEntry (advanceLine u).ft.stack.head?
              ++ u8 (advanceLine u).ft.entries.length ++ u16 (advanceLine u).ft.changeNumber.toNat⟩ (advanceLine u))) ∧
        (∀ k subj, standing k subj u = (standing k subj s && !(k == e.kind && subj == e.subject))) ∧
        (faultsSafe s = true →
          let quiet : Prop := ∀ f ∈ s.ft.waiting, ∃ top, rest.head? = some top ∧ top.priority ≤ f.priority
          (quiet → u.ft.stack = rest ∧ u.ft.waiting = s.ft.waiting ∧
            (e.kind ≠ .baggerJam → u.tu = s.tu)) ∧
          (¬quiet → ∃ b ∈ s.ft.waiting, u.ft.stack = b :: rest ∧ u.ft.waiting = s.ft.waiting.erase b ∧
            (e.kind ≠ .baggerJam → u.tu = s.tu.faultCounted) ∧ (∀ f ∈ s.ft.waiting, b.priority ≤ f.priority) ∧
            ((∀ f ∈ s.ft.waiting, 0 < dist f.seq s.ft.raiseCounter) →
              ∀ f ∈ s.ft.waiting, f.priority = b.priority → 0 ≤ dist b.seq f.seq))) ∧
        u.ft.changeNumber = s.ft.changeNumber + 1 ∧ u.ft.raiseCounter = s.ft.raiseCounter ∧ u.ft.causes = s.ft.causes ∧
        .faultChange ∈ u.ml.reports ∧ u.lsc = s.lsc ∧
        (e.kind ≠ .baggerJam → u.tt = s.tt ∧ u.mbc = s.mbc ∧ u.dou = s.dou) ∧
        (e.kind = .baggerJam → u.mbc.stopped = false))

/-! ## The link -/

/-- BYTE_RECEIVED, ASSEMBLER_TAKES_BYTE and GAP_TIMER_RUN_OUT. The model's choices: LOG 3, 37. -/
def Obligations.ReceiverFollowsItsTables : Prop :=
  (∀ (b : Byte) (s : State),
    exec (.byteReceived b false) s = .next s ∧
    (s.ml.fifo.length < 256 → exec (.byteReceived b true) s = .next { s with ml := { s.ml with
      fifo := s.ml.fifo ++ [b]
      rdy := if s.ml.rdy then decide (s.ml.fifo.length + 1 < 192) else decide (s.ml.fifo.length + 1 ≤ 64) } }) ∧
    (256 ≤ s.ml.fifo.length → ∃ t, exec (.byteReceived b true) s = .next t ∧
      t.ml.noticeOverrun = min (s.ml.noticeOverrun + 1) 255 ∧ .linkNotice .overrun ∈ t.ml.reports ∧
      { t with ml := { t.ml with noticeOverrun := s.ml.noticeOverrun, reports := s.ml.reports } } = s)) ∧
  (∀ s : State,
    (s.ml.fifo = [] → exec .assemblerTakesByte s = .next s) ∧
    (∀ len kept, s.ml.assembler = .complete len kept → exec .assemblerTakesByte s = .next s) ∧
    (∀ b rest, s.ml.fifo = b :: rest →
      let t : State := { s with ml := { s.ml with
        fifo := rest
        rdy := if s.ml.rdy then decide (rest.length < 192) else decide (rest.length ≤ 64) } }
      let becomes := fun (a : Assembler) (gap : Machine.Timer) =>
        exec .assemblerTakesByte s = .next { t with ml := { t.ml with assembler := a, gap := gap } }
      (s.ml.assembler = .hunt → b = 0xC5 → becomes .length (some 20)) ∧
      (s.ml.assembler = .hunt → b ≠ 0xC5 → exec .assemblerTakesByte s = .next t) ∧
      (s.ml.assembler = .length → 2 ≤ b.toNat → b.toNat ≤ 250 → becomes (.body b []) (some 20)) ∧
      (s.ml.assembler = .length → (b.toNat < 2 ∨ 250 < b.toNat) → becomes .hunt none) ∧
      (∀ len kept, s.ml.assembler = .body len kept → kept.length + 1 < len.toNat + 2 →
        becomes (.body len (kept ++ [b])) (some 20)) ∧
      (∀ len kept, s.ml.assembler = .body len kept → kept.length + 1 = len.toNat + 2 →
        let covered := len :: kept.take len.toNat
        let sent := (kept ++ [b]).drop len.toNat
        (sent = u16 (crc16 covered).toNat → becomes (.complete len (kept ++ [b])) none) ∧
        (sent ≠ u16 (crc16 covered).toNat → ∃ v, exec .assemblerTakesByte s = .next v ∧ v.ml.assembler = .hunt ∧
          v.ml.gap = none ∧ v.ml.noticeCrc = min (s.ml.noticeCrc + 1) 255 ∧ .linkNotice .crc ∈ v.ml.reports ∧
          { v with ml := { v.ml with assembler := s.ml.assembler, gap := s.ml.gap, noticeCrc := s.ml.noticeCrc,
                                     reports := s.ml.reports } } = t))) ∧
    (s.ml.gap ≠ none → s.ml.fifo = [] → (s.ml.assembler = .length ∨ ∃ len kept, s.ml.assembler = .body len kept) →
      ∃ v, exec .gapTimerRunOut s = .next v ∧ v.ml.assembler = .hunt ∧ v.ml.gap = none ∧
        v.ml.noticeTimeout = min (s.ml.noticeTimeout + 1) 255 ∧ .linkNotice .timeout ∈ v.ml.reports ∧
        { v with ml := { v.ml with assembler := s.ml.assembler, gap := s.ml.gap, noticeTimeout := s.ml.noticeTimeout,
                                   reports := s.ml.reports } } = s) ∧
    ((s.ml.gap = none ∨ s.ml.fifo ≠ []) → exec .gapTimerRunOut s = .next s))

/-- TRANSMIT_START, FRAME_SENT and RESTART, with the fields of each report (R55, R57, R66, R98, R113, R132, R154, R169, R172,
R178, R188). The model's choices: LOG 3 (FRAME_SENT with nothing in transmission), 16, 20, 21, 23, 44, 51 to 54. -/
def Obligations.TransmitterSendsInOrder : Prop :=
  ∀ s : State,
    (∀ hold, (s.ml.tx ≠ none ∨ hold = true ∨ (s.ml.replies = [] ∧ s.ml.reports = [])) →
      exec (.transmitStart hold) s = .next { s with pins := { s.pins with txHold := hold } }) ∧
    (∀ r rest, s.ml.tx = none → s.ml.replies = r :: rest →
      exec (.transmitStart false) s = .next { s with
        pins := { s.pins with txHold := false }
        ml := { s.ml with tx := some { isReply := true, bytes := frameOf (r.type + 0x80) r.token (r.status :: r.content) } } }) ∧
    (∀ k rest, s.ml.tx = none → s.ml.replies = [] → s.ml.reports = k :: rest →
      let fields : ReportKey → List Byte
        | .lineState =>
          u8 s.lsc.line.code ++ opt8 (s.lsc.previous.map LineState.code) ++ opt8 (s.lsc.returnState.map LineState.code)
            ++ flag s.lsc.holdHost ++ flag (stopFault s) ++ flag (spun .a s) ++ flag (spun .b s) ++ flag (latch s)
            ++ u8 (if s.dou.estop.isOpen then 0 else 1) ++ u8 (if s.dou.guardIn.isOpen then 0 else 1) ++ u8 s.records.length
        | .faultChange =>
          u16 s.ft.changeNumber.toNat ++ u8 s.ft.entries.length ++ u8 s.ft.stack.tail.length ++ u8 s.ft.waiting.length
            ++ (match s.ft.stack.head? with
              | some e => u8 1 ++ u8 e.kind.code ++ u8 e.subject.code ++ u8 e.priority
                  ++ flag (s.ft.causes.get e.kind e.subject) ++ opt16 e.detail
              | none => List.replicate 8 0)
            ++ flag (s.ft.entries.any (fun e => actionOf e.kind e.subject == .laneHold .a))
            ++ flag (s.ft.entries.any (fun e => actionOf e.kind e.subject == .laneHold .b))
            ++ flag (outfeedHeld s) ++ flag (stopFault s)
        | .laneState l =>
          let i := s.lic.get l
          u8 (laneCode l) ++ u8 (if i.enabled then 0 else 1) ++ u8 i.blade.code ++ u8 (gateState l s).code
            ++ u8 (setBits [i.closure.laneDisabled, i.closure.lineNotRunning, i.closure.bladeNotReady, i.closure.bladeOccupied,
                i.closure.accFull, i.closure.crumbGap, i.closure.faultHold, i.closure.noRecipe])
            ++ flag i.accFull ++ flag i.tunnelReady ++ opt8 i.active ++ opt8 i.pendingSel
            ++ u8 (s.tt.approach.get l).length ++ u8 (s.tt.blade.get l).toList.length ++ u8 (s.tt.accum.get l).length
        | .recipeApplied l =>
          let slot := (s.lic.get l).active.getD 0
          u8 (laneCode l) ++ u8 slot ++ u16 (recipeAt slot s).code ++ u16 (s.lic.get l).appliedTag
        | .crumbCleared l =>
          u8 (laneCode l)
            ++ (match (s.cc.get l).lastClear with
              | some (cause, shakerOnly) => u8 cause.code ++ flag shakerOnly
              | none => [0, 0])
            ++ u16 (s.cc.get l).estimate ++ u16 (s.cc.get l).lastLevel ++ u32 (s.tu.live.line.crumbClears.get l)
        | .magazine .bags =>
          u8 0 ++ u16 s.mbc.bagCount ++ u16 s.params.lowMark.bags ++ flag s.mbc.bagLow
            ++ flag (s.mbc.bagger == .select && s.mbc.bagCount == 0)
        | .magazine .clips =>
          u8 1 ++ u16 s.tsc.clipCount ++ u16 s.params.lowMark.clips ++ flag s.tsc.clipLow
            ++ flag (s.tsc.tyer == .twist && s.tsc.clipCount == 0)
        | .shiftStored =>
          match s.rs.lastShift with
          | some o => u16 o.number ++ u8 o.slot ++ u8 (if o.stored then 0 else 1)
          | none => [0, 0, 0, 0]
        | .startup =>
          match s.rs.findings with
          | some f =>
            u8 f.validSlots ++ u8 f.tornSlots ++ u8 f.blankSlots
              ++ (match f.latest with
                | some (n, st) => u8 1 ++ u16 n ++ u8 st.code
                | none => [0, 0, 0, 0])
              ++ u8 f.checkpoint.code ++ u8 f.checkpointUse.code ++ u8 f.origin.code ++ u16 f.liveShift ++ u8 f.recipes.code
              ++ u8 f.recipesLoaded ++ (u8 f.selection.a.1.code ++ u16 f.selection.a.2)
              ++ (u8 f.selection.b.1.code ++ u16 f.selection.b.2)
          | none => []
        | .linkNotice n => u8 (noticeCount n s)
        | .storeDone .recipes => u8 (if s.rs.lastRecipes.getD false then 0 else 1)
        | .storeDone .checkpoint =>
          match s.rs.lastCkpt with
          | some (done, number) => u8 (if done then 0 else 1) ++ u16 number
          | none => [1, 0, 0]
      ∃ t, exec (.transmitStart false) s = .next t ∧ t.ml.reports = rest ∧
        t.ml.tx = some { isReply := false, bytes :=
                           frameOf (BitVec.ofNat 8 k.head.1) 0 (u8 k.head.2 ++ fields k) } ∧
        (∀ n, noticeCount n t = if k = .linkNotice n then 0 else noticeCount n s) ∧
        { t with
          pins := s.pins
          ml := { t.ml with
            tx := s.ml.tx, reports := s.ml.reports, noticeCrc := s.ml.noticeCrc, noticeTimeout := s.ml.noticeTimeout
            noticeOverrun := s.ml.noticeOverrun } } = s) ∧
    (∀ b1 b0, s.ml.tx = none → exec (.frameSent b1 b0) s = .next s) ∧
    (∀ b1 b0 bytes, s.ml.tx = some { isReply := false, bytes := bytes } →
      exec (.frameSent b1 b0) s = .next { s with ml := { s.ml with tx := none } }) ∧
    (∀ b1 b0 bytes r rest, s.ml.tx = some { isReply := true, bytes := bytes } → s.ml.replies = r :: rest →
      (r.type = 0x03 → r.status = 0 →
        exec (.frameSent b1 b0) s = exec (.reset b1 b0 .beforeProgram) s) ∧
      ((r.type ≠ 0x03 ∨ r.status ≠ 0) →
        exec (.frameSent b1 b0) s = .next { s with ml := { s.ml with tx := none, replies := rest } })) ∧
    (∀ tok, serves s = true →
      (s.lsc.line ≠ .standby → exec (.restart tok) s = .next (queueReply 0x03 tok ⟨4, []⟩ s)) ∧
      (s.lsc.line = .standby → s.rs.busy = true →
        exec (.restart tok) s = .next (queueReply 0x03 tok ⟨5, []⟩ s)) ∧
      (s.lsc.line = .standby → s.rs.busy = false →
        exec (.restart tok) s = .next (queueReply 0x03 tok ⟨0, []⟩
          { s with ml := { s.ml with restartPending := true } }))) ∧
    ([ReportKey.lineState, .faultChange, .laneState .a, .laneState .b, .recipeApplied .a, .recipeApplied .b,
        .crumbCleared .a, .crumbCleared .b, .magazine .bags, .magazine .clips, .shiftStored, .startup, .linkNotice .crc,
        .linkNotice .timeout, .linkNotice .overrun, .storeDone .recipes, .storeDone .checkpoint].map ReportKey.head
      = [(0x60, 0), (0x61, 0), (0x62, 1), (0x62, 2), (0x63, 1), (0x63, 2), (0x64, 1), (0x64, 2), (0x65, 0), (0x65, 1),
        (0x66, 0), (0x67, 0), (0x68, 0), (0x68, 1), (0x68, 2), (0x69, 0), (0x69, 1)] ∧
      [CycleCause.estimate, .level, .host].map CycleCause.code = List.range 3 ∧
      [LogState.blank, .writing, .valid, .torn].map LogState.code = List.range 4 ∧
      [AreaState.valid, .torn, .blank].map AreaState.code = List.range 3 ∧
      [CheckpointUse.used, .stale, .unusable].map CheckpointUse.code = List.range 3 ∧
      [Origin.checkpoint, .afterRecord, .afterTorn, .first].map Origin.code = List.range 4 ∧
      [SelectionOutcome.restored, .dropped, .none].map SelectionOutcome.code = List.range 3)

/-! ## Eyes, belts and the Scan Converter -/

/-- EYE_SAMPLE. -/
def Obligations.EyeSampleSetsTheRawState : Prop :=
  ∀ (e : Eye) (level : Byte) (s : State), ∃ t, exec (.eyeSample e level) s = .next t ∧
    { t with eu := s.eu } = s ∧ t.eu.edges = s.eu.edges ∧ (∀ f, f ≠ e → t.eu.channels.get f = s.eu.channels.get f) ∧
    (let c := s.eu.channels.get e
     let d := t.eu.channels.get e
     let threshold := s.params.threshold.get e
     let clear := min (threshold + s.params.hysteresis.get e) 255
     d.sampled = true ∧ d.lastLeading = c.lastLeading ∧
     (c.sampled = false → d.raw = decide (level.toNat < threshold) ∧ d.debounced = d.raw ∧ d.change = none) ∧
     (c.sampled = true →
       (c.raw = false → d.raw = decide (level.toNat < threshold)) ∧
       (c.raw = true → d.raw = decide (level.toNat < clear)) ∧
       d.debounced = c.debounced ∧
       (d.raw = d.debounced → d.change = none) ∧
       (d.raw ≠ d.debounced → d.change = some (c.change.getD { stamp := position (eyeBelt e) s, held := 0 }))))

/-- DEBOUNCE_CONFIRM. The model's choices: LOG 3, 7. -/
def Obligations.DebounceConfirmGivesTheEdge : Prop :=
  ∀ (e : Eye) (s : State),
    let c := s.eu.channels.get e
    ((c.change = none ∨ c.raw = c.debounced) → exec (.debounceConfirm e) s = .next s) ∧
    (∀ p, c.change = some p → c.raw ≠ c.debounced →
      let reached := e = .bg ∨ s.params.debounce.get e ≤ (dist p.stamp (position (eyeBelt e) s)).natAbs
      (¬reached → exec (.debounceConfirm e) s = .next s) ∧
      (reached → ∃ t, exec (.debounceConfirm e) s = .next t ∧ { t with eu := s.eu } = s ∧
        (∀ f, f ≠ e → t.eu.channels.get f = s.eu.channels.get f) ∧
        (t.eu.channels.get e).debounced = c.raw ∧ (t.eu.channels.get e).raw = c.raw ∧
        (t.eu.channels.get e).change = none ∧
        (t.eu.channels.get e).lastLeading
          = (if (e = .ia ∨ e = .ib) ∧ c.raw = true then some p.stamp else c.lastLeading) ∧
        t.eu.edges = (if edgeTaken e c.raw then s.eu.edges ++ [{
            eye := e, leading := c.raw, stamp := p.stamp,
            length := if (e = .ia ∨ e = .ib) ∧ c.raw = false then
              (match c.lastLeading with
                | none => 0
                | some q => min (max 0 (dist q p.stamp)).toNat 65535) else 0 }] else s.eu.edges)))

/-- ENCODER_COUNT. -/
def Obligations.EncoderCountMovesTheBelt : Prop :=
  ∀ (b : Belt) (pa pb : Bool) (s : State), ∃ t, exec (.encoderCount b pa pb) s = .next t ∧
    { t with beu := s.beu } = s ∧ t.beu.pair.get b = some (pa, pb) ∧
    (∀ c, c ≠ b → t.beu.position.get c = s.beu.position.get c ∧ t.beu.remainder.get c = s.beu.remainder.get c ∧
      t.beu.pair.get c = s.beu.pair.get c) ∧
    (let forward : List ((Bool × Bool) × (Bool × Bool)) :=
       [((false, false), (true, false)), ((true, false), (true, true)), ((true, true), (false, true)),
        ((false, true), (false, false))]
     let scale := s.params.scale.get b
     let rem := s.beu.remainder.get b
     let pos := s.beu.position.get b
     (s.beu.pair.get b = none → t.beu.position.get b = pos ∧ t.beu.remainder.get b = rem) ∧
     (∀ q, s.beu.pair.get b = some q →
       ((q, (pa, pb)) ∈ forward → scale ≤ rem + 100 →
         t.beu.position.get b = pos + 1 ∧ t.beu.remainder.get b = rem + 100 - scale) ∧
       ((q, (pa, pb)) ∈ forward → rem + 100 < scale →
         t.beu.position.get b = pos ∧ t.beu.remainder.get b = rem + 100) ∧
       (((pa, pb), q) ∈ forward → rem < 100 →
         t.beu.position.get b = pos - 1 ∧ t.beu.remainder.get b = rem + scale - 100) ∧
       (((pa, pb), q) ∈ forward → 100 ≤ rem →
         t.beu.position.get b = pos ∧ t.beu.remainder.get b = rem - 100) ∧
       ((q, (pa, pb)) ∉ forward → ((pa, pb), q) ∉ forward →
         t.beu.position.get b = pos ∧ t.beu.remainder.get b = rem)))

/-- SCAN_TIMER_EXPIRY and CONVERSION_COMPLETE. The model's choices: LOG 3 (no conversion in flight; every SCAN_TIMER_EXPIRY
is its moment), 4, 24. -/
def Obligations.ScanConverterConvertsInOrder : Prop :=
  ∀ s : State,
    (∃ t, exec .scanTimerExpiry s = .next t ∧ { t with sc := s.sc } = s ∧ t.sc.timer = s.params.scanPeriod ∧
      t.sc.result = s.sc.result ∧ t.sc.age = s.sc.age ∧ t.sc.inFlight = some (s.sc.inFlight.getD .tna) ∧
      (∀ c, (t.sc.flag.get c || t.sc.inFlight == some c)
        = (s.sc.flag.get c || s.sc.inFlight == some c
            || (match c with
                | .cra => !admitting .a s
                | .crb => !admitting .b s
                | _ => true)))) ∧
    (s.sc.inFlight = none → ∀ r, exec (.conversionComplete r) s = .next s) ∧
    (∀ c (r : BitVec 10), s.sc.inFlight = some c →
      ∃ u, exec (.conversionComplete r) s = .next (settle u) ∧
        u.sc.result.get c = r.toNat ∧ u.sc.age.get c = 0 ∧
        (∀ d, d ≠ c → u.sc.result.get d = s.sc.result.get d ∧ u.sc.age.get d = s.sc.age.get d) ∧
        u.sc.inFlight = s.sc.lowest ∧
        (∀ d, u.sc.flag.get d = (s.sc.flag.get d && s.sc.lowest != some d)) ∧
        (c = .airp → u.ama.pressureLow = decide (r.toNat < s.params.pMin) ∧
          (r.toNat < s.params.pMin → standsWith .airLow .line (some r.toNat) u = true)) ∧
        (∀ l, c = crumbChannel l → (u.cc.get l).lastLevel = r.toNat ∧ (u.cc.get l).levelSince = true ∧
          (s.lsc.line ≠ .init → s.params.lOver ≤ r.toNat →
            standsWith .crumbOverfull (laneSubject l) (some r.toNat) u = true)) ∧
        (∀ l, c = tensionChannel l →
          u.ft.causes.get .bladeTension (laneSubject l) = decide (r.toNat < s.params.tLow) ∧
          ((s.lic.get l).blade = .ready → r.toNat < s.params.tBreak →
            (u.lic.get l).blade = .off ∧ u.dou.blade.get l = false ∧
            standsWith .bladeBreak (laneSubject l) (some r.toNat) u = true) ∧
          ((s.lic.get l).blade = .ready → s.params.tBreak ≤ r.toNat → r.toNat < s.params.tLow →
            (u.lic.get l).blade = .ready ∧ standsWith .bladeTension (laneSubject l) (some r.toNat) u = true)))

/-! ## The Tracking Table -/

/-- INFEED_TRAILING_EDGE: a record at the APPROACH tail with the lane's flags in step, or an overrun. The model's choices:
LOG 4, 7, 45. -/
def Obligations.InfeedTrailingEdgeCreatesARecord : Prop :=
  ∀ (l : Lane) (s : State) (x : Edge), nextEdge (infeedEye l) s = some x → x.leading = false →
    let dropped := dropEdge (infeedEye l) s.eu.edges
    (takesEdges s = false →
      exec (.infeedTrailingEdge l) s = .next (settle { s with eu := { s.eu with edges := dropped } })) ∧
    (takesEdges s = true → (s.tt.approach.get l).length < 4 → s.records.length ≤ 35 → 1 ≤ s.tt.nextTag →
      s.tt.nextTag ≤ 65535 →
      ∃ u tag, exec (.infeedTrailingEdge l) s = .next (settle u) ∧ 1 ≤ tag ∧ tag ≤ 65535 ∧ allocatedTag tag s = false ∧
        (allocatedTag s.tt.nextTag s = false → tag = s.tt.nextTag) ∧
        u.tt = { s.tt with
          nextTag := if tag = 65535 then 1 else tag + 1
          approach := s.tt.approach.upd l (fun q => q ++ [{
            tag := tag, lane := l, length := x.length, admitted := false, recipeSlot := none, verdict := none,
            condition := .sound, rejectReason := none, stopDiscard := false, jammed := false, arrived := false,
            departure := some { belt := infeedBelt l, pos := x.stamp }, clipCode := none }]) } ∧
        u.eu = { s.eu with edges := dropped } ∧
        laneInStep l u ∧ u.lic.get l = (u.lic.get l).withFlagsOf (s.lic.get l) ∧
        u.lic.get (otherLane l) = s.lic.get (otherLane l) ∧
        { u with tt := s.tt, eu := s.eu, lic := s.lic, ml := { u.ml with reports := s.ml.reports } } = s) ∧
    (takesEdges s = true → 4 ≤ (s.tt.approach.get l).length →
      ∃ u, exec (.infeedTrailingEdge l) s = .next (settle u) ∧ u.tt = s.tt ∧ u.eu = { s.eu with edges := dropped } ∧
        standsWith .approachOverrun (laneSubject l) none u = true ∧
        (∀ m, { u.lic.get m with closure := { (u.lic.get m).closure with faultHold := (s.lic.get m).closure.faultHold } }
          = s.lic.get m) ∧
        (standing .approachOverrun (laneSubject l) s = false → (u.lic.get l).closure.faultHold = true) ∧
        { u with eu := s.eu, lic := s.lic, ft := s.ft, tu := s.tu, ml := { u.ml with reports := s.ml.reports } } = s)

/-- SLICER_LEADING_EDGE and SLICER_TRAILING_EDGE. The model's choices: LOG 4, 7, 8, 40, 50. -/
def Obligations.SlicerEdgesMoveTheBladeRecord : Prop :=
  ∀ (l : Lane) (s : State) (x : Edge), nextEdge (eyeOf (slicerEye l)) s = some x →
    let dropped := dropEdge (eyeOf (slicerEye l)) s.eu.edges
    let late := (fun (r : LoafRecord) => r.departure.any
      (fun d => decide ((s.params.slicerPath.get l : Int) - s.params.slicerTol.get l ≤ dist d.pos x.stamp)))
    (x.leading = true → takesEdges s = true →
      ∃ u, exec (.slicerLeadingEdge l) s = .next (settle u) ∧ u.eu = { s.eu with edges := dropped } ∧
        u.tt.watch.get (slicerEye l) = some x.stamp ∧
        (∀ r, s.tt.blade.get l = some r → r.arrived = false → late r = true →
          u.tt = { s.tt with watch := s.tt.watch.upd (slicerEye l) (fun _ => some x.stamp),
                             blade := s.tt.blade.upd l (fun _ => some { r with arrived := true, departure := none }) }) ∧
        ((s.tt.blade.get l = none ∨ ∃ r, s.tt.blade.get l = some r ∧ (r.arrived = true ∨ late r = false)) →
          u.tt = { s.tt with watch := s.tt.watch.upd (slicerEye l) (fun _ => some x.stamp) } ∧
          standsWith .unexpectedLoaf (laneSubject l) none u = true) ∧
        { u with tt := s.tt, eu := s.eu, lic := s.lic, ft := s.ft, tu := s.tu,
                 ml := { u.ml with reports := s.ml.reports } } = s) ∧
    (x.leading = false →
      ∃ u, exec (.slicerTrailingEdge l) s = .next (settle u) ∧ u.eu = { s.eu with edges := dropped } ∧
        u.tt.watch.get (slicerEye l) = none ∧ u.tt.stuck.get (slicerEye l) = false ∧
        ((takesEdges s = false ∨ s.tt.blade.get l = none ∨ ∃ r, s.tt.blade.get l = some r ∧ r.arrived = false) →
          u.tt.blade = s.tt.blade ∧ u.tt.accum = s.tt.accum) ∧
        (∀ r, takesEdges s = true → s.tt.blade.get l = some r → r.arrived = true →
          u.tt.blade = s.tt.blade.upd l (fun _ => none) ∧
          (u.tt.accum.get l).map LoafRecord.tag = (s.tt.accum.get l).map LoafRecord.tag ++ [r.tag] ∧
          (s.tt.accum.get l = [] → r.departure = none →
            u.tt.accum.get l = [{ r with
              arrived := false
              departure := if eyeBlocked (eyeOf (mergeEye l)) s then none
                else some { belt := accumBelt l, pos := position (accumBelt l) s } }]) ∧
          (s.tt.accum.get l ≠ [] → (u.tt.accum.get l).getLast? = some { r with arrived := false }) ∧
          (u.lic.get l).closure.bladeOccupied = false) ∧
        u.tt.approach = s.tt.approach ∧ u.tt.bagger = s.tt.bagger ∧ u.tt.tyer = s.tt.tyer ∧ u.tt.exit = s.tt.exit)

/-- MERGE_LEADING_EDGE and MERGE_TRAILING_EDGE. The model's choices: LOG 4, 7, 8, 40, 50. -/
def Obligations.MergeEdgesServeTheAccumHead : Prop :=
  ∀ (l : Lane) (s : State) (x : Edge), nextEdge (eyeOf (mergeEye l)) s = some x →
    let dropped := dropEdge (eyeOf (mergeEye l)) s.eu.edges
    (x.leading = true → takesEdges s = true →
      ∃ u, exec (.mergeLeadingEdge l) s = .next (settle u) ∧ u.eu = { s.eu with edges := dropped } ∧
        (∀ r d rest, s.tt.accum.get l = r :: rest → r.arrived = false → r.departure = some d → 0 ≤ dist d.pos x.stamp →
          u.tt = { s.tt with accum := s.tt.accum.upd l (fun _ => { r with arrived := true, departure := none } :: rest) } ∧
          candidate l u = some { r with arrived := true, departure := none }) ∧
        ((s.tt.accum.get l = [] ∨ ∃ r rest, s.tt.accum.get l = r :: rest ∧
            (r.arrived = true ∨ r.departure = none ∨ ∃ d, r.departure = some d ∧ dist d.pos x.stamp < 0)) →
          u.tt.accum = s.tt.accum ∧ standsWith .unexpectedLoaf (laneSubject l) none u = true ∧
          u.tt.watch.get (mergeEye l)
            = (if (candidate l s).isSome then s.tt.watch.get (mergeEye l) else some x.stamp)) ∧
        { u with tt := s.tt, eu := s.eu, lic := s.lic, ft := s.ft, tu := s.tu,
                 ml := { u.ml with reports := s.ml.reports } } = s) ∧
    (x.leading = false →
      ∃ u, exec (.mergeTrailingEdge l) s = .next (settle u) ∧ u.eu = { s.eu with edges := dropped } ∧
        u.tt.watch.get (mergeEye l) = none ∧ u.tt.stuck.get (mergeEye l) = false ∧
        (∀ r rest, takesEdges s = true → s.tt.accum.get l = r :: rest → r.arrived = false → r.departure = none →
          eyeBlocked (eyeOf (mergeEye l)) { s with eu := { s.eu with edges := dropped } } = false →
          u.tt.accum = s.tt.accum.upd l (fun _ => { r with
            departure := some { belt := accumBelt l, pos := position (accumBelt l) s } } :: rest)) ∧
        ((takesEdges s = false ∨ s.tt.accum.get l = [] ∨ ∃ r rest, s.tt.accum.get l = r :: rest ∧
            (r.arrived = true ∨ r.departure ≠ none)) → u.tt.accum = s.tt.accum) ∧
        u.tt.approach = s.tt.approach ∧ u.tt.blade = s.tt.blade ∧ u.tt.bagger = s.tt.bagger ∧ u.tt.tyer = s.tt.tyer ∧
        u.tt.exit = s.tt.exit)

/-- EXIT_LEADING_EDGE and EXIT_TRAILING_EDGE. The model's choices: LOG 4, 7, 40, 50. -/
def Obligations.ExitEdgesCountBagged : Prop :=
  ∀ (s : State) (x : Edge), nextEdge .ex s = some x →
    let dropped := dropEdge .ex s.eu.edges
    (x.leading = true → takesEdges s = true →
      ∃ u, exec .exitLeadingEdge s = .next (settle u) ∧ u.eu = { s.eu with edges := dropped } ∧
        u.tt.watch.get .ex = some x.stamp ∧
        (∀ r d rest, s.tt.exit = r :: rest → r.arrived = false → r.departure = some d →
          (s.params.exitPath : Int) - s.params.exitTol ≤ dist d.pos x.stamp →
          u.tt.exit = { r with arrived := true, departure := none } :: rest) ∧
        ((s.tt.exit = [] ∨ ∃ r rest, s.tt.exit = r :: rest ∧ (r.arrived = true ∨ ∃ d, r.departure = some d ∧
            dist d.pos x.stamp < (s.params.exitPath : Int) - s.params.exitTol)) →
          u.tt.exit = s.tt.exit ∧ standsWith .unexpectedLoaf .out none u = true) ∧
        { u with tt := s.tt, eu := s.eu, lic := s.lic, ft := s.ft, tu := s.tu,
                 ml := { u.ml with reports := s.ml.reports } } = s) ∧
    (x.leading = false →
      ∃ u, exec .exitTrailingEdge s = .next (settle u) ∧ u.eu = { s.eu with edges := dropped } ∧
        u.tt.watch.get .ex = none ∧ u.tt.stuck.get .ex = false ∧
        ((takesEdges s = false ∨ s.tt.exit = [] ∨ ∃ r rest, s.tt.exit = r :: rest ∧ r.arrived = false) →
          u.tt.exit = s.tt.exit ∧ u.tu.live.line.bagged = s.tu.live.line.bagged) ∧
        (∀ r rest, takesEdges s = true → s.tt.exit = r :: rest → r.arrived = true →
          u.tu.live.line.bagged = bump s.tu.live.line.bagged ∧
          (rest.length ≤ 2 → exitWindowDue u = false ∧ ∃ n, u.tt.exit = rest.drop n) ∧
          (exitWindowDue { s with tt := { s.tt with exit := rest } } = false → u.tt.exit = rest)) ∧
        u.tt.approach = s.tt.approach ∧ u.tt.blade = s.tt.blade ∧ u.tt.accum = s.tt.accum ∧ u.tt.bagger = s.tt.bagger ∧
        u.tt.tyer = s.tt.tyer)

/-- BLADE_WINDOW_RUN_OUT, MERGE_WINDOW_RUN_OUT, EXIT_WINDOW_RUN_OUT and STUCK_LIMIT_EXCEEDED. The model's choices: LOG 3
(before its limit a command changes nothing), 4, 8. -/
def Obligations.WindowsRunOutAndEyesStick : Prop :=
  ∀ s : State,
    (∀ l, bladeWindowDue l s = false → exec (.bladeWindowRunOut l) s = .next s) ∧
    (∀ l r d, s.tt.blade.get l = some r → r.arrived = false → r.departure = some d →
      ((s.params.slicerPath.get l + s.params.slicerTol.get l : Nat) : Int) < dist d.pos (position d.belt s) →
      ∃ u, exec (.bladeWindowRunOut l) s = .next (settle u) ∧ u.tt = { s.tt with blade := s.tt.blade.upd l (fun _ => none) } ∧
        standsWith .lostLoaf (laneSubject l) (some r.tag) u = true ∧
        (u.lic.get l).closure.bladeOccupied = false ∧
        u.tu.live.line.lost = (if r.admitted then bump s.tu.live.line.lost else s.tu.live.line.lost) ∧
        { u with tt := s.tt, sc := s.sc, lic := s.lic, ft := s.ft, tu := s.tu,
                 ml := { u.ml with reports := s.ml.reports } } = s) ∧
    (∀ l, mergeWindowDue l s = false → exec (.mergeWindowRunOut l) s = .next s) ∧
    (∀ l r d rest, s.tt.accum.get l = r :: rest → r.arrived = false → r.departure = some d →
      (s.params.accumLimit : Int) < dist d.pos (position d.belt s) →
      ∃ u, exec (.mergeWindowRunOut l) s = .next (settle u) ∧
        (u.tt.accum.get l).map LoafRecord.tag = rest.map LoafRecord.tag ∧
        u.tt.accum.get (otherLane l) = s.tt.accum.get (otherLane l) ∧
        (∀ q more, rest = q :: more → q.arrived = false → q.departure = none →
          eyeBlocked (eyeOf (mergeEye l)) s = false →
          (u.tt.accum.get l).head?
            = some { q with departure := some { belt := accumBelt l, pos := position (accumBelt l) s } }) ∧
        standsWith .lostLoaf (laneSubject l) (some r.tag) u = true ∧
        u.tu.live.line.lost = (if r.admitted then bump s.tu.live.line.lost else s.tu.live.line.lost) ∧
        u.tt.approach = s.tt.approach ∧ u.tt.blade = s.tt.blade ∧ u.tt.bagger = s.tt.bagger ∧ u.tt.exit = s.tt.exit) ∧
    (exitWindowDue s = false → exec .exitWindowRunOut s = .next s) ∧
    (∀ r d rest, s.tt.exit = r :: rest → rest.length ≤ 2 → r.arrived = false → r.departure = some d →
      ((s.params.exitPath + s.params.exitTol : Nat) : Int) < dist d.pos (position d.belt s) →
      ∃ u, exec .exitWindowRunOut s = .next (settle u) ∧ exitWindowDue u = false ∧ (∃ n, u.tt.exit = rest.drop n) ∧
        standing .lostLoaf .out u = true ∧
        (exitWindowDue { s with tt := { s.tt with exit := rest } } = false →
          u.tt.exit = rest ∧ standsWith .lostLoaf .out (some r.tag) u = true ∧
          u.tu.live.line.lost = (if r.admitted then bump s.tu.live.line.lost else s.tu.live.line.lost)) ∧
        u.tt.accum = s.tt.accum ∧ u.tt.blade = s.tt.blade ∧ u.tt.approach = s.tt.approach) ∧
    (∀ e, stuckDue e s = false → exec (.stuckLimitExceeded e) s = .next s) ∧
    (∀ e p, s.tt.watch.get e = some p → (stuckLimit e s : Int) < dist p (position (eyeBelt (eyeOf e)) s) →
      ∃ u, exec (.stuckLimitExceeded e) s = .next (settle u) ∧
        u.tt = { s.tt with watch := s.tt.watch.upd e (fun _ => none), stuck := s.tt.stuck.upd e (fun _ => true) } ∧
        standsWith .eyeStuck (eyeSubject e) none u = true ∧ u.ft.causes.get .eyeStuck (eyeSubject e) = true ∧
        { u with tt := s.tt, lic := s.lic, ft := s.ft, tu := s.tu, ml := { u.ml with reports := s.ml.reports } } = s)

/-! ## The lanes -/

/-- The verdict of an admission, by the lane's active slot after its pending selection has been applied. -/
def Obligations.VerdictComparesTheLength : Prop :=
  ∀ (l : Lane) (s : State) (r : LoafRecord) (rest : List LoafRecord) (slot : Nat), s.tt.approach.get l = r :: rest →
    admits l s = true → (s.lic.get l).pendingSel.or (s.lic.get l).active = some slot →
    let n := (recipeAt slot s).nominal
    let tol := (recipeAt slot s).tolerance
    tol < n → ∃ t q, exec (.headAtGate l) s = .next t ∧ (t.lic.get l).active = some slot ∧ t.tt.blade.get l = some q ∧
      q.tag = r.tag ∧
      (r.length < n - tol → q.verdict = some .short) ∧
      (n - tol ≤ r.length → r.length ≤ n + tol → q.verdict = some .ok) ∧
      (n + tol < r.length → q.verdict = some .long) ∧
      (r.length = 0 → q.verdict = some .short)

/-- HEAD_AT_GATE: the admission, step by step. What it leaves as it was is every other block, the other lane's controllers
and, of the blocks it works on, every field not named here but the report queue, which gains the keys of its raises. The
model's choices: LOG 3, LOG 9, LOG 45. -/
def Obligations.HeadAtGateAdmits : Prop :=
  ∀ (l : Lane) (s : State),
    (headAtGate l s = false → exec (.headAtGate l) s = .next s) ∧
    (∀ r rest slot, s.tt.approach.get l = r :: rest → admits l s = true → producing s = true →
      (s.lic.get l).pendingSel.or (s.lic.get l).active = some slot →
      let recipe := recipeAt slot s
      let verdict := verdictOf r.length recipe.nominal recipe.tolerance
      let estimate := min ((s.cc.get l).estimate + recipe.crumb) 65535
      let changes : Bool := (s.lic.get l).pendingSel.isSome
      ∃ t, exec (.headAtGate l) s = .next t ∧
        t.tt = { s.tt with
          approach := s.tt.approach.upd l (fun _ => rest)
          blade := s.tt.blade.upd l (fun _ => some { r with
            admitted := true, recipeSlot := some slot, verdict := some verdict
            condition := if verdict ≠ .ok ∧ recipe.reject = true then .reject else r.condition
            rejectReason := if verdict ≠ .ok ∧ recipe.reject = true then some .offSize else r.rejectReason
            departure := some { belt := infeedBelt l, pos := position (infeedBelt l) s }, arrived := false }) } ∧
        t.lic.get l = (t.lic.get l).withFlagsOf { s.lic.get l with
          active := some slot, pendingSel := none
          feedRef := if changes then recipe.feed else (s.lic.get l).feedRef
          appliedTag := if changes then r.tag else (s.lic.get l).appliedTag } ∧
        laneInStep l t ∧ t.lic.get (otherLane l) = s.lic.get (otherLane l) ∧
        (t.lic.get l).closure.bladeOccupied = true ∧
        ((s.lic.get l).pendingSel ≠ none → .recipeApplied l ∈ t.ml.reports) ∧
        t.tu = { s.tu with
          live := productCounted recipe.code
            (fun c => { c with
              admitted := bump c.admitted
              offSizePassed :=
                if verdict ≠ .ok ∧ recipe.reject = false then bump c.offSizePassed else c.offSizePassed })
            { s.tu.live with line := { s.tu.live.line with admitted := bump s.tu.live.line.admitted } } } ∧
        t.cc.get l = (if s.params.eClear ≤ estimate ∧ (s.cc.get l).cycle = .idle then
            { s.cc.get l with estimate := estimate, cycle := .requested, cause := some .estimate, backoff := none }
          else { s.cc.get l with estimate := estimate }) ∧
        t.cc.get (otherLane l) = s.cc.get (otherLane l) ∧
        t.dou = { s.dou with
          armed := s.dou.armed.upd l (fun _ => true), gate := s.dou.gate.upd l (fun _ => true)
          gateTimer := s.dou.gateTimer.upd l (fun _ => some 150)
          infeed := s.dou.infeed.upd l (fun _ => (s.lic.get l).blade == .ready) } ∧
        { t with tt := s.tt, lic := s.lic, cc := s.cc, dou := s.dou, tu := s.tu,
                 ml := { t.ml with reports := s.ml.reports } } = s)

/-- SPIN_UP_WAIT_END and GATE_STROKE_END. The model's choices: LOG 3, 4. -/
def Obligations.SpinUpAndGateStrokeEnd : Prop :=
  ∀ (l : Lane) (s : State),
    (((s.lic.get l).blade ≠ .spinning ∨ (s.lic.get l).spinWait = none) → exec (.spinUpWaitEnd l) s = .next s) ∧
    ((s.lic.get l).blade = .spinning → (s.lic.get l).spinWait ≠ none →
      let result := s.sc.result.get (tensionChannel l)
      ∃ u, exec (.spinUpWaitEnd l) s = .next (settle u) ∧ (u.lic.get l).spinWait = none ∧ .laneState l ∈ u.ml.reports ∧
        (s.params.tLow ≤ result → (u.lic.get l).blade = .ready ∧ (u.lic.get l).closure.bladeNotReady = false ∧
          spun l u = true ∧ u.dou = s.dou ∧ u.ft = s.ft) ∧
        (result < s.params.tLow → (u.lic.get l).blade = .off ∧ u.dou.blade.get l = false ∧
          standsWith .spinupFail (laneSubject l) (some result) u = true ∧ stopFault u = true) ∧
        { u with lic := s.lic, dou := s.dou, ft := s.ft, tu := s.tu, ml := { u.ml with reports := s.ml.reports } } = s) ∧
    (s.dou.gateTimer.get l = none → exec (.gateStrokeEnd l) s = .next s) ∧
    (s.dou.gateTimer.get l ≠ none → exec (.gateStrokeEnd l) s = .next (settle { s with dou := { s.dou with
      armed := s.dou.armed.upd l (fun _ => false), gateTimer := s.dou.gateTimer.upd l (fun _ => none),
      gate := s.dou.gate.upd l (fun _ => false) } }))

/-! ## Merge, bagging and tying -/

/-- PUSH_STROKE_TIMER_RUN_OUT, FLAP_SETTLE_END and EXTENDED_SWITCH_CLOSES. The model's choices: LOG 3, 4, 34. -/
def Obligations.PushStrokeRunsThroughItsPhases : Prop :=
  ∀ s : State,
    (s.mbc.strokeTimer = none → exec .pushStrokeTimerRunOut s = .next s) ∧
    (∀ l tag, s.mbc.strokeTimer ≠ none → s.mbc.selected = some (l, tag) → (s.mbc.phase = .extend ∨ s.mbc.phase = .retract) →
      ∃ u, exec .pushStrokeTimerRunOut s = .next (settle u) ∧
        u.mbc = { s.mbc with phase := .none, strokeTimer := none, stopped := true } ∧
        (u.dou.pusher.get l).extendOn = false ∧ (u.dou.pusher.get l).retractOn = false ∧
        u.dou.pusher.get (otherLane l) = s.dou.pusher.get (otherLane l) ∧
        standsWith .baggerJam .out (if allocatedTag tag s then some tag else none) u = true ∧ u.tt = s.tt) ∧
    (∀ l tag, s.mbc.strokeTimer ≠ none → s.mbc.selected = some (l, tag) → s.mbc.phase = .homing →
      ∃ u, exec .pushStrokeTimerRunOut s = .next (settle u) ∧
        u.mbc = { s.mbc with phase := .none, strokeTimer := none, bagger := .idle, route := none, selected := none } ∧
        (u.dou.pusher.get l).retractOn = false ∧ standsWith .baggerJam .out none u = true ∧ u.tt = s.tt) ∧
    (s.mbc.flapTimer = none → exec .flapSettleEnd s = .next s) ∧
    (∀ l tag, s.mbc.flapTimer ≠ none → s.mbc.selected = some (l, tag) → s.lsc.line ≠ .stop →
      ∃ u, exec .flapSettleEnd s = .next (settle u) ∧
        u.mbc = { s.mbc with bagger := .pushing, phase := .extend, strokeTimer := some s.params.strokeTimeout,
                             flapTimer := none } ∧
        ((u.dou.pusher.get l).extendOn = true ∨ (u.dou.pusher.get l).waiting = some .extend) ∧
        { u with mbc := s.mbc, dou := s.dou } = s) ∧
    (∀ l, (s.mbc.phase ≠ .extend ∨ s.mbc.lane ≠ some l) → exec (.extendedSwitchCloses l) s = .next s) ∧
    (∀ l, s.mbc.phase = .extend → s.mbc.lane = some l → s.lsc.line ≠ .stop →
      ∃ t, exec (.extendedSwitchCloses l) s = .next t ∧ (t.dou.pusher.get l).extendOn = false ∧
        ((t.mbc = { s.mbc with phase := .dwell, strokeTimer := none } ∧ (t.dou.pusher.get l).retractOn = false ∧
            (t.dou.pusher.get l).waiting = some .retract) ∨
          (t.mbc = { s.mbc with phase := .retract, strokeTimer := some s.params.strokeTimeout } ∧
            (t.dou.pusher.get l).retractOn = true)) ∧
        (0 < s.params.deadTime → (s.dou.pusher.get l).extendOn = true → (s.dou.pusher.get l).retractOn = false →
          t.mbc.phase = .dwell ∧ (t.dou.pusher.get l).dead = some s.params.deadTime) ∧
        { t with mbc := s.mbc, dou := s.dou } = s)

/-- PUSHER_HOME_SWITCH_CHANGE and DEAD_TIME_END. The model's choices: LOG 3, 4, 24. -/
def Obligations.HomeSwitchEndsTheStroke : Prop :=
  ∀ (l : Lane) (s : State),
    (∀ closed, ∃ u, exec (.pusherHomeSwitchChange l closed) s = .next (settle u) ∧
      u.pins = { s.pins with home := s.pins.home.upd l (fun _ => closed) } ∧
      u.ft.causes.baggerJam = (!u.pins.home.a || !u.pins.home.b) ∧
      ((closed = false ∨ s.mbc.lane ≠ some l ∨ (s.mbc.phase ≠ .homing ∧ s.mbc.phase ≠ .retract)) →
        u.mbc = s.mbc ∧ u.dou = s.dou ∧ u.tt = s.tt) ∧
      (closed = true → s.mbc.lane = some l → s.mbc.phase = .homing → (u.dou.pusher.get l).retractOn = false ∧ u.tt = s.tt ∧
        (s.mbc.route = some .reject → (s.lsc.line ≠ .stop → u.dou.flap = true) ∧
          u.mbc = { s.mbc with phase := .flapSettle, strokeTimer := none, flapTimer := some 100 }) ∧
        (s.mbc.route = some .bag → s.mbc.bagCount = 0 → standsWith .bagsOut .out none u = true ∧
          u.mbc = { s.mbc with phase := .none, strokeTimer := none, bagger := .select }) ∧
        (s.mbc.route = some .bag → 0 < s.mbc.bagCount → u.mbc.phase = .none ∧ u.mbc.strokeTimer = none ∧
          (u.mbc.bagger = .airWait ∨ (u.mbc.bagger = .opening ∧ u.mbc.bagCount = s.mbc.bagCount - 1)))) ∧
      (closed = true → s.mbc.lane = some l → s.mbc.phase = .retract → s.mbc.route = some .bag →
        (u.dou.pusher.get l).retractOn = false ∧ u.mbc.phase = .none ∧ u.mbc.strokeTimer = none ∧ u.tt = s.tt ∧
        u.mbc.bagger = (if s.mbc.confirmed && (selectedInBagger s).isSome then .handoff
          else if s.mbc.confirmWatch.isSome then .confirm else .idle)) ∧
      (∀ r, closed = true → s.mbc.phase = .retract → s.mbc.route = some .reject → selectedHead s = some (l, r) →
        (u.dou.pusher.get l).retractOn = false ∧ u.mbc.phase = .none ∧ u.mbc.bagger = .idle ∧ u.mbc.route = none ∧
        u.mbc.selected = none ∧ u.dou.flap = false ∧
        (u.tt.accum.get l).map LoafRecord.tag = (s.tt.accum.get l).tail.map LoafRecord.tag ∧
        u.tu.live.line.rejected = bump s.tu.live.line.rejected)) ∧
    ((s.dou.pusher.get l).dead = none → exec (.deadTimeEnd l) s = .next s) ∧
    ((s.dou.pusher.get l).dead ≠ none → ∃ t, exec (.deadTimeEnd l) s = .next t ∧
      (t.dou.pusher.get l).dead = none ∧ (t.dou.pusher.get l).waiting = none ∧
      (t.dou.pusher.get l).extendOn = ((s.dou.pusher.get l).extendOn || (s.dou.pusher.get l).waiting == some .extend) ∧
      (t.dou.pusher.get l).retractOn = ((s.dou.pusher.get l).retractOn || (s.dou.pusher.get l).waiting == some .retract) ∧
      t.mbc = (if (s.dou.pusher.get l).waiting = some .retract ∧ s.mbc.phase = .dwell ∧ s.mbc.lane = some l then
        { s.mbc with phase := .retract, strokeTimer := some s.params.strokeTimeout } else s.mbc) ∧
      { t with mbc := s.mbc, dou := s.dou } = s)

/-- OPENING_END, BAG_CONFIRM, BAG_CONFIRM_WATCH_RUN_OUT and BAG_BLAST_END, with the request of a bagger that waited for the
blast's end; and the handoff with the start of the tyer's cycle, at the first moment of a step. The model's choices: LOG 3,
4, 7. -/
def Obligations.BagCycleRunsItsTimers : Prop :=
  ∀ s : State,
    (s.mbc.openTimer = none → exec .openingEnd s = .next s) ∧
    (∀ l r, s.mbc.openTimer ≠ none → selectedHead s = some (l, r) → s.lsc.line ≠ .stop →
      ∃ u, exec .openingEnd s = .next (settle u) ∧
        u.tt.bagger = some { r with arrived := false, departure := none } ∧
        (u.tt.accum.get l).map LoafRecord.tag = (s.tt.accum.get l).tail.map LoafRecord.tag ∧
        u.mbc = { s.mbc with bagger := .pushing, phase := .extend, strokeTimer := some s.params.strokeTimeout,
                             openTimer := none, confirmWatch := some 600, confirmed := false } ∧
        ((u.dou.pusher.get l).extendOn = true ∨ (u.dou.pusher.get l).waiting = some .extend) ∧
        u.tt.approach = s.tt.approach ∧ u.tt.blade = s.tt.blade ∧ u.tt.tyer = s.tt.tyer ∧ u.tt.exit = s.tt.exit) ∧
    (∀ x, nextEdge .bg s = some x → x.leading = true →
      let v : State := { s with eu := { s.eu with edges := dropEdge .bg s.eu.edges } }
      (s.mbc.confirmWatch = none → exec .bagConfirm s = .next (settle v)) ∧
      (s.mbc.confirmWatch ≠ none → ∃ u, exec .bagConfirm s = .next (settle u) ∧
        u.mbc = { s.mbc with confirmed := true, confirmWatch := none,
                             bagger := if s.mbc.bagger = .confirm then .handoff else s.mbc.bagger } ∧
        (s.params.mask.bagMiss = true → standing .bagMiss .out u = false) ∧
        { u with mbc := s.mbc, lic := s.lic, ft := s.ft, tu := s.tu, ml := { u.ml with reports := s.ml.reports } } = v)) ∧
    (s.mbc.confirmWatch = none → exec .bagConfirmWatchRunOut s = .next s) ∧
    (∀ r, s.mbc.confirmWatch ≠ none → selectedInBagger s = some r →
      ∃ u, exec .bagConfirmWatchRunOut s = .next (settle u) ∧ u.tt = { s.tt with bagger := none } ∧
        u.tu.live.line.lost = bump s.tu.live.line.lost ∧ standsWith .bagMiss .out (some r.tag) u = true ∧
        u.mbc.confirmWatch = none ∧ u.mbc.bagger = (if s.mbc.bagger = .confirm then .idle else s.mbc.bagger) ∧
        { u with tt := s.tt, mbc := s.mbc, lic := s.lic, ft := s.ft, tu := s.tu,
                 ml := { u.ml with reports := s.ml.reports } } = s) ∧
    (s.mbc.blast = none → exec .bagBlastEnd s = .next s) ∧
    (s.mbc.blast ≠ none → s.mbc.bagger ≠ .airWait → s.ama.waiting.bag = none →
      ¬(s.ama.holder.air0 = some .bag ∧ s.ama.holder.air1 = some .bag) →
      ∃ u, exec .bagBlastEnd s = .next (settle u) ∧ u.mbc = { s.mbc with blast := none } ∧ u.dou.bagBlast = false ∧
        u.ama.held .bag = none ∧ u.tt = s.tt) ∧
    (∀ c, s.mbc.blast ≠ none → s.mbc.bagger = .airWait → s.ama.waiting.bag = none →
      ¬(s.ama.holder.air0 = some .bag ∧ s.ama.holder.air1 = some .bag) →
      (s.params.steering.get .bag).channel = some c →
      let free : Prop := s.ama.pressureLow = false ∧ (s.ama.holder.get c = none ∨ s.ama.holder.get c = some .bag) ∧
        ∀ r, s.ama.waiting.get r ≠ some c
      let taken : Prop := s.ama.pressureLow = true ∨ ∃ r, r ≠ .bag ∧ s.ama.holder.get c = some r
      ∃ u, exec .bagBlastEnd s = .next (settle u) ∧ u.tt = s.tt ∧
        (free → 0 < s.mbc.bagCount → u.mbc.bagger = .opening ∧ u.mbc.bagCount = s.mbc.bagCount - 1 ∧
          u.mbc.openTimer = some 100 ∧ u.mbc.blast ≠ none ∧ u.ama.holder.get c = some .bag ∧ u.ama.waiting.bag = none ∧
          u.tu.live.line.bagsUsed = bump s.tu.live.line.bagsUsed ∧ (s.lsc.line ≠ .stop → u.dou.bagBlast = true)) ∧
        (free → s.mbc.bagCount = 0 → u.mbc = { s.mbc with bagger := .select, blast := none } ∧ u.ama.holder.get c = none ∧
          u.ama.waiting.bag = none ∧ u.dou.bagBlast = false ∧ standsWith .bagsOut .out none u = true) ∧
        (taken → u.mbc = { s.mbc with blast := none } ∧ u.ama.waiting.bag = some c ∧ u.ama.held .bag = none ∧
          u.dou.bagBlast = false)) ∧
    (∀ r, s.mbc.bagger = .handoff → s.tt.bagger = some r → s.tt.tyer = none → s.lsc.line ≠ .hold →
      (flow s).tt.tyer = some r ∧ (flow s).tt.bagger = none ∧ (flow s).mbc.bagger ≠ .handoff ∧
      (s.tsc.tyer = .idle →
        let purges : Prop := s.params.purgeInterval ≠ 0 ∧ s.params.purgeInterval ≤ s.tsc.tiesSincePurge
        (purges → (flow s).tsc.tyer = .purgeWait ∧ ∀ c, (s.params.steering.get .purge).channel = some c →
          ((flow s).ama.waiting.purge = some c ∨ ((flow s).ama.holder.get c = some .purge ∧ (flow s).tsc.purge = some 200 ∧
            (s.lsc.line ≠ .stop → (flow s).dou.purge = true)))) ∧
        (¬purges → 0 < s.tsc.clipCount → (flow s).tsc = { s.tsc with
            tyer := .twist, phaseTimer := some 200, tieTimer := some s.params.tieTimeout, leftHome := false } ∧
          (s.lsc.line ≠ .stop → (flow s).dou.tyer = true)) ∧
        (¬purges → s.tsc.clipCount = 0 → (flow s).tsc = { s.tsc with tyer := .twist, phaseTimer := none, tieTimer := none } ∧
          standing .clipsOut .out (flow s) = true))) ∧
    (s.mbc.bagger = .handoff → (s.tt.tyer ≠ none ∨ s.lsc.line = .hold) →
      (flow s).tt.tyer = s.tt.tyer ∧ (flow s).tt.bagger = s.tt.bagger ∧ (flow s).mbc.bagger = .handoff ∧
      (flow s).tsc = s.tsc)

/-- PURGE_END, TWIST_END, CLIP_END, TYER_HOME_SWITCH_CHANGE and TIE_TIMER_RUN_OUT. A tie into a full EXIT first loses its
head. The model's choices: LOG 3, 4, 26, 39. -/
def Obligations.TyerCycleRunsItsTimers : Prop :=
  ∀ s : State,
    let tied : LoafRecord → LoafRecord := fun r => { r with
      clipCode := s.tsc.code, arrived := false
      departure := some { belt := .outfeed, pos := position .outfeed s } }
    let joined := fun (r : LoafRecord) (u : State) =>
      (s.tt.exit.length ≤ 2 → u.tt = { s.tt with tyer := none, exit := s.tt.exit ++ [tied r] }) ∧
      (∀ q rest, s.tt.exit = q :: rest → rest.length = 2 →
        (∃ n, u.tt = { s.tt with tyer := none, exit := rest.drop n ++ [tied r] }) ∧ standing .lostLoaf .out u = true ∧
        (exitWindowDue { s with tt := { s.tt with exit := rest } } = false →
          u.tt = { s.tt with tyer := none, exit := rest ++ [tied r] } ∧
          standsWith .lostLoaf .out (some q.tag) u = true ∧
          u.tu.live.line.lost = (if q.admitted then bump s.tu.live.line.lost else s.tu.live.line.lost))) ∧
      u.tu.live.line.ties = bump s.tu.live.line.ties
    (s.tsc.purge = none → exec .purgeEnd s = .next s) ∧
    (s.tsc.purge ≠ none → s.ama.waiting.purge = none → s.lsc.line ≠ .stop →
      ¬(s.ama.holder.air0 = some .purge ∧ s.ama.holder.air1 = some .purge) →
      ∃ u, exec .purgeEnd s = .next (settle u) ∧ u.tsc.purge = none ∧ u.tsc.tiesSincePurge = 0 ∧ u.tsc.tyer = .twist ∧
        u.dou.purge = false ∧ u.ama.held .purge = none ∧
        (0 < s.tsc.clipCount → u.tsc.phaseTimer = some 200 ∧ u.tsc.tieTimer = some s.params.tieTimeout ∧ u.dou.tyer = true) ∧
        (s.tsc.clipCount = 0 → standing .clipsOut .out u = true) ∧ u.tt = s.tt) ∧
    ((s.tsc.tyer ≠ .twist ∨ s.tsc.phaseTimer = none) → exec .twistEnd s = .next s) ∧
    (∀ r, s.tsc.tyer = .twist → s.tsc.phaseTimer ≠ none → s.tt.tyer = some r →
      let code := clipCode s.cal.day (recipeAt (r.recipeSlot.getD 0) s).shelf r.lane s.tu.live.shift
      ∃ u, exec .twistEnd s = .next (settle u) ∧
        u.tsc = { s.tsc with tyer := .clip, phaseTimer := some 100, code := some code,
                             clipCount := s.tsc.clipCount - 1, clipLow := u.tsc.clipLow } ∧
        u.tu.live.line.clipsUsed = bump s.tu.live.line.clipsUsed ∧
        (s.lsc.line ≠ .stop → u.dou = { s.dou with printer := some code }) ∧ u.tt = s.tt) ∧
    ((s.tsc.tyer ≠ .clip ∨ s.tsc.phaseTimer = none) → exec .clipEnd s = .next s) ∧
    (s.tsc.tyer = .clip → s.tsc.phaseTimer ≠ none → (s.pins.tyerHome = false ∨ s.tsc.leftHome = false) →
      exec .clipEnd s = .next (settle { s with tsc := { s.tsc with tyer := .homeWait, phaseTimer := none },
                                               dou := { s.dou with tyer := false, printer := none } })) ∧
    (∀ r, s.tsc.tyer = .clip → s.tsc.phaseTimer ≠ none → s.pins.tyerHome = true → s.tsc.leftHome = true →
      s.tt.tyer = some r → s.tt.exit.length ≤ 3 →
      ∃ u, exec .clipEnd s = .next (settle u) ∧ u.dou = { s.dou with tyer := false, printer := none } ∧ joined r u ∧
        u.tsc = { s.tsc with tyer := .idle, phaseTimer := none, tieTimer := none, code := none, leftHome := false,
                             tiesSincePurge := min (s.tsc.tiesSincePurge + 1) 65535 }) ∧
    exec (.tyerHomeSwitchChange false) s = .next (settle { s with
      pins := { s.pins with tyerHome := false }, tsc := { s.tsc with leftHome := true } }) ∧
    ((s.tsc.tyer ≠ .homeWait ∨ s.tsc.leftHome = false) → exec (.tyerHomeSwitchChange true) s
      = .next (settle { s with pins := { s.pins with tyerHome := true } })) ∧
    (∀ r, s.tsc.tyer = .homeWait → s.tsc.leftHome = true → s.tt.tyer = some r → s.tt.exit.length ≤ 3 →
      ∃ u, exec (.tyerHomeSwitchChange true) s = .next (settle u) ∧ u.pins.tyerHome = true ∧ joined r u ∧
        u.tsc = { s.tsc with tyer := .idle, tieTimer := none, code := none, leftHome := false,
                             tiesSincePurge := min (s.tsc.tiesSincePurge + 1) 65535 }) ∧
    (s.tsc.tieTimer = none → exec .tieTimerRunOut s = .next s) ∧
    (∀ r, s.tsc.tieTimer ≠ none → s.tt.tyer = some r →
      ∃ u, exec .tieTimerRunOut s = .next (settle u) ∧ u.tt = { s.tt with tyer := some { r with jammed := true } } ∧
        u.tsc = { s.tsc with tyer := .idle, phaseTimer := none, tieTimer := none, code := none } ∧
        u.dou = { s.dou with tyer := false, printer := none } ∧
        standsWith .tyerJam .out (some r.tag) u = true ∧ u.ft.causes.tyerJam = true)

/-! ## Crumb clearing -/

/-- CRUMB_CLEAR, the gap of a requested cycle with its route to the air or to the shaker alone, and the ends of a clear
cycle's states. The model's choices: LOG 3, 4, 5, 54. -/
def Obligations.CrumbCycleRunsItsStates : Prop :=
  ∀ (l : Lane) (s : State),
    (∀ tok lane, serves s = true → laneOf lane = some l →
      ((s.lsc.line = .spinUp ∨ s.lsc.line = .stop) →
        exec (.crumbClear tok lane) s = .next (queueReply 0x28 tok ⟨4, []⟩ s)) ∧
      (s.lsc.line ≠ .spinUp → s.lsc.line ≠ .stop → (s.cc.get l).cycle.needsGap = true →
        exec (.crumbClear tok lane) s = .next (queueReply 0x28 tok ⟨10, u8 (s.cc.get l).cycle.code ++ u16 (s.cc.get l).estimate ++ u16 (s.cc.get l).lastLevel⟩ s)) ∧
      (s.lsc.line ≠ .spinUp → s.lsc.line ≠ .stop → (s.cc.get l).cycle.needsGap = false →
        ∃ u, exec (.crumbClear tok lane) s = .next (flow (queueReply 0x28 tok ⟨0, [1] ++ u16 (s.cc.get l).estimate ++ u16 (s.cc.get l).lastLevel⟩ u)) ∧
          u.cc = s.cc.upd l (fun c => { c with cycle := .requested, cause := some .host, backoff := none }) ∧
          (u.lic.get l).closure.crumbGap = true ∧
          { u with cc := s.cc, lic := s.lic, ml := { u.ml with reports := s.ml.reports } } = s)) ∧
    (∀ tok lane : Byte, serves s = true → 1 < lane.toNat →
      exec (.crumbClear tok lane) s = .next (queueReply 0x28 tok ⟨3, []⟩ s)) ∧
    (let made := makeGap l s
     let meets : Prop := (s.cc.get l).cycle = .requested ∧ s.tt.blade.get l = none ∧ s.lsc.line ≠ .hold
     (¬meets → made = s) ∧
     (meets → s.params.steering.get (knife l) = .none → Blows l true s made ∧ made.ama = s.ama) ∧
     (∀ c, meets → (s.params.steering.get (knife l)).channel = some c →
       (s.ama.pressureLow = false → s.ama.holder.get c = none → Granted (knife l) c s made) ∧
       ((s.ama.pressureLow = true ∨ s.ama.holder.get c ≠ none) → made = { s with
         cc := s.cc.upd l (fun q => { q with cycle := .airWait, shakerOnly := false, airWait := some s.params.airWaitMs })
         ama := { s.ama with waiting := s.ama.waiting.upd (knife l) (fun _ => some c) } })) ∧
     (((flow s).cc.get l).cycle = .requested → (flow s).tt.blade.get l ≠ none ∨ (flow s).lsc.line = .hold)) ∧
    (((s.cc.get l).cycle ≠ .airWait ∨ (s.cc.get l).airWait = none) → exec (.airWaitTimerRunOut l) s = .next s) ∧
    ((s.cc.get l).cycle = .airWait → (s.cc.get l).airWait ≠ none →
      ∃ u, exec (.airWaitTimerRunOut l) s = .next (settle u) ∧
        u.cc.get l = { s.cc.get l with cycle := .backoff, airWait := none, backoff := some (s.params.backoffS * 1000) } ∧
        u.ama.waiting.get (knife l) = none ∧ (u.lic.get l).closure.crumbGap = false ∧
        standsWith .airTimeout (laneSubject l) (some (s.sc.result.get .airp)) u = true) ∧
    (((s.cc.get l).cycle ≠ .blowing ∨ (s.cc.get l).phaseTimer = none) → exec (.blowingEnd l) s = .next s) ∧
    ((s.cc.get l).cycle = .blowing → (s.cc.get l).phaseTimer ≠ none → s.ama.waiting.get (knife l) = none →
      ¬(s.ama.holder.air0 = some (knife l) ∧ s.ama.holder.air1 = some (knife l)) →
      ∃ u, exec (.blowingEnd l) s = .next (settle u) ∧
        u.cc.get l = { s.cc.get l with cycle := .settle, phaseTimer := some 500 } ∧
        u.dou.knife.get l = false ∧ u.dou.shaker.get l = false ∧ u.ama.held (knife l) = none) ∧
    (((s.cc.get l).cycle ≠ .settle ∨ (s.cc.get l).phaseTimer = none) → exec (.settleEnd l) s = .next s) ∧
    ((s.cc.get l).cycle = .settle → (s.cc.get l).phaseTimer ≠ none →
      ∃ u, exec (.settleEnd l) s = .next (settle u) ∧
        u.cc = s.cc.upd l (fun c => { c with
          cycle := .idle, cause := none, shakerOnly := false, phaseTimer := none, estimate := 0, levelSince := false
          lastClear := c.cause.map (fun k => (k, c.shakerOnly)) }) ∧
        u.tu.live.line.crumbClears = s.tu.live.line.crumbClears.upd l bump ∧
        (u.lic.get l).closure.crumbGap = false ∧ .crumbCleared l ∈ u.ml.reports ∧
        standing .airTimeout (laneSubject l) u = false ∧
        { u with cc := s.cc, lic := s.lic, ft := s.ft, tu := s.tu, ml := { u.ml with reports := s.ml.reports } } = s) ∧
    (((s.cc.get l).cycle ≠ .backoff ∨ (s.cc.get l).backoff = none) → exec (.backoffEnd l) s = .next s) ∧
    ((s.cc.get l).cycle = .backoff → (s.cc.get l).backoff ≠ none →
      let tests := s.lsc.line = .standby ∨ s.lsc.line = .run ∨ s.lsc.line = .drain ∨ s.lsc.line = .hold
      let high := s.params.eClear ≤ (s.cc.get l).estimate
      let level := (s.cc.get l).levelSince = true ∧ s.params.lClear ≤ (s.cc.get l).lastLevel
      ∃ u, exec (.backoffEnd l) s = .next (settle u) ∧
        u.cc = s.cc.upd l (fun c => { c with
          backoff := none
          cycle := if tests ∧ (high ∨ level) then .requested else .idle
          cause := if tests ∧ high then some .estimate else if tests ∧ level then some .level else none }) ∧
        { u with cc := s.cc, lic := s.lic, ml := { u.ml with reports := s.ml.reports } } = s)

/-! ## Safety, time and the store -/

/-- SAFETY_SAMPLE. The model's choices: LOG 4, 11, 24, 47. -/
def Obligations.SafetySampleSetsTheLatch : Prop :=
  ∀ (estopOpen guardOpen : Bool) (s : State),
    ∃ u, exec (.safetySample estopOpen guardOpen) s = .next (settle u) ∧
      (estopOpen = true → u.dou.estop = { isOpen := true, closedFor := none }) ∧
      (guardOpen = true → u.dou.guardIn = { isOpen := true, closedFor := none }) ∧
      (estopOpen = false → u.dou.estop.isOpen
        = (s.dou.estop.isOpen && !s.dou.estop.closedFor.any (fun n => decide (39 ≤ n)))) ∧
      (guardOpen = false → u.dou.guardIn.isOpen
        = (s.dou.guardIn.isOpen && !s.dou.guardIn.closedFor.any (fun n => decide (39 ≤ n)))) ∧
      latch u = (u.dou.estop.isOpen || u.dou.guardIn.isOpen) ∧
      (s.dou.estop.isOpen = false → estopOpen = true →
        standsWith .estop .line none u = true ∧ u.ft.causes.estop = true ∧ stopFault u = true) ∧
      (s.dou.guardIn.isOpen = false → guardOpen = true →
        standsWith .guardOpen .line none u = true ∧ u.ft.causes.guardOpen = true ∧ stopFault u = true) ∧
      (s.dou.estop.isOpen = true → u.dou.estop.isOpen = false → u.ft.causes.estop = false) ∧
      (s.dou.guardIn.isOpen = true → u.dou.guardIn.isOpen = false → u.ft.causes.guardOpen = false) ∧
      ((u.dou.estop.isOpen ≠ s.dou.estop.isOpen ∨ u.dou.guardIn.isOpen ≠ s.dou.guardIn.isOpen) →
        .lineState ∈ u.ml.reports) ∧
      (∀ l, latch s = false → latch u = true →
        ((s.dou.pusher.get l).extendOn = true ∨ (s.dou.pusher.get l).retractOn = true) →
        (u.dou.pusher.get l).dead = some s.params.deadTime) ∧
      { u with lic := s.lic, dou := s.dou, ft := s.ft, tu := s.tu, ml := { u.ml with reports := s.ml.reports } } = s ∧
      { u.dou with estop := s.dou.estop, guardIn := s.dou.guardIn, pusher := s.dou.pusher } = s.dou

/-- CALENDAR_TICK and LINE_TIME_SECOND. The model's choice: LOG 3. -/
def Obligations.ClocksCountSeconds : Prop :=
  ∀ s : State,
    (s.cal.second ≤ 86399 → s.cal.day ≤ 65535 → exec .calendarTick s = .next { s with cal := { s.cal with
      phase := 0
      second := if s.cal.second = 86399 then 0 else s.cal.second + 1
      day := if s.cal.second = 86399 then (if s.cal.day = 65535 then 0 else s.cal.day + 1) else s.cal.day } }) ∧
    ((s.lsc.line = .run ∨ s.lsc.line = .drain ∨ 1000 ≤ s.lsc.runMs) → exec (.lineTimeSecond .run) s = .next { s with
      lsc := { s.lsc with runMs := s.lsc.runMs - 1000 }
      tu := { s.tu with live := { s.tu.live with line := { s.tu.live.line with
        runSeconds := bump s.tu.live.line.runSeconds } } } }) ∧
    ((s.lsc.line = .hold ∨ 1000 ≤ s.lsc.holdMs) → exec (.lineTimeSecond .hold) s = .next { s with
      lsc := { s.lsc with holdMs := s.lsc.holdMs - 1000 }
      tu := { s.tu with live := { s.tu.live with line := { s.tu.live.line with
        holdSeconds := bump s.tu.live.line.holdSeconds } } } }) ∧
    ((s.lsc.line = .stop ∨ 1000 ≤ s.lsc.stopMs) → exec (.lineTimeSecond .stop) s = .next { s with
      lsc := { s.lsc with stopMs := s.lsc.stopMs - 1000 }
      tu := { s.tu with live := { s.tu.live with line := { s.tu.live.line with
        stopSeconds := bump s.tu.live.line.stopSeconds } } } }) ∧
    (s.lsc.line ≠ .run → s.lsc.line ≠ .drain → s.lsc.runMs < 1000 → exec (.lineTimeSecond .run) s = .next s) ∧
    (s.lsc.line ≠ .hold → s.lsc.holdMs < 1000 → exec (.lineTimeSecond .hold) s = .next s) ∧
    (s.lsc.line ≠ .stop → s.lsc.stopMs < 1000 → exec (.lineTimeSecond .stop) s = .next s)

/-- PAGE_PROGRAM_COMPLETE. The model's choices: LOG 3 (an idle writer), 14, 15, 27, 28, 49. -/
def Obligations.PageProgramsWriteTheirPages : Prop :=
  ∀ s : State,
    (∀ v, s.rs.writer = none → exec (.pageProgramComplete v) s = .next s) ∧
    (∀ w, s.rs.writer = some w → arraySafe s = true → w.area < s.rs.headers.length →
      let pages := contentPages w.area
      let page := areaPage w.area + w.programs
      let outside := fun (t : State) => ∀ a, (a < page * 64 ∨ page * 64 + 64 ≤ a) →
        Memory.read t.rs.cells a = Memory.read s.rs.cells a
      let others := fun (t : State) => ∀ k, k ≠ w.area → t.rs.header k = s.rs.header k
      (w.programs = 0 → ∃ t, exec (.pageProgramComplete true) s = .next t ∧
        t.rs.header w.area = { marker := .writing, number := w.job.number, length := w.job.content.length, check := 0 } ∧
        t.rs.writer = some { w with programs := 1 } ∧ t.rs.cells = s.rs.cells ∧ others t ∧
        (w.job.kind = .shiftRecord → t.rs.index = s.rs.index.set w.area { state := .writing, number := w.job.number }) ∧
        { t with rs := s.rs } = s) ∧
      (1 ≤ w.programs → w.programs ≤ pages → ∃ t, exec (.pageProgramComplete true) s = .next t ∧
        (∀ i, i < 64 → Memory.read t.rs.cells (page * 64 + i) = w.job.content.getD (64 * (w.programs - 1) + i) 0xFF) ∧
        outside t ∧ t.rs.headers = s.rs.headers ∧ t.rs.writer = some { w with programs := w.programs + 1 } ∧
        { t with rs := { t.rs with cells := s.rs.cells, writer := s.rs.writer } } = s) ∧
      (pages < w.programs → ∃ t, exec (.pageProgramComplete true) s = .next t ∧
        t.rs.header w.area = { marker := .valid, number := w.job.number, length := w.job.content.length,
                               check := checkValue w.job.number w.job.content } ∧
        t.rs.cells = s.rs.cells ∧ others t ∧
        (w.job.kind = .shiftRecord → t.rs.index = s.rs.index.set w.area { state := .valid, number := w.job.number } ∧
          t.tu.closeBuffer = none ∧ .shiftStored ∈ t.ml.reports) ∧
        (w.job.kind = .checkpoint → t.rs.ckpt = (.valid, w.job.number) ∧ .storeDone .checkpoint ∈ t.ml.reports) ∧
        (w.job.kind = .recipes → t.rs.lastRecipes = some true ∧ .storeDone .recipes ∈ t.ml.reports) ∧
        (s.rs.queue = ⟨none, none, none⟩ → t.rs.writer = none) ∧ t.ft = s.ft) ∧
      (∃ t, exec (.pageProgramComplete false) s = .next t ∧ outside t ∧ others t ∧
        (w.programs = 0 ∨ pages < w.programs → (t.rs.header w.area).marker = .unrecognised ∧ t.rs.cells = s.rs.cells) ∧
        (1 ≤ w.programs → w.programs ≤ pages → t.rs.headers = s.rs.headers) ∧
        (w.job.kind = .shiftRecord → w.area < s.rs.index.length → t.tu.closeBuffer = none ∧
          t.rs.index[w.area]? = some { state := .torn, number :=
            if 1 ≤ w.programs ∧ w.programs ≤ pages then w.job.number else none }) ∧
        standsWith .nvWriteFail .line (some w.job.kind.code) t = true))

/-- START_UP_SCAN_COMPLETE: the log index, the recipes, the live totals of a new shift or of the accepted checkpoint with the
start-up tally in them, what the checkpoint restores, and the entry to STANDBY. Up to four faults of the end of INIT may be
presented after the tally has been taken up. The model's choices: LOG 3 (no effect out of INIT),
4, 12, 49. -/
def Obligations.StartUpScanEntersStandby : Prop :=
  ∀ s : State,
    (s.lsc.line ≠ .init → exec .startUpScanComplete s = .next s) ∧
    (s.lsc.line = .init →
      let index := (List.range 24).map (fun k => s.rs.classify k)
      let stored := s.rs.classify 24
      let accepted := acceptsCheckpoint index stored
      ∃ u before, exec .startUpScanComplete s = .next (settle u) ∧ u.lsc.line = .standby ∧ u.lsc.previous = some .init ∧
        u.rs.index = index ∧ u.rs.ckpt = (stored.state.area, stored.number) ∧
        u.rt = (if (s.rs.classify 25).state = .valid then readRecipes (s.rs.content 25) 16
          else List.replicate 16 Recipe.empty) ∧
        u.rs.cells = s.rs.cells ∧ u.rs.headers = s.rs.headers ∧
        (accepted = false → before = 0 ∧
          u.tu.live = {
            shift := match latest index with
              | some (_, n, _) => if n = 65535 then 1 else n + 1
              | none => 1
            openTime := none, carriedIn := 0, products := [], other := none
            line := { LineBlock.zero with faultsTaken := u.tu.live.line.faultsTaken } } ∧
          u.mbc.bagCount = s.mbc.bagCount ∧ u.tsc.clipCount = s.tsc.clipCount ∧
          (∀ l, (u.cc.get l).estimate = (s.cc.get l).estimate ∧ (u.lic.get l).active = (s.lic.get l).active)) ∧
        (accepted = true →
          u.tu.live.shift = stored.number.getD 0 ∧
          ∀ q : State, checkpointFits q = true → s.rs.content 24 = checkpointContent q →
            before = q.tu.live.line.faultsTaken ∧
            u.tu.live = { q.tu.live with
              shift := stored.number.getD 0
              line := { q.tu.live.line with faultsTaken := u.tu.live.line.faultsTaken } } ∧
            u.mbc.bagCount = q.mbc.bagCount ∧ u.tsc.clipCount = q.tsc.clipCount ∧
            (∀ l, (u.cc.get l).estimate = (q.cc.get l).estimate) ∧
            (∀ l n, (q.lic.get l).active = some n → (recipeAt n u).code ≠ 0 →
              (u.lic.get l).active = some n ∧ (u.lic.get l).feedRef = (recipeAt n u).feed) ∧
            (∀ l, (∀ n, (q.lic.get l).active = some n → (recipeAt n u).code = 0) →
              (u.lic.get l).active = (s.lic.get l).active)) ∧
        min (before + s.tu.tally) 4294967295 ≤ u.tu.live.line.faultsTaken ∧
        u.tu.live.line.faultsTaken ≤ min (before + s.tu.tally) 4294967295 + 4 ∧
        ((u.mbc.bagLow = s.mbc.bagLow ∧ u.tsc.clipLow = s.tsc.clipLow ∧ ∀ l, (s.cc.get l).levelSince = false) →
          u.tu.live.line.faultsTaken = min (before + s.tu.tally) 4294967295) ∧
        u.tu.tally = 0 ∧ u.tu.totalsSet = true ∧ u.tu.closeBuffer = s.tu.closeBuffer ∧
        u.mbc.bagLow = decide (u.mbc.bagCount ≤ s.params.lowMark.bags) ∧
        u.tsc.clipLow = decide (u.tsc.clipCount ≤ s.params.lowMark.clips) ∧
        (∀ l, (s.cc.get l).levelSince = true → s.params.lOver ≤ (s.cc.get l).lastLevel →
          standsWith .crumbOverfull (laneSubject l) (some (s.cc.get l).lastLevel) u = true) ∧
        .startup ∈ u.ml.reports ∧ .lineState ∈ u.ml.reports)

/-! ## Rules of the shared operations -/

/-- A stop fault takes the line to STOP; the entry to STOP turns every drive output off, marks the records, abandons the
cycles and empties the hold; and a level is on only as the command, the stop drop and the latch let it. The order of the
blocks is the model's choice: LOG 18. -/
def Obligations.StopDropsEveryDriveOutput : Prop :=
  (∀ (o : Output) (s : State),
    level o s = (command o s && !(o.isDrive && s.lsc.line == .stop)
      && !(o.latched && (s.dou.estop.isOpen || s.dou.guardIn.isOpen))) ∧
    (enterStop s).lsc.line = .stop ∧ command o (enterStop s) = false ∧
    (enterStop s).mbc.bagger = .idle ∧ (enterStop s).tsc.tyer = .idle ∧
    (∀ l, (enterStop s).dou.armed.get l = false ∧ ((enterStop s).dou.pusher.get l).waiting = none ∧
      ((enterStop s).lic.get l).blade = .off) ∧
    (knivesSafe s = true → ∀ l, ((enterStop s).cc.get l).cycle = .idle)) ∧
  (∀ s : State,
    let marked : LoafRecord → LoafRecord := fun r => { r with condition := if r.condition = .sound then .uncertain else r.condition }
    let discards : LoafRecord → LoafRecord := fun r => { r with stopDiscard := true }
    (enterStop s).lsc = { s.lsc with line := .stop, previous := some s.lsc.line, returnState := none, holdHost := false } ∧
    (enterStop s).tt = { s.tt with
      blade := ⟨s.tt.blade.a.map marked, s.tt.blade.b.map marked⟩
      accum := ⟨s.tt.accum.a.map marked, s.tt.accum.b.map marked⟩
      bagger := s.tt.bagger.map discards, tyer := s.tt.tyer.map discards } ∧
    .lineState ∈ (enterStop s).ml.reports ∧
    ((s.lsc.line = .spinUp ∨ s.lsc.line = .run ∨ s.lsc.line = .hold ∨ s.lsc.line = .drain) → stopFault s = true →
      (settle s).lsc.line = .stop ∧ (settle s).lsc.previous = some s.lsc.line) ∧
    (stopFault s = false → s.lsc.line ≠ .stop → (settle s).lsc.line ≠ .stop))

/-- A raise: a new entry in service by its priority, counted as a fault taken when it is presented, or a refresh of the
standing one. A new entry applies its hold before the change is told; nothing else of the lanes moves. -/
def Obligations.RaiseCreatesOrRefreshesAnEntry : Prop :=
  ∀ (k : FaultKind) (subj : Subject) (detail : Option Nat) (s : State),
    let t := raiseFault k subj detail s
    let e : FaultEntry := { kind := k, subject := subj, day := s.cal.day, second := s.cal.second, clockValid := s.cal.valid,
                            seq := s.ft.raiseCounter, detail := detail }
    e ∈ t.ft.entries ∧ t.ft.raiseCounter = s.ft.raiseCounter + 1 ∧ t.ft.changeNumber = s.ft.changeNumber + 1 ∧
    .faultChange ∈ t.ml.reports ∧ (∀ j q, standing j q t = (standing j q s || (j == k && q == subj))) ∧
    (k.raiseSetsCause = true → t.ft.causes = s.ft.causes.set k subj true) ∧
    (k.raiseSetsCause = false → t.ft.causes = s.ft.causes) ∧
    (standing k subj s = false →
      (s.ft.stack = [] → t.ft.stack = [e] ∧ t.ft.waiting = s.ft.waiting ∧ t.tu = s.tu.faultCounted) ∧
      (∀ p rest, s.ft.stack = p :: rest → k.priority < p.priority →
        t.ft.stack = e :: p :: rest ∧ t.ft.waiting = s.ft.waiting ∧ t.tu = s.tu.faultCounted) ∧
      (∀ p rest, s.ft.stack = p :: rest → p.priority ≤ k.priority →
        t.ft.stack = s.ft.stack ∧ t.ft.waiting = s.ft.waiting ++ [e] ∧ t.tu = s.tu) ∧
      (∀ l, t.lic.get l = { s.lic.get l with closure := { (s.lic.get l).closure with
        faultHold := t.ft.entries.any (fun f => actionOf f.kind f.subject == .laneHold l) } }) ∧
      t.ml.reports = (([Lane.a, .b].filter
          (fun l => (s.lic.get l).closure.faultHold != (t.lic.get l).closure.faultHold)).map ReportKey.laneState
        ++ [ReportKey.faultChange]).foldl (fun q key => if key ∈ q then q else q ++ [key]) s.ml.reports) ∧
    (standing k subj s = true →
      t.ft.stack.map FaultEntry.kind = s.ft.stack.map FaultEntry.kind ∧
      t.ft.waiting.map FaultEntry.kind = s.ft.waiting.map FaultEntry.kind ∧ t.tu = s.tu ∧ t.lic = s.lic) ∧
    { t with ft := s.ft, tu := s.tu, lic := s.lic, ml := { t.ml with reports := s.ml.reports } } = s

/-- The arbiter's choice of a lane. -/
def Obligations.SelectionAlternatesTheLanes : Prop :=
  ∀ s : State, maySelect s = true →
    (∀ l r, candidate l s = some r →
      (candidate (otherLane l) s = none ∨ s.mbc.lastServed = some (otherLane l) ∨ (s.mbc.lastServed = none ∧ l = .a)) →
      let t := selectIfReady s
      t.mbc.lastServed = some l ∧ t.mbc.selected = some (l, r.tag) ∧
      t.mbc.route = some (if r.condition = .sound then .bag else .reject)) ∧
    (candidate .a s = none → candidate .b s = none → selectIfReady s = s)

/-- The arbiter: the order of grants at a release and what each grant does, none while the pressure is low; a request of a
free channel is granted, another waits; a withdrawal leaves the waiting set, that of a holder releases its channel; a change
of steering moves a waiter or, to NONE, starts its clear with the shaker alone. -/
def Obligations.ReleaseGrantsInOrder : Prop :=
  (∀ (c : AirChannel) (s : State),
    let t := releaseChannel c s
    let waits := fun r => s.ama.waiting.get r = some c
    (s.ama.pressureLow = true → t = { s with ama := { s.ama with holder := s.ama.holder.upd c (fun _ => none) } }) ∧
    (s.ama.pressureLow = true → ∀ r, airRequest r s
      = (match (s.params.steering.get r).channel with
        | none => s
        | some d => { s with ama := { s.ama with waiting := s.ama.waiting.upd r (fun _ => some d) } })) ∧
    (s.ama.pressureLow = false →
      (waits .bag → 0 < s.mbc.bagCount → t.ama.holder.get c = some .bag ∧ t.ama.waiting.bag = none ∧ Granted .bag c s t) ∧
      (waits .bag → s.mbc.bagCount = 0 → t.ama.waiting.bag = none ∧ t.ama.holder.get c ≠ some .bag ∧
        t.mbc = { s.mbc with bagger := .select } ∧ standsWith .bagsOut .out none t = true ∧
        (waits .purge → t.ama.holder.get c = some .purge)) ∧
      (¬waits .bag → waits .purge →
        t.ama.holder.get c = some .purge ∧ t.ama.waiting.purge = none ∧ Granted .purge c s t) ∧
      (¬waits .bag → ¬waits .purge → waits .kna → (¬waits .knb ∨ s.ama.lastKnife ≠ some .kna) →
        t.ama.holder.get c = some .kna ∧ t.ama.lastKnife = some .kna ∧ Granted .kna c s t) ∧
      (¬waits .bag → ¬waits .purge → waits .knb → (¬waits .kna ∨ s.ama.lastKnife = some .kna) →
        t.ama.holder.get c = some .knb ∧ t.ama.lastKnife = some .knb ∧ Granted .knb c s t) ∧
      ((∀ r, ¬waits r) → t = { s with ama := { s.ama with holder := s.ama.holder.upd c (fun _ => none) } }))) ∧
  (∀ (r : Requester) (c : AirChannel) (s : State), (s.params.steering.get r).channel = some c →
    (s.ama.pressureLow = false → s.ama.holder.get c = none → (r = .bag → 0 < s.mbc.bagCount) →
      Granted r c s (airRequest r s)) ∧
    ((s.ama.pressureLow = true ∨ s.ama.holder.get c ≠ none) →
      airRequest r s = { s with ama := { s.ama with waiting := s.ama.waiting.upd r (fun _ => some c) } })) ∧
  (∀ (r : Requester) (s : State), s.ama.held r = none →
    airWithdraw r s = { s with ama := { s.ama with waiting := s.ama.waiting.upd r (fun _ => none) } }) ∧
  (∀ (r : Requester) (c : AirChannel) (s : State), s.ama.held r = some c →
    airWithdraw r s
      = releaseChannel c { s with ama := { s.ama with waiting := s.ama.waiting.upd r (fun _ => none) } }) ∧
  (∀ (r : Requester) (e : Steer) (s : State),
    let v : State := { s with params := { s.params with steering := s.params.steering.upd r (fun _ => e) } }
    (s.ama.waiting.get r = none → steer r e s = v) ∧
    (∀ c, s.ama.waiting.get r = some c → e.channel = some c → steer r e s = v) ∧
    (∀ c d, s.ama.waiting.get r = some c → e.channel = some d → c ≠ d →
      (s.ama.pressureLow = false → s.ama.holder.get d = none → (r = .bag → 0 < s.mbc.bagCount) →
        Granted r d v (steer r e s)) ∧
      ((s.ama.pressureLow = true ∨ s.ama.holder.get d ≠ none) →
        steer r e s = { v with ama := { s.ama with waiting := s.ama.waiting.upd r (fun _ => some d) } })) ∧
    (∀ l, r = knife l → s.ama.waiting.get r ≠ none → e = .none →
      Blows l true v (steer r e s) ∧
      (steer r e s).ama = { s.ama with waiting := s.ama.waiting.upd r (fun _ => none) }))

/-! ## Frames -/

/-- The commands of timers, samples and edges change nothing outside the line's own blocks; only page programs and resets
write the array. -/
def Obligations.CommandsKeepTheOtherBlocks : Prop :=
  (∀ (c : Instr) (s : State), isLineEvent c = true → ∃ t, exec c s = .next t ∧ t.outer = s.outer) ∧
  (∀ (c : Instr) (s : State), isEdge c = true → ∃ t, exec c s = .next t ∧
    { t.outer with eu := s.eu } = s.outer ∧ t.eu.channels = s.eu.channels) ∧
  (∀ (l : Lane) (closed : Bool) (s : State), ∃ t, exec (.pusherHomeSwitchChange l closed) s = .next t ∧
    { t.outer with pins := s.pins } = s.outer) ∧
  (∀ (closed : Bool) (s : State), ∃ t, exec (.tyerHomeSwitchChange closed) s = .next t ∧
    { t.outer with pins := s.pins } = s.outer) ∧
  (∀ (c : Instr) (s t : State), mayWriteArray c = false → exec c s = .next t →
    t.rs.cells = s.rs.cells ∧ t.rs.headers = s.rs.headers ∧ t.pending = s.pending)
end

