-- ==== Sys2Proof/Laws/Air.lean ====
section
/-! SUPPORT. What the operations of the Air Manifold Arbiter do: the places of a requester, the start of BLOWING, a request
that waits and the grant of a knife. -/

namespace Sys2Proof.Machine

/-- The start of BLOWING (R112). -/
theorem enterBlowing_blows (l : Lane) (shakerOnly : Bool) (s : State) : Blows l shakerOnly s (enterBlowing l shakerOnly s) := by
  cases l <;> cases shakerOnly <;> cases h : s.lsc.line <;>
    simp [Blows, enterBlowing, setShaker, setKnife, driveOn, stopDrop, when, State.onCrumb, State.onCc, State.onDou, PerLane.upd, h]

/-- The arbiter's own part of a grant (R117, R120). -/
theorem becomeHolder_eq (r : Requester) (c : AirChannel) (s : State) :
    becomeHolder r c s = { s with ama := { s.ama with
      holder := s.ama.holder.upd c (fun _ => some r)
      waiting := s.ama.waiting.upd r (fun _ => none)
      lastKnife := if r = .kna ∨ r = .knb then some r else s.ama.lastKnife } } := by
  cases r <;> rfl

/-- A request that finds its channel not to be granted waits on it (R119). -/
theorem airRequest_waits (r : Requester) (c : AirChannel) (s : State) (hc : (s.params.steering.get r).channel = some c)
    (hg : s.ama.grantable c = false) : airRequest r s = setWaiting r (some c) s := by
  simp [airRequest, steering, hc, hg]

/-- A request that finds its channel free is granted (R119). -/
theorem airRequest_granted (r : Requester) (c : AirChannel) (s : State) (hc : (s.params.steering.get r).channel = some c)
    (hg : s.ama.grantable c = true) : airRequest r s = grantTo r c s := by
  simp [airRequest, steering, hc, hg]

/-- What a knife's grant does (R112, R120). -/
theorem grantTo_knife (l : Lane) (c : AirChannel) (s : State) :
    grantTo (knife l) c s = enterBlowing l false (becomeHolder (knife l) c s) := by
  cases l <;> rfl

/-- A withdrawal of a requester that holds no channel (R121). -/
theorem airWithdraw_waiting (r : Requester) (s : State) (h : s.ama.held r = none) : airWithdraw r s = setWaiting r none s := by
  have : (setWaiting r none s).ama.held r = none := h
  simp [airWithdraw, airRelease, this]

/-- A withdrawal of a holder releases its channel (R121). -/
theorem airWithdraw_holder (r : Requester) (c : AirChannel) (s : State) (h : s.ama.held r = some c) :
    airWithdraw r s = releaseChannel c (setWaiting r none s) := by
  have : (setWaiting r none s).ama.held r = some c := h
  simp [airWithdraw, airRelease, this]

end Sys2Proof.Machine
end

