-- ==== Sys2Proof/Laws/Faults.lean ====
section
/-! SUPPORT. The Fault Table's order (R143, R146, R149): what a raise, a refresh and a removal do to it. -/

namespace Sys2Proof.Machine

set_option Elab.async false

/-- The pair of an entry. -/
def FaultEntry.pair (e : FaultEntry) : FaultKind × Subject := (e.kind, e.subject)

/-- The order of R146 for a stack and a list of pending entries. -/
structure Served (stack waiting : List FaultEntry) : Prop where
  once : ((stack ++ waiting).map FaultEntry.pair).Nodup
  ascending : stack.Pairwise (fun e f => e.priority < f.priority)
  headed : ∀ e ∈ waiting, ∃ p, stack.head? = some p ∧ p.priority ≤ e.priority

theorem faultsSafe_iff (s : State) : faultsSafe s = true ↔ Served s.ft.stack s.ft.waiting := by
  constructor
  · intro h
    simp only [faultsSafe, FaultTable.pairsOnce, FaultTable.inOrder, FaultTable.entries, Bool.and_eq_true,
      decide_eq_true_eq, List.all_eq_true, Option.any_eq_true] at h
    exact ⟨of_decide_eq_true h.1, h.2.1, fun e he => by obtain ⟨p, hp, hle⟩ := h.2.2 e he; exact ⟨p, hp, hle⟩⟩
  · intro h
    simp only [faultsSafe, FaultTable.pairsOnce, FaultTable.inOrder, FaultTable.entries, Bool.and_eq_true,
      decide_eq_true_eq, List.all_eq_true, Option.any_eq_true]
    exact ⟨decide_eq_true h.once, h.ascending, fun e he => h.headed e he⟩

theorem FaultEntry.isPair_iff (k : FaultKind) (j : Subject) (e : FaultEntry) :
    FaultEntry.isPair k j e = true ↔ e.pair = (k, j) := by
  simp [FaultEntry.isPair, FaultEntry.pair]

/-- The best pending entry is pending, and none is more urgent. -/
theorem bestPending_spec {l : List FaultEntry} {e : FaultEntry} (h : bestPending l = some e) :
    e ∈ l ∧ ∀ f ∈ l, e.priority ≤ f.priority := by
  induction l generalizing e with
  | nil => simp [bestPending] at h
  | cons x l ih =>
    rw [bestPending] at h
    cases hb : bestPending l with
    | none =>
      have hl : l = [] := by
        cases l with
        | nil => rfl
        | cons y l =>
          rw [bestPending] at hb
          cases hc : bestPending l <;> simp only [hc] at hb
          · simp at hb
          · split at hb <;> simp at hb
      simp only [hb, Option.some.injEq] at h
      subst hl; subst h; simp
    | some g =>
      obtain ⟨hg, hmin⟩ := ih hb
      simp only [hb] at h
      split at h <;> rename_i hcmp <;> simp only [Option.some.injEq] at h <;> subst h
      · refine ⟨List.mem_cons_of_mem _ hg, fun f hf => ?_⟩
        rcases List.mem_cons.1 hf with rfl | hf
        · simp only [FaultEntry.before, Bool.or_eq_true, decide_eq_true_eq, Bool.and_eq_true, beq_iff_eq] at hcmp
          omega
        · exact hmin f hf
      · refine ⟨List.mem_cons_self, fun f hf => ?_⟩
        rcases List.mem_cons.1 hf with rfl | hf
        · exact Nat.le_refl _
        · simp only [FaultEntry.before, Bool.or_eq_true, decide_eq_true_eq, Bool.and_eq_true, beq_iff_eq, not_or] at hcmp
          have := hmin f hf
          omega

theorem bestPending_none {l : List FaultEntry} (h : bestPending l = none) : l = [] := by
  cases l with
  | nil => rfl
  | cons y l =>
    rw [bestPending] at h
    cases hc : bestPending l <;> simp only [hc] at h
    · simp at h
    · split at h <;> simp at h

/-- A list of entries with pairs once, without those of one pair. -/
theorem served_filter {stack waiting : List FaultEntry} (h : Served stack waiting) (p : FaultEntry → Bool) :
    (((stack.filter p) ++ (waiting.filter p)).map FaultEntry.pair).Nodup
      ∧ (stack.filter p).Pairwise (fun e f => e.priority < f.priority) := by
  constructor
  · rw [← List.filter_append]
    exact h.once.sublist (List.filter_sublist.map _)
  · exact h.ascending.sublist List.filter_sublist

/-- A new pair into an empty table is presented alone (R146). -/
theorem served_alone {waiting : List FaultEntry} (h : Served [] waiting) (e : FaultEntry) : Served [e] waiting := by
  have hw : waiting = [] := by
    cases waiting with
    | nil => rfl
    | cons x l => obtain ⟨p, hp, _⟩ := h.headed x List.mem_cons_self; simp at hp
  subst hw
  exact ⟨by simp, by simp, by simp⟩

/-- A new pair of higher priority goes on top (R146). -/
theorem served_top {p : FaultEntry} {rest waiting : List FaultEntry} (h : Served (p :: rest) waiting) (e : FaultEntry)
    (new : e.pair ∉ ((p :: rest) ++ waiting).map FaultEntry.pair) (lt : e.priority < p.priority) :
    Served (e :: p :: rest) waiting := by
  refine ⟨?_, ?_, ?_⟩
  · rw [List.cons_append, List.map_cons, List.nodup_cons]; exact ⟨new, h.once⟩
  · rw [List.pairwise_cons]
    refine ⟨fun f hf => ?_, h.ascending⟩
    rcases List.mem_cons.1 hf with rfl | hf
    · exact lt
    · exact Nat.lt_trans lt ((List.pairwise_cons.1 h.ascending).1 f hf)
  · intro f hf
    obtain ⟨q, hq, hle⟩ := h.headed f hf
    simp only [List.head?_cons, Option.some.injEq] at hq ⊢
    exact ⟨e, rfl, by rw [← hq] at hle; omega⟩

/-- Any other new pair waits (R146). -/
theorem served_pending {p : FaultEntry} {rest waiting : List FaultEntry} (h : Served (p :: rest) waiting) (e : FaultEntry)
    (new : e.pair ∉ ((p :: rest) ++ waiting).map FaultEntry.pair) (ge : ¬e.priority < p.priority) :
    Served (p :: rest) (waiting ++ [e]) := by
  refine ⟨?_, h.ascending, ?_⟩
  · rw [← List.append_assoc, List.map_append, List.nodup_append]
    refine ⟨h.once, by simp, ?_⟩
    intro a ha b hb hab
    simp only [List.map_cons, List.map_nil, List.mem_singleton] at hb
    subst hb; subst hab; exact new ha
  · intro f hf
    simp only [List.head?_cons, Option.some.injEq, exists_eq_left']
    rcases List.mem_append.1 hf with hf | hf
    · obtain ⟨q, hq, hq'⟩ := h.headed f hf
      simp only [List.head?_cons, Option.some.injEq] at hq
      rw [hq]; exact hq'
    · simp only [List.mem_singleton] at hf; subst hf; omega

/-- A refresh leaves every entry's pair, place and priority (R145). -/
theorem refreshList_pair (e : FaultEntry) (l : List FaultEntry) :
    (refreshList e l).map FaultEntry.pair = l.map FaultEntry.pair := by
  induction l with
  | nil => rfl
  | cons x l ih =>
    have hx : (if FaultEntry.isPair e.kind e.subject x = true then e else x).pair = x.pair := by
      split
      · rename_i hp; exact ((FaultEntry.isPair_iff _ _ _).1 hp).symm
      · rfl
    simp only [refreshList, List.map_cons, hx, List.cons.injEq, true_and]
    exact ih

theorem priority_of_pair {e f : FaultEntry} (h : e.pair = f.pair) : e.priority = f.priority := by
  simp only [FaultEntry.pair, Prod.mk.injEq] at h
  simp [FaultEntry.priority, h.1]

theorem served_refresh {stack waiting : List FaultEntry} (h : Served stack waiting) (e : FaultEntry) :
    Served (refreshList e stack) (refreshList e waiting) := by
  have prio : ∀ x : FaultEntry, (if FaultEntry.isPair e.kind e.subject x = true then e else x).priority = x.priority := by
    intro x
    split
    · rename_i hp; exact priority_of_pair ((FaultEntry.isPair_iff _ _ _).1 hp).symm
    · rfl
  refine ⟨?_, ?_, ?_⟩
  · rw [List.map_append, refreshList_pair, refreshList_pair, ← List.map_append]; exact h.once
  · unfold refreshList
    rw [List.pairwise_map]
    exact h.ascending.imp (fun {a b} hab => by rw [prio, prio]; exact hab)
  · intro f hf
    unfold refreshList at hf ⊢
    obtain ⟨x, hx, rfl⟩ := List.mem_map.1 hf
    obtain ⟨p, hp, hle⟩ := h.headed x hx
    refine ⟨_, by rw [List.head?_map, hp]; rfl, ?_⟩
    rw [prio, prio]; exact hle

/-- The next entry is presented in order once the top has gone (R149). -/
theorem served_present {stack waiting : List FaultEntry}
    (once : ((stack ++ waiting).map FaultEntry.pair).Nodup)
    (ascending : stack.Pairwise (fun e f => e.priority < f.priority)) {e : FaultEntry}
    (best : bestPending waiting = some e) (above : ∀ p, stack.head? = some p → e.priority < p.priority) :
    Served (e :: stack) (waiting.filter (fun f => !f.isPair e.kind e.subject)) := by
  obtain ⟨he, hmin⟩ := bestPending_spec best
  refine ⟨?_, ?_, ?_⟩
  · rw [List.cons_append, List.map_cons, List.nodup_cons]
    constructor
    · intro hmem
      obtain ⟨x, hx, hxe⟩ := List.mem_map.1 hmem
      rcases List.mem_append.1 hx with hx | hx
      · rw [List.map_append, List.nodup_append] at once
        exact once.2.2 x.pair (List.mem_map_of_mem hx) e.pair (List.mem_map_of_mem he) hxe
      · have := (List.mem_filter.1 hx).2
        rw [show FaultEntry.isPair e.kind e.subject x = true from (FaultEntry.isPair_iff _ _ _).2 hxe] at this
        simp at this
    · exact once.sublist ((List.Sublist.append (List.Sublist.refl _) List.filter_sublist).map _)
  · rw [List.pairwise_cons]
    refine ⟨fun f hf => ?_, ascending⟩
    cases stack with
    | nil => simp at hf
    | cons p rest =>
      have hp := above p rfl
      rcases List.mem_cons.1 hf with rfl | hf
      · exact hp
      · exact Nat.lt_trans hp ((List.pairwise_cons.1 ascending).1 f hf)
  · intro f hf
    exact ⟨e, rfl, hmin f (List.mem_filter.1 hf).1⟩

end Sys2Proof.Machine
end

