-- ==== Sys2Proof/Laws/State.lean ====
section
/-! SUPPORT. The state updates: for each update of one block, each block after it, true by rfl; and the places of the
indexed structures after an update of one place. -/

namespace Sys2Proof.Machine

set_option Elab.async false

variable (s : State)

/-! ### onPins -/

section
variable (f : Pins → Pins)
@[simp] theorem onPins_pending : (s.onPins f).pending = s.pending := rfl
@[simp] theorem onPins_freeCount : (s.onPins f).freeCount = s.freeCount := rfl
@[simp] theorem onPins_pins : (s.onPins f).pins = f s.pins := rfl
@[simp] theorem onPins_params : (s.onPins f).params = s.params := rfl
@[simp] theorem onPins_tt : (s.onPins f).tt = s.tt := rfl
@[simp] theorem onPins_eu : (s.onPins f).eu = s.eu := rfl
@[simp] theorem onPins_beu : (s.onPins f).beu = s.beu := rfl
@[simp] theorem onPins_sc : (s.onPins f).sc = s.sc := rfl
@[simp] theorem onPins_rt : (s.onPins f).rt = s.rt := rfl
@[simp] theorem onPins_lic : (s.onPins f).lic = s.lic := rfl
@[simp] theorem onPins_mbc : (s.onPins f).mbc = s.mbc := rfl
@[simp] theorem onPins_tsc : (s.onPins f).tsc = s.tsc := rfl
@[simp] theorem onPins_cc : (s.onPins f).cc = s.cc := rfl
@[simp] theorem onPins_ama : (s.onPins f).ama = s.ama := rfl
@[simp] theorem onPins_lsc : (s.onPins f).lsc = s.lsc := rfl
@[simp] theorem onPins_dou : (s.onPins f).dou = s.dou := rfl
@[simp] theorem onPins_ft : (s.onPins f).ft = s.ft := rfl
@[simp] theorem onPins_tu : (s.onPins f).tu = s.tu := rfl
@[simp] theorem onPins_rs : (s.onPins f).rs = s.rs := rfl
@[simp] theorem onPins_cal : (s.onPins f).cal = s.cal := rfl
@[simp] theorem onPins_ml : (s.onPins f).ml = s.ml := rfl
end

/-! ### onParams -/

section
variable (f : Params → Params)
@[simp] theorem onParams_pending : (s.onParams f).pending = s.pending := rfl
@[simp] theorem onParams_freeCount : (s.onParams f).freeCount = s.freeCount := rfl
@[simp] theorem onParams_pins : (s.onParams f).pins = s.pins := rfl
@[simp] theorem onParams_params : (s.onParams f).params = f s.params := rfl
@[simp] theorem onParams_tt : (s.onParams f).tt = s.tt := rfl
@[simp] theorem onParams_eu : (s.onParams f).eu = s.eu := rfl
@[simp] theorem onParams_beu : (s.onParams f).beu = s.beu := rfl
@[simp] theorem onParams_sc : (s.onParams f).sc = s.sc := rfl
@[simp] theorem onParams_rt : (s.onParams f).rt = s.rt := rfl
@[simp] theorem onParams_lic : (s.onParams f).lic = s.lic := rfl
@[simp] theorem onParams_mbc : (s.onParams f).mbc = s.mbc := rfl
@[simp] theorem onParams_tsc : (s.onParams f).tsc = s.tsc := rfl
@[simp] theorem onParams_cc : (s.onParams f).cc = s.cc := rfl
@[simp] theorem onParams_ama : (s.onParams f).ama = s.ama := rfl
@[simp] theorem onParams_lsc : (s.onParams f).lsc = s.lsc := rfl
@[simp] theorem onParams_dou : (s.onParams f).dou = s.dou := rfl
@[simp] theorem onParams_ft : (s.onParams f).ft = s.ft := rfl
@[simp] theorem onParams_tu : (s.onParams f).tu = s.tu := rfl
@[simp] theorem onParams_rs : (s.onParams f).rs = s.rs := rfl
@[simp] theorem onParams_cal : (s.onParams f).cal = s.cal := rfl
@[simp] theorem onParams_ml : (s.onParams f).ml = s.ml := rfl
end

/-! ### onTt -/

section
variable (f : Tracking → Tracking)
@[simp] theorem onTt_pending : (s.onTt f).pending = s.pending := rfl
@[simp] theorem onTt_freeCount : (s.onTt f).freeCount = s.freeCount := rfl
@[simp] theorem onTt_pins : (s.onTt f).pins = s.pins := rfl
@[simp] theorem onTt_params : (s.onTt f).params = s.params := rfl
@[simp] theorem onTt_tt : (s.onTt f).tt = f s.tt := rfl
@[simp] theorem onTt_eu : (s.onTt f).eu = s.eu := rfl
@[simp] theorem onTt_beu : (s.onTt f).beu = s.beu := rfl
@[simp] theorem onTt_sc : (s.onTt f).sc = s.sc := rfl
@[simp] theorem onTt_rt : (s.onTt f).rt = s.rt := rfl
@[simp] theorem onTt_lic : (s.onTt f).lic = s.lic := rfl
@[simp] theorem onTt_mbc : (s.onTt f).mbc = s.mbc := rfl
@[simp] theorem onTt_tsc : (s.onTt f).tsc = s.tsc := rfl
@[simp] theorem onTt_cc : (s.onTt f).cc = s.cc := rfl
@[simp] theorem onTt_ama : (s.onTt f).ama = s.ama := rfl
@[simp] theorem onTt_lsc : (s.onTt f).lsc = s.lsc := rfl
@[simp] theorem onTt_dou : (s.onTt f).dou = s.dou := rfl
@[simp] theorem onTt_ft : (s.onTt f).ft = s.ft := rfl
@[simp] theorem onTt_tu : (s.onTt f).tu = s.tu := rfl
@[simp] theorem onTt_rs : (s.onTt f).rs = s.rs := rfl
@[simp] theorem onTt_cal : (s.onTt f).cal = s.cal := rfl
@[simp] theorem onTt_ml : (s.onTt f).ml = s.ml := rfl
end

/-! ### onEu -/

section
variable (f : EyeUnit → EyeUnit)
@[simp] theorem onEu_pending : (s.onEu f).pending = s.pending := rfl
@[simp] theorem onEu_freeCount : (s.onEu f).freeCount = s.freeCount := rfl
@[simp] theorem onEu_pins : (s.onEu f).pins = s.pins := rfl
@[simp] theorem onEu_params : (s.onEu f).params = s.params := rfl
@[simp] theorem onEu_tt : (s.onEu f).tt = s.tt := rfl
@[simp] theorem onEu_eu : (s.onEu f).eu = f s.eu := rfl
@[simp] theorem onEu_beu : (s.onEu f).beu = s.beu := rfl
@[simp] theorem onEu_sc : (s.onEu f).sc = s.sc := rfl
@[simp] theorem onEu_rt : (s.onEu f).rt = s.rt := rfl
@[simp] theorem onEu_lic : (s.onEu f).lic = s.lic := rfl
@[simp] theorem onEu_mbc : (s.onEu f).mbc = s.mbc := rfl
@[simp] theorem onEu_tsc : (s.onEu f).tsc = s.tsc := rfl
@[simp] theorem onEu_cc : (s.onEu f).cc = s.cc := rfl
@[simp] theorem onEu_ama : (s.onEu f).ama = s.ama := rfl
@[simp] theorem onEu_lsc : (s.onEu f).lsc = s.lsc := rfl
@[simp] theorem onEu_dou : (s.onEu f).dou = s.dou := rfl
@[simp] theorem onEu_ft : (s.onEu f).ft = s.ft := rfl
@[simp] theorem onEu_tu : (s.onEu f).tu = s.tu := rfl
@[simp] theorem onEu_rs : (s.onEu f).rs = s.rs := rfl
@[simp] theorem onEu_cal : (s.onEu f).cal = s.cal := rfl
@[simp] theorem onEu_ml : (s.onEu f).ml = s.ml := rfl
end

/-! ### onBeu -/

section
variable (f : BeltUnit → BeltUnit)
@[simp] theorem onBeu_pending : (s.onBeu f).pending = s.pending := rfl
@[simp] theorem onBeu_freeCount : (s.onBeu f).freeCount = s.freeCount := rfl
@[simp] theorem onBeu_pins : (s.onBeu f).pins = s.pins := rfl
@[simp] theorem onBeu_params : (s.onBeu f).params = s.params := rfl
@[simp] theorem onBeu_tt : (s.onBeu f).tt = s.tt := rfl
@[simp] theorem onBeu_eu : (s.onBeu f).eu = s.eu := rfl
@[simp] theorem onBeu_beu : (s.onBeu f).beu = f s.beu := rfl
@[simp] theorem onBeu_sc : (s.onBeu f).sc = s.sc := rfl
@[simp] theorem onBeu_rt : (s.onBeu f).rt = s.rt := rfl
@[simp] theorem onBeu_lic : (s.onBeu f).lic = s.lic := rfl
@[simp] theorem onBeu_mbc : (s.onBeu f).mbc = s.mbc := rfl
@[simp] theorem onBeu_tsc : (s.onBeu f).tsc = s.tsc := rfl
@[simp] theorem onBeu_cc : (s.onBeu f).cc = s.cc := rfl
@[simp] theorem onBeu_ama : (s.onBeu f).ama = s.ama := rfl
@[simp] theorem onBeu_lsc : (s.onBeu f).lsc = s.lsc := rfl
@[simp] theorem onBeu_dou : (s.onBeu f).dou = s.dou := rfl
@[simp] theorem onBeu_ft : (s.onBeu f).ft = s.ft := rfl
@[simp] theorem onBeu_tu : (s.onBeu f).tu = s.tu := rfl
@[simp] theorem onBeu_rs : (s.onBeu f).rs = s.rs := rfl
@[simp] theorem onBeu_cal : (s.onBeu f).cal = s.cal := rfl
@[simp] theorem onBeu_ml : (s.onBeu f).ml = s.ml := rfl
end

/-! ### onSc -/

section
variable (f : ScanConverter → ScanConverter)
@[simp] theorem onSc_pending : (s.onSc f).pending = s.pending := rfl
@[simp] theorem onSc_freeCount : (s.onSc f).freeCount = s.freeCount := rfl
@[simp] theorem onSc_pins : (s.onSc f).pins = s.pins := rfl
@[simp] theorem onSc_params : (s.onSc f).params = s.params := rfl
@[simp] theorem onSc_tt : (s.onSc f).tt = s.tt := rfl
@[simp] theorem onSc_eu : (s.onSc f).eu = s.eu := rfl
@[simp] theorem onSc_beu : (s.onSc f).beu = s.beu := rfl
@[simp] theorem onSc_sc : (s.onSc f).sc = f s.sc := rfl
@[simp] theorem onSc_rt : (s.onSc f).rt = s.rt := rfl
@[simp] theorem onSc_lic : (s.onSc f).lic = s.lic := rfl
@[simp] theorem onSc_mbc : (s.onSc f).mbc = s.mbc := rfl
@[simp] theorem onSc_tsc : (s.onSc f).tsc = s.tsc := rfl
@[simp] theorem onSc_cc : (s.onSc f).cc = s.cc := rfl
@[simp] theorem onSc_ama : (s.onSc f).ama = s.ama := rfl
@[simp] theorem onSc_lsc : (s.onSc f).lsc = s.lsc := rfl
@[simp] theorem onSc_dou : (s.onSc f).dou = s.dou := rfl
@[simp] theorem onSc_ft : (s.onSc f).ft = s.ft := rfl
@[simp] theorem onSc_tu : (s.onSc f).tu = s.tu := rfl
@[simp] theorem onSc_rs : (s.onSc f).rs = s.rs := rfl
@[simp] theorem onSc_cal : (s.onSc f).cal = s.cal := rfl
@[simp] theorem onSc_ml : (s.onSc f).ml = s.ml := rfl
end

/-! ### onRt -/

section
variable (f : List Recipe → List Recipe)
@[simp] theorem onRt_pending : (s.onRt f).pending = s.pending := rfl
@[simp] theorem onRt_freeCount : (s.onRt f).freeCount = s.freeCount := rfl
@[simp] theorem onRt_pins : (s.onRt f).pins = s.pins := rfl
@[simp] theorem onRt_params : (s.onRt f).params = s.params := rfl
@[simp] theorem onRt_tt : (s.onRt f).tt = s.tt := rfl
@[simp] theorem onRt_eu : (s.onRt f).eu = s.eu := rfl
@[simp] theorem onRt_beu : (s.onRt f).beu = s.beu := rfl
@[simp] theorem onRt_sc : (s.onRt f).sc = s.sc := rfl
@[simp] theorem onRt_rt : (s.onRt f).rt = f s.rt := rfl
@[simp] theorem onRt_lic : (s.onRt f).lic = s.lic := rfl
@[simp] theorem onRt_mbc : (s.onRt f).mbc = s.mbc := rfl
@[simp] theorem onRt_tsc : (s.onRt f).tsc = s.tsc := rfl
@[simp] theorem onRt_cc : (s.onRt f).cc = s.cc := rfl
@[simp] theorem onRt_ama : (s.onRt f).ama = s.ama := rfl
@[simp] theorem onRt_lsc : (s.onRt f).lsc = s.lsc := rfl
@[simp] theorem onRt_dou : (s.onRt f).dou = s.dou := rfl
@[simp] theorem onRt_ft : (s.onRt f).ft = s.ft := rfl
@[simp] theorem onRt_tu : (s.onRt f).tu = s.tu := rfl
@[simp] theorem onRt_rs : (s.onRt f).rs = s.rs := rfl
@[simp] theorem onRt_cal : (s.onRt f).cal = s.cal := rfl
@[simp] theorem onRt_ml : (s.onRt f).ml = s.ml := rfl
end

/-! ### onLic -/

section
variable (f : PerLane LaneInfeed → PerLane LaneInfeed)
@[simp] theorem onLic_pending : (s.onLic f).pending = s.pending := rfl
@[simp] theorem onLic_freeCount : (s.onLic f).freeCount = s.freeCount := rfl
@[simp] theorem onLic_pins : (s.onLic f).pins = s.pins := rfl
@[simp] theorem onLic_params : (s.onLic f).params = s.params := rfl
@[simp] theorem onLic_tt : (s.onLic f).tt = s.tt := rfl
@[simp] theorem onLic_eu : (s.onLic f).eu = s.eu := rfl
@[simp] theorem onLic_beu : (s.onLic f).beu = s.beu := rfl
@[simp] theorem onLic_sc : (s.onLic f).sc = s.sc := rfl
@[simp] theorem onLic_rt : (s.onLic f).rt = s.rt := rfl
@[simp] theorem onLic_lic : (s.onLic f).lic = f s.lic := rfl
@[simp] theorem onLic_mbc : (s.onLic f).mbc = s.mbc := rfl
@[simp] theorem onLic_tsc : (s.onLic f).tsc = s.tsc := rfl
@[simp] theorem onLic_cc : (s.onLic f).cc = s.cc := rfl
@[simp] theorem onLic_ama : (s.onLic f).ama = s.ama := rfl
@[simp] theorem onLic_lsc : (s.onLic f).lsc = s.lsc := rfl
@[simp] theorem onLic_dou : (s.onLic f).dou = s.dou := rfl
@[simp] theorem onLic_ft : (s.onLic f).ft = s.ft := rfl
@[simp] theorem onLic_tu : (s.onLic f).tu = s.tu := rfl
@[simp] theorem onLic_rs : (s.onLic f).rs = s.rs := rfl
@[simp] theorem onLic_cal : (s.onLic f).cal = s.cal := rfl
@[simp] theorem onLic_ml : (s.onLic f).ml = s.ml := rfl
end

/-! ### onMbc -/

section
variable (f : MergeBag → MergeBag)
@[simp] theorem onMbc_pending : (s.onMbc f).pending = s.pending := rfl
@[simp] theorem onMbc_freeCount : (s.onMbc f).freeCount = s.freeCount := rfl
@[simp] theorem onMbc_pins : (s.onMbc f).pins = s.pins := rfl
@[simp] theorem onMbc_params : (s.onMbc f).params = s.params := rfl
@[simp] theorem onMbc_tt : (s.onMbc f).tt = s.tt := rfl
@[simp] theorem onMbc_eu : (s.onMbc f).eu = s.eu := rfl
@[simp] theorem onMbc_beu : (s.onMbc f).beu = s.beu := rfl
@[simp] theorem onMbc_sc : (s.onMbc f).sc = s.sc := rfl
@[simp] theorem onMbc_rt : (s.onMbc f).rt = s.rt := rfl
@[simp] theorem onMbc_lic : (s.onMbc f).lic = s.lic := rfl
@[simp] theorem onMbc_mbc : (s.onMbc f).mbc = f s.mbc := rfl
@[simp] theorem onMbc_tsc : (s.onMbc f).tsc = s.tsc := rfl
@[simp] theorem onMbc_cc : (s.onMbc f).cc = s.cc := rfl
@[simp] theorem onMbc_ama : (s.onMbc f).ama = s.ama := rfl
@[simp] theorem onMbc_lsc : (s.onMbc f).lsc = s.lsc := rfl
@[simp] theorem onMbc_dou : (s.onMbc f).dou = s.dou := rfl
@[simp] theorem onMbc_ft : (s.onMbc f).ft = s.ft := rfl
@[simp] theorem onMbc_tu : (s.onMbc f).tu = s.tu := rfl
@[simp] theorem onMbc_rs : (s.onMbc f).rs = s.rs := rfl
@[simp] theorem onMbc_cal : (s.onMbc f).cal = s.cal := rfl
@[simp] theorem onMbc_ml : (s.onMbc f).ml = s.ml := rfl
end

/-! ### onTsc -/

section
variable (f : TieStation → TieStation)
@[simp] theorem onTsc_pending : (s.onTsc f).pending = s.pending := rfl
@[simp] theorem onTsc_freeCount : (s.onTsc f).freeCount = s.freeCount := rfl
@[simp] theorem onTsc_pins : (s.onTsc f).pins = s.pins := rfl
@[simp] theorem onTsc_params : (s.onTsc f).params = s.params := rfl
@[simp] theorem onTsc_tt : (s.onTsc f).tt = s.tt := rfl
@[simp] theorem onTsc_eu : (s.onTsc f).eu = s.eu := rfl
@[simp] theorem onTsc_beu : (s.onTsc f).beu = s.beu := rfl
@[simp] theorem onTsc_sc : (s.onTsc f).sc = s.sc := rfl
@[simp] theorem onTsc_rt : (s.onTsc f).rt = s.rt := rfl
@[simp] theorem onTsc_lic : (s.onTsc f).lic = s.lic := rfl
@[simp] theorem onTsc_mbc : (s.onTsc f).mbc = s.mbc := rfl
@[simp] theorem onTsc_tsc : (s.onTsc f).tsc = f s.tsc := rfl
@[simp] theorem onTsc_cc : (s.onTsc f).cc = s.cc := rfl
@[simp] theorem onTsc_ama : (s.onTsc f).ama = s.ama := rfl
@[simp] theorem onTsc_lsc : (s.onTsc f).lsc = s.lsc := rfl
@[simp] theorem onTsc_dou : (s.onTsc f).dou = s.dou := rfl
@[simp] theorem onTsc_ft : (s.onTsc f).ft = s.ft := rfl
@[simp] theorem onTsc_tu : (s.onTsc f).tu = s.tu := rfl
@[simp] theorem onTsc_rs : (s.onTsc f).rs = s.rs := rfl
@[simp] theorem onTsc_cal : (s.onTsc f).cal = s.cal := rfl
@[simp] theorem onTsc_ml : (s.onTsc f).ml = s.ml := rfl
end

/-! ### onCc -/

section
variable (f : PerLane Crumb → PerLane Crumb)
@[simp] theorem onCc_pending : (s.onCc f).pending = s.pending := rfl
@[simp] theorem onCc_freeCount : (s.onCc f).freeCount = s.freeCount := rfl
@[simp] theorem onCc_pins : (s.onCc f).pins = s.pins := rfl
@[simp] theorem onCc_params : (s.onCc f).params = s.params := rfl
@[simp] theorem onCc_tt : (s.onCc f).tt = s.tt := rfl
@[simp] theorem onCc_eu : (s.onCc f).eu = s.eu := rfl
@[simp] theorem onCc_beu : (s.onCc f).beu = s.beu := rfl
@[simp] theorem onCc_sc : (s.onCc f).sc = s.sc := rfl
@[simp] theorem onCc_rt : (s.onCc f).rt = s.rt := rfl
@[simp] theorem onCc_lic : (s.onCc f).lic = s.lic := rfl
@[simp] theorem onCc_mbc : (s.onCc f).mbc = s.mbc := rfl
@[simp] theorem onCc_tsc : (s.onCc f).tsc = s.tsc := rfl
@[simp] theorem onCc_cc : (s.onCc f).cc = f s.cc := rfl
@[simp] theorem onCc_ama : (s.onCc f).ama = s.ama := rfl
@[simp] theorem onCc_lsc : (s.onCc f).lsc = s.lsc := rfl
@[simp] theorem onCc_dou : (s.onCc f).dou = s.dou := rfl
@[simp] theorem onCc_ft : (s.onCc f).ft = s.ft := rfl
@[simp] theorem onCc_tu : (s.onCc f).tu = s.tu := rfl
@[simp] theorem onCc_rs : (s.onCc f).rs = s.rs := rfl
@[simp] theorem onCc_cal : (s.onCc f).cal = s.cal := rfl
@[simp] theorem onCc_ml : (s.onCc f).ml = s.ml := rfl
end

/-! ### onAma -/

section
variable (f : AirArbiter → AirArbiter)
@[simp] theorem onAma_pending : (s.onAma f).pending = s.pending := rfl
@[simp] theorem onAma_freeCount : (s.onAma f).freeCount = s.freeCount := rfl
@[simp] theorem onAma_pins : (s.onAma f).pins = s.pins := rfl
@[simp] theorem onAma_params : (s.onAma f).params = s.params := rfl
@[simp] theorem onAma_tt : (s.onAma f).tt = s.tt := rfl
@[simp] theorem onAma_eu : (s.onAma f).eu = s.eu := rfl
@[simp] theorem onAma_beu : (s.onAma f).beu = s.beu := rfl
@[simp] theorem onAma_sc : (s.onAma f).sc = s.sc := rfl
@[simp] theorem onAma_rt : (s.onAma f).rt = s.rt := rfl
@[simp] theorem onAma_lic : (s.onAma f).lic = s.lic := rfl
@[simp] theorem onAma_mbc : (s.onAma f).mbc = s.mbc := rfl
@[simp] theorem onAma_tsc : (s.onAma f).tsc = s.tsc := rfl
@[simp] theorem onAma_cc : (s.onAma f).cc = s.cc := rfl
@[simp] theorem onAma_ama : (s.onAma f).ama = f s.ama := rfl
@[simp] theorem onAma_lsc : (s.onAma f).lsc = s.lsc := rfl
@[simp] theorem onAma_dou : (s.onAma f).dou = s.dou := rfl
@[simp] theorem onAma_ft : (s.onAma f).ft = s.ft := rfl
@[simp] theorem onAma_tu : (s.onAma f).tu = s.tu := rfl
@[simp] theorem onAma_rs : (s.onAma f).rs = s.rs := rfl
@[simp] theorem onAma_cal : (s.onAma f).cal = s.cal := rfl
@[simp] theorem onAma_ml : (s.onAma f).ml = s.ml := rfl
end

/-! ### onLsc -/

section
variable (f : LineControl → LineControl)
@[simp] theorem onLsc_pending : (s.onLsc f).pending = s.pending := rfl
@[simp] theorem onLsc_freeCount : (s.onLsc f).freeCount = s.freeCount := rfl
@[simp] theorem onLsc_pins : (s.onLsc f).pins = s.pins := rfl
@[simp] theorem onLsc_params : (s.onLsc f).params = s.params := rfl
@[simp] theorem onLsc_tt : (s.onLsc f).tt = s.tt := rfl
@[simp] theorem onLsc_eu : (s.onLsc f).eu = s.eu := rfl
@[simp] theorem onLsc_beu : (s.onLsc f).beu = s.beu := rfl
@[simp] theorem onLsc_sc : (s.onLsc f).sc = s.sc := rfl
@[simp] theorem onLsc_rt : (s.onLsc f).rt = s.rt := rfl
@[simp] theorem onLsc_lic : (s.onLsc f).lic = s.lic := rfl
@[simp] theorem onLsc_mbc : (s.onLsc f).mbc = s.mbc := rfl
@[simp] theorem onLsc_tsc : (s.onLsc f).tsc = s.tsc := rfl
@[simp] theorem onLsc_cc : (s.onLsc f).cc = s.cc := rfl
@[simp] theorem onLsc_ama : (s.onLsc f).ama = s.ama := rfl
@[simp] theorem onLsc_lsc : (s.onLsc f).lsc = f s.lsc := rfl
@[simp] theorem onLsc_dou : (s.onLsc f).dou = s.dou := rfl
@[simp] theorem onLsc_ft : (s.onLsc f).ft = s.ft := rfl
@[simp] theorem onLsc_tu : (s.onLsc f).tu = s.tu := rfl
@[simp] theorem onLsc_rs : (s.onLsc f).rs = s.rs := rfl
@[simp] theorem onLsc_cal : (s.onLsc f).cal = s.cal := rfl
@[simp] theorem onLsc_ml : (s.onLsc f).ml = s.ml := rfl
end

/-! ### onDou -/

section
variable (f : DriveUnit → DriveUnit)
@[simp] theorem onDou_pending : (s.onDou f).pending = s.pending := rfl
@[simp] theorem onDou_freeCount : (s.onDou f).freeCount = s.freeCount := rfl
@[simp] theorem onDou_pins : (s.onDou f).pins = s.pins := rfl
@[simp] theorem onDou_params : (s.onDou f).params = s.params := rfl
@[simp] theorem onDou_tt : (s.onDou f).tt = s.tt := rfl
@[simp] theorem onDou_eu : (s.onDou f).eu = s.eu := rfl
@[simp] theorem onDou_beu : (s.onDou f).beu = s.beu := rfl
@[simp] theorem onDou_sc : (s.onDou f).sc = s.sc := rfl
@[simp] theorem onDou_rt : (s.onDou f).rt = s.rt := rfl
@[simp] theorem onDou_lic : (s.onDou f).lic = s.lic := rfl
@[simp] theorem onDou_mbc : (s.onDou f).mbc = s.mbc := rfl
@[simp] theorem onDou_tsc : (s.onDou f).tsc = s.tsc := rfl
@[simp] theorem onDou_cc : (s.onDou f).cc = s.cc := rfl
@[simp] theorem onDou_ama : (s.onDou f).ama = s.ama := rfl
@[simp] theorem onDou_lsc : (s.onDou f).lsc = s.lsc := rfl
@[simp] theorem onDou_dou : (s.onDou f).dou = f s.dou := rfl
@[simp] theorem onDou_ft : (s.onDou f).ft = s.ft := rfl
@[simp] theorem onDou_tu : (s.onDou f).tu = s.tu := rfl
@[simp] theorem onDou_rs : (s.onDou f).rs = s.rs := rfl
@[simp] theorem onDou_cal : (s.onDou f).cal = s.cal := rfl
@[simp] theorem onDou_ml : (s.onDou f).ml = s.ml := rfl
end

/-! ### onFt -/

section
variable (f : FaultTable → FaultTable)
@[simp] theorem onFt_pending : (s.onFt f).pending = s.pending := rfl
@[simp] theorem onFt_freeCount : (s.onFt f).freeCount = s.freeCount := rfl
@[simp] theorem onFt_pins : (s.onFt f).pins = s.pins := rfl
@[simp] theorem onFt_params : (s.onFt f).params = s.params := rfl
@[simp] theorem onFt_tt : (s.onFt f).tt = s.tt := rfl
@[simp] theorem onFt_eu : (s.onFt f).eu = s.eu := rfl
@[simp] theorem onFt_beu : (s.onFt f).beu = s.beu := rfl
@[simp] theorem onFt_sc : (s.onFt f).sc = s.sc := rfl
@[simp] theorem onFt_rt : (s.onFt f).rt = s.rt := rfl
@[simp] theorem onFt_lic : (s.onFt f).lic = s.lic := rfl
@[simp] theorem onFt_mbc : (s.onFt f).mbc = s.mbc := rfl
@[simp] theorem onFt_tsc : (s.onFt f).tsc = s.tsc := rfl
@[simp] theorem onFt_cc : (s.onFt f).cc = s.cc := rfl
@[simp] theorem onFt_ama : (s.onFt f).ama = s.ama := rfl
@[simp] theorem onFt_lsc : (s.onFt f).lsc = s.lsc := rfl
@[simp] theorem onFt_dou : (s.onFt f).dou = s.dou := rfl
@[simp] theorem onFt_ft : (s.onFt f).ft = f s.ft := rfl
@[simp] theorem onFt_tu : (s.onFt f).tu = s.tu := rfl
@[simp] theorem onFt_rs : (s.onFt f).rs = s.rs := rfl
@[simp] theorem onFt_cal : (s.onFt f).cal = s.cal := rfl
@[simp] theorem onFt_ml : (s.onFt f).ml = s.ml := rfl
end

/-! ### onTu -/

section
variable (f : TotalsUnit → TotalsUnit)
@[simp] theorem onTu_pending : (s.onTu f).pending = s.pending := rfl
@[simp] theorem onTu_freeCount : (s.onTu f).freeCount = s.freeCount := rfl
@[simp] theorem onTu_pins : (s.onTu f).pins = s.pins := rfl
@[simp] theorem onTu_params : (s.onTu f).params = s.params := rfl
@[simp] theorem onTu_tt : (s.onTu f).tt = s.tt := rfl
@[simp] theorem onTu_eu : (s.onTu f).eu = s.eu := rfl
@[simp] theorem onTu_beu : (s.onTu f).beu = s.beu := rfl
@[simp] theorem onTu_sc : (s.onTu f).sc = s.sc := rfl
@[simp] theorem onTu_rt : (s.onTu f).rt = s.rt := rfl
@[simp] theorem onTu_lic : (s.onTu f).lic = s.lic := rfl
@[simp] theorem onTu_mbc : (s.onTu f).mbc = s.mbc := rfl
@[simp] theorem onTu_tsc : (s.onTu f).tsc = s.tsc := rfl
@[simp] theorem onTu_cc : (s.onTu f).cc = s.cc := rfl
@[simp] theorem onTu_ama : (s.onTu f).ama = s.ama := rfl
@[simp] theorem onTu_lsc : (s.onTu f).lsc = s.lsc := rfl
@[simp] theorem onTu_dou : (s.onTu f).dou = s.dou := rfl
@[simp] theorem onTu_ft : (s.onTu f).ft = s.ft := rfl
@[simp] theorem onTu_tu : (s.onTu f).tu = f s.tu := rfl
@[simp] theorem onTu_rs : (s.onTu f).rs = s.rs := rfl
@[simp] theorem onTu_cal : (s.onTu f).cal = s.cal := rfl
@[simp] theorem onTu_ml : (s.onTu f).ml = s.ml := rfl
end

/-! ### onRs -/

section
variable (f : RecordStore → RecordStore)
@[simp] theorem onRs_pending : (s.onRs f).pending = s.pending := rfl
@[simp] theorem onRs_freeCount : (s.onRs f).freeCount = s.freeCount := rfl
@[simp] theorem onRs_pins : (s.onRs f).pins = s.pins := rfl
@[simp] theorem onRs_params : (s.onRs f).params = s.params := rfl
@[simp] theorem onRs_tt : (s.onRs f).tt = s.tt := rfl
@[simp] theorem onRs_eu : (s.onRs f).eu = s.eu := rfl
@[simp] theorem onRs_beu : (s.onRs f).beu = s.beu := rfl
@[simp] theorem onRs_sc : (s.onRs f).sc = s.sc := rfl
@[simp] theorem onRs_rt : (s.onRs f).rt = s.rt := rfl
@[simp] theorem onRs_lic : (s.onRs f).lic = s.lic := rfl
@[simp] theorem onRs_mbc : (s.onRs f).mbc = s.mbc := rfl
@[simp] theorem onRs_tsc : (s.onRs f).tsc = s.tsc := rfl
@[simp] theorem onRs_cc : (s.onRs f).cc = s.cc := rfl
@[simp] theorem onRs_ama : (s.onRs f).ama = s.ama := rfl
@[simp] theorem onRs_lsc : (s.onRs f).lsc = s.lsc := rfl
@[simp] theorem onRs_dou : (s.onRs f).dou = s.dou := rfl
@[simp] theorem onRs_ft : (s.onRs f).ft = s.ft := rfl
@[simp] theorem onRs_tu : (s.onRs f).tu = s.tu := rfl
@[simp] theorem onRs_rs : (s.onRs f).rs = f s.rs := rfl
@[simp] theorem onRs_cal : (s.onRs f).cal = s.cal := rfl
@[simp] theorem onRs_ml : (s.onRs f).ml = s.ml := rfl
end

/-! ### onCal -/

section
variable (f : Calendar → Calendar)
@[simp] theorem onCal_pending : (s.onCal f).pending = s.pending := rfl
@[simp] theorem onCal_freeCount : (s.onCal f).freeCount = s.freeCount := rfl
@[simp] theorem onCal_pins : (s.onCal f).pins = s.pins := rfl
@[simp] theorem onCal_params : (s.onCal f).params = s.params := rfl
@[simp] theorem onCal_tt : (s.onCal f).tt = s.tt := rfl
@[simp] theorem onCal_eu : (s.onCal f).eu = s.eu := rfl
@[simp] theorem onCal_beu : (s.onCal f).beu = s.beu := rfl
@[simp] theorem onCal_sc : (s.onCal f).sc = s.sc := rfl
@[simp] theorem onCal_rt : (s.onCal f).rt = s.rt := rfl
@[simp] theorem onCal_lic : (s.onCal f).lic = s.lic := rfl
@[simp] theorem onCal_mbc : (s.onCal f).mbc = s.mbc := rfl
@[simp] theorem onCal_tsc : (s.onCal f).tsc = s.tsc := rfl
@[simp] theorem onCal_cc : (s.onCal f).cc = s.cc := rfl
@[simp] theorem onCal_ama : (s.onCal f).ama = s.ama := rfl
@[simp] theorem onCal_lsc : (s.onCal f).lsc = s.lsc := rfl
@[simp] theorem onCal_dou : (s.onCal f).dou = s.dou := rfl
@[simp] theorem onCal_ft : (s.onCal f).ft = s.ft := rfl
@[simp] theorem onCal_tu : (s.onCal f).tu = s.tu := rfl
@[simp] theorem onCal_rs : (s.onCal f).rs = s.rs := rfl
@[simp] theorem onCal_cal : (s.onCal f).cal = f s.cal := rfl
@[simp] theorem onCal_ml : (s.onCal f).ml = s.ml := rfl
end

/-! ### onMl -/

section
variable (f : MessageLink → MessageLink)
@[simp] theorem onMl_pending : (s.onMl f).pending = s.pending := rfl
@[simp] theorem onMl_freeCount : (s.onMl f).freeCount = s.freeCount := rfl
@[simp] theorem onMl_pins : (s.onMl f).pins = s.pins := rfl
@[simp] theorem onMl_params : (s.onMl f).params = s.params := rfl
@[simp] theorem onMl_tt : (s.onMl f).tt = s.tt := rfl
@[simp] theorem onMl_eu : (s.onMl f).eu = s.eu := rfl
@[simp] theorem onMl_beu : (s.onMl f).beu = s.beu := rfl
@[simp] theorem onMl_sc : (s.onMl f).sc = s.sc := rfl
@[simp] theorem onMl_rt : (s.onMl f).rt = s.rt := rfl
@[simp] theorem onMl_lic : (s.onMl f).lic = s.lic := rfl
@[simp] theorem onMl_mbc : (s.onMl f).mbc = s.mbc := rfl
@[simp] theorem onMl_tsc : (s.onMl f).tsc = s.tsc := rfl
@[simp] theorem onMl_cc : (s.onMl f).cc = s.cc := rfl
@[simp] theorem onMl_ama : (s.onMl f).ama = s.ama := rfl
@[simp] theorem onMl_lsc : (s.onMl f).lsc = s.lsc := rfl
@[simp] theorem onMl_dou : (s.onMl f).dou = s.dou := rfl
@[simp] theorem onMl_ft : (s.onMl f).ft = s.ft := rfl
@[simp] theorem onMl_tu : (s.onMl f).tu = s.tu := rfl
@[simp] theorem onMl_rs : (s.onMl f).rs = s.rs := rfl
@[simp] theorem onMl_cal : (s.onMl f).cal = s.cal := rfl
@[simp] theorem onMl_ml : (s.onMl f).ml = f s.ml := rfl
end

/-! ### onLane -/

section
variable (l : Lane) (f : LaneInfeed → LaneInfeed)
@[simp] theorem onLane_pending : (s.onLane l f).pending = s.pending := rfl
@[simp] theorem onLane_freeCount : (s.onLane l f).freeCount = s.freeCount := rfl
@[simp] theorem onLane_pins : (s.onLane l f).pins = s.pins := rfl
@[simp] theorem onLane_params : (s.onLane l f).params = s.params := rfl
@[simp] theorem onLane_tt : (s.onLane l f).tt = s.tt := rfl
@[simp] theorem onLane_eu : (s.onLane l f).eu = s.eu := rfl
@[simp] theorem onLane_beu : (s.onLane l f).beu = s.beu := rfl
@[simp] theorem onLane_sc : (s.onLane l f).sc = s.sc := rfl
@[simp] theorem onLane_rt : (s.onLane l f).rt = s.rt := rfl
@[simp] theorem onLane_lic : (s.onLane l f).lic = PerLane.upd l f s.lic := rfl
@[simp] theorem onLane_mbc : (s.onLane l f).mbc = s.mbc := rfl
@[simp] theorem onLane_tsc : (s.onLane l f).tsc = s.tsc := rfl
@[simp] theorem onLane_cc : (s.onLane l f).cc = s.cc := rfl
@[simp] theorem onLane_ama : (s.onLane l f).ama = s.ama := rfl
@[simp] theorem onLane_lsc : (s.onLane l f).lsc = s.lsc := rfl
@[simp] theorem onLane_dou : (s.onLane l f).dou = s.dou := rfl
@[simp] theorem onLane_ft : (s.onLane l f).ft = s.ft := rfl
@[simp] theorem onLane_tu : (s.onLane l f).tu = s.tu := rfl
@[simp] theorem onLane_rs : (s.onLane l f).rs = s.rs := rfl
@[simp] theorem onLane_cal : (s.onLane l f).cal = s.cal := rfl
@[simp] theorem onLane_ml : (s.onLane l f).ml = s.ml := rfl
end

/-! ### onCrumb -/

section
variable (l : Lane) (f : Crumb → Crumb)
@[simp] theorem onCrumb_pending : (s.onCrumb l f).pending = s.pending := rfl
@[simp] theorem onCrumb_freeCount : (s.onCrumb l f).freeCount = s.freeCount := rfl
@[simp] theorem onCrumb_pins : (s.onCrumb l f).pins = s.pins := rfl
@[simp] theorem onCrumb_params : (s.onCrumb l f).params = s.params := rfl
@[simp] theorem onCrumb_tt : (s.onCrumb l f).tt = s.tt := rfl
@[simp] theorem onCrumb_eu : (s.onCrumb l f).eu = s.eu := rfl
@[simp] theorem onCrumb_beu : (s.onCrumb l f).beu = s.beu := rfl
@[simp] theorem onCrumb_sc : (s.onCrumb l f).sc = s.sc := rfl
@[simp] theorem onCrumb_rt : (s.onCrumb l f).rt = s.rt := rfl
@[simp] theorem onCrumb_lic : (s.onCrumb l f).lic = s.lic := rfl
@[simp] theorem onCrumb_mbc : (s.onCrumb l f).mbc = s.mbc := rfl
@[simp] theorem onCrumb_tsc : (s.onCrumb l f).tsc = s.tsc := rfl
@[simp] theorem onCrumb_cc : (s.onCrumb l f).cc = PerLane.upd l f s.cc := rfl
@[simp] theorem onCrumb_ama : (s.onCrumb l f).ama = s.ama := rfl
@[simp] theorem onCrumb_lsc : (s.onCrumb l f).lsc = s.lsc := rfl
@[simp] theorem onCrumb_dou : (s.onCrumb l f).dou = s.dou := rfl
@[simp] theorem onCrumb_ft : (s.onCrumb l f).ft = s.ft := rfl
@[simp] theorem onCrumb_tu : (s.onCrumb l f).tu = s.tu := rfl
@[simp] theorem onCrumb_rs : (s.onCrumb l f).rs = s.rs := rfl
@[simp] theorem onCrumb_cal : (s.onCrumb l f).cal = s.cal := rfl
@[simp] theorem onCrumb_ml : (s.onCrumb l f).ml = s.ml := rfl
end

/-! ### withPending and choiceUsed -/

@[simp] theorem withPending_pending (q : List Instr) : (s.withPending q).pending = q := rfl
@[simp] theorem withPending_freeCount (q : List Instr) : (s.withPending q).freeCount = s.freeCount := rfl
@[simp] theorem withPending_pins (q : List Instr) : (s.withPending q).pins = s.pins := rfl
@[simp] theorem withPending_params (q : List Instr) : (s.withPending q).params = s.params := rfl
@[simp] theorem withPending_tt (q : List Instr) : (s.withPending q).tt = s.tt := rfl
@[simp] theorem withPending_eu (q : List Instr) : (s.withPending q).eu = s.eu := rfl
@[simp] theorem withPending_beu (q : List Instr) : (s.withPending q).beu = s.beu := rfl
@[simp] theorem withPending_sc (q : List Instr) : (s.withPending q).sc = s.sc := rfl
@[simp] theorem withPending_rt (q : List Instr) : (s.withPending q).rt = s.rt := rfl
@[simp] theorem withPending_lic (q : List Instr) : (s.withPending q).lic = s.lic := rfl
@[simp] theorem withPending_mbc (q : List Instr) : (s.withPending q).mbc = s.mbc := rfl
@[simp] theorem withPending_tsc (q : List Instr) : (s.withPending q).tsc = s.tsc := rfl
@[simp] theorem withPending_cc (q : List Instr) : (s.withPending q).cc = s.cc := rfl
@[simp] theorem withPending_ama (q : List Instr) : (s.withPending q).ama = s.ama := rfl
@[simp] theorem withPending_lsc (q : List Instr) : (s.withPending q).lsc = s.lsc := rfl
@[simp] theorem withPending_dou (q : List Instr) : (s.withPending q).dou = s.dou := rfl
@[simp] theorem withPending_ft (q : List Instr) : (s.withPending q).ft = s.ft := rfl
@[simp] theorem withPending_tu (q : List Instr) : (s.withPending q).tu = s.tu := rfl
@[simp] theorem withPending_rs (q : List Instr) : (s.withPending q).rs = s.rs := rfl
@[simp] theorem withPending_cal (q : List Instr) : (s.withPending q).cal = s.cal := rfl
@[simp] theorem withPending_ml (q : List Instr) : (s.withPending q).ml = s.ml := rfl
@[simp] theorem choiceUsed_pending : (choiceUsed s).pending = s.pending := rfl
@[simp] theorem choiceUsed_freeCount : (choiceUsed s).freeCount = s.freeCount + 1 := rfl
@[simp] theorem choiceUsed_pins : (choiceUsed s).pins = s.pins := rfl
@[simp] theorem choiceUsed_params : (choiceUsed s).params = s.params := rfl
@[simp] theorem choiceUsed_tt : (choiceUsed s).tt = s.tt := rfl
@[simp] theorem choiceUsed_eu : (choiceUsed s).eu = s.eu := rfl
@[simp] theorem choiceUsed_beu : (choiceUsed s).beu = s.beu := rfl
@[simp] theorem choiceUsed_sc : (choiceUsed s).sc = s.sc := rfl
@[simp] theorem choiceUsed_rt : (choiceUsed s).rt = s.rt := rfl
@[simp] theorem choiceUsed_lic : (choiceUsed s).lic = s.lic := rfl
@[simp] theorem choiceUsed_mbc : (choiceUsed s).mbc = s.mbc := rfl
@[simp] theorem choiceUsed_tsc : (choiceUsed s).tsc = s.tsc := rfl
@[simp] theorem choiceUsed_cc : (choiceUsed s).cc = s.cc := rfl
@[simp] theorem choiceUsed_ama : (choiceUsed s).ama = s.ama := rfl
@[simp] theorem choiceUsed_lsc : (choiceUsed s).lsc = s.lsc := rfl
@[simp] theorem choiceUsed_dou : (choiceUsed s).dou = s.dou := rfl
@[simp] theorem choiceUsed_ft : (choiceUsed s).ft = s.ft := rfl
@[simp] theorem choiceUsed_tu : (choiceUsed s).tu = s.tu := rfl
@[simp] theorem choiceUsed_rs : (choiceUsed s).rs = s.rs := rfl
@[simp] theorem choiceUsed_cal : (choiceUsed s).cal = s.cal := rfl
@[simp] theorem choiceUsed_ml : (choiceUsed s).ml = s.ml := rfl

/-! ### One place of an indexed structure -/

variable {α : Type} (f : α → α)

@[simp] theorem PerLane.get_upd_same (i : Lane) (p : PerLane α) : (PerLane.upd i f p).get i = f (p.get i) := by
  cases i <;> rfl
theorem PerLane.get_upd_other {i j : Lane} (h : j ≠ i) (p : PerLane α) : (PerLane.upd i f p).get j = p.get j := by
  cases i <;> cases j <;> first | rfl | exact absurd rfl h

@[simp] theorem PerBelt.get_upd_same (i : Belt) (p : PerBelt α) : (PerBelt.upd i f p).get i = f (p.get i) := by
  cases i <;> rfl
theorem PerBelt.get_upd_other {i j : Belt} (h : j ≠ i) (p : PerBelt α) : (PerBelt.upd i f p).get j = p.get j := by
  cases i <;> cases j <;> first | rfl | exact absurd rfl h

@[simp] theorem PerEye.get_upd_same (i : Eye) (p : PerEye α) : (PerEye.upd i f p).get i = f (p.get i) := by
  cases i <;> rfl
theorem PerEye.get_upd_other {i j : Eye} (h : j ≠ i) (p : PerEye α) : (PerEye.upd i f p).get j = p.get j := by
  cases i <;> cases j <;> first | rfl | exact absurd rfl h

@[simp] theorem PerTracked.get_upd_same (i : TrackedEye) (p : PerTracked α) : (PerTracked.upd i f p).get i = f (p.get i) := by
  cases i <;> rfl
theorem PerTracked.get_upd_other {i j : TrackedEye} (h : j ≠ i) (p : PerTracked α) : (PerTracked.upd i f p).get j = p.get j := by
  cases i <;> cases j <;> first | rfl | exact absurd rfl h

@[simp] theorem PerChannel.get_upd_same (i : Channel) (p : PerChannel α) : (PerChannel.upd i f p).get i = f (p.get i) := by
  cases i <;> rfl
theorem PerChannel.get_upd_other {i j : Channel} (h : j ≠ i) (p : PerChannel α) : (PerChannel.upd i f p).get j = p.get j := by
  cases i <;> cases j <;> first | rfl | exact absurd rfl h

@[simp] theorem PerRequester.get_upd_same (i : Requester) (p : PerRequester α) : (PerRequester.upd i f p).get i = f (p.get i) := by
  cases i <;> rfl
theorem PerRequester.get_upd_other {i j : Requester} (h : j ≠ i) (p : PerRequester α) : (PerRequester.upd i f p).get j = p.get j := by
  cases i <;> cases j <;> first | rfl | exact absurd rfl h

@[simp] theorem PerAir.get_upd_same (i : AirChannel) (p : PerAir α) : (PerAir.upd i f p).get i = f (p.get i) := by
  cases i <;> rfl
theorem PerAir.get_upd_other {i j : AirChannel} (h : j ≠ i) (p : PerAir α) : (PerAir.upd i f p).get j = p.get j := by
  cases i <;> cases j <;> first | rfl | exact absurd rfl h

/-! ### The conditional update -/

@[simp] theorem when_true (g : State → State) : when true g s = g s := rfl
@[simp] theorem when_false (g : State → State) : when false g s = s := rfl

end Sys2Proof.Machine
end

