-- ==== Sys2Proof/Laws/Frames.lean ====
section
/-! SUPPORT. The frames of the shared operations, one lemma for each: the blocks it keeps, and of the link all but the
report queue. The second lemma of each says that no report key is taken from the queue. -/

namespace Sys2Proof.Machine

set_option Elab.async false
set_option linter.unusedTactic false
set_option linter.unnecessarySeqFocus false

/-- Two states are equal when their blocks are. -/
theorem State.eq_of_blocks {s t : State} (pending : s.pending = t.pending) (freeCount : s.freeCount = t.freeCount)
    (pins : s.pins = t.pins) (params : s.params = t.params) (tt : s.tt = t.tt) (eu : s.eu = t.eu) (beu : s.beu = t.beu)
    (sc : s.sc = t.sc) (rt : s.rt = t.rt) (lic : s.lic = t.lic) (mbc : s.mbc = t.mbc) (tsc : s.tsc = t.tsc)
    (cc : s.cc = t.cc) (ama : s.ama = t.ama) (lsc : s.lsc = t.lsc) (dou : s.dou = t.dou) (ft : s.ft = t.ft)
    (tu : s.tu = t.tu) (rs : s.rs = t.rs) (cal : s.cal = t.cal) (ml : s.ml = t.ml) : s = t := by
  cases s; cases t; simp_all

theorem MessageLink.eq_of_fields {m n : MessageLink} (strap : m.strap = n.strap) (fifo : m.fifo = n.fifo)
    (rdy : m.rdy = n.rdy) (assembler : m.assembler = n.assembler) (gap : m.gap = n.gap) (replies : m.replies = n.replies)
    (reports : m.reports = n.reports) (tx : m.tx = n.tx) (noticeCrc : m.noticeCrc = n.noticeCrc)
    (noticeTimeout : m.noticeTimeout = n.noticeTimeout) (noticeOverrun : m.noticeOverrun = n.noticeOverrun)
    (restartPending : m.restartPending = n.restartPending) : m = n := by
  cases m; cases n; simp_all

@[simp] theorem when_pending {f : State → State} (h : ∀ s, (f s).pending = s.pending) (c : Bool) (s : State) :
    (when c f s).pending = s.pending := by cases c <;> simp [when, h]
theorem foldl_pending {α : Type} {f : State → α → State} (h : ∀ s x, (f s x).pending = s.pending) (l : List α) (s : State) :
    (l.foldl f s).pending = s.pending := by
  induction l generalizing s with
  | nil => rfl
  | cons x l ih => rw [List.foldl_cons, ih, h]
@[simp] theorem when_freeCount {f : State → State} (h : ∀ s, (f s).freeCount = s.freeCount) (c : Bool) (s : State) :
    (when c f s).freeCount = s.freeCount := by cases c <;> simp [when, h]
theorem foldl_freeCount {α : Type} {f : State → α → State} (h : ∀ s x, (f s x).freeCount = s.freeCount) (l : List α) (s : State) :
    (l.foldl f s).freeCount = s.freeCount := by
  induction l generalizing s with
  | nil => rfl
  | cons x l ih => rw [List.foldl_cons, ih, h]
@[simp] theorem when_pins {f : State → State} (h : ∀ s, (f s).pins = s.pins) (c : Bool) (s : State) :
    (when c f s).pins = s.pins := by cases c <;> simp [when, h]
theorem foldl_pins {α : Type} {f : State → α → State} (h : ∀ s x, (f s x).pins = s.pins) (l : List α) (s : State) :
    (l.foldl f s).pins = s.pins := by
  induction l generalizing s with
  | nil => rfl
  | cons x l ih => rw [List.foldl_cons, ih, h]
@[simp] theorem when_params {f : State → State} (h : ∀ s, (f s).params = s.params) (c : Bool) (s : State) :
    (when c f s).params = s.params := by cases c <;> simp [when, h]
theorem foldl_params {α : Type} {f : State → α → State} (h : ∀ s x, (f s x).params = s.params) (l : List α) (s : State) :
    (l.foldl f s).params = s.params := by
  induction l generalizing s with
  | nil => rfl
  | cons x l ih => rw [List.foldl_cons, ih, h]
@[simp] theorem when_tt {f : State → State} (h : ∀ s, (f s).tt = s.tt) (c : Bool) (s : State) :
    (when c f s).tt = s.tt := by cases c <;> simp [when, h]
theorem foldl_tt {α : Type} {f : State → α → State} (h : ∀ s x, (f s x).tt = s.tt) (l : List α) (s : State) :
    (l.foldl f s).tt = s.tt := by
  induction l generalizing s with
  | nil => rfl
  | cons x l ih => rw [List.foldl_cons, ih, h]
@[simp] theorem when_eu {f : State → State} (h : ∀ s, (f s).eu = s.eu) (c : Bool) (s : State) :
    (when c f s).eu = s.eu := by cases c <;> simp [when, h]
theorem foldl_eu {α : Type} {f : State → α → State} (h : ∀ s x, (f s x).eu = s.eu) (l : List α) (s : State) :
    (l.foldl f s).eu = s.eu := by
  induction l generalizing s with
  | nil => rfl
  | cons x l ih => rw [List.foldl_cons, ih, h]
@[simp] theorem when_beu {f : State → State} (h : ∀ s, (f s).beu = s.beu) (c : Bool) (s : State) :
    (when c f s).beu = s.beu := by cases c <;> simp [when, h]
theorem foldl_beu {α : Type} {f : State → α → State} (h : ∀ s x, (f s x).beu = s.beu) (l : List α) (s : State) :
    (l.foldl f s).beu = s.beu := by
  induction l generalizing s with
  | nil => rfl
  | cons x l ih => rw [List.foldl_cons, ih, h]
@[simp] theorem when_sc {f : State → State} (h : ∀ s, (f s).sc = s.sc) (c : Bool) (s : State) :
    (when c f s).sc = s.sc := by cases c <;> simp [when, h]
theorem foldl_sc {α : Type} {f : State → α → State} (h : ∀ s x, (f s x).sc = s.sc) (l : List α) (s : State) :
    (l.foldl f s).sc = s.sc := by
  induction l generalizing s with
  | nil => rfl
  | cons x l ih => rw [List.foldl_cons, ih, h]
@[simp] theorem when_rt {f : State → State} (h : ∀ s, (f s).rt = s.rt) (c : Bool) (s : State) :
    (when c f s).rt = s.rt := by cases c <;> simp [when, h]
theorem foldl_rt {α : Type} {f : State → α → State} (h : ∀ s x, (f s x).rt = s.rt) (l : List α) (s : State) :
    (l.foldl f s).rt = s.rt := by
  induction l generalizing s with
  | nil => rfl
  | cons x l ih => rw [List.foldl_cons, ih, h]
@[simp] theorem when_lic {f : State → State} (h : ∀ s, (f s).lic = s.lic) (c : Bool) (s : State) :
    (when c f s).lic = s.lic := by cases c <;> simp [when, h]
theorem foldl_lic {α : Type} {f : State → α → State} (h : ∀ s x, (f s x).lic = s.lic) (l : List α) (s : State) :
    (l.foldl f s).lic = s.lic := by
  induction l generalizing s with
  | nil => rfl
  | cons x l ih => rw [List.foldl_cons, ih, h]
@[simp] theorem when_mbc {f : State → State} (h : ∀ s, (f s).mbc = s.mbc) (c : Bool) (s : State) :
    (when c f s).mbc = s.mbc := by cases c <;> simp [when, h]
theorem foldl_mbc {α : Type} {f : State → α → State} (h : ∀ s x, (f s x).mbc = s.mbc) (l : List α) (s : State) :
    (l.foldl f s).mbc = s.mbc := by
  induction l generalizing s with
  | nil => rfl
  | cons x l ih => rw [List.foldl_cons, ih, h]
@[simp] theorem when_tsc {f : State → State} (h : ∀ s, (f s).tsc = s.tsc) (c : Bool) (s : State) :
    (when c f s).tsc = s.tsc := by cases c <;> simp [when, h]
theorem foldl_tsc {α : Type} {f : State → α → State} (h : ∀ s x, (f s x).tsc = s.tsc) (l : List α) (s : State) :
    (l.foldl f s).tsc = s.tsc := by
  induction l generalizing s with
  | nil => rfl
  | cons x l ih => rw [List.foldl_cons, ih, h]
@[simp] theorem when_cc {f : State → State} (h : ∀ s, (f s).cc = s.cc) (c : Bool) (s : State) :
    (when c f s).cc = s.cc := by cases c <;> simp [when, h]
theorem foldl_cc {α : Type} {f : State → α → State} (h : ∀ s x, (f s x).cc = s.cc) (l : List α) (s : State) :
    (l.foldl f s).cc = s.cc := by
  induction l generalizing s with
  | nil => rfl
  | cons x l ih => rw [List.foldl_cons, ih, h]
@[simp] theorem when_ama {f : State → State} (h : ∀ s, (f s).ama = s.ama) (c : Bool) (s : State) :
    (when c f s).ama = s.ama := by cases c <;> simp [when, h]
theorem foldl_ama {α : Type} {f : State → α → State} (h : ∀ s x, (f s x).ama = s.ama) (l : List α) (s : State) :
    (l.foldl f s).ama = s.ama := by
  induction l generalizing s with
  | nil => rfl
  | cons x l ih => rw [List.foldl_cons, ih, h]
@[simp] theorem when_lsc {f : State → State} (h : ∀ s, (f s).lsc = s.lsc) (c : Bool) (s : State) :
    (when c f s).lsc = s.lsc := by cases c <;> simp [when, h]
theorem foldl_lsc {α : Type} {f : State → α → State} (h : ∀ s x, (f s x).lsc = s.lsc) (l : List α) (s : State) :
    (l.foldl f s).lsc = s.lsc := by
  induction l generalizing s with
  | nil => rfl
  | cons x l ih => rw [List.foldl_cons, ih, h]
@[simp] theorem when_dou {f : State → State} (h : ∀ s, (f s).dou = s.dou) (c : Bool) (s : State) :
    (when c f s).dou = s.dou := by cases c <;> simp [when, h]
theorem foldl_dou {α : Type} {f : State → α → State} (h : ∀ s x, (f s x).dou = s.dou) (l : List α) (s : State) :
    (l.foldl f s).dou = s.dou := by
  induction l generalizing s with
  | nil => rfl
  | cons x l ih => rw [List.foldl_cons, ih, h]
@[simp] theorem when_ft {f : State → State} (h : ∀ s, (f s).ft = s.ft) (c : Bool) (s : State) :
    (when c f s).ft = s.ft := by cases c <;> simp [when, h]
theorem foldl_ft {α : Type} {f : State → α → State} (h : ∀ s x, (f s x).ft = s.ft) (l : List α) (s : State) :
    (l.foldl f s).ft = s.ft := by
  induction l generalizing s with
  | nil => rfl
  | cons x l ih => rw [List.foldl_cons, ih, h]
@[simp] theorem when_tu {f : State → State} (h : ∀ s, (f s).tu = s.tu) (c : Bool) (s : State) :
    (when c f s).tu = s.tu := by cases c <;> simp [when, h]
theorem foldl_tu {α : Type} {f : State → α → State} (h : ∀ s x, (f s x).tu = s.tu) (l : List α) (s : State) :
    (l.foldl f s).tu = s.tu := by
  induction l generalizing s with
  | nil => rfl
  | cons x l ih => rw [List.foldl_cons, ih, h]
@[simp] theorem when_rs {f : State → State} (h : ∀ s, (f s).rs = s.rs) (c : Bool) (s : State) :
    (when c f s).rs = s.rs := by cases c <;> simp [when, h]
theorem foldl_rs {α : Type} {f : State → α → State} (h : ∀ s x, (f s x).rs = s.rs) (l : List α) (s : State) :
    (l.foldl f s).rs = s.rs := by
  induction l generalizing s with
  | nil => rfl
  | cons x l ih => rw [List.foldl_cons, ih, h]
@[simp] theorem when_cal {f : State → State} (h : ∀ s, (f s).cal = s.cal) (c : Bool) (s : State) :
    (when c f s).cal = s.cal := by cases c <;> simp [when, h]
theorem foldl_cal {α : Type} {f : State → α → State} (h : ∀ s x, (f s x).cal = s.cal) (l : List α) (s : State) :
    (l.foldl f s).cal = s.cal := by
  induction l generalizing s with
  | nil => rfl
  | cons x l ih => rw [List.foldl_cons, ih, h]
@[simp] theorem when_ml {f : State → State} (h : ∀ s, (f s).ml = s.ml) (c : Bool) (s : State) :
    (when c f s).ml = s.ml := by cases c <;> simp [when, h]
theorem foldl_ml {α : Type} {f : State → α → State} (h : ∀ s x, (f s x).ml = s.ml) (l : List α) (s : State) :
    (l.foldl f s).ml = s.ml := by
  induction l generalizing s with
  | nil => rfl
  | cons x l ih => rw [List.foldl_cons, ih, h]
@[simp] theorem when_strap {f : State → State} (h : ∀ s, (f s).ml.strap = s.ml.strap) (c : Bool) (s : State) :
    (when c f s).ml.strap = s.ml.strap := by cases c <;> simp [when, h]
theorem foldl_strap {α : Type} {f : State → α → State} (h : ∀ s x, (f s x).ml.strap = s.ml.strap) (l : List α) (s : State) :
    (l.foldl f s).ml.strap = s.ml.strap := by
  induction l generalizing s with
  | nil => rfl
  | cons x l ih => rw [List.foldl_cons, ih, h]
@[simp] theorem when_fifo {f : State → State} (h : ∀ s, (f s).ml.fifo = s.ml.fifo) (c : Bool) (s : State) :
    (when c f s).ml.fifo = s.ml.fifo := by cases c <;> simp [when, h]
theorem foldl_fifo {α : Type} {f : State → α → State} (h : ∀ s x, (f s x).ml.fifo = s.ml.fifo) (l : List α) (s : State) :
    (l.foldl f s).ml.fifo = s.ml.fifo := by
  induction l generalizing s with
  | nil => rfl
  | cons x l ih => rw [List.foldl_cons, ih, h]
@[simp] theorem when_rdy {f : State → State} (h : ∀ s, (f s).ml.rdy = s.ml.rdy) (c : Bool) (s : State) :
    (when c f s).ml.rdy = s.ml.rdy := by cases c <;> simp [when, h]
theorem foldl_rdy {α : Type} {f : State → α → State} (h : ∀ s x, (f s x).ml.rdy = s.ml.rdy) (l : List α) (s : State) :
    (l.foldl f s).ml.rdy = s.ml.rdy := by
  induction l generalizing s with
  | nil => rfl
  | cons x l ih => rw [List.foldl_cons, ih, h]
@[simp] theorem when_assembler {f : State → State} (h : ∀ s, (f s).ml.assembler = s.ml.assembler) (c : Bool) (s : State) :
    (when c f s).ml.assembler = s.ml.assembler := by cases c <;> simp [when, h]
theorem foldl_assembler {α : Type} {f : State → α → State} (h : ∀ s x, (f s x).ml.assembler = s.ml.assembler) (l : List α) (s : State) :
    (l.foldl f s).ml.assembler = s.ml.assembler := by
  induction l generalizing s with
  | nil => rfl
  | cons x l ih => rw [List.foldl_cons, ih, h]
@[simp] theorem when_gap {f : State → State} (h : ∀ s, (f s).ml.gap = s.ml.gap) (c : Bool) (s : State) :
    (when c f s).ml.gap = s.ml.gap := by cases c <;> simp [when, h]
theorem foldl_gap {α : Type} {f : State → α → State} (h : ∀ s x, (f s x).ml.gap = s.ml.gap) (l : List α) (s : State) :
    (l.foldl f s).ml.gap = s.ml.gap := by
  induction l generalizing s with
  | nil => rfl
  | cons x l ih => rw [List.foldl_cons, ih, h]
@[simp] theorem when_replies {f : State → State} (h : ∀ s, (f s).ml.replies = s.ml.replies) (c : Bool) (s : State) :
    (when c f s).ml.replies = s.ml.replies := by cases c <;> simp [when, h]
theorem foldl_replies {α : Type} {f : State → α → State} (h : ∀ s x, (f s x).ml.replies = s.ml.replies) (l : List α) (s : State) :
    (l.foldl f s).ml.replies = s.ml.replies := by
  induction l generalizing s with
  | nil => rfl
  | cons x l ih => rw [List.foldl_cons, ih, h]
@[simp] theorem when_tx {f : State → State} (h : ∀ s, (f s).ml.tx = s.ml.tx) (c : Bool) (s : State) :
    (when c f s).ml.tx = s.ml.tx := by cases c <;> simp [when, h]
theorem foldl_tx {α : Type} {f : State → α → State} (h : ∀ s x, (f s x).ml.tx = s.ml.tx) (l : List α) (s : State) :
    (l.foldl f s).ml.tx = s.ml.tx := by
  induction l generalizing s with
  | nil => rfl
  | cons x l ih => rw [List.foldl_cons, ih, h]
@[simp] theorem when_noticeCrc {f : State → State} (h : ∀ s, (f s).ml.noticeCrc = s.ml.noticeCrc) (c : Bool) (s : State) :
    (when c f s).ml.noticeCrc = s.ml.noticeCrc := by cases c <;> simp [when, h]
theorem foldl_noticeCrc {α : Type} {f : State → α → State} (h : ∀ s x, (f s x).ml.noticeCrc = s.ml.noticeCrc) (l : List α) (s : State) :
    (l.foldl f s).ml.noticeCrc = s.ml.noticeCrc := by
  induction l generalizing s with
  | nil => rfl
  | cons x l ih => rw [List.foldl_cons, ih, h]
@[simp] theorem when_noticeTimeout {f : State → State} (h : ∀ s, (f s).ml.noticeTimeout = s.ml.noticeTimeout) (c : Bool) (s : State) :
    (when c f s).ml.noticeTimeout = s.ml.noticeTimeout := by cases c <;> simp [when, h]
theorem foldl_noticeTimeout {α : Type} {f : State → α → State} (h : ∀ s x, (f s x).ml.noticeTimeout = s.ml.noticeTimeout) (l : List α) (s : State) :
    (l.foldl f s).ml.noticeTimeout = s.ml.noticeTimeout := by
  induction l generalizing s with
  | nil => rfl
  | cons x l ih => rw [List.foldl_cons, ih, h]
@[simp] theorem when_noticeOverrun {f : State → State} (h : ∀ s, (f s).ml.noticeOverrun = s.ml.noticeOverrun) (c : Bool) (s : State) :
    (when c f s).ml.noticeOverrun = s.ml.noticeOverrun := by cases c <;> simp [when, h]
theorem foldl_noticeOverrun {α : Type} {f : State → α → State} (h : ∀ s x, (f s x).ml.noticeOverrun = s.ml.noticeOverrun) (l : List α) (s : State) :
    (l.foldl f s).ml.noticeOverrun = s.ml.noticeOverrun := by
  induction l generalizing s with
  | nil => rfl
  | cons x l ih => rw [List.foldl_cons, ih, h]
@[simp] theorem when_restartPending {f : State → State} (h : ∀ s, (f s).ml.restartPending = s.ml.restartPending) (c : Bool) (s : State) :
    (when c f s).ml.restartPending = s.ml.restartPending := by cases c <;> simp [when, h]
theorem foldl_restartPending {α : Type} {f : State → α → State} (h : ∀ s x, (f s x).ml.restartPending = s.ml.restartPending) (l : List α) (s : State) :
    (l.foldl f s).ml.restartPending = s.ml.restartPending := by
  induction l generalizing s with
  | nil => rfl
  | cons x l ih => rw [List.foldl_cons, ih, h]
/-- A report key stands in the report queue. -/
def Reported (k : ReportKey) (s : State) : Prop := k ∈ s.ml.reports

@[simp] theorem when_reported {f : State → State} {k : ReportKey} (h : ∀ s, Reported k s → Reported k (f s))
    (c : Bool) {s : State} (hk : Reported k s) : Reported k (when c f s) := by
  cases c
  · exact hk
  · exact h s hk
theorem foldl_reported {α : Type} {f : State → α → State} {k : ReportKey}
    (h : ∀ s x, Reported k s → Reported k (f s x)) (l : List α) {s : State} (hk : Reported k s) :
    Reported k (l.foldl f s) := by
  induction l generalizing s with
  | nil => exact hk
  | cons x l ih => exact ih (h s x hk)
@[simp] theorem raiseKey_mem (k : ReportKey) (s : State) : k ∈ (raiseKey k s).ml.reports := by
  unfold raiseKey; split
  · assumption
  · simp
@[simp] theorem reported_raised (k : ReportKey) (s : State) : Reported k (raiseKey k s) := raiseKey_mem k s
@[simp] theorem reported_onPins (f : Pins → Pins) {k : ReportKey} {s : State} (h : Reported k s) :
    Reported k (s.onPins f) := h
@[simp] theorem reported_onParams (f : Params → Params) {k : ReportKey} {s : State} (h : Reported k s) :
    Reported k (s.onParams f) := h
@[simp] theorem reported_onTt (f : Tracking → Tracking) {k : ReportKey} {s : State} (h : Reported k s) :
    Reported k (s.onTt f) := h
@[simp] theorem reported_onEu (f : EyeUnit → EyeUnit) {k : ReportKey} {s : State} (h : Reported k s) :
    Reported k (s.onEu f) := h
@[simp] theorem reported_onBeu (f : BeltUnit → BeltUnit) {k : ReportKey} {s : State} (h : Reported k s) :
    Reported k (s.onBeu f) := h
@[simp] theorem reported_onSc (f : ScanConverter → ScanConverter) {k : ReportKey} {s : State} (h : Reported k s) :
    Reported k (s.onSc f) := h
@[simp] theorem reported_onRt (f : List Recipe → List Recipe) {k : ReportKey} {s : State} (h : Reported k s) :
    Reported k (s.onRt f) := h
@[simp] theorem reported_onLic (f : PerLane LaneInfeed → PerLane LaneInfeed) {k : ReportKey} {s : State} (h : Reported k s) :
    Reported k (s.onLic f) := h
@[simp] theorem reported_onMbc (f : MergeBag → MergeBag) {k : ReportKey} {s : State} (h : Reported k s) :
    Reported k (s.onMbc f) := h
@[simp] theorem reported_onTsc (f : TieStation → TieStation) {k : ReportKey} {s : State} (h : Reported k s) :
    Reported k (s.onTsc f) := h
@[simp] theorem reported_onCc (f : PerLane Crumb → PerLane Crumb) {k : ReportKey} {s : State} (h : Reported k s) :
    Reported k (s.onCc f) := h
@[simp] theorem reported_onAma (f : AirArbiter → AirArbiter) {k : ReportKey} {s : State} (h : Reported k s) :
    Reported k (s.onAma f) := h
@[simp] theorem reported_onLsc (f : LineControl → LineControl) {k : ReportKey} {s : State} (h : Reported k s) :
    Reported k (s.onLsc f) := h
@[simp] theorem reported_onDou (f : DriveUnit → DriveUnit) {k : ReportKey} {s : State} (h : Reported k s) :
    Reported k (s.onDou f) := h
@[simp] theorem reported_onFt (f : FaultTable → FaultTable) {k : ReportKey} {s : State} (h : Reported k s) :
    Reported k (s.onFt f) := h
@[simp] theorem reported_onTu (f : TotalsUnit → TotalsUnit) {k : ReportKey} {s : State} (h : Reported k s) :
    Reported k (s.onTu f) := h
@[simp] theorem reported_onRs (f : RecordStore → RecordStore) {k : ReportKey} {s : State} (h : Reported k s) :
    Reported k (s.onRs f) := h
@[simp] theorem reported_onCal (f : Calendar → Calendar) {k : ReportKey} {s : State} (h : Reported k s) :
    Reported k (s.onCal f) := h
@[simp] theorem reported_onLane (l : Lane) (f : LaneInfeed → LaneInfeed) {k : ReportKey} {s : State} (h : Reported k s) :
    Reported k (s.onLane l f) := h
@[simp] theorem reported_onCrumb (l : Lane) (f : Crumb → Crumb) {k : ReportKey} {s : State} (h : Reported k s) :
    Reported k (s.onCrumb l f) := h

@[simp] theorem raiseKey_keeps (k : ReportKey) (s : State) :
    (raiseKey k s).pending = s.pending ∧ (raiseKey k s).freeCount = s.freeCount ∧ (raiseKey k s).pins = s.pins ∧
    (raiseKey k s).params = s.params ∧ (raiseKey k s).tt = s.tt ∧ (raiseKey k s).eu = s.eu ∧
    (raiseKey k s).beu = s.beu ∧ (raiseKey k s).sc = s.sc ∧ (raiseKey k s).rt = s.rt ∧ (raiseKey k s).lic = s.lic ∧
    (raiseKey k s).mbc = s.mbc ∧ (raiseKey k s).tsc = s.tsc ∧ (raiseKey k s).cc = s.cc ∧ (raiseKey k s).ama = s.ama ∧
    (raiseKey k s).lsc = s.lsc ∧ (raiseKey k s).dou = s.dou ∧ (raiseKey k s).ft = s.ft ∧ (raiseKey k s).tu = s.tu ∧
    (raiseKey k s).rs = s.rs ∧ (raiseKey k s).cal = s.cal ∧ (raiseKey k s).ml.strap = s.ml.strap ∧
    (raiseKey k s).ml.fifo = s.ml.fifo ∧ (raiseKey k s).ml.rdy = s.ml.rdy ∧
    (raiseKey k s).ml.assembler = s.ml.assembler ∧ (raiseKey k s).ml.gap = s.ml.gap ∧
    (raiseKey k s).ml.replies = s.ml.replies ∧ (raiseKey k s).ml.tx = s.ml.tx ∧
    (raiseKey k s).ml.noticeCrc = s.ml.noticeCrc ∧ (raiseKey k s).ml.noticeTimeout = s.ml.noticeTimeout ∧
    (raiseKey k s).ml.noticeOverrun = s.ml.noticeOverrun ∧
    (raiseKey k s).ml.restartPending = s.ml.restartPending := by
  simp only [raiseKey]; (repeat' split) <;> simp
@[simp] theorem raiseKey_reported (k : ReportKey) {j : ReportKey} {s : State} (h : Reported j s) :
    Reported j (raiseKey k s) := by
  unfold raiseKey; split
  · exact h
  · exact List.mem_append_left _ h
@[simp] theorem syncLane_keeps (l : Lane) (s : State) :
    (syncLane l s).pending = s.pending ∧ (syncLane l s).freeCount = s.freeCount ∧ (syncLane l s).pins = s.pins ∧
    (syncLane l s).params = s.params ∧ (syncLane l s).tt = s.tt ∧ (syncLane l s).eu = s.eu ∧
    (syncLane l s).beu = s.beu ∧ (syncLane l s).sc = s.sc ∧ (syncLane l s).rt = s.rt ∧ (syncLane l s).mbc = s.mbc ∧
    (syncLane l s).tsc = s.tsc ∧ (syncLane l s).cc = s.cc ∧ (syncLane l s).ama = s.ama ∧ (syncLane l s).lsc = s.lsc ∧
    (syncLane l s).dou = s.dou ∧ (syncLane l s).ft = s.ft ∧ (syncLane l s).tu = s.tu ∧ (syncLane l s).rs = s.rs ∧
    (syncLane l s).cal = s.cal ∧ (syncLane l s).ml.strap = s.ml.strap ∧ (syncLane l s).ml.fifo = s.ml.fifo ∧
    (syncLane l s).ml.rdy = s.ml.rdy ∧ (syncLane l s).ml.assembler = s.ml.assembler ∧
    (syncLane l s).ml.gap = s.ml.gap ∧ (syncLane l s).ml.replies = s.ml.replies ∧ (syncLane l s).ml.tx = s.ml.tx ∧
    (syncLane l s).ml.noticeCrc = s.ml.noticeCrc ∧ (syncLane l s).ml.noticeTimeout = s.ml.noticeTimeout ∧
    (syncLane l s).ml.noticeOverrun = s.ml.noticeOverrun ∧
    (syncLane l s).ml.restartPending = s.ml.restartPending := by
  simp only [syncLane]; (repeat' split) <;> simp
@[simp] theorem syncLane_reported (l : Lane) {key : ReportKey} {s : State} (h : Reported key s) :
    Reported key (syncLane l s) := by
  simp only [syncLane]; (repeat' split) <;> simp +contextual (maxDischargeDepth := 40) [h]
@[simp] theorem syncLanes_keeps (s : State) :
    (syncLanes s).pending = s.pending ∧ (syncLanes s).freeCount = s.freeCount ∧ (syncLanes s).pins = s.pins ∧
    (syncLanes s).params = s.params ∧ (syncLanes s).tt = s.tt ∧ (syncLanes s).eu = s.eu ∧ (syncLanes s).beu = s.beu ∧
    (syncLanes s).sc = s.sc ∧ (syncLanes s).rt = s.rt ∧ (syncLanes s).mbc = s.mbc ∧ (syncLanes s).tsc = s.tsc ∧
    (syncLanes s).cc = s.cc ∧ (syncLanes s).ama = s.ama ∧ (syncLanes s).lsc = s.lsc ∧ (syncLanes s).dou = s.dou ∧
    (syncLanes s).ft = s.ft ∧ (syncLanes s).tu = s.tu ∧ (syncLanes s).rs = s.rs ∧ (syncLanes s).cal = s.cal ∧
    (syncLanes s).ml.strap = s.ml.strap ∧ (syncLanes s).ml.fifo = s.ml.fifo ∧ (syncLanes s).ml.rdy = s.ml.rdy ∧
    (syncLanes s).ml.assembler = s.ml.assembler ∧ (syncLanes s).ml.gap = s.ml.gap ∧
    (syncLanes s).ml.replies = s.ml.replies ∧ (syncLanes s).ml.tx = s.ml.tx ∧
    (syncLanes s).ml.noticeCrc = s.ml.noticeCrc ∧ (syncLanes s).ml.noticeTimeout = s.ml.noticeTimeout ∧
    (syncLanes s).ml.noticeOverrun = s.ml.noticeOverrun ∧ (syncLanes s).ml.restartPending = s.ml.restartPending := by
  simp only [syncLanes]; (repeat' split) <;> simp
@[simp] theorem syncLanes_reported {key : ReportKey} {s : State} (h : Reported key s) :
    Reported key (syncLanes s) := by
  simp only [syncLanes]; (repeat' split) <;> simp +contextual (maxDischargeDepth := 40) [h]
@[simp] theorem syncHold_keeps (l : Lane) (s : State) :
    (syncHold l s).pending = s.pending ∧ (syncHold l s).freeCount = s.freeCount ∧ (syncHold l s).pins = s.pins ∧
    (syncHold l s).params = s.params ∧ (syncHold l s).tt = s.tt ∧ (syncHold l s).eu = s.eu ∧
    (syncHold l s).beu = s.beu ∧ (syncHold l s).sc = s.sc ∧ (syncHold l s).rt = s.rt ∧ (syncHold l s).mbc = s.mbc ∧
    (syncHold l s).tsc = s.tsc ∧ (syncHold l s).cc = s.cc ∧ (syncHold l s).ama = s.ama ∧ (syncHold l s).lsc = s.lsc ∧
    (syncHold l s).dou = s.dou ∧ (syncHold l s).ft = s.ft ∧ (syncHold l s).tu = s.tu ∧ (syncHold l s).rs = s.rs ∧
    (syncHold l s).cal = s.cal ∧ (syncHold l s).ml.strap = s.ml.strap ∧ (syncHold l s).ml.fifo = s.ml.fifo ∧
    (syncHold l s).ml.rdy = s.ml.rdy ∧ (syncHold l s).ml.assembler = s.ml.assembler ∧
    (syncHold l s).ml.gap = s.ml.gap ∧ (syncHold l s).ml.replies = s.ml.replies ∧ (syncHold l s).ml.tx = s.ml.tx ∧
    (syncHold l s).ml.noticeCrc = s.ml.noticeCrc ∧ (syncHold l s).ml.noticeTimeout = s.ml.noticeTimeout ∧
    (syncHold l s).ml.noticeOverrun = s.ml.noticeOverrun ∧
    (syncHold l s).ml.restartPending = s.ml.restartPending := by
  simp only [syncHold]; (repeat' split) <;> simp
@[simp] theorem syncHold_reported (l : Lane) {key : ReportKey} {s : State} (h : Reported key s) :
    Reported key (syncHold l s) := by
  simp only [syncHold]; (repeat' split) <;> simp +contextual (maxDischargeDepth := 40) [h]
@[simp] theorem syncHolds_keeps (s : State) :
    (syncHolds s).pending = s.pending ∧ (syncHolds s).freeCount = s.freeCount ∧ (syncHolds s).pins = s.pins ∧
    (syncHolds s).params = s.params ∧ (syncHolds s).tt = s.tt ∧ (syncHolds s).eu = s.eu ∧ (syncHolds s).beu = s.beu ∧
    (syncHolds s).sc = s.sc ∧ (syncHolds s).rt = s.rt ∧ (syncHolds s).mbc = s.mbc ∧ (syncHolds s).tsc = s.tsc ∧
    (syncHolds s).cc = s.cc ∧ (syncHolds s).ama = s.ama ∧ (syncHolds s).lsc = s.lsc ∧ (syncHolds s).dou = s.dou ∧
    (syncHolds s).ft = s.ft ∧ (syncHolds s).tu = s.tu ∧ (syncHolds s).rs = s.rs ∧ (syncHolds s).cal = s.cal ∧
    (syncHolds s).ml.strap = s.ml.strap ∧ (syncHolds s).ml.fifo = s.ml.fifo ∧ (syncHolds s).ml.rdy = s.ml.rdy ∧
    (syncHolds s).ml.assembler = s.ml.assembler ∧ (syncHolds s).ml.gap = s.ml.gap ∧
    (syncHolds s).ml.replies = s.ml.replies ∧ (syncHolds s).ml.tx = s.ml.tx ∧
    (syncHolds s).ml.noticeCrc = s.ml.noticeCrc ∧ (syncHolds s).ml.noticeTimeout = s.ml.noticeTimeout ∧
    (syncHolds s).ml.noticeOverrun = s.ml.noticeOverrun ∧ (syncHolds s).ml.restartPending = s.ml.restartPending := by
  simp only [syncHolds]; (repeat' split) <;> simp
@[simp] theorem syncHolds_reported {key : ReportKey} {s : State} (h : Reported key s) :
    Reported key (syncHolds s) := by
  simp only [syncHolds]; (repeat' split) <;> simp +contextual (maxDischargeDepth := 40) [h]
@[simp] theorem onLive_keeps (f : Totals → Totals) (s : State) :
    (s.onLive f).pending = s.pending ∧ (s.onLive f).freeCount = s.freeCount ∧ (s.onLive f).pins = s.pins ∧
    (s.onLive f).params = s.params ∧ (s.onLive f).tt = s.tt ∧ (s.onLive f).eu = s.eu ∧ (s.onLive f).beu = s.beu ∧
    (s.onLive f).sc = s.sc ∧ (s.onLive f).rt = s.rt ∧ (s.onLive f).lic = s.lic ∧ (s.onLive f).mbc = s.mbc ∧
    (s.onLive f).tsc = s.tsc ∧ (s.onLive f).cc = s.cc ∧ (s.onLive f).ama = s.ama ∧ (s.onLive f).lsc = s.lsc ∧
    (s.onLive f).dou = s.dou ∧ (s.onLive f).ft = s.ft ∧ (s.onLive f).rs = s.rs ∧ (s.onLive f).cal = s.cal ∧
    (s.onLive f).ml = s.ml := by
  simp only [State.onLive]; (repeat' split) <;> simp
@[simp] theorem onLive_reported (f : Totals → Totals) {key : ReportKey} {s : State} (h : Reported key s) :
    Reported key (s.onLive f) := by
  simp only [State.onLive]; (repeat' split) <;> simp +contextual (maxDischargeDepth := 40) [h]
@[simp] theorem countLine_keeps (f : LineBlock → LineBlock) (s : State) :
    (countLine f s).pending = s.pending ∧ (countLine f s).freeCount = s.freeCount ∧ (countLine f s).pins = s.pins ∧
    (countLine f s).params = s.params ∧ (countLine f s).tt = s.tt ∧ (countLine f s).eu = s.eu ∧
    (countLine f s).beu = s.beu ∧ (countLine f s).sc = s.sc ∧ (countLine f s).rt = s.rt ∧
    (countLine f s).lic = s.lic ∧ (countLine f s).mbc = s.mbc ∧ (countLine f s).tsc = s.tsc ∧
    (countLine f s).cc = s.cc ∧ (countLine f s).ama = s.ama ∧ (countLine f s).lsc = s.lsc ∧
    (countLine f s).dou = s.dou ∧ (countLine f s).ft = s.ft ∧ (countLine f s).rs = s.rs ∧
    (countLine f s).cal = s.cal ∧ (countLine f s).ml = s.ml := by
  simp only [countLine]; (repeat' split) <;> simp
@[simp] theorem countLine_reported (f : LineBlock → LineBlock) {key : ReportKey} {s : State} (h : Reported key s) :
    Reported key (countLine f s) := by
  simp only [countLine]; (repeat' split) <;> simp +contextual (maxDischargeDepth := 40) [h]
@[simp] theorem countProduct_keeps (code : Nat) (f : Counters → Counters) (s : State) :
    (countProduct code f s).pending = s.pending ∧ (countProduct code f s).freeCount = s.freeCount ∧
    (countProduct code f s).pins = s.pins ∧ (countProduct code f s).params = s.params ∧
    (countProduct code f s).tt = s.tt ∧ (countProduct code f s).eu = s.eu ∧ (countProduct code f s).beu = s.beu ∧
    (countProduct code f s).sc = s.sc ∧ (countProduct code f s).rt = s.rt ∧ (countProduct code f s).lic = s.lic ∧
    (countProduct code f s).mbc = s.mbc ∧ (countProduct code f s).tsc = s.tsc ∧ (countProduct code f s).cc = s.cc ∧
    (countProduct code f s).ama = s.ama ∧ (countProduct code f s).lsc = s.lsc ∧ (countProduct code f s).dou = s.dou ∧
    (countProduct code f s).ft = s.ft ∧ (countProduct code f s).rs = s.rs ∧ (countProduct code f s).cal = s.cal ∧
    (countProduct code f s).ml = s.ml := by
  simp only [countProduct]; (repeat' split) <;> simp
@[simp] theorem countProduct_reported (code : Nat) (f : Counters → Counters) {key : ReportKey} {s : State} (h : Reported key s) :
    Reported key (countProduct code f s) := by
  simp only [countProduct]; (repeat' split) <;> simp +contextual (maxDischargeDepth := 40) [h]
@[simp] theorem countRecord_keeps (r : LoafRecord) (f : Counters → Counters) (s : State) :
    (countRecord r f s).pending = s.pending ∧ (countRecord r f s).freeCount = s.freeCount ∧
    (countRecord r f s).pins = s.pins ∧ (countRecord r f s).params = s.params ∧ (countRecord r f s).tt = s.tt ∧
    (countRecord r f s).eu = s.eu ∧ (countRecord r f s).beu = s.beu ∧ (countRecord r f s).sc = s.sc ∧
    (countRecord r f s).rt = s.rt ∧ (countRecord r f s).lic = s.lic ∧ (countRecord r f s).mbc = s.mbc ∧
    (countRecord r f s).tsc = s.tsc ∧ (countRecord r f s).cc = s.cc ∧ (countRecord r f s).ama = s.ama ∧
    (countRecord r f s).lsc = s.lsc ∧ (countRecord r f s).dou = s.dou ∧ (countRecord r f s).ft = s.ft ∧
    (countRecord r f s).rs = s.rs ∧ (countRecord r f s).cal = s.cal ∧ (countRecord r f s).ml = s.ml := by
  simp only [countRecord]; (repeat' split) <;> simp
@[simp] theorem countRecord_reported (r : LoafRecord) (f : Counters → Counters) {key : ReportKey} {s : State} (h : Reported key s) :
    Reported key (countRecord r f s) := by
  simp only [countRecord]; (repeat' split) <;> simp +contextual (maxDischargeDepth := 40) [h]
@[simp] theorem countLost_keeps (r : LoafRecord) (s : State) :
    (countLost r s).pending = s.pending ∧ (countLost r s).freeCount = s.freeCount ∧ (countLost r s).pins = s.pins ∧
    (countLost r s).params = s.params ∧ (countLost r s).tt = s.tt ∧ (countLost r s).eu = s.eu ∧
    (countLost r s).beu = s.beu ∧ (countLost r s).sc = s.sc ∧ (countLost r s).rt = s.rt ∧
    (countLost r s).lic = s.lic ∧ (countLost r s).mbc = s.mbc ∧ (countLost r s).tsc = s.tsc ∧
    (countLost r s).cc = s.cc ∧ (countLost r s).ama = s.ama ∧ (countLost r s).lsc = s.lsc ∧
    (countLost r s).dou = s.dou ∧ (countLost r s).ft = s.ft ∧ (countLost r s).rs = s.rs ∧
    (countLost r s).cal = s.cal ∧ (countLost r s).ml = s.ml := by
  simp only [countLost]; (repeat' split) <;> simp
@[simp] theorem countLost_reported (r : LoafRecord) {key : ReportKey} {s : State} (h : Reported key s) :
    Reported key (countLost r s) := by
  simp only [countLost]; (repeat' split) <;> simp +contextual (maxDischargeDepth := 40) [h]
@[simp] theorem countBagged_keeps (r : LoafRecord) (s : State) :
    (countBagged r s).pending = s.pending ∧ (countBagged r s).freeCount = s.freeCount ∧
    (countBagged r s).pins = s.pins ∧ (countBagged r s).params = s.params ∧ (countBagged r s).tt = s.tt ∧
    (countBagged r s).eu = s.eu ∧ (countBagged r s).beu = s.beu ∧ (countBagged r s).sc = s.sc ∧
    (countBagged r s).rt = s.rt ∧ (countBagged r s).lic = s.lic ∧ (countBagged r s).mbc = s.mbc ∧
    (countBagged r s).tsc = s.tsc ∧ (countBagged r s).cc = s.cc ∧ (countBagged r s).ama = s.ama ∧
    (countBagged r s).lsc = s.lsc ∧ (countBagged r s).dou = s.dou ∧ (countBagged r s).ft = s.ft ∧
    (countBagged r s).rs = s.rs ∧ (countBagged r s).cal = s.cal ∧ (countBagged r s).ml = s.ml := by
  simp only [countBagged]; (repeat' split) <;> simp
@[simp] theorem countBagged_reported (r : LoafRecord) {key : ReportKey} {s : State} (h : Reported key s) :
    Reported key (countBagged r s) := by
  simp only [countBagged]; (repeat' split) <;> simp +contextual (maxDischargeDepth := 40) [h]
@[simp] theorem countRejected_keeps (r : LoafRecord) (f : Counters → Counters) (s : State) :
    (countRejected r f s).pending = s.pending ∧ (countRejected r f s).freeCount = s.freeCount ∧
    (countRejected r f s).pins = s.pins ∧ (countRejected r f s).params = s.params ∧ (countRejected r f s).tt = s.tt ∧
    (countRejected r f s).eu = s.eu ∧ (countRejected r f s).beu = s.beu ∧ (countRejected r f s).sc = s.sc ∧
    (countRejected r f s).rt = s.rt ∧ (countRejected r f s).lic = s.lic ∧ (countRejected r f s).mbc = s.mbc ∧
    (countRejected r f s).tsc = s.tsc ∧ (countRejected r f s).cc = s.cc ∧ (countRejected r f s).ama = s.ama ∧
    (countRejected r f s).lsc = s.lsc ∧ (countRejected r f s).dou = s.dou ∧ (countRejected r f s).ft = s.ft ∧
    (countRejected r f s).rs = s.rs ∧ (countRejected r f s).cal = s.cal ∧ (countRejected r f s).ml = s.ml := by
  simp only [countRejected]; (repeat' split) <;> simp
@[simp] theorem countRejected_reported (r : LoafRecord) (f : Counters → Counters) {key : ReportKey} {s : State} (h : Reported key s) :
    Reported key (countRejected r f s) := by
  simp only [countRejected]; (repeat' split) <;> simp +contextual (maxDischargeDepth := 40) [h]
@[simp] theorem countFault_keeps (s : State) :
    (countFault s).pending = s.pending ∧ (countFault s).freeCount = s.freeCount ∧ (countFault s).pins = s.pins ∧
    (countFault s).params = s.params ∧ (countFault s).tt = s.tt ∧ (countFault s).eu = s.eu ∧
    (countFault s).beu = s.beu ∧ (countFault s).sc = s.sc ∧ (countFault s).rt = s.rt ∧ (countFault s).lic = s.lic ∧
    (countFault s).mbc = s.mbc ∧ (countFault s).tsc = s.tsc ∧ (countFault s).cc = s.cc ∧ (countFault s).ama = s.ama ∧
    (countFault s).lsc = s.lsc ∧ (countFault s).dou = s.dou ∧ (countFault s).ft = s.ft ∧ (countFault s).rs = s.rs ∧
    (countFault s).cal = s.cal ∧ (countFault s).ml = s.ml := by
  simp only [countFault]; (repeat' split) <;> simp
@[simp] theorem countFault_reported {key : ReportKey} {s : State} (h : Reported key s) :
    Reported key (countFault s) := by
  simp only [countFault]; (repeat' split) <;> simp +contextual (maxDischargeDepth := 40) [h]
@[simp] theorem tableChanged_keeps (s : State) :
    (tableChanged s).pending = s.pending ∧ (tableChanged s).freeCount = s.freeCount ∧ (tableChanged s).pins = s.pins ∧
    (tableChanged s).params = s.params ∧ (tableChanged s).tt = s.tt ∧ (tableChanged s).eu = s.eu ∧
    (tableChanged s).beu = s.beu ∧ (tableChanged s).sc = s.sc ∧ (tableChanged s).rt = s.rt ∧
    (tableChanged s).lic = s.lic ∧ (tableChanged s).mbc = s.mbc ∧ (tableChanged s).tsc = s.tsc ∧
    (tableChanged s).cc = s.cc ∧ (tableChanged s).ama = s.ama ∧ (tableChanged s).lsc = s.lsc ∧
    (tableChanged s).dou = s.dou ∧ (tableChanged s).tu = s.tu ∧ (tableChanged s).rs = s.rs ∧
    (tableChanged s).cal = s.cal ∧ (tableChanged s).ml.strap = s.ml.strap ∧ (tableChanged s).ml.fifo = s.ml.fifo ∧
    (tableChanged s).ml.rdy = s.ml.rdy ∧ (tableChanged s).ml.assembler = s.ml.assembler ∧
    (tableChanged s).ml.gap = s.ml.gap ∧ (tableChanged s).ml.replies = s.ml.replies ∧
    (tableChanged s).ml.tx = s.ml.tx ∧ (tableChanged s).ml.noticeCrc = s.ml.noticeCrc ∧
    (tableChanged s).ml.noticeTimeout = s.ml.noticeTimeout ∧ (tableChanged s).ml.noticeOverrun = s.ml.noticeOverrun ∧
    (tableChanged s).ml.restartPending = s.ml.restartPending := by
  simp only [tableChanged]; (repeat' split) <;> simp
@[simp] theorem tableChanged_reported {key : ReportKey} {s : State} (h : Reported key s) :
    Reported key (tableChanged s) := by
  simp only [tableChanged]; (repeat' split) <;> simp +contextual (maxDischargeDepth := 40) [h]
@[simp] theorem placeEntry_keeps (e : FaultEntry) (s : State) :
    (placeEntry e s).pending = s.pending ∧ (placeEntry e s).freeCount = s.freeCount ∧ (placeEntry e s).pins = s.pins ∧
    (placeEntry e s).params = s.params ∧ (placeEntry e s).tt = s.tt ∧ (placeEntry e s).eu = s.eu ∧
    (placeEntry e s).beu = s.beu ∧ (placeEntry e s).sc = s.sc ∧ (placeEntry e s).rt = s.rt ∧
    (placeEntry e s).lic = s.lic ∧ (placeEntry e s).mbc = s.mbc ∧ (placeEntry e s).tsc = s.tsc ∧
    (placeEntry e s).cc = s.cc ∧ (placeEntry e s).ama = s.ama ∧ (placeEntry e s).lsc = s.lsc ∧
    (placeEntry e s).dou = s.dou ∧ (placeEntry e s).rs = s.rs ∧ (placeEntry e s).cal = s.cal ∧
    (placeEntry e s).ml = s.ml := by
  simp only [placeEntry]; (repeat' split) <;> simp
@[simp] theorem placeEntry_reported (e : FaultEntry) {key : ReportKey} {s : State} (h : Reported key s) :
    Reported key (placeEntry e s) := by
  simp only [placeEntry]; (repeat' split) <;> simp +contextual (maxDischargeDepth := 40) [h]
@[simp] theorem raiseFault_keeps (k : FaultKind) (subj : Subject) (detail : Option Nat) (s : State) :
    (raiseFault k subj detail s).pending = s.pending ∧ (raiseFault k subj detail s).freeCount = s.freeCount ∧
    (raiseFault k subj detail s).pins = s.pins ∧ (raiseFault k subj detail s).params = s.params ∧
    (raiseFault k subj detail s).tt = s.tt ∧ (raiseFault k subj detail s).eu = s.eu ∧
    (raiseFault k subj detail s).beu = s.beu ∧ (raiseFault k subj detail s).sc = s.sc ∧
    (raiseFault k subj detail s).rt = s.rt ∧ (raiseFault k subj detail s).mbc = s.mbc ∧
    (raiseFault k subj detail s).tsc = s.tsc ∧ (raiseFault k subj detail s).cc = s.cc ∧
    (raiseFault k subj detail s).ama = s.ama ∧ (raiseFault k subj detail s).lsc = s.lsc ∧
    (raiseFault k subj detail s).dou = s.dou ∧ (raiseFault k subj detail s).rs = s.rs ∧
    (raiseFault k subj detail s).cal = s.cal ∧ (raiseFault k subj detail s).ml.strap = s.ml.strap ∧
    (raiseFault k subj detail s).ml.fifo = s.ml.fifo ∧ (raiseFault k subj detail s).ml.rdy = s.ml.rdy ∧
    (raiseFault k subj detail s).ml.assembler = s.ml.assembler ∧ (raiseFault k subj detail s).ml.gap = s.ml.gap ∧
    (raiseFault k subj detail s).ml.replies = s.ml.replies ∧ (raiseFault k subj detail s).ml.tx = s.ml.tx ∧
    (raiseFault k subj detail s).ml.noticeCrc = s.ml.noticeCrc ∧
    (raiseFault k subj detail s).ml.noticeTimeout = s.ml.noticeTimeout ∧
    (raiseFault k subj detail s).ml.noticeOverrun = s.ml.noticeOverrun ∧
    (raiseFault k subj detail s).ml.restartPending = s.ml.restartPending := by
  simp only [raiseFault]; (repeat' split) <;> simp
@[simp] theorem raiseFault_reported (k : FaultKind) (subj : Subject) (detail : Option Nat) {key : ReportKey} {s : State} (h : Reported key s) :
    Reported key (raiseFault k subj detail s) := by
  simp only [raiseFault]; (repeat' split) <;> simp +contextual (maxDischargeDepth := 40) [h]
@[simp] theorem present_keeps (e : FaultEntry) (s : State) :
    (present e s).pending = s.pending ∧ (present e s).freeCount = s.freeCount ∧ (present e s).pins = s.pins ∧
    (present e s).params = s.params ∧ (present e s).tt = s.tt ∧ (present e s).eu = s.eu ∧ (present e s).beu = s.beu ∧
    (present e s).sc = s.sc ∧ (present e s).rt = s.rt ∧ (present e s).lic = s.lic ∧ (present e s).mbc = s.mbc ∧
    (present e s).tsc = s.tsc ∧ (present e s).cc = s.cc ∧ (present e s).ama = s.ama ∧ (present e s).lsc = s.lsc ∧
    (present e s).dou = s.dou ∧ (present e s).rs = s.rs ∧ (present e s).cal = s.cal ∧ (present e s).ml = s.ml := by
  simp only [present]; (repeat' split) <;> simp
@[simp] theorem present_reported (e : FaultEntry) {key : ReportKey} {s : State} (h : Reported key s) :
    Reported key (present e s) := by
  simp only [present]; (repeat' split) <;> simp +contextual (maxDischargeDepth := 40) [h]
@[simp] theorem presentNext_keeps (s : State) :
    (presentNext s).pending = s.pending ∧ (presentNext s).freeCount = s.freeCount ∧ (presentNext s).pins = s.pins ∧
    (presentNext s).params = s.params ∧ (presentNext s).tt = s.tt ∧ (presentNext s).eu = s.eu ∧
    (presentNext s).beu = s.beu ∧ (presentNext s).sc = s.sc ∧ (presentNext s).rt = s.rt ∧
    (presentNext s).lic = s.lic ∧ (presentNext s).mbc = s.mbc ∧ (presentNext s).tsc = s.tsc ∧
    (presentNext s).cc = s.cc ∧ (presentNext s).ama = s.ama ∧ (presentNext s).lsc = s.lsc ∧
    (presentNext s).dou = s.dou ∧ (presentNext s).rs = s.rs ∧ (presentNext s).cal = s.cal ∧
    (presentNext s).ml = s.ml := by
  simp only [presentNext]; (repeat' split) <;> simp
@[simp] theorem presentNext_reported {key : ReportKey} {s : State} (h : Reported key s) :
    Reported key (presentNext s) := by
  simp only [presentNext]; (repeat' split) <;> simp +contextual (maxDischargeDepth := 40) [h]
@[simp] theorem removeEntry_keeps (k : FaultKind) (subj : Subject) (s : State) :
    (removeEntry k subj s).pending = s.pending ∧ (removeEntry k subj s).freeCount = s.freeCount ∧
    (removeEntry k subj s).pins = s.pins ∧ (removeEntry k subj s).params = s.params ∧
    (removeEntry k subj s).tt = s.tt ∧ (removeEntry k subj s).eu = s.eu ∧ (removeEntry k subj s).beu = s.beu ∧
    (removeEntry k subj s).sc = s.sc ∧ (removeEntry k subj s).rt = s.rt ∧ (removeEntry k subj s).mbc = s.mbc ∧
    (removeEntry k subj s).tsc = s.tsc ∧ (removeEntry k subj s).cc = s.cc ∧ (removeEntry k subj s).ama = s.ama ∧
    (removeEntry k subj s).lsc = s.lsc ∧ (removeEntry k subj s).dou = s.dou ∧ (removeEntry k subj s).rs = s.rs ∧
    (removeEntry k subj s).cal = s.cal ∧ (removeEntry k subj s).ml.strap = s.ml.strap ∧
    (removeEntry k subj s).ml.fifo = s.ml.fifo ∧ (removeEntry k subj s).ml.rdy = s.ml.rdy ∧
    (removeEntry k subj s).ml.assembler = s.ml.assembler ∧ (removeEntry k subj s).ml.gap = s.ml.gap ∧
    (removeEntry k subj s).ml.replies = s.ml.replies ∧ (removeEntry k subj s).ml.tx = s.ml.tx ∧
    (removeEntry k subj s).ml.noticeCrc = s.ml.noticeCrc ∧
    (removeEntry k subj s).ml.noticeTimeout = s.ml.noticeTimeout ∧
    (removeEntry k subj s).ml.noticeOverrun = s.ml.noticeOverrun ∧
    (removeEntry k subj s).ml.restartPending = s.ml.restartPending := by
  simp only [removeEntry]; (repeat' split) <;> simp
@[simp] theorem removeEntry_reported (k : FaultKind) (subj : Subject) {key : ReportKey} {s : State} (h : Reported key s) :
    Reported key (removeEntry k subj s) := by
  simp only [removeEntry]; (repeat' split) <;> simp +contextual (maxDischargeDepth := 40) [h]
@[simp] theorem noticeCause_keeps (k : FaultKind) (subj : Subject) (isPresent : Bool) (s : State) :
    (noticeCause k subj isPresent s).pending = s.pending ∧ (noticeCause k subj isPresent s).freeCount = s.freeCount ∧
    (noticeCause k subj isPresent s).pins = s.pins ∧ (noticeCause k subj isPresent s).params = s.params ∧
    (noticeCause k subj isPresent s).tt = s.tt ∧ (noticeCause k subj isPresent s).eu = s.eu ∧
    (noticeCause k subj isPresent s).beu = s.beu ∧ (noticeCause k subj isPresent s).sc = s.sc ∧
    (noticeCause k subj isPresent s).rt = s.rt ∧ (noticeCause k subj isPresent s).mbc = s.mbc ∧
    (noticeCause k subj isPresent s).tsc = s.tsc ∧ (noticeCause k subj isPresent s).cc = s.cc ∧
    (noticeCause k subj isPresent s).ama = s.ama ∧ (noticeCause k subj isPresent s).lsc = s.lsc ∧
    (noticeCause k subj isPresent s).dou = s.dou ∧ (noticeCause k subj isPresent s).rs = s.rs ∧
    (noticeCause k subj isPresent s).cal = s.cal ∧ (noticeCause k subj isPresent s).ml.strap = s.ml.strap ∧
    (noticeCause k subj isPresent s).ml.fifo = s.ml.fifo ∧ (noticeCause k subj isPresent s).ml.rdy = s.ml.rdy ∧
    (noticeCause k subj isPresent s).ml.assembler = s.ml.assembler ∧
    (noticeCause k subj isPresent s).ml.gap = s.ml.gap ∧ (noticeCause k subj isPresent s).ml.replies = s.ml.replies ∧
    (noticeCause k subj isPresent s).ml.tx = s.ml.tx ∧
    (noticeCause k subj isPresent s).ml.noticeCrc = s.ml.noticeCrc ∧
    (noticeCause k subj isPresent s).ml.noticeTimeout = s.ml.noticeTimeout ∧
    (noticeCause k subj isPresent s).ml.noticeOverrun = s.ml.noticeOverrun ∧
    (noticeCause k subj isPresent s).ml.restartPending = s.ml.restartPending := by
  simp only [noticeCause]; (repeat' split) <;> simp
@[simp] theorem noticeCause_reported (k : FaultKind) (subj : Subject) (isPresent : Bool) {key : ReportKey} {s : State} (h : Reported key s) :
    Reported key (noticeCause k subj isPresent s) := by
  simp only [noticeCause]; (repeat' split) <;> simp +contextual (maxDischargeDepth := 40) [h]
@[simp] theorem removeAll_keeps (l : List FaultEntry) (s : State) :
    (removeAll l s).pending = s.pending ∧ (removeAll l s).freeCount = s.freeCount ∧ (removeAll l s).pins = s.pins ∧
    (removeAll l s).params = s.params ∧ (removeAll l s).tt = s.tt ∧ (removeAll l s).eu = s.eu ∧
    (removeAll l s).beu = s.beu ∧ (removeAll l s).sc = s.sc ∧ (removeAll l s).rt = s.rt ∧
    (removeAll l s).mbc = s.mbc ∧ (removeAll l s).tsc = s.tsc ∧ (removeAll l s).cc = s.cc ∧
    (removeAll l s).ama = s.ama ∧ (removeAll l s).lsc = s.lsc ∧ (removeAll l s).dou = s.dou ∧
    (removeAll l s).rs = s.rs ∧ (removeAll l s).cal = s.cal ∧ (removeAll l s).ml.strap = s.ml.strap ∧
    (removeAll l s).ml.fifo = s.ml.fifo ∧ (removeAll l s).ml.rdy = s.ml.rdy ∧
    (removeAll l s).ml.assembler = s.ml.assembler ∧ (removeAll l s).ml.gap = s.ml.gap ∧
    (removeAll l s).ml.replies = s.ml.replies ∧ (removeAll l s).ml.tx = s.ml.tx ∧
    (removeAll l s).ml.noticeCrc = s.ml.noticeCrc ∧ (removeAll l s).ml.noticeTimeout = s.ml.noticeTimeout ∧
    (removeAll l s).ml.noticeOverrun = s.ml.noticeOverrun ∧
    (removeAll l s).ml.restartPending = s.ml.restartPending := by
  and_intros
  · exact foldl_pending (by simp) _ _
  · exact foldl_freeCount (by simp) _ _
  · exact foldl_pins (by simp) _ _
  · exact foldl_params (by simp) _ _
  · exact foldl_tt (by simp) _ _
  · exact foldl_eu (by simp) _ _
  · exact foldl_beu (by simp) _ _
  · exact foldl_sc (by simp) _ _
  · exact foldl_rt (by simp) _ _
  · exact foldl_mbc (by simp) _ _
  · exact foldl_tsc (by simp) _ _
  · exact foldl_cc (by simp) _ _
  · exact foldl_ama (by simp) _ _
  · exact foldl_lsc (by simp) _ _
  · exact foldl_dou (by simp) _ _
  · exact foldl_rs (by simp) _ _
  · exact foldl_cal (by simp) _ _
  · exact foldl_strap (by simp) _ _
  · exact foldl_fifo (by simp) _ _
  · exact foldl_rdy (by simp) _ _
  · exact foldl_assembler (by simp) _ _
  · exact foldl_gap (by simp) _ _
  · exact foldl_replies (by simp) _ _
  · exact foldl_tx (by simp) _ _
  · exact foldl_noticeCrc (by simp) _ _
  · exact foldl_noticeTimeout (by simp) _ _
  · exact foldl_noticeOverrun (by simp) _ _
  · exact foldl_restartPending (by simp) _ _
@[simp] theorem removeAll_reported (l : List FaultEntry) {key : ReportKey} {s : State} (h : Reported key s) :
    Reported key (removeAll l s) := by
  exact foldl_reported (by simp +contextual) _ h
@[simp] theorem noticeRemoval_keeps (hit : FaultEntry → Bool) (s : State) :
    (noticeRemoval hit s).pending = s.pending ∧ (noticeRemoval hit s).freeCount = s.freeCount ∧
    (noticeRemoval hit s).pins = s.pins ∧ (noticeRemoval hit s).params = s.params ∧ (noticeRemoval hit s).tt = s.tt ∧
    (noticeRemoval hit s).eu = s.eu ∧ (noticeRemoval hit s).beu = s.beu ∧ (noticeRemoval hit s).sc = s.sc ∧
    (noticeRemoval hit s).rt = s.rt ∧ (noticeRemoval hit s).mbc = s.mbc ∧ (noticeRemoval hit s).tsc = s.tsc ∧
    (noticeRemoval hit s).cc = s.cc ∧ (noticeRemoval hit s).ama = s.ama ∧ (noticeRemoval hit s).lsc = s.lsc ∧
    (noticeRemoval hit s).dou = s.dou ∧ (noticeRemoval hit s).rs = s.rs ∧ (noticeRemoval hit s).cal = s.cal ∧
    (noticeRemoval hit s).ml.strap = s.ml.strap ∧ (noticeRemoval hit s).ml.fifo = s.ml.fifo ∧
    (noticeRemoval hit s).ml.rdy = s.ml.rdy ∧ (noticeRemoval hit s).ml.assembler = s.ml.assembler ∧
    (noticeRemoval hit s).ml.gap = s.ml.gap ∧ (noticeRemoval hit s).ml.replies = s.ml.replies ∧
    (noticeRemoval hit s).ml.tx = s.ml.tx ∧ (noticeRemoval hit s).ml.noticeCrc = s.ml.noticeCrc ∧
    (noticeRemoval hit s).ml.noticeTimeout = s.ml.noticeTimeout ∧
    (noticeRemoval hit s).ml.noticeOverrun = s.ml.noticeOverrun ∧
    (noticeRemoval hit s).ml.restartPending = s.ml.restartPending := by
  simp only [noticeRemoval]; (repeat' split) <;> simp
@[simp] theorem noticeRemoval_reported (hit : FaultEntry → Bool) {key : ReportKey} {s : State} (h : Reported key s) :
    Reported key (noticeRemoval hit s) := by
  simp only [noticeRemoval]; (repeat' split) <;> simp +contextual (maxDischargeDepth := 40) [h]
@[simp] theorem matchNotice_keeps (subj : Subject) (s : State) :
    (matchNotice subj s).pending = s.pending ∧ (matchNotice subj s).freeCount = s.freeCount ∧
    (matchNotice subj s).pins = s.pins ∧ (matchNotice subj s).params = s.params ∧ (matchNotice subj s).tt = s.tt ∧
    (matchNotice subj s).eu = s.eu ∧ (matchNotice subj s).beu = s.beu ∧ (matchNotice subj s).sc = s.sc ∧
    (matchNotice subj s).rt = s.rt ∧ (matchNotice subj s).mbc = s.mbc ∧ (matchNotice subj s).tsc = s.tsc ∧
    (matchNotice subj s).cc = s.cc ∧ (matchNotice subj s).ama = s.ama ∧ (matchNotice subj s).lsc = s.lsc ∧
    (matchNotice subj s).dou = s.dou ∧ (matchNotice subj s).rs = s.rs ∧ (matchNotice subj s).cal = s.cal ∧
    (matchNotice subj s).ml.strap = s.ml.strap ∧ (matchNotice subj s).ml.fifo = s.ml.fifo ∧
    (matchNotice subj s).ml.rdy = s.ml.rdy ∧ (matchNotice subj s).ml.assembler = s.ml.assembler ∧
    (matchNotice subj s).ml.gap = s.ml.gap ∧ (matchNotice subj s).ml.replies = s.ml.replies ∧
    (matchNotice subj s).ml.tx = s.ml.tx ∧ (matchNotice subj s).ml.noticeCrc = s.ml.noticeCrc ∧
    (matchNotice subj s).ml.noticeTimeout = s.ml.noticeTimeout ∧
    (matchNotice subj s).ml.noticeOverrun = s.ml.noticeOverrun ∧
    (matchNotice subj s).ml.restartPending = s.ml.restartPending := by
  simp only [matchNotice]; (repeat' split) <;> simp
@[simp] theorem matchNotice_reported (subj : Subject) {key : ReportKey} {s : State} (h : Reported key s) :
    Reported key (matchNotice subj s) := by
  simp only [matchNotice]; (repeat' split) <;> simp +contextual (maxDischargeDepth := 40) [h]
@[simp] theorem bagConfirmNotice_keeps (s : State) :
    (bagConfirmNotice s).pending = s.pending ∧ (bagConfirmNotice s).freeCount = s.freeCount ∧
    (bagConfirmNotice s).pins = s.pins ∧ (bagConfirmNotice s).params = s.params ∧ (bagConfirmNotice s).tt = s.tt ∧
    (bagConfirmNotice s).eu = s.eu ∧ (bagConfirmNotice s).beu = s.beu ∧ (bagConfirmNotice s).sc = s.sc ∧
    (bagConfirmNotice s).rt = s.rt ∧ (bagConfirmNotice s).mbc = s.mbc ∧ (bagConfirmNotice s).tsc = s.tsc ∧
    (bagConfirmNotice s).cc = s.cc ∧ (bagConfirmNotice s).ama = s.ama ∧ (bagConfirmNotice s).lsc = s.lsc ∧
    (bagConfirmNotice s).dou = s.dou ∧ (bagConfirmNotice s).rs = s.rs ∧ (bagConfirmNotice s).cal = s.cal ∧
    (bagConfirmNotice s).ml.strap = s.ml.strap ∧ (bagConfirmNotice s).ml.fifo = s.ml.fifo ∧
    (bagConfirmNotice s).ml.rdy = s.ml.rdy ∧ (bagConfirmNotice s).ml.assembler = s.ml.assembler ∧
    (bagConfirmNotice s).ml.gap = s.ml.gap ∧ (bagConfirmNotice s).ml.replies = s.ml.replies ∧
    (bagConfirmNotice s).ml.tx = s.ml.tx ∧ (bagConfirmNotice s).ml.noticeCrc = s.ml.noticeCrc ∧
    (bagConfirmNotice s).ml.noticeTimeout = s.ml.noticeTimeout ∧
    (bagConfirmNotice s).ml.noticeOverrun = s.ml.noticeOverrun ∧
    (bagConfirmNotice s).ml.restartPending = s.ml.restartPending := by
  simp only [bagConfirmNotice]; (repeat' split) <;> simp
@[simp] theorem bagConfirmNotice_reported {key : ReportKey} {s : State} (h : Reported key s) :
    Reported key (bagConfirmNotice s) := by
  simp only [bagConfirmNotice]; (repeat' split) <;> simp +contextual (maxDischargeDepth := 40) [h]
@[simp] theorem clearCompletedNotice_keeps (l : Lane) (s : State) :
    (clearCompletedNotice l s).pending = s.pending ∧ (clearCompletedNotice l s).freeCount = s.freeCount ∧
    (clearCompletedNotice l s).pins = s.pins ∧ (clearCompletedNotice l s).params = s.params ∧
    (clearCompletedNotice l s).tt = s.tt ∧ (clearCompletedNotice l s).eu = s.eu ∧
    (clearCompletedNotice l s).beu = s.beu ∧ (clearCompletedNotice l s).sc = s.sc ∧
    (clearCompletedNotice l s).rt = s.rt ∧ (clearCompletedNotice l s).mbc = s.mbc ∧
    (clearCompletedNotice l s).tsc = s.tsc ∧ (clearCompletedNotice l s).cc = s.cc ∧
    (clearCompletedNotice l s).ama = s.ama ∧ (clearCompletedNotice l s).lsc = s.lsc ∧
    (clearCompletedNotice l s).dou = s.dou ∧ (clearCompletedNotice l s).rs = s.rs ∧
    (clearCompletedNotice l s).cal = s.cal ∧ (clearCompletedNotice l s).ml.strap = s.ml.strap ∧
    (clearCompletedNotice l s).ml.fifo = s.ml.fifo ∧ (clearCompletedNotice l s).ml.rdy = s.ml.rdy ∧
    (clearCompletedNotice l s).ml.assembler = s.ml.assembler ∧ (clearCompletedNotice l s).ml.gap = s.ml.gap ∧
    (clearCompletedNotice l s).ml.replies = s.ml.replies ∧ (clearCompletedNotice l s).ml.tx = s.ml.tx ∧
    (clearCompletedNotice l s).ml.noticeCrc = s.ml.noticeCrc ∧
    (clearCompletedNotice l s).ml.noticeTimeout = s.ml.noticeTimeout ∧
    (clearCompletedNotice l s).ml.noticeOverrun = s.ml.noticeOverrun ∧
    (clearCompletedNotice l s).ml.restartPending = s.ml.restartPending := by
  simp only [clearCompletedNotice]; (repeat' split) <;> simp
@[simp] theorem clearCompletedNotice_reported (l : Lane) {key : ReportKey} {s : State} (h : Reported key s) :
    Reported key (clearCompletedNotice l s) := by
  simp only [clearCompletedNotice]; (repeat' split) <;> simp +contextual (maxDischargeDepth := 40) [h]
@[simp] theorem eyeStuckToAuto_keeps (s : State) :
    (eyeStuckToAuto s).pending = s.pending ∧ (eyeStuckToAuto s).freeCount = s.freeCount ∧
    (eyeStuckToAuto s).pins = s.pins ∧ (eyeStuckToAuto s).params = s.params ∧ (eyeStuckToAuto s).tt = s.tt ∧
    (eyeStuckToAuto s).eu = s.eu ∧ (eyeStuckToAuto s).beu = s.beu ∧ (eyeStuckToAuto s).sc = s.sc ∧
    (eyeStuckToAuto s).rt = s.rt ∧ (eyeStuckToAuto s).mbc = s.mbc ∧ (eyeStuckToAuto s).tsc = s.tsc ∧
    (eyeStuckToAuto s).cc = s.cc ∧ (eyeStuckToAuto s).ama = s.ama ∧ (eyeStuckToAuto s).lsc = s.lsc ∧
    (eyeStuckToAuto s).dou = s.dou ∧ (eyeStuckToAuto s).rs = s.rs ∧ (eyeStuckToAuto s).cal = s.cal ∧
    (eyeStuckToAuto s).ml.strap = s.ml.strap ∧ (eyeStuckToAuto s).ml.fifo = s.ml.fifo ∧
    (eyeStuckToAuto s).ml.rdy = s.ml.rdy ∧ (eyeStuckToAuto s).ml.assembler = s.ml.assembler ∧
    (eyeStuckToAuto s).ml.gap = s.ml.gap ∧ (eyeStuckToAuto s).ml.replies = s.ml.replies ∧
    (eyeStuckToAuto s).ml.tx = s.ml.tx ∧ (eyeStuckToAuto s).ml.noticeCrc = s.ml.noticeCrc ∧
    (eyeStuckToAuto s).ml.noticeTimeout = s.ml.noticeTimeout ∧
    (eyeStuckToAuto s).ml.noticeOverrun = s.ml.noticeOverrun ∧
    (eyeStuckToAuto s).ml.restartPending = s.ml.restartPending := by
  simp only [eyeStuckToAuto]; (repeat' split) <;> simp
@[simp] theorem eyeStuckToAuto_reported {key : ReportKey} {s : State} (h : Reported key s) :
    Reported key (eyeStuckToAuto s) := by
  simp only [eyeStuckToAuto]; (repeat' split) <;> simp +contextual (maxDischargeDepth := 40) [h]
@[simp] theorem clearPresented_keeps (e : FaultEntry) (s : State) :
    (clearPresented e s).pending = s.pending ∧ (clearPresented e s).freeCount = s.freeCount ∧
    (clearPresented e s).pins = s.pins ∧ (clearPresented e s).params = s.params ∧ (clearPresented e s).tt = s.tt ∧
    (clearPresented e s).eu = s.eu ∧ (clearPresented e s).beu = s.beu ∧ (clearPresented e s).sc = s.sc ∧
    (clearPresented e s).rt = s.rt ∧ (clearPresented e s).mbc = s.mbc ∧ (clearPresented e s).tsc = s.tsc ∧
    (clearPresented e s).cc = s.cc ∧ (clearPresented e s).ama = s.ama ∧ (clearPresented e s).lsc = s.lsc ∧
    (clearPresented e s).dou = s.dou ∧ (clearPresented e s).rs = s.rs ∧ (clearPresented e s).cal = s.cal ∧
    (clearPresented e s).ml.strap = s.ml.strap ∧ (clearPresented e s).ml.fifo = s.ml.fifo ∧
    (clearPresented e s).ml.rdy = s.ml.rdy ∧ (clearPresented e s).ml.assembler = s.ml.assembler ∧
    (clearPresented e s).ml.gap = s.ml.gap ∧ (clearPresented e s).ml.replies = s.ml.replies ∧
    (clearPresented e s).ml.tx = s.ml.tx ∧ (clearPresented e s).ml.noticeCrc = s.ml.noticeCrc ∧
    (clearPresented e s).ml.noticeTimeout = s.ml.noticeTimeout ∧
    (clearPresented e s).ml.noticeOverrun = s.ml.noticeOverrun ∧
    (clearPresented e s).ml.restartPending = s.ml.restartPending := by
  simp only [clearPresented]; (repeat' split) <;> simp
@[simp] theorem clearPresented_reported (e : FaultEntry) {key : ReportKey} {s : State} (h : Reported key s) :
    Reported key (clearPresented e s) := by
  simp only [clearPresented]; (repeat' split) <;> simp +contextual (maxDischargeDepth := 40) [h]
@[simp] theorem driveOn_keeps (f : DriveUnit → DriveUnit) (s : State) :
    (driveOn f s).pending = s.pending ∧ (driveOn f s).freeCount = s.freeCount ∧ (driveOn f s).pins = s.pins ∧
    (driveOn f s).params = s.params ∧ (driveOn f s).tt = s.tt ∧ (driveOn f s).eu = s.eu ∧ (driveOn f s).beu = s.beu ∧
    (driveOn f s).sc = s.sc ∧ (driveOn f s).rt = s.rt ∧ (driveOn f s).lic = s.lic ∧ (driveOn f s).mbc = s.mbc ∧
    (driveOn f s).tsc = s.tsc ∧ (driveOn f s).cc = s.cc ∧ (driveOn f s).ama = s.ama ∧ (driveOn f s).lsc = s.lsc ∧
    (driveOn f s).ft = s.ft ∧ (driveOn f s).tu = s.tu ∧ (driveOn f s).rs = s.rs ∧ (driveOn f s).cal = s.cal ∧
    (driveOn f s).ml = s.ml := by
  simp only [driveOn]; (repeat' split) <;> simp
@[simp] theorem driveOn_reported (f : DriveUnit → DriveUnit) {key : ReportKey} {s : State} (h : Reported key s) :
    Reported key (driveOn f s) := by
  simp only [driveOn]; (repeat' split) <;> simp +contextual (maxDischargeDepth := 40) [h]
@[simp] theorem onPusher_keeps (l : Lane) (f : Pusher → Pusher) (s : State) :
    (s.onPusher l f).pending = s.pending ∧ (s.onPusher l f).freeCount = s.freeCount ∧ (s.onPusher l f).pins = s.pins ∧
    (s.onPusher l f).params = s.params ∧ (s.onPusher l f).tt = s.tt ∧ (s.onPusher l f).eu = s.eu ∧
    (s.onPusher l f).beu = s.beu ∧ (s.onPusher l f).sc = s.sc ∧ (s.onPusher l f).rt = s.rt ∧
    (s.onPusher l f).lic = s.lic ∧ (s.onPusher l f).mbc = s.mbc ∧ (s.onPusher l f).tsc = s.tsc ∧
    (s.onPusher l f).cc = s.cc ∧ (s.onPusher l f).ama = s.ama ∧ (s.onPusher l f).lsc = s.lsc ∧
    (s.onPusher l f).ft = s.ft ∧ (s.onPusher l f).tu = s.tu ∧ (s.onPusher l f).rs = s.rs ∧
    (s.onPusher l f).cal = s.cal ∧ (s.onPusher l f).ml = s.ml := by
  simp only [State.onPusher]; (repeat' split) <;> simp
@[simp] theorem onPusher_reported (l : Lane) (f : Pusher → Pusher) {key : ReportKey} {s : State} (h : Reported key s) :
    Reported key (s.onPusher l f) := by
  simp only [State.onPusher]; (repeat' split) <;> simp +contextual (maxDischargeDepth := 40) [h]
@[simp] theorem valveOn_keeps (l : Lane) (v : Valve) (s : State) :
    (valveOn l v s).pending = s.pending ∧ (valveOn l v s).freeCount = s.freeCount ∧ (valveOn l v s).pins = s.pins ∧
    (valveOn l v s).params = s.params ∧ (valveOn l v s).tt = s.tt ∧ (valveOn l v s).eu = s.eu ∧
    (valveOn l v s).beu = s.beu ∧ (valveOn l v s).sc = s.sc ∧ (valveOn l v s).rt = s.rt ∧
    (valveOn l v s).lic = s.lic ∧ (valveOn l v s).mbc = s.mbc ∧ (valveOn l v s).tsc = s.tsc ∧
    (valveOn l v s).cc = s.cc ∧ (valveOn l v s).ama = s.ama ∧ (valveOn l v s).lsc = s.lsc ∧
    (valveOn l v s).ft = s.ft ∧ (valveOn l v s).tu = s.tu ∧ (valveOn l v s).rs = s.rs ∧ (valveOn l v s).cal = s.cal ∧
    (valveOn l v s).ml = s.ml := by
  simp only [valveOn]; (repeat' split) <;> simp
@[simp] theorem valveOn_reported (l : Lane) (v : Valve) {key : ReportKey} {s : State} (h : Reported key s) :
    Reported key (valveOn l v s) := by
  simp only [valveOn]; (repeat' split) <;> simp +contextual (maxDischargeDepth := 40) [h]
@[simp] theorem valveOff_keeps (l : Lane) (v : Valve) (s : State) :
    (valveOff l v s).pending = s.pending ∧ (valveOff l v s).freeCount = s.freeCount ∧ (valveOff l v s).pins = s.pins ∧
    (valveOff l v s).params = s.params ∧ (valveOff l v s).tt = s.tt ∧ (valveOff l v s).eu = s.eu ∧
    (valveOff l v s).beu = s.beu ∧ (valveOff l v s).sc = s.sc ∧ (valveOff l v s).rt = s.rt ∧
    (valveOff l v s).lic = s.lic ∧ (valveOff l v s).mbc = s.mbc ∧ (valveOff l v s).tsc = s.tsc ∧
    (valveOff l v s).cc = s.cc ∧ (valveOff l v s).ama = s.ama ∧ (valveOff l v s).lsc = s.lsc ∧
    (valveOff l v s).ft = s.ft ∧ (valveOff l v s).tu = s.tu ∧ (valveOff l v s).rs = s.rs ∧
    (valveOff l v s).cal = s.cal ∧ (valveOff l v s).ml = s.ml := by
  simp only [valveOff]; (repeat' split) <;> simp
@[simp] theorem valveOff_reported (l : Lane) (v : Valve) {key : ReportKey} {s : State} (h : Reported key s) :
    Reported key (valveOff l v s) := by
  simp only [valveOff]; (repeat' split) <;> simp +contextual (maxDischargeDepth := 40) [h]
@[simp] theorem armGate_keeps (l : Lane) (s : State) :
    (armGate l s).pending = s.pending ∧ (armGate l s).freeCount = s.freeCount ∧ (armGate l s).pins = s.pins ∧
    (armGate l s).params = s.params ∧ (armGate l s).tt = s.tt ∧ (armGate l s).eu = s.eu ∧ (armGate l s).beu = s.beu ∧
    (armGate l s).sc = s.sc ∧ (armGate l s).rt = s.rt ∧ (armGate l s).lic = s.lic ∧ (armGate l s).mbc = s.mbc ∧
    (armGate l s).tsc = s.tsc ∧ (armGate l s).cc = s.cc ∧ (armGate l s).ama = s.ama ∧ (armGate l s).lsc = s.lsc ∧
    (armGate l s).ft = s.ft ∧ (armGate l s).tu = s.tu ∧ (armGate l s).rs = s.rs ∧ (armGate l s).cal = s.cal ∧
    (armGate l s).ml = s.ml := by
  simp only [armGate]; (repeat' split) <;> simp
@[simp] theorem armGate_reported (l : Lane) {key : ReportKey} {s : State} (h : Reported key s) :
    Reported key (armGate l s) := by
  simp only [armGate]; (repeat' split) <;> simp +contextual (maxDischargeDepth := 40) [h]
@[simp] theorem disarmGate_keeps (l : Lane) (s : State) :
    (disarmGate l s).pending = s.pending ∧ (disarmGate l s).freeCount = s.freeCount ∧ (disarmGate l s).pins = s.pins ∧
    (disarmGate l s).params = s.params ∧ (disarmGate l s).tt = s.tt ∧ (disarmGate l s).eu = s.eu ∧
    (disarmGate l s).beu = s.beu ∧ (disarmGate l s).sc = s.sc ∧ (disarmGate l s).rt = s.rt ∧
    (disarmGate l s).lic = s.lic ∧ (disarmGate l s).mbc = s.mbc ∧ (disarmGate l s).tsc = s.tsc ∧
    (disarmGate l s).cc = s.cc ∧ (disarmGate l s).ama = s.ama ∧ (disarmGate l s).lsc = s.lsc ∧
    (disarmGate l s).ft = s.ft ∧ (disarmGate l s).tu = s.tu ∧ (disarmGate l s).rs = s.rs ∧
    (disarmGate l s).cal = s.cal ∧ (disarmGate l s).ml = s.ml := by
  simp only [disarmGate]; (repeat' split) <;> simp
@[simp] theorem disarmGate_reported (l : Lane) {key : ReportKey} {s : State} (h : Reported key s) :
    Reported key (disarmGate l s) := by
  simp only [disarmGate]; (repeat' split) <;> simp +contextual (maxDischargeDepth := 40) [h]
@[simp] theorem setBlade_keeps (l : Lane) (b : Bool) (s : State) :
    (setBlade l b s).pending = s.pending ∧ (setBlade l b s).freeCount = s.freeCount ∧ (setBlade l b s).pins = s.pins ∧
    (setBlade l b s).params = s.params ∧ (setBlade l b s).tt = s.tt ∧ (setBlade l b s).eu = s.eu ∧
    (setBlade l b s).beu = s.beu ∧ (setBlade l b s).sc = s.sc ∧ (setBlade l b s).rt = s.rt ∧
    (setBlade l b s).lic = s.lic ∧ (setBlade l b s).mbc = s.mbc ∧ (setBlade l b s).tsc = s.tsc ∧
    (setBlade l b s).cc = s.cc ∧ (setBlade l b s).ama = s.ama ∧ (setBlade l b s).lsc = s.lsc ∧
    (setBlade l b s).ft = s.ft ∧ (setBlade l b s).tu = s.tu ∧ (setBlade l b s).rs = s.rs ∧
    (setBlade l b s).cal = s.cal ∧ (setBlade l b s).ml = s.ml := by
  simp only [setBlade]; (repeat' split) <;> simp
@[simp] theorem setBlade_reported (l : Lane) (b : Bool) {key : ReportKey} {s : State} (h : Reported key s) :
    Reported key (setBlade l b s) := by
  simp only [setBlade]; (repeat' split) <;> simp +contextual (maxDischargeDepth := 40) [h]
@[simp] theorem setKnife_keeps (l : Lane) (b : Bool) (s : State) :
    (setKnife l b s).pending = s.pending ∧ (setKnife l b s).freeCount = s.freeCount ∧ (setKnife l b s).pins = s.pins ∧
    (setKnife l b s).params = s.params ∧ (setKnife l b s).tt = s.tt ∧ (setKnife l b s).eu = s.eu ∧
    (setKnife l b s).beu = s.beu ∧ (setKnife l b s).sc = s.sc ∧ (setKnife l b s).rt = s.rt ∧
    (setKnife l b s).lic = s.lic ∧ (setKnife l b s).mbc = s.mbc ∧ (setKnife l b s).tsc = s.tsc ∧
    (setKnife l b s).cc = s.cc ∧ (setKnife l b s).ama = s.ama ∧ (setKnife l b s).lsc = s.lsc ∧
    (setKnife l b s).ft = s.ft ∧ (setKnife l b s).tu = s.tu ∧ (setKnife l b s).rs = s.rs ∧
    (setKnife l b s).cal = s.cal ∧ (setKnife l b s).ml = s.ml := by
  simp only [setKnife]; (repeat' split) <;> simp
@[simp] theorem setKnife_reported (l : Lane) (b : Bool) {key : ReportKey} {s : State} (h : Reported key s) :
    Reported key (setKnife l b s) := by
  simp only [setKnife]; (repeat' split) <;> simp +contextual (maxDischargeDepth := 40) [h]
@[simp] theorem setShaker_keeps (l : Lane) (b : Bool) (s : State) :
    (setShaker l b s).pending = s.pending ∧ (setShaker l b s).freeCount = s.freeCount ∧
    (setShaker l b s).pins = s.pins ∧ (setShaker l b s).params = s.params ∧ (setShaker l b s).tt = s.tt ∧
    (setShaker l b s).eu = s.eu ∧ (setShaker l b s).beu = s.beu ∧ (setShaker l b s).sc = s.sc ∧
    (setShaker l b s).rt = s.rt ∧ (setShaker l b s).lic = s.lic ∧ (setShaker l b s).mbc = s.mbc ∧
    (setShaker l b s).tsc = s.tsc ∧ (setShaker l b s).cc = s.cc ∧ (setShaker l b s).ama = s.ama ∧
    (setShaker l b s).lsc = s.lsc ∧ (setShaker l b s).ft = s.ft ∧ (setShaker l b s).tu = s.tu ∧
    (setShaker l b s).rs = s.rs ∧ (setShaker l b s).cal = s.cal ∧ (setShaker l b s).ml = s.ml := by
  simp only [setShaker]; (repeat' split) <;> simp
@[simp] theorem setShaker_reported (l : Lane) (b : Bool) {key : ReportKey} {s : State} (h : Reported key s) :
    Reported key (setShaker l b s) := by
  simp only [setShaker]; (repeat' split) <;> simp +contextual (maxDischargeDepth := 40) [h]
@[simp] theorem setInfeed_keeps (l : Lane) (b : Bool) (s : State) :
    (setInfeed l b s).pending = s.pending ∧ (setInfeed l b s).freeCount = s.freeCount ∧
    (setInfeed l b s).pins = s.pins ∧ (setInfeed l b s).params = s.params ∧ (setInfeed l b s).tt = s.tt ∧
    (setInfeed l b s).eu = s.eu ∧ (setInfeed l b s).beu = s.beu ∧ (setInfeed l b s).sc = s.sc ∧
    (setInfeed l b s).rt = s.rt ∧ (setInfeed l b s).lic = s.lic ∧ (setInfeed l b s).mbc = s.mbc ∧
    (setInfeed l b s).tsc = s.tsc ∧ (setInfeed l b s).cc = s.cc ∧ (setInfeed l b s).ama = s.ama ∧
    (setInfeed l b s).lsc = s.lsc ∧ (setInfeed l b s).ft = s.ft ∧ (setInfeed l b s).tu = s.tu ∧
    (setInfeed l b s).rs = s.rs ∧ (setInfeed l b s).cal = s.cal ∧ (setInfeed l b s).ml = s.ml := by
  simp only [setInfeed]; (repeat' split) <;> simp
@[simp] theorem setInfeed_reported (l : Lane) (b : Bool) {key : ReportKey} {s : State} (h : Reported key s) :
    Reported key (setInfeed l b s) := by
  simp only [setInfeed]; (repeat' split) <;> simp +contextual (maxDischargeDepth := 40) [h]
@[simp] theorem setFlap_keeps (b : Bool) (s : State) :
    (setFlap b s).pending = s.pending ∧ (setFlap b s).freeCount = s.freeCount ∧ (setFlap b s).pins = s.pins ∧
    (setFlap b s).params = s.params ∧ (setFlap b s).tt = s.tt ∧ (setFlap b s).eu = s.eu ∧ (setFlap b s).beu = s.beu ∧
    (setFlap b s).sc = s.sc ∧ (setFlap b s).rt = s.rt ∧ (setFlap b s).lic = s.lic ∧ (setFlap b s).mbc = s.mbc ∧
    (setFlap b s).tsc = s.tsc ∧ (setFlap b s).cc = s.cc ∧ (setFlap b s).ama = s.ama ∧ (setFlap b s).lsc = s.lsc ∧
    (setFlap b s).ft = s.ft ∧ (setFlap b s).tu = s.tu ∧ (setFlap b s).rs = s.rs ∧ (setFlap b s).cal = s.cal ∧
    (setFlap b s).ml = s.ml := by
  simp only [setFlap]; (repeat' split) <;> simp
@[simp] theorem setFlap_reported (b : Bool) {key : ReportKey} {s : State} (h : Reported key s) :
    Reported key (setFlap b s) := by
  simp only [setFlap]; (repeat' split) <;> simp +contextual (maxDischargeDepth := 40) [h]
@[simp] theorem setTyer_keeps (b : Bool) (s : State) :
    (setTyer b s).pending = s.pending ∧ (setTyer b s).freeCount = s.freeCount ∧ (setTyer b s).pins = s.pins ∧
    (setTyer b s).params = s.params ∧ (setTyer b s).tt = s.tt ∧ (setTyer b s).eu = s.eu ∧ (setTyer b s).beu = s.beu ∧
    (setTyer b s).sc = s.sc ∧ (setTyer b s).rt = s.rt ∧ (setTyer b s).lic = s.lic ∧ (setTyer b s).mbc = s.mbc ∧
    (setTyer b s).tsc = s.tsc ∧ (setTyer b s).cc = s.cc ∧ (setTyer b s).ama = s.ama ∧ (setTyer b s).lsc = s.lsc ∧
    (setTyer b s).ft = s.ft ∧ (setTyer b s).tu = s.tu ∧ (setTyer b s).rs = s.rs ∧ (setTyer b s).cal = s.cal ∧
    (setTyer b s).ml = s.ml := by
  simp only [setTyer]; (repeat' split) <;> simp
@[simp] theorem setTyer_reported (b : Bool) {key : ReportKey} {s : State} (h : Reported key s) :
    Reported key (setTyer b s) := by
  simp only [setTyer]; (repeat' split) <;> simp +contextual (maxDischargeDepth := 40) [h]
@[simp] theorem setBagBlast_keeps (b : Bool) (s : State) :
    (setBagBlast b s).pending = s.pending ∧ (setBagBlast b s).freeCount = s.freeCount ∧
    (setBagBlast b s).pins = s.pins ∧ (setBagBlast b s).params = s.params ∧ (setBagBlast b s).tt = s.tt ∧
    (setBagBlast b s).eu = s.eu ∧ (setBagBlast b s).beu = s.beu ∧ (setBagBlast b s).sc = s.sc ∧
    (setBagBlast b s).rt = s.rt ∧ (setBagBlast b s).lic = s.lic ∧ (setBagBlast b s).mbc = s.mbc ∧
    (setBagBlast b s).tsc = s.tsc ∧ (setBagBlast b s).cc = s.cc ∧ (setBagBlast b s).ama = s.ama ∧
    (setBagBlast b s).lsc = s.lsc ∧ (setBagBlast b s).ft = s.ft ∧ (setBagBlast b s).tu = s.tu ∧
    (setBagBlast b s).rs = s.rs ∧ (setBagBlast b s).cal = s.cal ∧ (setBagBlast b s).ml = s.ml := by
  simp only [setBagBlast]; (repeat' split) <;> simp
@[simp] theorem setBagBlast_reported (b : Bool) {key : ReportKey} {s : State} (h : Reported key s) :
    Reported key (setBagBlast b s) := by
  simp only [setBagBlast]; (repeat' split) <;> simp +contextual (maxDischargeDepth := 40) [h]
@[simp] theorem setPurge_keeps (b : Bool) (s : State) :
    (setPurge b s).pending = s.pending ∧ (setPurge b s).freeCount = s.freeCount ∧ (setPurge b s).pins = s.pins ∧
    (setPurge b s).params = s.params ∧ (setPurge b s).tt = s.tt ∧ (setPurge b s).eu = s.eu ∧
    (setPurge b s).beu = s.beu ∧ (setPurge b s).sc = s.sc ∧ (setPurge b s).rt = s.rt ∧ (setPurge b s).lic = s.lic ∧
    (setPurge b s).mbc = s.mbc ∧ (setPurge b s).tsc = s.tsc ∧ (setPurge b s).cc = s.cc ∧ (setPurge b s).ama = s.ama ∧
    (setPurge b s).lsc = s.lsc ∧ (setPurge b s).ft = s.ft ∧ (setPurge b s).tu = s.tu ∧ (setPurge b s).rs = s.rs ∧
    (setPurge b s).cal = s.cal ∧ (setPurge b s).ml = s.ml := by
  simp only [setPurge]; (repeat' split) <;> simp
@[simp] theorem setPurge_reported (b : Bool) {key : ReportKey} {s : State} (h : Reported key s) :
    Reported key (setPurge b s) := by
  simp only [setPurge]; (repeat' split) <;> simp +contextual (maxDischargeDepth := 40) [h]
@[simp] theorem setPrinter_keeps (code : Option (List Byte)) (s : State) :
    (setPrinter code s).pending = s.pending ∧ (setPrinter code s).freeCount = s.freeCount ∧
    (setPrinter code s).pins = s.pins ∧ (setPrinter code s).params = s.params ∧ (setPrinter code s).tt = s.tt ∧
    (setPrinter code s).eu = s.eu ∧ (setPrinter code s).beu = s.beu ∧ (setPrinter code s).sc = s.sc ∧
    (setPrinter code s).rt = s.rt ∧ (setPrinter code s).lic = s.lic ∧ (setPrinter code s).mbc = s.mbc ∧
    (setPrinter code s).tsc = s.tsc ∧ (setPrinter code s).cc = s.cc ∧ (setPrinter code s).ama = s.ama ∧
    (setPrinter code s).lsc = s.lsc ∧ (setPrinter code s).ft = s.ft ∧ (setPrinter code s).tu = s.tu ∧
    (setPrinter code s).rs = s.rs ∧ (setPrinter code s).cal = s.cal ∧ (setPrinter code s).ml = s.ml := by
  simp only [setPrinter]; (repeat' split) <;> simp
@[simp] theorem setPrinter_reported (code : Option (List Byte)) {key : ReportKey} {s : State} (h : Reported key s) :
    Reported key (setPrinter code s) := by
  simp only [setPrinter]; (repeat' split) <;> simp +contextual (maxDischargeDepth := 40) [h]
@[simp] theorem setConveyors_keeps (b : Bool) (s : State) :
    (setConveyors b s).pending = s.pending ∧ (setConveyors b s).freeCount = s.freeCount ∧
    (setConveyors b s).pins = s.pins ∧ (setConveyors b s).params = s.params ∧ (setConveyors b s).tt = s.tt ∧
    (setConveyors b s).eu = s.eu ∧ (setConveyors b s).beu = s.beu ∧ (setConveyors b s).sc = s.sc ∧
    (setConveyors b s).rt = s.rt ∧ (setConveyors b s).lic = s.lic ∧ (setConveyors b s).mbc = s.mbc ∧
    (setConveyors b s).tsc = s.tsc ∧ (setConveyors b s).cc = s.cc ∧ (setConveyors b s).ama = s.ama ∧
    (setConveyors b s).lsc = s.lsc ∧ (setConveyors b s).ft = s.ft ∧ (setConveyors b s).tu = s.tu ∧
    (setConveyors b s).rs = s.rs ∧ (setConveyors b s).cal = s.cal ∧ (setConveyors b s).ml = s.ml := by
  simp only [setConveyors]; (repeat' split) <;> simp
@[simp] theorem setConveyors_reported (b : Bool) {key : ReportKey} {s : State} (h : Reported key s) :
    Reported key (setConveyors b s) := by
  simp only [setConveyors]; (repeat' split) <;> simp +contextual (maxDischargeDepth := 40) [h]
@[simp] theorem dropOutputs_keeps (s : State) :
    (dropOutputs s).pending = s.pending ∧ (dropOutputs s).freeCount = s.freeCount ∧ (dropOutputs s).pins = s.pins ∧
    (dropOutputs s).params = s.params ∧ (dropOutputs s).tt = s.tt ∧ (dropOutputs s).eu = s.eu ∧
    (dropOutputs s).beu = s.beu ∧ (dropOutputs s).sc = s.sc ∧ (dropOutputs s).rt = s.rt ∧
    (dropOutputs s).lic = s.lic ∧ (dropOutputs s).mbc = s.mbc ∧ (dropOutputs s).tsc = s.tsc ∧
    (dropOutputs s).cc = s.cc ∧ (dropOutputs s).ama = s.ama ∧ (dropOutputs s).lsc = s.lsc ∧
    (dropOutputs s).ft = s.ft ∧ (dropOutputs s).tu = s.tu ∧ (dropOutputs s).rs = s.rs ∧ (dropOutputs s).cal = s.cal ∧
    (dropOutputs s).ml = s.ml := by
  simp only [dropOutputs]; (repeat' split) <;> simp
@[simp] theorem dropOutputs_reported {key : ReportKey} {s : State} (h : Reported key s) :
    Reported key (dropOutputs s) := by
  simp only [dropOutputs]; (repeat' split) <;> simp +contextual (maxDischargeDepth := 40) [h]
@[simp] theorem inputTaken_keeps (k : FaultKind) (was : Bool) (now : Bool) (s : State) :
    (inputTaken k was now s).pending = s.pending ∧ (inputTaken k was now s).freeCount = s.freeCount ∧
    (inputTaken k was now s).pins = s.pins ∧ (inputTaken k was now s).params = s.params ∧
    (inputTaken k was now s).tt = s.tt ∧ (inputTaken k was now s).eu = s.eu ∧ (inputTaken k was now s).beu = s.beu ∧
    (inputTaken k was now s).sc = s.sc ∧ (inputTaken k was now s).rt = s.rt ∧ (inputTaken k was now s).mbc = s.mbc ∧
    (inputTaken k was now s).tsc = s.tsc ∧ (inputTaken k was now s).cc = s.cc ∧ (inputTaken k was now s).ama = s.ama ∧
    (inputTaken k was now s).lsc = s.lsc ∧ (inputTaken k was now s).dou = s.dou ∧ (inputTaken k was now s).rs = s.rs ∧
    (inputTaken k was now s).cal = s.cal ∧ (inputTaken k was now s).ml.strap = s.ml.strap ∧
    (inputTaken k was now s).ml.fifo = s.ml.fifo ∧ (inputTaken k was now s).ml.rdy = s.ml.rdy ∧
    (inputTaken k was now s).ml.assembler = s.ml.assembler ∧ (inputTaken k was now s).ml.gap = s.ml.gap ∧
    (inputTaken k was now s).ml.replies = s.ml.replies ∧ (inputTaken k was now s).ml.tx = s.ml.tx ∧
    (inputTaken k was now s).ml.noticeCrc = s.ml.noticeCrc ∧
    (inputTaken k was now s).ml.noticeTimeout = s.ml.noticeTimeout ∧
    (inputTaken k was now s).ml.noticeOverrun = s.ml.noticeOverrun ∧
    (inputTaken k was now s).ml.restartPending = s.ml.restartPending := by
  simp only [inputTaken]; (repeat' split) <;> simp
@[simp] theorem inputTaken_reported (k : FaultKind) (was : Bool) (now : Bool) {key : ReportKey} {s : State} (h : Reported key s) :
    Reported key (inputTaken k was now s) := by
  simp only [inputTaken]; (repeat' split) <;> simp +contextual (maxDischargeDepth := 40) [h]
@[simp] theorem evalBagLow_keeps (s : State) :
    (evalBagLow s).pending = s.pending ∧ (evalBagLow s).freeCount = s.freeCount ∧ (evalBagLow s).pins = s.pins ∧
    (evalBagLow s).params = s.params ∧ (evalBagLow s).tt = s.tt ∧ (evalBagLow s).eu = s.eu ∧
    (evalBagLow s).beu = s.beu ∧ (evalBagLow s).sc = s.sc ∧ (evalBagLow s).rt = s.rt ∧ (evalBagLow s).tsc = s.tsc ∧
    (evalBagLow s).cc = s.cc ∧ (evalBagLow s).ama = s.ama ∧ (evalBagLow s).lsc = s.lsc ∧ (evalBagLow s).dou = s.dou ∧
    (evalBagLow s).rs = s.rs ∧ (evalBagLow s).cal = s.cal ∧ (evalBagLow s).ml.strap = s.ml.strap ∧
    (evalBagLow s).ml.fifo = s.ml.fifo ∧ (evalBagLow s).ml.rdy = s.ml.rdy ∧
    (evalBagLow s).ml.assembler = s.ml.assembler ∧ (evalBagLow s).ml.gap = s.ml.gap ∧
    (evalBagLow s).ml.replies = s.ml.replies ∧ (evalBagLow s).ml.tx = s.ml.tx ∧
    (evalBagLow s).ml.noticeCrc = s.ml.noticeCrc ∧ (evalBagLow s).ml.noticeTimeout = s.ml.noticeTimeout ∧
    (evalBagLow s).ml.noticeOverrun = s.ml.noticeOverrun ∧
    (evalBagLow s).ml.restartPending = s.ml.restartPending := by
  simp only [evalBagLow]; (repeat' split) <;> simp
@[simp] theorem evalBagLow_reported {key : ReportKey} {s : State} (h : Reported key s) :
    Reported key (evalBagLow s) := by
  simp only [evalBagLow]; (repeat' split) <;> simp +contextual (maxDischargeDepth := 40) [h]
@[simp] theorem evalClipLow_keeps (s : State) :
    (evalClipLow s).pending = s.pending ∧ (evalClipLow s).freeCount = s.freeCount ∧ (evalClipLow s).pins = s.pins ∧
    (evalClipLow s).params = s.params ∧ (evalClipLow s).tt = s.tt ∧ (evalClipLow s).eu = s.eu ∧
    (evalClipLow s).beu = s.beu ∧ (evalClipLow s).sc = s.sc ∧ (evalClipLow s).rt = s.rt ∧
    (evalClipLow s).mbc = s.mbc ∧ (evalClipLow s).cc = s.cc ∧ (evalClipLow s).ama = s.ama ∧
    (evalClipLow s).lsc = s.lsc ∧ (evalClipLow s).dou = s.dou ∧ (evalClipLow s).rs = s.rs ∧
    (evalClipLow s).cal = s.cal ∧ (evalClipLow s).ml.strap = s.ml.strap ∧ (evalClipLow s).ml.fifo = s.ml.fifo ∧
    (evalClipLow s).ml.rdy = s.ml.rdy ∧ (evalClipLow s).ml.assembler = s.ml.assembler ∧
    (evalClipLow s).ml.gap = s.ml.gap ∧ (evalClipLow s).ml.replies = s.ml.replies ∧ (evalClipLow s).ml.tx = s.ml.tx ∧
    (evalClipLow s).ml.noticeCrc = s.ml.noticeCrc ∧ (evalClipLow s).ml.noticeTimeout = s.ml.noticeTimeout ∧
    (evalClipLow s).ml.noticeOverrun = s.ml.noticeOverrun ∧
    (evalClipLow s).ml.restartPending = s.ml.restartPending := by
  simp only [evalClipLow]; (repeat' split) <;> simp
@[simp] theorem evalClipLow_reported {key : ReportKey} {s : State} (h : Reported key s) :
    Reported key (evalClipLow s) := by
  simp only [evalClipLow]; (repeat' split) <;> simp +contextual (maxDischargeDepth := 40) [h]
@[simp] theorem setBagCount_keeps (n : Nat) (s : State) :
    (setBagCount n s).pending = s.pending ∧ (setBagCount n s).freeCount = s.freeCount ∧
    (setBagCount n s).pins = s.pins ∧ (setBagCount n s).params = s.params ∧ (setBagCount n s).tt = s.tt ∧
    (setBagCount n s).eu = s.eu ∧ (setBagCount n s).beu = s.beu ∧ (setBagCount n s).sc = s.sc ∧
    (setBagCount n s).rt = s.rt ∧ (setBagCount n s).tsc = s.tsc ∧ (setBagCount n s).cc = s.cc ∧
    (setBagCount n s).ama = s.ama ∧ (setBagCount n s).lsc = s.lsc ∧ (setBagCount n s).dou = s.dou ∧
    (setBagCount n s).rs = s.rs ∧ (setBagCount n s).cal = s.cal ∧ (setBagCount n s).ml.strap = s.ml.strap ∧
    (setBagCount n s).ml.fifo = s.ml.fifo ∧ (setBagCount n s).ml.rdy = s.ml.rdy ∧
    (setBagCount n s).ml.assembler = s.ml.assembler ∧ (setBagCount n s).ml.gap = s.ml.gap ∧
    (setBagCount n s).ml.replies = s.ml.replies ∧ (setBagCount n s).ml.tx = s.ml.tx ∧
    (setBagCount n s).ml.noticeCrc = s.ml.noticeCrc ∧ (setBagCount n s).ml.noticeTimeout = s.ml.noticeTimeout ∧
    (setBagCount n s).ml.noticeOverrun = s.ml.noticeOverrun ∧
    (setBagCount n s).ml.restartPending = s.ml.restartPending := by
  simp only [setBagCount]; (repeat' split) <;> simp
@[simp] theorem setBagCount_reported (n : Nat) {key : ReportKey} {s : State} (h : Reported key s) :
    Reported key (setBagCount n s) := by
  simp only [setBagCount]; (repeat' split) <;> simp +contextual (maxDischargeDepth := 40) [h]
@[simp] theorem setClipCount_keeps (n : Nat) (s : State) :
    (setClipCount n s).pending = s.pending ∧ (setClipCount n s).freeCount = s.freeCount ∧
    (setClipCount n s).pins = s.pins ∧ (setClipCount n s).params = s.params ∧ (setClipCount n s).tt = s.tt ∧
    (setClipCount n s).eu = s.eu ∧ (setClipCount n s).beu = s.beu ∧ (setClipCount n s).sc = s.sc ∧
    (setClipCount n s).rt = s.rt ∧ (setClipCount n s).mbc = s.mbc ∧ (setClipCount n s).cc = s.cc ∧
    (setClipCount n s).ama = s.ama ∧ (setClipCount n s).lsc = s.lsc ∧ (setClipCount n s).dou = s.dou ∧
    (setClipCount n s).rs = s.rs ∧ (setClipCount n s).cal = s.cal ∧ (setClipCount n s).ml.strap = s.ml.strap ∧
    (setClipCount n s).ml.fifo = s.ml.fifo ∧ (setClipCount n s).ml.rdy = s.ml.rdy ∧
    (setClipCount n s).ml.assembler = s.ml.assembler ∧ (setClipCount n s).ml.gap = s.ml.gap ∧
    (setClipCount n s).ml.replies = s.ml.replies ∧ (setClipCount n s).ml.tx = s.ml.tx ∧
    (setClipCount n s).ml.noticeCrc = s.ml.noticeCrc ∧ (setClipCount n s).ml.noticeTimeout = s.ml.noticeTimeout ∧
    (setClipCount n s).ml.noticeOverrun = s.ml.noticeOverrun ∧
    (setClipCount n s).ml.restartPending = s.ml.restartPending := by
  simp only [setClipCount]; (repeat' split) <;> simp
@[simp] theorem setClipCount_reported (n : Nat) {key : ReportKey} {s : State} (h : Reported key s) :
    Reported key (setClipCount n s) := by
  simp only [setClipCount]; (repeat' split) <;> simp +contextual (maxDischargeDepth := 40) [h]
@[simp] theorem setWaiting_keeps (r : Requester) (c : Option AirChannel) (s : State) :
    (setWaiting r c s).pending = s.pending ∧ (setWaiting r c s).freeCount = s.freeCount ∧
    (setWaiting r c s).pins = s.pins ∧ (setWaiting r c s).params = s.params ∧ (setWaiting r c s).tt = s.tt ∧
    (setWaiting r c s).eu = s.eu ∧ (setWaiting r c s).beu = s.beu ∧ (setWaiting r c s).sc = s.sc ∧
    (setWaiting r c s).rt = s.rt ∧ (setWaiting r c s).lic = s.lic ∧ (setWaiting r c s).mbc = s.mbc ∧
    (setWaiting r c s).tsc = s.tsc ∧ (setWaiting r c s).cc = s.cc ∧ (setWaiting r c s).lsc = s.lsc ∧
    (setWaiting r c s).dou = s.dou ∧ (setWaiting r c s).ft = s.ft ∧ (setWaiting r c s).tu = s.tu ∧
    (setWaiting r c s).rs = s.rs ∧ (setWaiting r c s).cal = s.cal ∧ (setWaiting r c s).ml = s.ml := by
  simp only [setWaiting]; (repeat' split) <;> simp
@[simp] theorem setWaiting_reported (r : Requester) (c : Option AirChannel) {key : ReportKey} {s : State} (h : Reported key s) :
    Reported key (setWaiting r c s) := by
  simp only [setWaiting]; (repeat' split) <;> simp +contextual (maxDischargeDepth := 40) [h]
@[simp] theorem setHolder_keeps (c : AirChannel) (r : Option Requester) (s : State) :
    (setHolder c r s).pending = s.pending ∧ (setHolder c r s).freeCount = s.freeCount ∧
    (setHolder c r s).pins = s.pins ∧ (setHolder c r s).params = s.params ∧ (setHolder c r s).tt = s.tt ∧
    (setHolder c r s).eu = s.eu ∧ (setHolder c r s).beu = s.beu ∧ (setHolder c r s).sc = s.sc ∧
    (setHolder c r s).rt = s.rt ∧ (setHolder c r s).lic = s.lic ∧ (setHolder c r s).mbc = s.mbc ∧
    (setHolder c r s).tsc = s.tsc ∧ (setHolder c r s).cc = s.cc ∧ (setHolder c r s).lsc = s.lsc ∧
    (setHolder c r s).dou = s.dou ∧ (setHolder c r s).ft = s.ft ∧ (setHolder c r s).tu = s.tu ∧
    (setHolder c r s).rs = s.rs ∧ (setHolder c r s).cal = s.cal ∧ (setHolder c r s).ml = s.ml := by
  simp only [setHolder]; (repeat' split) <;> simp
@[simp] theorem setHolder_reported (c : AirChannel) (r : Option Requester) {key : ReportKey} {s : State} (h : Reported key s) :
    Reported key (setHolder c r s) := by
  simp only [setHolder]; (repeat' split) <;> simp +contextual (maxDischargeDepth := 40) [h]
@[simp] theorem enterBlowing_keeps (l : Lane) (shakerOnly : Bool) (s : State) :
    (enterBlowing l shakerOnly s).pending = s.pending ∧ (enterBlowing l shakerOnly s).freeCount = s.freeCount ∧
    (enterBlowing l shakerOnly s).pins = s.pins ∧ (enterBlowing l shakerOnly s).params = s.params ∧
    (enterBlowing l shakerOnly s).tt = s.tt ∧ (enterBlowing l shakerOnly s).eu = s.eu ∧
    (enterBlowing l shakerOnly s).beu = s.beu ∧ (enterBlowing l shakerOnly s).sc = s.sc ∧
    (enterBlowing l shakerOnly s).rt = s.rt ∧ (enterBlowing l shakerOnly s).lic = s.lic ∧
    (enterBlowing l shakerOnly s).mbc = s.mbc ∧ (enterBlowing l shakerOnly s).tsc = s.tsc ∧
    (enterBlowing l shakerOnly s).ama = s.ama ∧ (enterBlowing l shakerOnly s).lsc = s.lsc ∧
    (enterBlowing l shakerOnly s).ft = s.ft ∧ (enterBlowing l shakerOnly s).tu = s.tu ∧
    (enterBlowing l shakerOnly s).rs = s.rs ∧ (enterBlowing l shakerOnly s).cal = s.cal ∧
    (enterBlowing l shakerOnly s).ml = s.ml := by
  simp only [enterBlowing]; (repeat' split) <;> simp
@[simp] theorem enterBlowing_reported (l : Lane) (shakerOnly : Bool) {key : ReportKey} {s : State} (h : Reported key s) :
    Reported key (enterBlowing l shakerOnly s) := by
  simp only [enterBlowing]; (repeat' split) <;> simp +contextual (maxDischargeDepth := 40) [h]
@[simp] theorem openBag_keeps (s : State) :
    (openBag s).pending = s.pending ∧ (openBag s).freeCount = s.freeCount ∧ (openBag s).pins = s.pins ∧
    (openBag s).params = s.params ∧ (openBag s).tt = s.tt ∧ (openBag s).eu = s.eu ∧ (openBag s).beu = s.beu ∧
    (openBag s).sc = s.sc ∧ (openBag s).rt = s.rt ∧ (openBag s).tsc = s.tsc ∧ (openBag s).cc = s.cc ∧
    (openBag s).ama = s.ama ∧ (openBag s).lsc = s.lsc ∧ (openBag s).rs = s.rs ∧ (openBag s).cal = s.cal ∧
    (openBag s).ml.strap = s.ml.strap ∧ (openBag s).ml.fifo = s.ml.fifo ∧ (openBag s).ml.rdy = s.ml.rdy ∧
    (openBag s).ml.assembler = s.ml.assembler ∧ (openBag s).ml.gap = s.ml.gap ∧
    (openBag s).ml.replies = s.ml.replies ∧ (openBag s).ml.tx = s.ml.tx ∧ (openBag s).ml.noticeCrc = s.ml.noticeCrc ∧
    (openBag s).ml.noticeTimeout = s.ml.noticeTimeout ∧ (openBag s).ml.noticeOverrun = s.ml.noticeOverrun ∧
    (openBag s).ml.restartPending = s.ml.restartPending := by
  simp only [openBag]; (repeat' split) <;> simp
@[simp] theorem openBag_reported {key : ReportKey} {s : State} (h : Reported key s) :
    Reported key (openBag s) := by
  simp only [openBag]; (repeat' split) <;> simp +contextual (maxDischargeDepth := 40) [h]
@[simp] theorem waitForBags_keeps (s : State) :
    (waitForBags s).pending = s.pending ∧ (waitForBags s).freeCount = s.freeCount ∧ (waitForBags s).pins = s.pins ∧
    (waitForBags s).params = s.params ∧ (waitForBags s).tt = s.tt ∧ (waitForBags s).eu = s.eu ∧
    (waitForBags s).beu = s.beu ∧ (waitForBags s).sc = s.sc ∧ (waitForBags s).rt = s.rt ∧
    (waitForBags s).tsc = s.tsc ∧ (waitForBags s).cc = s.cc ∧ (waitForBags s).ama = s.ama ∧
    (waitForBags s).lsc = s.lsc ∧ (waitForBags s).dou = s.dou ∧ (waitForBags s).rs = s.rs ∧
    (waitForBags s).cal = s.cal ∧ (waitForBags s).ml.strap = s.ml.strap ∧ (waitForBags s).ml.fifo = s.ml.fifo ∧
    (waitForBags s).ml.rdy = s.ml.rdy ∧ (waitForBags s).ml.assembler = s.ml.assembler ∧
    (waitForBags s).ml.gap = s.ml.gap ∧ (waitForBags s).ml.replies = s.ml.replies ∧ (waitForBags s).ml.tx = s.ml.tx ∧
    (waitForBags s).ml.noticeCrc = s.ml.noticeCrc ∧ (waitForBags s).ml.noticeTimeout = s.ml.noticeTimeout ∧
    (waitForBags s).ml.noticeOverrun = s.ml.noticeOverrun ∧
    (waitForBags s).ml.restartPending = s.ml.restartPending := by
  simp only [waitForBags]; (repeat' split) <;> simp
@[simp] theorem waitForBags_reported {key : ReportKey} {s : State} (h : Reported key s) :
    Reported key (waitForBags s) := by
  simp only [waitForBags]; (repeat' split) <;> simp +contextual (maxDischargeDepth := 40) [h]
@[simp] theorem startPurge_keeps (s : State) :
    (startPurge s).pending = s.pending ∧ (startPurge s).freeCount = s.freeCount ∧ (startPurge s).pins = s.pins ∧
    (startPurge s).params = s.params ∧ (startPurge s).tt = s.tt ∧ (startPurge s).eu = s.eu ∧
    (startPurge s).beu = s.beu ∧ (startPurge s).sc = s.sc ∧ (startPurge s).rt = s.rt ∧ (startPurge s).lic = s.lic ∧
    (startPurge s).mbc = s.mbc ∧ (startPurge s).cc = s.cc ∧ (startPurge s).ama = s.ama ∧ (startPurge s).lsc = s.lsc ∧
    (startPurge s).ft = s.ft ∧ (startPurge s).tu = s.tu ∧ (startPurge s).rs = s.rs ∧ (startPurge s).cal = s.cal ∧
    (startPurge s).ml = s.ml := by
  simp only [startPurge]; (repeat' split) <;> simp
@[simp] theorem startPurge_reported {key : ReportKey} {s : State} (h : Reported key s) :
    Reported key (startPurge s) := by
  simp only [startPurge]; (repeat' split) <;> simp +contextual (maxDischargeDepth := 40) [h]
@[simp] theorem becomeHolder_keeps (r : Requester) (c : AirChannel) (s : State) :
    (becomeHolder r c s).pending = s.pending ∧ (becomeHolder r c s).freeCount = s.freeCount ∧
    (becomeHolder r c s).pins = s.pins ∧ (becomeHolder r c s).params = s.params ∧ (becomeHolder r c s).tt = s.tt ∧
    (becomeHolder r c s).eu = s.eu ∧ (becomeHolder r c s).beu = s.beu ∧ (becomeHolder r c s).sc = s.sc ∧
    (becomeHolder r c s).rt = s.rt ∧ (becomeHolder r c s).lic = s.lic ∧ (becomeHolder r c s).mbc = s.mbc ∧
    (becomeHolder r c s).tsc = s.tsc ∧ (becomeHolder r c s).cc = s.cc ∧ (becomeHolder r c s).lsc = s.lsc ∧
    (becomeHolder r c s).dou = s.dou ∧ (becomeHolder r c s).ft = s.ft ∧ (becomeHolder r c s).tu = s.tu ∧
    (becomeHolder r c s).rs = s.rs ∧ (becomeHolder r c s).cal = s.cal ∧ (becomeHolder r c s).ml = s.ml := by
  simp only [becomeHolder]; (repeat' split) <;> simp
@[simp] theorem becomeHolder_reported (r : Requester) (c : AirChannel) {key : ReportKey} {s : State} (h : Reported key s) :
    Reported key (becomeHolder r c s) := by
  simp only [becomeHolder]; (repeat' split) <;> simp +contextual (maxDischargeDepth := 40) [h]
@[simp] theorem grantOther_keeps (r : Requester) (c : AirChannel) (s : State) :
    (grantOther r c s).pending = s.pending ∧ (grantOther r c s).freeCount = s.freeCount ∧
    (grantOther r c s).pins = s.pins ∧ (grantOther r c s).params = s.params ∧ (grantOther r c s).tt = s.tt ∧
    (grantOther r c s).eu = s.eu ∧ (grantOther r c s).beu = s.beu ∧ (grantOther r c s).sc = s.sc ∧
    (grantOther r c s).rt = s.rt ∧ (grantOther r c s).lic = s.lic ∧ (grantOther r c s).mbc = s.mbc ∧
    (grantOther r c s).lsc = s.lsc ∧ (grantOther r c s).ft = s.ft ∧ (grantOther r c s).tu = s.tu ∧
    (grantOther r c s).rs = s.rs ∧ (grantOther r c s).cal = s.cal ∧ (grantOther r c s).ml = s.ml := by
  simp only [grantOther]; (repeat' split) <;> simp
@[simp] theorem grantOther_reported (r : Requester) (c : AirChannel) {key : ReportKey} {s : State} (h : Reported key s) :
    Reported key (grantOther r c s) := by
  simp only [grantOther]; (repeat' split) <;> simp +contextual (maxDischargeDepth := 40) [h]
@[simp] theorem grantAfterBag_keeps (c : AirChannel) (s : State) :
    (grantAfterBag c s).pending = s.pending ∧ (grantAfterBag c s).freeCount = s.freeCount ∧
    (grantAfterBag c s).pins = s.pins ∧ (grantAfterBag c s).params = s.params ∧ (grantAfterBag c s).tt = s.tt ∧
    (grantAfterBag c s).eu = s.eu ∧ (grantAfterBag c s).beu = s.beu ∧ (grantAfterBag c s).sc = s.sc ∧
    (grantAfterBag c s).rt = s.rt ∧ (grantAfterBag c s).lic = s.lic ∧ (grantAfterBag c s).mbc = s.mbc ∧
    (grantAfterBag c s).lsc = s.lsc ∧ (grantAfterBag c s).ft = s.ft ∧ (grantAfterBag c s).tu = s.tu ∧
    (grantAfterBag c s).rs = s.rs ∧ (grantAfterBag c s).cal = s.cal ∧ (grantAfterBag c s).ml = s.ml := by
  simp only [grantAfterBag]; (repeat' split) <;> simp
@[simp] theorem grantAfterBag_reported (c : AirChannel) {key : ReportKey} {s : State} (h : Reported key s) :
    Reported key (grantAfterBag c s) := by
  simp only [grantAfterBag]; (repeat' split) <;> simp +contextual (maxDischargeDepth := 40) [h]
@[simp] theorem grantBag_keeps (c : AirChannel) (s : State) :
    (grantBag c s).pending = s.pending ∧ (grantBag c s).freeCount = s.freeCount ∧ (grantBag c s).pins = s.pins ∧
    (grantBag c s).params = s.params ∧ (grantBag c s).tt = s.tt ∧ (grantBag c s).eu = s.eu ∧
    (grantBag c s).beu = s.beu ∧ (grantBag c s).sc = s.sc ∧ (grantBag c s).rt = s.rt ∧ (grantBag c s).lsc = s.lsc ∧
    (grantBag c s).rs = s.rs ∧ (grantBag c s).cal = s.cal ∧ (grantBag c s).ml.strap = s.ml.strap ∧
    (grantBag c s).ml.fifo = s.ml.fifo ∧ (grantBag c s).ml.rdy = s.ml.rdy ∧
    (grantBag c s).ml.assembler = s.ml.assembler ∧ (grantBag c s).ml.gap = s.ml.gap ∧
    (grantBag c s).ml.replies = s.ml.replies ∧ (grantBag c s).ml.tx = s.ml.tx ∧
    (grantBag c s).ml.noticeCrc = s.ml.noticeCrc ∧ (grantBag c s).ml.noticeTimeout = s.ml.noticeTimeout ∧
    (grantBag c s).ml.noticeOverrun = s.ml.noticeOverrun ∧
    (grantBag c s).ml.restartPending = s.ml.restartPending := by
  simp only [grantBag]; (repeat' split) <;> simp
@[simp] theorem grantBag_reported (c : AirChannel) {key : ReportKey} {s : State} (h : Reported key s) :
    Reported key (grantBag c s) := by
  simp only [grantBag]; (repeat' split) <;> simp +contextual (maxDischargeDepth := 40) [h]
@[simp] theorem grantNext_keeps (c : AirChannel) (s : State) :
    (grantNext c s).pending = s.pending ∧ (grantNext c s).freeCount = s.freeCount ∧ (grantNext c s).pins = s.pins ∧
    (grantNext c s).params = s.params ∧ (grantNext c s).tt = s.tt ∧ (grantNext c s).eu = s.eu ∧
    (grantNext c s).beu = s.beu ∧ (grantNext c s).sc = s.sc ∧ (grantNext c s).rt = s.rt ∧
    (grantNext c s).lsc = s.lsc ∧ (grantNext c s).rs = s.rs ∧ (grantNext c s).cal = s.cal ∧
    (grantNext c s).ml.strap = s.ml.strap ∧ (grantNext c s).ml.fifo = s.ml.fifo ∧ (grantNext c s).ml.rdy = s.ml.rdy ∧
    (grantNext c s).ml.assembler = s.ml.assembler ∧ (grantNext c s).ml.gap = s.ml.gap ∧
    (grantNext c s).ml.replies = s.ml.replies ∧ (grantNext c s).ml.tx = s.ml.tx ∧
    (grantNext c s).ml.noticeCrc = s.ml.noticeCrc ∧ (grantNext c s).ml.noticeTimeout = s.ml.noticeTimeout ∧
    (grantNext c s).ml.noticeOverrun = s.ml.noticeOverrun ∧
    (grantNext c s).ml.restartPending = s.ml.restartPending := by
  simp only [grantNext]; (repeat' split) <;> simp
@[simp] theorem grantNext_reported (c : AirChannel) {key : ReportKey} {s : State} (h : Reported key s) :
    Reported key (grantNext c s) := by
  simp only [grantNext]; (repeat' split) <;> simp +contextual (maxDischargeDepth := 40) [h]
@[simp] theorem grantTo_keeps (r : Requester) (c : AirChannel) (s : State) :
    (grantTo r c s).pending = s.pending ∧ (grantTo r c s).freeCount = s.freeCount ∧ (grantTo r c s).pins = s.pins ∧
    (grantTo r c s).params = s.params ∧ (grantTo r c s).tt = s.tt ∧ (grantTo r c s).eu = s.eu ∧
    (grantTo r c s).beu = s.beu ∧ (grantTo r c s).sc = s.sc ∧ (grantTo r c s).rt = s.rt ∧
    (grantTo r c s).lsc = s.lsc ∧ (grantTo r c s).rs = s.rs ∧ (grantTo r c s).cal = s.cal ∧
    (grantTo r c s).ml.strap = s.ml.strap ∧ (grantTo r c s).ml.fifo = s.ml.fifo ∧ (grantTo r c s).ml.rdy = s.ml.rdy ∧
    (grantTo r c s).ml.assembler = s.ml.assembler ∧ (grantTo r c s).ml.gap = s.ml.gap ∧
    (grantTo r c s).ml.replies = s.ml.replies ∧ (grantTo r c s).ml.tx = s.ml.tx ∧
    (grantTo r c s).ml.noticeCrc = s.ml.noticeCrc ∧ (grantTo r c s).ml.noticeTimeout = s.ml.noticeTimeout ∧
    (grantTo r c s).ml.noticeOverrun = s.ml.noticeOverrun ∧
    (grantTo r c s).ml.restartPending = s.ml.restartPending := by
  simp only [grantTo]; (repeat' split) <;> simp
@[simp] theorem grantTo_reported (r : Requester) (c : AirChannel) {key : ReportKey} {s : State} (h : Reported key s) :
    Reported key (grantTo r c s) := by
  simp only [grantTo]; (repeat' split) <;> simp +contextual (maxDischargeDepth := 40) [h]
@[simp] theorem airRequest_keeps (r : Requester) (s : State) :
    (airRequest r s).pending = s.pending ∧ (airRequest r s).freeCount = s.freeCount ∧ (airRequest r s).pins = s.pins ∧
    (airRequest r s).params = s.params ∧ (airRequest r s).tt = s.tt ∧ (airRequest r s).eu = s.eu ∧
    (airRequest r s).beu = s.beu ∧ (airRequest r s).sc = s.sc ∧ (airRequest r s).rt = s.rt ∧
    (airRequest r s).lsc = s.lsc ∧ (airRequest r s).rs = s.rs ∧ (airRequest r s).cal = s.cal ∧
    (airRequest r s).ml.strap = s.ml.strap ∧ (airRequest r s).ml.fifo = s.ml.fifo ∧
    (airRequest r s).ml.rdy = s.ml.rdy ∧ (airRequest r s).ml.assembler = s.ml.assembler ∧
    (airRequest r s).ml.gap = s.ml.gap ∧ (airRequest r s).ml.replies = s.ml.replies ∧
    (airRequest r s).ml.tx = s.ml.tx ∧ (airRequest r s).ml.noticeCrc = s.ml.noticeCrc ∧
    (airRequest r s).ml.noticeTimeout = s.ml.noticeTimeout ∧ (airRequest r s).ml.noticeOverrun = s.ml.noticeOverrun ∧
    (airRequest r s).ml.restartPending = s.ml.restartPending := by
  simp only [airRequest]; (repeat' split) <;> simp
@[simp] theorem airRequest_reported (r : Requester) {key : ReportKey} {s : State} (h : Reported key s) :
    Reported key (airRequest r s) := by
  simp only [airRequest]; (repeat' split) <;> simp +contextual (maxDischargeDepth := 40) [h]
@[simp] theorem releaseChannel_keeps (c : AirChannel) (s : State) :
    (releaseChannel c s).pending = s.pending ∧ (releaseChannel c s).freeCount = s.freeCount ∧
    (releaseChannel c s).pins = s.pins ∧ (releaseChannel c s).params = s.params ∧ (releaseChannel c s).tt = s.tt ∧
    (releaseChannel c s).eu = s.eu ∧ (releaseChannel c s).beu = s.beu ∧ (releaseChannel c s).sc = s.sc ∧
    (releaseChannel c s).rt = s.rt ∧ (releaseChannel c s).lsc = s.lsc ∧ (releaseChannel c s).rs = s.rs ∧
    (releaseChannel c s).cal = s.cal ∧ (releaseChannel c s).ml.strap = s.ml.strap ∧
    (releaseChannel c s).ml.fifo = s.ml.fifo ∧ (releaseChannel c s).ml.rdy = s.ml.rdy ∧
    (releaseChannel c s).ml.assembler = s.ml.assembler ∧ (releaseChannel c s).ml.gap = s.ml.gap ∧
    (releaseChannel c s).ml.replies = s.ml.replies ∧ (releaseChannel c s).ml.tx = s.ml.tx ∧
    (releaseChannel c s).ml.noticeCrc = s.ml.noticeCrc ∧ (releaseChannel c s).ml.noticeTimeout = s.ml.noticeTimeout ∧
    (releaseChannel c s).ml.noticeOverrun = s.ml.noticeOverrun ∧
    (releaseChannel c s).ml.restartPending = s.ml.restartPending := by
  simp only [releaseChannel]; (repeat' split) <;> simp
@[simp] theorem releaseChannel_reported (c : AirChannel) {key : ReportKey} {s : State} (h : Reported key s) :
    Reported key (releaseChannel c s) := by
  simp only [releaseChannel]; (repeat' split) <;> simp +contextual (maxDischargeDepth := 40) [h]
@[simp] theorem airRelease_keeps (r : Requester) (s : State) :
    (airRelease r s).pending = s.pending ∧ (airRelease r s).freeCount = s.freeCount ∧ (airRelease r s).pins = s.pins ∧
    (airRelease r s).params = s.params ∧ (airRelease r s).tt = s.tt ∧ (airRelease r s).eu = s.eu ∧
    (airRelease r s).beu = s.beu ∧ (airRelease r s).sc = s.sc ∧ (airRelease r s).rt = s.rt ∧
    (airRelease r s).lsc = s.lsc ∧ (airRelease r s).rs = s.rs ∧ (airRelease r s).cal = s.cal ∧
    (airRelease r s).ml.strap = s.ml.strap ∧ (airRelease r s).ml.fifo = s.ml.fifo ∧
    (airRelease r s).ml.rdy = s.ml.rdy ∧ (airRelease r s).ml.assembler = s.ml.assembler ∧
    (airRelease r s).ml.gap = s.ml.gap ∧ (airRelease r s).ml.replies = s.ml.replies ∧
    (airRelease r s).ml.tx = s.ml.tx ∧ (airRelease r s).ml.noticeCrc = s.ml.noticeCrc ∧
    (airRelease r s).ml.noticeTimeout = s.ml.noticeTimeout ∧ (airRelease r s).ml.noticeOverrun = s.ml.noticeOverrun ∧
    (airRelease r s).ml.restartPending = s.ml.restartPending := by
  simp only [airRelease]; (repeat' split) <;> simp
@[simp] theorem airRelease_reported (r : Requester) {key : ReportKey} {s : State} (h : Reported key s) :
    Reported key (airRelease r s) := by
  simp only [airRelease]; (repeat' split) <;> simp +contextual (maxDischargeDepth := 40) [h]
@[simp] theorem airWithdraw_keeps (r : Requester) (s : State) :
    (airWithdraw r s).pending = s.pending ∧ (airWithdraw r s).freeCount = s.freeCount ∧
    (airWithdraw r s).pins = s.pins ∧ (airWithdraw r s).params = s.params ∧ (airWithdraw r s).tt = s.tt ∧
    (airWithdraw r s).eu = s.eu ∧ (airWithdraw r s).beu = s.beu ∧ (airWithdraw r s).sc = s.sc ∧
    (airWithdraw r s).rt = s.rt ∧ (airWithdraw r s).lsc = s.lsc ∧ (airWithdraw r s).rs = s.rs ∧
    (airWithdraw r s).cal = s.cal ∧ (airWithdraw r s).ml.strap = s.ml.strap ∧ (airWithdraw r s).ml.fifo = s.ml.fifo ∧
    (airWithdraw r s).ml.rdy = s.ml.rdy ∧ (airWithdraw r s).ml.assembler = s.ml.assembler ∧
    (airWithdraw r s).ml.gap = s.ml.gap ∧ (airWithdraw r s).ml.replies = s.ml.replies ∧
    (airWithdraw r s).ml.tx = s.ml.tx ∧ (airWithdraw r s).ml.noticeCrc = s.ml.noticeCrc ∧
    (airWithdraw r s).ml.noticeTimeout = s.ml.noticeTimeout ∧
    (airWithdraw r s).ml.noticeOverrun = s.ml.noticeOverrun ∧
    (airWithdraw r s).ml.restartPending = s.ml.restartPending := by
  simp only [airWithdraw]; (repeat' split) <;> simp
@[simp] theorem airWithdraw_reported (r : Requester) {key : ReportKey} {s : State} (h : Reported key s) :
    Reported key (airWithdraw r s) := by
  simp only [airWithdraw]; (repeat' split) <;> simp +contextual (maxDischargeDepth := 40) [h]
@[simp] theorem steer_keeps (r : Requester) (e : Steer) (s : State) :
    (steer r e s).pending = s.pending ∧ (steer r e s).freeCount = s.freeCount ∧ (steer r e s).pins = s.pins ∧
    (steer r e s).tt = s.tt ∧ (steer r e s).eu = s.eu ∧ (steer r e s).beu = s.beu ∧ (steer r e s).sc = s.sc ∧
    (steer r e s).rt = s.rt ∧ (steer r e s).lsc = s.lsc ∧ (steer r e s).rs = s.rs ∧ (steer r e s).cal = s.cal ∧
    (steer r e s).ml.strap = s.ml.strap ∧ (steer r e s).ml.fifo = s.ml.fifo ∧ (steer r e s).ml.rdy = s.ml.rdy ∧
    (steer r e s).ml.assembler = s.ml.assembler ∧ (steer r e s).ml.gap = s.ml.gap ∧
    (steer r e s).ml.replies = s.ml.replies ∧ (steer r e s).ml.tx = s.ml.tx ∧
    (steer r e s).ml.noticeCrc = s.ml.noticeCrc ∧ (steer r e s).ml.noticeTimeout = s.ml.noticeTimeout ∧
    (steer r e s).ml.noticeOverrun = s.ml.noticeOverrun ∧ (steer r e s).ml.restartPending = s.ml.restartPending := by
  simp only [steer]; (repeat' split) <;> simp
@[simp] theorem steer_reported (r : Requester) (e : Steer) {key : ReportKey} {s : State} (h : Reported key s) :
    Reported key (steer r e s) := by
  simp only [steer]; (repeat' split) <;> simp +contextual (maxDischargeDepth := 40) [h]
@[simp] theorem airPressure_keeps (result : Nat) (s : State) :
    (airPressure result s).pending = s.pending ∧ (airPressure result s).freeCount = s.freeCount ∧
    (airPressure result s).pins = s.pins ∧ (airPressure result s).params = s.params ∧
    (airPressure result s).tt = s.tt ∧ (airPressure result s).eu = s.eu ∧ (airPressure result s).beu = s.beu ∧
    (airPressure result s).sc = s.sc ∧ (airPressure result s).rt = s.rt ∧ (airPressure result s).lsc = s.lsc ∧
    (airPressure result s).rs = s.rs ∧ (airPressure result s).cal = s.cal ∧
    (airPressure result s).ml.strap = s.ml.strap ∧ (airPressure result s).ml.fifo = s.ml.fifo ∧
    (airPressure result s).ml.rdy = s.ml.rdy ∧ (airPressure result s).ml.assembler = s.ml.assembler ∧
    (airPressure result s).ml.gap = s.ml.gap ∧ (airPressure result s).ml.replies = s.ml.replies ∧
    (airPressure result s).ml.tx = s.ml.tx ∧ (airPressure result s).ml.noticeCrc = s.ml.noticeCrc ∧
    (airPressure result s).ml.noticeTimeout = s.ml.noticeTimeout ∧
    (airPressure result s).ml.noticeOverrun = s.ml.noticeOverrun ∧
    (airPressure result s).ml.restartPending = s.ml.restartPending := by
  simp only [airPressure]; (repeat' split) <;> simp
@[simp] theorem airPressure_reported (result : Nat) {key : ReportKey} {s : State} (h : Reported key s) :
    Reported key (airPressure result s) := by
  simp only [airPressure]; (repeat' split) <;> simp +contextual (maxDischargeDepth := 40) [h]
@[simp] theorem requestBag_keeps (s : State) :
    (requestBag s).pending = s.pending ∧ (requestBag s).freeCount = s.freeCount ∧ (requestBag s).pins = s.pins ∧
    (requestBag s).params = s.params ∧ (requestBag s).tt = s.tt ∧ (requestBag s).eu = s.eu ∧
    (requestBag s).beu = s.beu ∧ (requestBag s).sc = s.sc ∧ (requestBag s).rt = s.rt ∧ (requestBag s).lsc = s.lsc ∧
    (requestBag s).rs = s.rs ∧ (requestBag s).cal = s.cal ∧ (requestBag s).ml.strap = s.ml.strap ∧
    (requestBag s).ml.fifo = s.ml.fifo ∧ (requestBag s).ml.rdy = s.ml.rdy ∧
    (requestBag s).ml.assembler = s.ml.assembler ∧ (requestBag s).ml.gap = s.ml.gap ∧
    (requestBag s).ml.replies = s.ml.replies ∧ (requestBag s).ml.tx = s.ml.tx ∧
    (requestBag s).ml.noticeCrc = s.ml.noticeCrc ∧ (requestBag s).ml.noticeTimeout = s.ml.noticeTimeout ∧
    (requestBag s).ml.noticeOverrun = s.ml.noticeOverrun ∧
    (requestBag s).ml.restartPending = s.ml.restartPending := by
  simp only [requestBag]; (repeat' split) <;> simp
@[simp] theorem requestBag_reported {key : ReportKey} {s : State} (h : Reported key s) :
    Reported key (requestBag s) := by
  simp only [requestBag]; (repeat' split) <;> simp +contextual (maxDischargeDepth := 40) [h]
@[simp] theorem requestKnife_keeps (l : Lane) (s : State) :
    (requestKnife l s).pending = s.pending ∧ (requestKnife l s).freeCount = s.freeCount ∧
    (requestKnife l s).pins = s.pins ∧ (requestKnife l s).params = s.params ∧ (requestKnife l s).tt = s.tt ∧
    (requestKnife l s).eu = s.eu ∧ (requestKnife l s).beu = s.beu ∧ (requestKnife l s).sc = s.sc ∧
    (requestKnife l s).rt = s.rt ∧ (requestKnife l s).lsc = s.lsc ∧ (requestKnife l s).rs = s.rs ∧
    (requestKnife l s).cal = s.cal ∧ (requestKnife l s).ml.strap = s.ml.strap ∧
    (requestKnife l s).ml.fifo = s.ml.fifo ∧ (requestKnife l s).ml.rdy = s.ml.rdy ∧
    (requestKnife l s).ml.assembler = s.ml.assembler ∧ (requestKnife l s).ml.gap = s.ml.gap ∧
    (requestKnife l s).ml.replies = s.ml.replies ∧ (requestKnife l s).ml.tx = s.ml.tx ∧
    (requestKnife l s).ml.noticeCrc = s.ml.noticeCrc ∧ (requestKnife l s).ml.noticeTimeout = s.ml.noticeTimeout ∧
    (requestKnife l s).ml.noticeOverrun = s.ml.noticeOverrun ∧
    (requestKnife l s).ml.restartPending = s.ml.restartPending := by
  simp only [requestKnife]; (repeat' split) <;> simp
@[simp] theorem requestKnife_reported (l : Lane) {key : ReportKey} {s : State} (h : Reported key s) :
    Reported key (requestKnife l s) := by
  simp only [requestKnife]; (repeat' split) <;> simp +contextual (maxDischargeDepth := 40) [h]
@[simp] theorem requestClear_keeps (l : Lane) (cause : CycleCause) (s : State) :
    (requestClear l cause s).pending = s.pending ∧ (requestClear l cause s).freeCount = s.freeCount ∧
    (requestClear l cause s).pins = s.pins ∧ (requestClear l cause s).params = s.params ∧
    (requestClear l cause s).tt = s.tt ∧ (requestClear l cause s).eu = s.eu ∧ (requestClear l cause s).beu = s.beu ∧
    (requestClear l cause s).sc = s.sc ∧ (requestClear l cause s).rt = s.rt ∧ (requestClear l cause s).mbc = s.mbc ∧
    (requestClear l cause s).tsc = s.tsc ∧ (requestClear l cause s).ama = s.ama ∧
    (requestClear l cause s).lsc = s.lsc ∧ (requestClear l cause s).dou = s.dou ∧ (requestClear l cause s).ft = s.ft ∧
    (requestClear l cause s).tu = s.tu ∧ (requestClear l cause s).rs = s.rs ∧ (requestClear l cause s).cal = s.cal ∧
    (requestClear l cause s).ml.strap = s.ml.strap ∧ (requestClear l cause s).ml.fifo = s.ml.fifo ∧
    (requestClear l cause s).ml.rdy = s.ml.rdy ∧ (requestClear l cause s).ml.assembler = s.ml.assembler ∧
    (requestClear l cause s).ml.gap = s.ml.gap ∧ (requestClear l cause s).ml.replies = s.ml.replies ∧
    (requestClear l cause s).ml.tx = s.ml.tx ∧ (requestClear l cause s).ml.noticeCrc = s.ml.noticeCrc ∧
    (requestClear l cause s).ml.noticeTimeout = s.ml.noticeTimeout ∧
    (requestClear l cause s).ml.noticeOverrun = s.ml.noticeOverrun ∧
    (requestClear l cause s).ml.restartPending = s.ml.restartPending := by
  simp only [requestClear]; (repeat' split) <;> simp
@[simp] theorem requestClear_reported (l : Lane) (cause : CycleCause) {key : ReportKey} {s : State} (h : Reported key s) :
    Reported key (requestClear l cause s) := by
  simp only [requestClear]; (repeat' split) <;> simp +contextual (maxDischargeDepth := 40) [h]
@[simp] theorem clearTest_keeps (l : Lane) (holds : Bool) (cause : CycleCause) (s : State) :
    (clearTest l holds cause s).pending = s.pending ∧ (clearTest l holds cause s).freeCount = s.freeCount ∧
    (clearTest l holds cause s).pins = s.pins ∧ (clearTest l holds cause s).params = s.params ∧
    (clearTest l holds cause s).tt = s.tt ∧ (clearTest l holds cause s).eu = s.eu ∧
    (clearTest l holds cause s).beu = s.beu ∧ (clearTest l holds cause s).sc = s.sc ∧
    (clearTest l holds cause s).rt = s.rt ∧ (clearTest l holds cause s).mbc = s.mbc ∧
    (clearTest l holds cause s).tsc = s.tsc ∧ (clearTest l holds cause s).ama = s.ama ∧
    (clearTest l holds cause s).lsc = s.lsc ∧ (clearTest l holds cause s).dou = s.dou ∧
    (clearTest l holds cause s).ft = s.ft ∧ (clearTest l holds cause s).tu = s.tu ∧
    (clearTest l holds cause s).rs = s.rs ∧ (clearTest l holds cause s).cal = s.cal ∧
    (clearTest l holds cause s).ml.strap = s.ml.strap ∧ (clearTest l holds cause s).ml.fifo = s.ml.fifo ∧
    (clearTest l holds cause s).ml.rdy = s.ml.rdy ∧ (clearTest l holds cause s).ml.assembler = s.ml.assembler ∧
    (clearTest l holds cause s).ml.gap = s.ml.gap ∧ (clearTest l holds cause s).ml.replies = s.ml.replies ∧
    (clearTest l holds cause s).ml.tx = s.ml.tx ∧ (clearTest l holds cause s).ml.noticeCrc = s.ml.noticeCrc ∧
    (clearTest l holds cause s).ml.noticeTimeout = s.ml.noticeTimeout ∧
    (clearTest l holds cause s).ml.noticeOverrun = s.ml.noticeOverrun ∧
    (clearTest l holds cause s).ml.restartPending = s.ml.restartPending := by
  simp only [clearTest]; (repeat' split) <;> simp
@[simp] theorem clearTest_reported (l : Lane) (holds : Bool) (cause : CycleCause) {key : ReportKey} {s : State} (h : Reported key s) :
    Reported key (clearTest l holds cause s) := by
  simp only [clearTest]; (repeat' split) <;> simp +contextual (maxDischargeDepth := 40) [h]
@[simp] theorem estimateTest_keeps (l : Lane) (s : State) :
    (estimateTest l s).pending = s.pending ∧ (estimateTest l s).freeCount = s.freeCount ∧
    (estimateTest l s).pins = s.pins ∧ (estimateTest l s).params = s.params ∧ (estimateTest l s).tt = s.tt ∧
    (estimateTest l s).eu = s.eu ∧ (estimateTest l s).beu = s.beu ∧ (estimateTest l s).sc = s.sc ∧
    (estimateTest l s).rt = s.rt ∧ (estimateTest l s).mbc = s.mbc ∧ (estimateTest l s).tsc = s.tsc ∧
    (estimateTest l s).ama = s.ama ∧ (estimateTest l s).lsc = s.lsc ∧ (estimateTest l s).dou = s.dou ∧
    (estimateTest l s).ft = s.ft ∧ (estimateTest l s).tu = s.tu ∧ (estimateTest l s).rs = s.rs ∧
    (estimateTest l s).cal = s.cal ∧ (estimateTest l s).ml.strap = s.ml.strap ∧
    (estimateTest l s).ml.fifo = s.ml.fifo ∧ (estimateTest l s).ml.rdy = s.ml.rdy ∧
    (estimateTest l s).ml.assembler = s.ml.assembler ∧ (estimateTest l s).ml.gap = s.ml.gap ∧
    (estimateTest l s).ml.replies = s.ml.replies ∧ (estimateTest l s).ml.tx = s.ml.tx ∧
    (estimateTest l s).ml.noticeCrc = s.ml.noticeCrc ∧ (estimateTest l s).ml.noticeTimeout = s.ml.noticeTimeout ∧
    (estimateTest l s).ml.noticeOverrun = s.ml.noticeOverrun ∧
    (estimateTest l s).ml.restartPending = s.ml.restartPending := by
  simp only [estimateTest]; (repeat' split) <;> simp
@[simp] theorem estimateTest_reported (l : Lane) {key : ReportKey} {s : State} (h : Reported key s) :
    Reported key (estimateTest l s) := by
  simp only [estimateTest]; (repeat' split) <;> simp +contextual (maxDischargeDepth := 40) [h]
@[simp] theorem entryTest_keeps (l : Lane) (s : State) :
    (entryTest l s).pending = s.pending ∧ (entryTest l s).freeCount = s.freeCount ∧ (entryTest l s).pins = s.pins ∧
    (entryTest l s).params = s.params ∧ (entryTest l s).tt = s.tt ∧ (entryTest l s).eu = s.eu ∧
    (entryTest l s).beu = s.beu ∧ (entryTest l s).sc = s.sc ∧ (entryTest l s).rt = s.rt ∧
    (entryTest l s).mbc = s.mbc ∧ (entryTest l s).tsc = s.tsc ∧ (entryTest l s).ama = s.ama ∧
    (entryTest l s).lsc = s.lsc ∧ (entryTest l s).dou = s.dou ∧ (entryTest l s).ft = s.ft ∧
    (entryTest l s).tu = s.tu ∧ (entryTest l s).rs = s.rs ∧ (entryTest l s).cal = s.cal ∧
    (entryTest l s).ml.strap = s.ml.strap ∧ (entryTest l s).ml.fifo = s.ml.fifo ∧ (entryTest l s).ml.rdy = s.ml.rdy ∧
    (entryTest l s).ml.assembler = s.ml.assembler ∧ (entryTest l s).ml.gap = s.ml.gap ∧
    (entryTest l s).ml.replies = s.ml.replies ∧ (entryTest l s).ml.tx = s.ml.tx ∧
    (entryTest l s).ml.noticeCrc = s.ml.noticeCrc ∧ (entryTest l s).ml.noticeTimeout = s.ml.noticeTimeout ∧
    (entryTest l s).ml.noticeOverrun = s.ml.noticeOverrun ∧
    (entryTest l s).ml.restartPending = s.ml.restartPending := by
  simp only [entryTest]; (repeat' split) <;> simp
@[simp] theorem entryTest_reported (l : Lane) {key : ReportKey} {s : State} (h : Reported key s) :
    Reported key (entryTest l s) := by
  simp only [entryTest]; (repeat' split) <;> simp +contextual (maxDischargeDepth := 40) [h]
@[simp] theorem makeGap_keeps (l : Lane) (s : State) :
    (makeGap l s).pending = s.pending ∧ (makeGap l s).freeCount = s.freeCount ∧ (makeGap l s).pins = s.pins ∧
    (makeGap l s).params = s.params ∧ (makeGap l s).tt = s.tt ∧ (makeGap l s).eu = s.eu ∧ (makeGap l s).beu = s.beu ∧
    (makeGap l s).sc = s.sc ∧ (makeGap l s).rt = s.rt ∧ (makeGap l s).lsc = s.lsc ∧ (makeGap l s).rs = s.rs ∧
    (makeGap l s).cal = s.cal ∧ (makeGap l s).ml.strap = s.ml.strap ∧ (makeGap l s).ml.fifo = s.ml.fifo ∧
    (makeGap l s).ml.rdy = s.ml.rdy ∧ (makeGap l s).ml.assembler = s.ml.assembler ∧ (makeGap l s).ml.gap = s.ml.gap ∧
    (makeGap l s).ml.replies = s.ml.replies ∧ (makeGap l s).ml.tx = s.ml.tx ∧
    (makeGap l s).ml.noticeCrc = s.ml.noticeCrc ∧ (makeGap l s).ml.noticeTimeout = s.ml.noticeTimeout ∧
    (makeGap l s).ml.noticeOverrun = s.ml.noticeOverrun ∧ (makeGap l s).ml.restartPending = s.ml.restartPending := by
  simp only [makeGap]; (repeat' split) <;> simp
@[simp] theorem makeGap_reported (l : Lane) {key : ReportKey} {s : State} (h : Reported key s) :
    Reported key (makeGap l s) := by
  simp only [makeGap]; (repeat' split) <;> simp +contextual (maxDischargeDepth := 40) [h]
@[simp] theorem overfullCheck_keeps (l : Lane) (s : State) :
    (overfullCheck l s).pending = s.pending ∧ (overfullCheck l s).freeCount = s.freeCount ∧
    (overfullCheck l s).pins = s.pins ∧ (overfullCheck l s).params = s.params ∧ (overfullCheck l s).tt = s.tt ∧
    (overfullCheck l s).eu = s.eu ∧ (overfullCheck l s).beu = s.beu ∧ (overfullCheck l s).sc = s.sc ∧
    (overfullCheck l s).rt = s.rt ∧ (overfullCheck l s).mbc = s.mbc ∧ (overfullCheck l s).tsc = s.tsc ∧
    (overfullCheck l s).cc = s.cc ∧ (overfullCheck l s).ama = s.ama ∧ (overfullCheck l s).lsc = s.lsc ∧
    (overfullCheck l s).dou = s.dou ∧ (overfullCheck l s).rs = s.rs ∧ (overfullCheck l s).cal = s.cal ∧
    (overfullCheck l s).ml.strap = s.ml.strap ∧ (overfullCheck l s).ml.fifo = s.ml.fifo ∧
    (overfullCheck l s).ml.rdy = s.ml.rdy ∧ (overfullCheck l s).ml.assembler = s.ml.assembler ∧
    (overfullCheck l s).ml.gap = s.ml.gap ∧ (overfullCheck l s).ml.replies = s.ml.replies ∧
    (overfullCheck l s).ml.tx = s.ml.tx ∧ (overfullCheck l s).ml.noticeCrc = s.ml.noticeCrc ∧
    (overfullCheck l s).ml.noticeTimeout = s.ml.noticeTimeout ∧
    (overfullCheck l s).ml.noticeOverrun = s.ml.noticeOverrun ∧
    (overfullCheck l s).ml.restartPending = s.ml.restartPending := by
  simp only [overfullCheck]; (repeat' split) <;> simp
@[simp] theorem overfullCheck_reported (l : Lane) {key : ReportKey} {s : State} (h : Reported key s) :
    Reported key (overfullCheck l s) := by
  simp only [overfullCheck]; (repeat' split) <;> simp +contextual (maxDischargeDepth := 40) [h]
@[simp] theorem crumbResult_keeps (l : Lane) (result : Nat) (s : State) :
    (crumbResult l result s).pending = s.pending ∧ (crumbResult l result s).freeCount = s.freeCount ∧
    (crumbResult l result s).pins = s.pins ∧ (crumbResult l result s).params = s.params ∧
    (crumbResult l result s).tt = s.tt ∧ (crumbResult l result s).eu = s.eu ∧ (crumbResult l result s).beu = s.beu ∧
    (crumbResult l result s).sc = s.sc ∧ (crumbResult l result s).rt = s.rt ∧ (crumbResult l result s).mbc = s.mbc ∧
    (crumbResult l result s).tsc = s.tsc ∧ (crumbResult l result s).ama = s.ama ∧
    (crumbResult l result s).lsc = s.lsc ∧ (crumbResult l result s).dou = s.dou ∧ (crumbResult l result s).rs = s.rs ∧
    (crumbResult l result s).cal = s.cal ∧ (crumbResult l result s).ml.strap = s.ml.strap ∧
    (crumbResult l result s).ml.fifo = s.ml.fifo ∧ (crumbResult l result s).ml.rdy = s.ml.rdy ∧
    (crumbResult l result s).ml.assembler = s.ml.assembler ∧ (crumbResult l result s).ml.gap = s.ml.gap ∧
    (crumbResult l result s).ml.replies = s.ml.replies ∧ (crumbResult l result s).ml.tx = s.ml.tx ∧
    (crumbResult l result s).ml.noticeCrc = s.ml.noticeCrc ∧
    (crumbResult l result s).ml.noticeTimeout = s.ml.noticeTimeout ∧
    (crumbResult l result s).ml.noticeOverrun = s.ml.noticeOverrun ∧
    (crumbResult l result s).ml.restartPending = s.ml.restartPending := by
  simp only [crumbResult]; (repeat' split) <;> simp
@[simp] theorem crumbResult_reported (l : Lane) (result : Nat) {key : ReportKey} {s : State} (h : Reported key s) :
    Reported key (crumbResult l result s) := by
  simp only [crumbResult]; (repeat' split) <;> simp +contextual (maxDischargeDepth := 40) [h]
@[simp] theorem addCrumb_keeps (l : Lane) (factor : Nat) (s : State) :
    (addCrumb l factor s).pending = s.pending ∧ (addCrumb l factor s).freeCount = s.freeCount ∧
    (addCrumb l factor s).pins = s.pins ∧ (addCrumb l factor s).params = s.params ∧ (addCrumb l factor s).tt = s.tt ∧
    (addCrumb l factor s).eu = s.eu ∧ (addCrumb l factor s).beu = s.beu ∧ (addCrumb l factor s).sc = s.sc ∧
    (addCrumb l factor s).rt = s.rt ∧ (addCrumb l factor s).lic = s.lic ∧ (addCrumb l factor s).mbc = s.mbc ∧
    (addCrumb l factor s).tsc = s.tsc ∧ (addCrumb l factor s).ama = s.ama ∧ (addCrumb l factor s).lsc = s.lsc ∧
    (addCrumb l factor s).dou = s.dou ∧ (addCrumb l factor s).ft = s.ft ∧ (addCrumb l factor s).tu = s.tu ∧
    (addCrumb l factor s).rs = s.rs ∧ (addCrumb l factor s).cal = s.cal ∧ (addCrumb l factor s).ml = s.ml := by
  simp only [addCrumb]; (repeat' split) <;> simp
@[simp] theorem addCrumb_reported (l : Lane) (factor : Nat) {key : ReportKey} {s : State} (h : Reported key s) :
    Reported key (addCrumb l factor s) := by
  simp only [addCrumb]; (repeat' split) <;> simp +contextual (maxDischargeDepth := 40) [h]
@[simp] theorem endBlowing_keeps (l : Lane) (s : State) :
    (endBlowing l s).pending = s.pending ∧ (endBlowing l s).freeCount = s.freeCount ∧ (endBlowing l s).pins = s.pins ∧
    (endBlowing l s).params = s.params ∧ (endBlowing l s).eu = s.eu ∧ (endBlowing l s).beu = s.beu ∧
    (endBlowing l s).sc = s.sc ∧ (endBlowing l s).rt = s.rt ∧ (endBlowing l s).cal = s.cal ∧
    (endBlowing l s).ml.strap = s.ml.strap ∧ (endBlowing l s).ml.fifo = s.ml.fifo ∧
    (endBlowing l s).ml.rdy = s.ml.rdy ∧ (endBlowing l s).ml.assembler = s.ml.assembler ∧
    (endBlowing l s).ml.gap = s.ml.gap ∧ (endBlowing l s).ml.replies = s.ml.replies ∧
    (endBlowing l s).ml.tx = s.ml.tx ∧ (endBlowing l s).ml.noticeCrc = s.ml.noticeCrc ∧
    (endBlowing l s).ml.noticeTimeout = s.ml.noticeTimeout ∧ (endBlowing l s).ml.noticeOverrun = s.ml.noticeOverrun ∧
    (endBlowing l s).ml.restartPending = s.ml.restartPending := by
  simp only [endBlowing]; (repeat' split) <;> simp
@[simp] theorem endBlowing_reported (l : Lane) {key : ReportKey} {s : State} (h : Reported key s) :
    Reported key (endBlowing l s) := by
  simp only [endBlowing]; (repeat' split) <;> simp +contextual (maxDischargeDepth := 40) [h]
@[simp] theorem completeClear_keeps (l : Lane) (s : State) :
    (completeClear l s).pending = s.pending ∧ (completeClear l s).freeCount = s.freeCount ∧
    (completeClear l s).pins = s.pins ∧ (completeClear l s).params = s.params ∧ (completeClear l s).tt = s.tt ∧
    (completeClear l s).eu = s.eu ∧ (completeClear l s).beu = s.beu ∧ (completeClear l s).sc = s.sc ∧
    (completeClear l s).rt = s.rt ∧ (completeClear l s).mbc = s.mbc ∧ (completeClear l s).tsc = s.tsc ∧
    (completeClear l s).ama = s.ama ∧ (completeClear l s).lsc = s.lsc ∧ (completeClear l s).dou = s.dou ∧
    (completeClear l s).rs = s.rs ∧ (completeClear l s).cal = s.cal ∧ (completeClear l s).ml.strap = s.ml.strap ∧
    (completeClear l s).ml.fifo = s.ml.fifo ∧ (completeClear l s).ml.rdy = s.ml.rdy ∧
    (completeClear l s).ml.assembler = s.ml.assembler ∧ (completeClear l s).ml.gap = s.ml.gap ∧
    (completeClear l s).ml.replies = s.ml.replies ∧ (completeClear l s).ml.tx = s.ml.tx ∧
    (completeClear l s).ml.noticeCrc = s.ml.noticeCrc ∧ (completeClear l s).ml.noticeTimeout = s.ml.noticeTimeout ∧
    (completeClear l s).ml.noticeOverrun = s.ml.noticeOverrun ∧
    (completeClear l s).ml.restartPending = s.ml.restartPending := by
  simp only [completeClear]; (repeat' split) <;> simp
@[simp] theorem completeClear_reported (l : Lane) {key : ReportKey} {s : State} (h : Reported key s) :
    Reported key (completeClear l s) := by
  simp only [completeClear]; (repeat' split) <;> simp +contextual (maxDischargeDepth := 40) [h]
@[simp] theorem backOff_keeps (l : Lane) (s : State) :
    (backOff l s).pending = s.pending ∧ (backOff l s).freeCount = s.freeCount ∧ (backOff l s).pins = s.pins ∧
    (backOff l s).params = s.params ∧ (backOff l s).tt = s.tt ∧ (backOff l s).eu = s.eu ∧ (backOff l s).beu = s.beu ∧
    (backOff l s).sc = s.sc ∧ (backOff l s).rt = s.rt ∧ (backOff l s).lsc = s.lsc ∧ (backOff l s).rs = s.rs ∧
    (backOff l s).cal = s.cal ∧ (backOff l s).ml.strap = s.ml.strap ∧ (backOff l s).ml.fifo = s.ml.fifo ∧
    (backOff l s).ml.rdy = s.ml.rdy ∧ (backOff l s).ml.assembler = s.ml.assembler ∧ (backOff l s).ml.gap = s.ml.gap ∧
    (backOff l s).ml.replies = s.ml.replies ∧ (backOff l s).ml.tx = s.ml.tx ∧
    (backOff l s).ml.noticeCrc = s.ml.noticeCrc ∧ (backOff l s).ml.noticeTimeout = s.ml.noticeTimeout ∧
    (backOff l s).ml.noticeOverrun = s.ml.noticeOverrun ∧ (backOff l s).ml.restartPending = s.ml.restartPending := by
  simp only [backOff]; (repeat' split) <;> simp
@[simp] theorem backOff_reported (l : Lane) {key : ReportKey} {s : State} (h : Reported key s) :
    Reported key (backOff l s) := by
  simp only [backOff]; (repeat' split) <;> simp +contextual (maxDischargeDepth := 40) [h]
@[simp] theorem endBackOff_keeps (l : Lane) (s : State) :
    (endBackOff l s).pending = s.pending ∧ (endBackOff l s).freeCount = s.freeCount ∧ (endBackOff l s).pins = s.pins ∧
    (endBackOff l s).params = s.params ∧ (endBackOff l s).tt = s.tt ∧ (endBackOff l s).eu = s.eu ∧
    (endBackOff l s).beu = s.beu ∧ (endBackOff l s).sc = s.sc ∧ (endBackOff l s).rt = s.rt ∧
    (endBackOff l s).mbc = s.mbc ∧ (endBackOff l s).tsc = s.tsc ∧ (endBackOff l s).ama = s.ama ∧
    (endBackOff l s).lsc = s.lsc ∧ (endBackOff l s).dou = s.dou ∧ (endBackOff l s).ft = s.ft ∧
    (endBackOff l s).tu = s.tu ∧ (endBackOff l s).rs = s.rs ∧ (endBackOff l s).cal = s.cal ∧
    (endBackOff l s).ml.strap = s.ml.strap ∧ (endBackOff l s).ml.fifo = s.ml.fifo ∧
    (endBackOff l s).ml.rdy = s.ml.rdy ∧ (endBackOff l s).ml.assembler = s.ml.assembler ∧
    (endBackOff l s).ml.gap = s.ml.gap ∧ (endBackOff l s).ml.replies = s.ml.replies ∧
    (endBackOff l s).ml.tx = s.ml.tx ∧ (endBackOff l s).ml.noticeCrc = s.ml.noticeCrc ∧
    (endBackOff l s).ml.noticeTimeout = s.ml.noticeTimeout ∧ (endBackOff l s).ml.noticeOverrun = s.ml.noticeOverrun ∧
    (endBackOff l s).ml.restartPending = s.ml.restartPending := by
  simp only [endBackOff]; (repeat' split) <;> simp
@[simp] theorem endBackOff_reported (l : Lane) {key : ReportKey} {s : State} (h : Reported key s) :
    Reported key (endBackOff l s) := by
  simp only [endBackOff]; (repeat' split) <;> simp +contextual (maxDischargeDepth := 40) [h]
@[simp] theorem holdCrumb_keeps (l : Lane) (s : State) :
    (holdCrumb l s).pending = s.pending ∧ (holdCrumb l s).freeCount = s.freeCount ∧ (holdCrumb l s).pins = s.pins ∧
    (holdCrumb l s).params = s.params ∧ (holdCrumb l s).tt = s.tt ∧ (holdCrumb l s).eu = s.eu ∧
    (holdCrumb l s).beu = s.beu ∧ (holdCrumb l s).sc = s.sc ∧ (holdCrumb l s).rt = s.rt ∧
    (holdCrumb l s).lsc = s.lsc ∧ (holdCrumb l s).rs = s.rs ∧ (holdCrumb l s).cal = s.cal ∧
    (holdCrumb l s).ml.strap = s.ml.strap ∧ (holdCrumb l s).ml.fifo = s.ml.fifo ∧ (holdCrumb l s).ml.rdy = s.ml.rdy ∧
    (holdCrumb l s).ml.assembler = s.ml.assembler ∧ (holdCrumb l s).ml.gap = s.ml.gap ∧
    (holdCrumb l s).ml.replies = s.ml.replies ∧ (holdCrumb l s).ml.tx = s.ml.tx ∧
    (holdCrumb l s).ml.noticeCrc = s.ml.noticeCrc ∧ (holdCrumb l s).ml.noticeTimeout = s.ml.noticeTimeout ∧
    (holdCrumb l s).ml.noticeOverrun = s.ml.noticeOverrun ∧
    (holdCrumb l s).ml.restartPending = s.ml.restartPending := by
  simp only [holdCrumb]; (repeat' split) <;> simp
@[simp] theorem holdCrumb_reported (l : Lane) {key : ReportKey} {s : State} (h : Reported key s) :
    Reported key (holdCrumb l s) := by
  simp only [holdCrumb]; (repeat' split) <;> simp +contextual (maxDischargeDepth := 40) [h]
@[simp] theorem abandonCrumb_keeps (l : Lane) (s : State) :
    (abandonCrumb l s).pending = s.pending ∧ (abandonCrumb l s).freeCount = s.freeCount ∧
    (abandonCrumb l s).pins = s.pins ∧ (abandonCrumb l s).params = s.params ∧ (abandonCrumb l s).tt = s.tt ∧
    (abandonCrumb l s).eu = s.eu ∧ (abandonCrumb l s).beu = s.beu ∧ (abandonCrumb l s).sc = s.sc ∧
    (abandonCrumb l s).rt = s.rt ∧ (abandonCrumb l s).lsc = s.lsc ∧ (abandonCrumb l s).rs = s.rs ∧
    (abandonCrumb l s).cal = s.cal ∧ (abandonCrumb l s).ml.strap = s.ml.strap ∧
    (abandonCrumb l s).ml.fifo = s.ml.fifo ∧ (abandonCrumb l s).ml.rdy = s.ml.rdy ∧
    (abandonCrumb l s).ml.assembler = s.ml.assembler ∧ (abandonCrumb l s).ml.gap = s.ml.gap ∧
    (abandonCrumb l s).ml.replies = s.ml.replies ∧ (abandonCrumb l s).ml.tx = s.ml.tx ∧
    (abandonCrumb l s).ml.noticeCrc = s.ml.noticeCrc ∧ (abandonCrumb l s).ml.noticeTimeout = s.ml.noticeTimeout ∧
    (abandonCrumb l s).ml.noticeOverrun = s.ml.noticeOverrun ∧
    (abandonCrumb l s).ml.restartPending = s.ml.restartPending := by
  simp only [abandonCrumb]; (repeat' split) <;> simp
@[simp] theorem abandonCrumb_reported (l : Lane) {key : ReportKey} {s : State} (h : Reported key s) :
    Reported key (abandonCrumb l s) := by
  simp only [abandonCrumb]; (repeat' split) <;> simp +contextual (maxDischargeDepth := 40) [h]
@[simp] theorem onEye_keeps (e : Eye) (f : EyeChannel → EyeChannel) (s : State) :
    (s.onEye e f).pending = s.pending ∧ (s.onEye e f).freeCount = s.freeCount ∧ (s.onEye e f).pins = s.pins ∧
    (s.onEye e f).params = s.params ∧ (s.onEye e f).tt = s.tt ∧ (s.onEye e f).beu = s.beu ∧ (s.onEye e f).sc = s.sc ∧
    (s.onEye e f).rt = s.rt ∧ (s.onEye e f).lic = s.lic ∧ (s.onEye e f).mbc = s.mbc ∧ (s.onEye e f).tsc = s.tsc ∧
    (s.onEye e f).cc = s.cc ∧ (s.onEye e f).ama = s.ama ∧ (s.onEye e f).lsc = s.lsc ∧ (s.onEye e f).dou = s.dou ∧
    (s.onEye e f).ft = s.ft ∧ (s.onEye e f).tu = s.tu ∧ (s.onEye e f).rs = s.rs ∧ (s.onEye e f).cal = s.cal ∧
    (s.onEye e f).ml = s.ml := by
  simp only [State.onEye]; (repeat' split) <;> simp
@[simp] theorem sampleEye_keeps (e : Eye) (level : Nat) (s : State) :
    (sampleEye e level s).pending = s.pending ∧ (sampleEye e level s).freeCount = s.freeCount ∧
    (sampleEye e level s).pins = s.pins ∧ (sampleEye e level s).params = s.params ∧ (sampleEye e level s).tt = s.tt ∧
    (sampleEye e level s).beu = s.beu ∧ (sampleEye e level s).sc = s.sc ∧ (sampleEye e level s).rt = s.rt ∧
    (sampleEye e level s).lic = s.lic ∧ (sampleEye e level s).mbc = s.mbc ∧ (sampleEye e level s).tsc = s.tsc ∧
    (sampleEye e level s).cc = s.cc ∧ (sampleEye e level s).ama = s.ama ∧ (sampleEye e level s).lsc = s.lsc ∧
    (sampleEye e level s).dou = s.dou ∧ (sampleEye e level s).ft = s.ft ∧ (sampleEye e level s).tu = s.tu ∧
    (sampleEye e level s).rs = s.rs ∧ (sampleEye e level s).cal = s.cal ∧ (sampleEye e level s).ml = s.ml := by
  simp only [sampleEye]; (repeat' split) <;> simp
@[simp] theorem confirmChange_keeps (e : Eye) (s : State) :
    (confirmChange e s).pending = s.pending ∧ (confirmChange e s).freeCount = s.freeCount ∧
    (confirmChange e s).pins = s.pins ∧ (confirmChange e s).params = s.params ∧ (confirmChange e s).tt = s.tt ∧
    (confirmChange e s).beu = s.beu ∧ (confirmChange e s).sc = s.sc ∧ (confirmChange e s).rt = s.rt ∧
    (confirmChange e s).lic = s.lic ∧ (confirmChange e s).mbc = s.mbc ∧ (confirmChange e s).tsc = s.tsc ∧
    (confirmChange e s).cc = s.cc ∧ (confirmChange e s).ama = s.ama ∧ (confirmChange e s).lsc = s.lsc ∧
    (confirmChange e s).dou = s.dou ∧ (confirmChange e s).ft = s.ft ∧ (confirmChange e s).tu = s.tu ∧
    (confirmChange e s).rs = s.rs ∧ (confirmChange e s).cal = s.cal ∧ (confirmChange e s).ml = s.ml := by
  simp only [confirmChange, State.onEu, State.onEye, when]; (repeat' split) <;> simp
@[simp] theorem takeEdge_keeps (e : Eye) (s : State) :
    (takeEdge e s).pending = s.pending ∧ (takeEdge e s).freeCount = s.freeCount ∧ (takeEdge e s).pins = s.pins ∧
    (takeEdge e s).params = s.params ∧ (takeEdge e s).tt = s.tt ∧ (takeEdge e s).beu = s.beu ∧
    (takeEdge e s).sc = s.sc ∧ (takeEdge e s).rt = s.rt ∧ (takeEdge e s).lic = s.lic ∧ (takeEdge e s).mbc = s.mbc ∧
    (takeEdge e s).tsc = s.tsc ∧ (takeEdge e s).cc = s.cc ∧ (takeEdge e s).ama = s.ama ∧ (takeEdge e s).lsc = s.lsc ∧
    (takeEdge e s).dou = s.dou ∧ (takeEdge e s).ft = s.ft ∧ (takeEdge e s).tu = s.tu ∧ (takeEdge e s).rs = s.rs ∧
    (takeEdge e s).cal = s.cal ∧ (takeEdge e s).ml = s.ml := by
  simp only [takeEdge]; (repeat' split) <;> simp
@[simp] theorem sampleEncoder_keeps (b : Belt) (phaseA : Bool) (phaseB : Bool) (s : State) :
    (sampleEncoder b phaseA phaseB s).pending = s.pending ∧
    (sampleEncoder b phaseA phaseB s).freeCount = s.freeCount ∧ (sampleEncoder b phaseA phaseB s).pins = s.pins ∧
    (sampleEncoder b phaseA phaseB s).params = s.params ∧ (sampleEncoder b phaseA phaseB s).tt = s.tt ∧
    (sampleEncoder b phaseA phaseB s).eu = s.eu ∧ (sampleEncoder b phaseA phaseB s).sc = s.sc ∧
    (sampleEncoder b phaseA phaseB s).rt = s.rt ∧ (sampleEncoder b phaseA phaseB s).lic = s.lic ∧
    (sampleEncoder b phaseA phaseB s).mbc = s.mbc ∧ (sampleEncoder b phaseA phaseB s).tsc = s.tsc ∧
    (sampleEncoder b phaseA phaseB s).cc = s.cc ∧ (sampleEncoder b phaseA phaseB s).ama = s.ama ∧
    (sampleEncoder b phaseA phaseB s).lsc = s.lsc ∧ (sampleEncoder b phaseA phaseB s).dou = s.dou ∧
    (sampleEncoder b phaseA phaseB s).ft = s.ft ∧ (sampleEncoder b phaseA phaseB s).tu = s.tu ∧
    (sampleEncoder b phaseA phaseB s).rs = s.rs ∧ (sampleEncoder b phaseA phaseB s).cal = s.cal ∧
    (sampleEncoder b phaseA phaseB s).ml = s.ml := by
  simp only [sampleEncoder]; (repeat' split) <;> simp
@[simp] theorem trigger_keeps (x : Channel) (s : State) :
    (trigger x s).pending = s.pending ∧ (trigger x s).freeCount = s.freeCount ∧ (trigger x s).pins = s.pins ∧
    (trigger x s).params = s.params ∧ (trigger x s).tt = s.tt ∧ (trigger x s).eu = s.eu ∧ (trigger x s).beu = s.beu ∧
    (trigger x s).rt = s.rt ∧ (trigger x s).lic = s.lic ∧ (trigger x s).mbc = s.mbc ∧ (trigger x s).tsc = s.tsc ∧
    (trigger x s).cc = s.cc ∧ (trigger x s).ama = s.ama ∧ (trigger x s).lsc = s.lsc ∧ (trigger x s).dou = s.dou ∧
    (trigger x s).ft = s.ft ∧ (trigger x s).tu = s.tu ∧ (trigger x s).rs = s.rs ∧ (trigger x s).cal = s.cal ∧
    (trigger x s).ml = s.ml := by
  simp only [trigger]; (repeat' split) <;> simp
@[simp] theorem trigger_reported (x : Channel) {key : ReportKey} {s : State} (h : Reported key s) :
    Reported key (trigger x s) := by
  simp only [trigger]; (repeat' split) <;> simp +contextual (maxDischargeDepth := 40) [h]
@[simp] theorem scanTriggers_keeps (s : State) :
    (scanTriggers s).pending = s.pending ∧ (scanTriggers s).freeCount = s.freeCount ∧ (scanTriggers s).pins = s.pins ∧
    (scanTriggers s).params = s.params ∧ (scanTriggers s).tt = s.tt ∧ (scanTriggers s).eu = s.eu ∧
    (scanTriggers s).beu = s.beu ∧ (scanTriggers s).rt = s.rt ∧ (scanTriggers s).lic = s.lic ∧
    (scanTriggers s).mbc = s.mbc ∧ (scanTriggers s).tsc = s.tsc ∧ (scanTriggers s).cc = s.cc ∧
    (scanTriggers s).ama = s.ama ∧ (scanTriggers s).lsc = s.lsc ∧ (scanTriggers s).dou = s.dou ∧
    (scanTriggers s).ft = s.ft ∧ (scanTriggers s).tu = s.tu ∧ (scanTriggers s).rs = s.rs ∧
    (scanTriggers s).cal = s.cal ∧ (scanTriggers s).ml = s.ml := by
  simp only [scanTriggers]; (repeat' split) <;> simp
@[simp] theorem scanTriggers_reported {key : ReportKey} {s : State} (h : Reported key s) :
    Reported key (scanTriggers s) := by
  simp only [scanTriggers]; (repeat' split) <;> simp +contextual (maxDischargeDepth := 40) [h]
@[simp] theorem quietPoint_keeps (l : Lane) (s : State) :
    (quietPoint l s).pending = s.pending ∧ (quietPoint l s).freeCount = s.freeCount ∧ (quietPoint l s).pins = s.pins ∧
    (quietPoint l s).params = s.params ∧ (quietPoint l s).tt = s.tt ∧ (quietPoint l s).eu = s.eu ∧
    (quietPoint l s).beu = s.beu ∧ (quietPoint l s).rt = s.rt ∧ (quietPoint l s).lic = s.lic ∧
    (quietPoint l s).mbc = s.mbc ∧ (quietPoint l s).tsc = s.tsc ∧ (quietPoint l s).cc = s.cc ∧
    (quietPoint l s).ama = s.ama ∧ (quietPoint l s).lsc = s.lsc ∧ (quietPoint l s).dou = s.dou ∧
    (quietPoint l s).ft = s.ft ∧ (quietPoint l s).tu = s.tu ∧ (quietPoint l s).rs = s.rs ∧
    (quietPoint l s).cal = s.cal ∧ (quietPoint l s).ml = s.ml := by
  simp only [quietPoint]; (repeat' split) <;> simp
@[simp] theorem quietPoint_reported (l : Lane) {key : ReportKey} {s : State} (h : Reported key s) :
    Reported key (quietPoint l s) := by
  simp only [quietPoint]; (repeat' split) <;> simp +contextual (maxDischargeDepth := 40) [h]
@[simp] theorem onApproach_keeps (l : Lane) (f : List LoafRecord → List LoafRecord) (s : State) :
    (s.onApproach l f).pending = s.pending ∧ (s.onApproach l f).freeCount = s.freeCount ∧
    (s.onApproach l f).pins = s.pins ∧ (s.onApproach l f).params = s.params ∧ (s.onApproach l f).eu = s.eu ∧
    (s.onApproach l f).beu = s.beu ∧ (s.onApproach l f).sc = s.sc ∧ (s.onApproach l f).rt = s.rt ∧
    (s.onApproach l f).lic = s.lic ∧ (s.onApproach l f).mbc = s.mbc ∧ (s.onApproach l f).tsc = s.tsc ∧
    (s.onApproach l f).cc = s.cc ∧ (s.onApproach l f).ama = s.ama ∧ (s.onApproach l f).lsc = s.lsc ∧
    (s.onApproach l f).dou = s.dou ∧ (s.onApproach l f).ft = s.ft ∧ (s.onApproach l f).tu = s.tu ∧
    (s.onApproach l f).rs = s.rs ∧ (s.onApproach l f).cal = s.cal ∧ (s.onApproach l f).ml = s.ml := by
  simp only [State.onApproach]; (repeat' split) <;> simp
@[simp] theorem onApproach_reported (l : Lane) (f : List LoafRecord → List LoafRecord) {key : ReportKey} {s : State} (h : Reported key s) :
    Reported key (s.onApproach l f) := by
  simp only [State.onApproach]; (repeat' split) <;> simp +contextual (maxDischargeDepth := 40) [h]
@[simp] theorem onBladeZone_keeps (l : Lane) (f : Option LoafRecord → Option LoafRecord) (s : State) :
    (s.onBladeZone l f).pending = s.pending ∧ (s.onBladeZone l f).freeCount = s.freeCount ∧
    (s.onBladeZone l f).pins = s.pins ∧ (s.onBladeZone l f).params = s.params ∧ (s.onBladeZone l f).eu = s.eu ∧
    (s.onBladeZone l f).beu = s.beu ∧ (s.onBladeZone l f).sc = s.sc ∧ (s.onBladeZone l f).rt = s.rt ∧
    (s.onBladeZone l f).lic = s.lic ∧ (s.onBladeZone l f).mbc = s.mbc ∧ (s.onBladeZone l f).tsc = s.tsc ∧
    (s.onBladeZone l f).cc = s.cc ∧ (s.onBladeZone l f).ama = s.ama ∧ (s.onBladeZone l f).lsc = s.lsc ∧
    (s.onBladeZone l f).dou = s.dou ∧ (s.onBladeZone l f).ft = s.ft ∧ (s.onBladeZone l f).tu = s.tu ∧
    (s.onBladeZone l f).rs = s.rs ∧ (s.onBladeZone l f).cal = s.cal ∧ (s.onBladeZone l f).ml = s.ml := by
  simp only [State.onBladeZone]; (repeat' split) <;> simp
@[simp] theorem onBladeZone_reported (l : Lane) (f : Option LoafRecord → Option LoafRecord) {key : ReportKey} {s : State} (h : Reported key s) :
    Reported key (s.onBladeZone l f) := by
  simp only [State.onBladeZone]; (repeat' split) <;> simp +contextual (maxDischargeDepth := 40) [h]
@[simp] theorem onAccum_keeps (l : Lane) (f : List LoafRecord → List LoafRecord) (s : State) :
    (s.onAccum l f).pending = s.pending ∧ (s.onAccum l f).freeCount = s.freeCount ∧ (s.onAccum l f).pins = s.pins ∧
    (s.onAccum l f).params = s.params ∧ (s.onAccum l f).eu = s.eu ∧ (s.onAccum l f).beu = s.beu ∧
    (s.onAccum l f).sc = s.sc ∧ (s.onAccum l f).rt = s.rt ∧ (s.onAccum l f).lic = s.lic ∧
    (s.onAccum l f).mbc = s.mbc ∧ (s.onAccum l f).tsc = s.tsc ∧ (s.onAccum l f).cc = s.cc ∧
    (s.onAccum l f).ama = s.ama ∧ (s.onAccum l f).lsc = s.lsc ∧ (s.onAccum l f).dou = s.dou ∧
    (s.onAccum l f).ft = s.ft ∧ (s.onAccum l f).tu = s.tu ∧ (s.onAccum l f).rs = s.rs ∧ (s.onAccum l f).cal = s.cal ∧
    (s.onAccum l f).ml = s.ml := by
  simp only [State.onAccum]; (repeat' split) <;> simp
@[simp] theorem onAccum_reported (l : Lane) (f : List LoafRecord → List LoafRecord) {key : ReportKey} {s : State} (h : Reported key s) :
    Reported key (s.onAccum l f) := by
  simp only [State.onAccum]; (repeat' split) <;> simp +contextual (maxDischargeDepth := 40) [h]
@[simp] theorem onExit_keeps (f : List LoafRecord → List LoafRecord) (s : State) :
    (s.onExit f).pending = s.pending ∧ (s.onExit f).freeCount = s.freeCount ∧ (s.onExit f).pins = s.pins ∧
    (s.onExit f).params = s.params ∧ (s.onExit f).eu = s.eu ∧ (s.onExit f).beu = s.beu ∧ (s.onExit f).sc = s.sc ∧
    (s.onExit f).rt = s.rt ∧ (s.onExit f).lic = s.lic ∧ (s.onExit f).mbc = s.mbc ∧ (s.onExit f).tsc = s.tsc ∧
    (s.onExit f).cc = s.cc ∧ (s.onExit f).ama = s.ama ∧ (s.onExit f).lsc = s.lsc ∧ (s.onExit f).dou = s.dou ∧
    (s.onExit f).ft = s.ft ∧ (s.onExit f).tu = s.tu ∧ (s.onExit f).rs = s.rs ∧ (s.onExit f).cal = s.cal ∧
    (s.onExit f).ml = s.ml := by
  simp only [State.onExit]; (repeat' split) <;> simp
@[simp] theorem onExit_reported (f : List LoafRecord → List LoafRecord) {key : ReportKey} {s : State} (h : Reported key s) :
    Reported key (s.onExit f) := by
  simp only [State.onExit]; (repeat' split) <;> simp +contextual (maxDischargeDepth := 40) [h]
@[simp] theorem createRecord_keeps (l : Lane) (x : Edge) (s : State) :
    (createRecord l x s).pending = s.pending ∧ (createRecord l x s).freeCount = s.freeCount ∧
    (createRecord l x s).pins = s.pins ∧ (createRecord l x s).params = s.params ∧ (createRecord l x s).eu = s.eu ∧
    (createRecord l x s).beu = s.beu ∧ (createRecord l x s).sc = s.sc ∧ (createRecord l x s).rt = s.rt ∧
    (createRecord l x s).mbc = s.mbc ∧ (createRecord l x s).tsc = s.tsc ∧ (createRecord l x s).cc = s.cc ∧
    (createRecord l x s).ama = s.ama ∧ (createRecord l x s).lsc = s.lsc ∧ (createRecord l x s).dou = s.dou ∧
    (createRecord l x s).rs = s.rs ∧ (createRecord l x s).cal = s.cal ∧ (createRecord l x s).ml.strap = s.ml.strap ∧
    (createRecord l x s).ml.fifo = s.ml.fifo ∧ (createRecord l x s).ml.rdy = s.ml.rdy ∧
    (createRecord l x s).ml.assembler = s.ml.assembler ∧ (createRecord l x s).ml.gap = s.ml.gap ∧
    (createRecord l x s).ml.replies = s.ml.replies ∧ (createRecord l x s).ml.tx = s.ml.tx ∧
    (createRecord l x s).ml.noticeCrc = s.ml.noticeCrc ∧ (createRecord l x s).ml.noticeTimeout = s.ml.noticeTimeout ∧
    (createRecord l x s).ml.noticeOverrun = s.ml.noticeOverrun ∧
    (createRecord l x s).ml.restartPending = s.ml.restartPending := by
  simp only [createRecord]; (repeat' split) <;> simp
@[simp] theorem createRecord_reported (l : Lane) (x : Edge) {key : ReportKey} {s : State} (h : Reported key s) :
    Reported key (createRecord l x s) := by
  simp only [createRecord]; (repeat' split) <;> simp +contextual (maxDischargeDepth := 40) [h]
@[simp] theorem startWatch_keeps (e : TrackedEye) (at_ : Pos) (s : State) :
    (startWatch e at_ s).pending = s.pending ∧ (startWatch e at_ s).freeCount = s.freeCount ∧
    (startWatch e at_ s).pins = s.pins ∧ (startWatch e at_ s).params = s.params ∧ (startWatch e at_ s).eu = s.eu ∧
    (startWatch e at_ s).beu = s.beu ∧ (startWatch e at_ s).sc = s.sc ∧ (startWatch e at_ s).rt = s.rt ∧
    (startWatch e at_ s).lic = s.lic ∧ (startWatch e at_ s).mbc = s.mbc ∧ (startWatch e at_ s).tsc = s.tsc ∧
    (startWatch e at_ s).cc = s.cc ∧ (startWatch e at_ s).ama = s.ama ∧ (startWatch e at_ s).lsc = s.lsc ∧
    (startWatch e at_ s).dou = s.dou ∧ (startWatch e at_ s).ft = s.ft ∧ (startWatch e at_ s).tu = s.tu ∧
    (startWatch e at_ s).rs = s.rs ∧ (startWatch e at_ s).cal = s.cal ∧ (startWatch e at_ s).ml = s.ml := by
  simp only [startWatch]; (repeat' split) <;> simp
@[simp] theorem startWatch_reported (e : TrackedEye) (at_ : Pos) {key : ReportKey} {s : State} (h : Reported key s) :
    Reported key (startWatch e at_ s) := by
  simp only [startWatch]; (repeat' split) <;> simp +contextual (maxDischargeDepth := 40) [h]
@[simp] theorem eyeCleared_keeps (e : TrackedEye) (s : State) :
    (eyeCleared e s).pending = s.pending ∧ (eyeCleared e s).freeCount = s.freeCount ∧ (eyeCleared e s).pins = s.pins ∧
    (eyeCleared e s).params = s.params ∧ (eyeCleared e s).eu = s.eu ∧ (eyeCleared e s).beu = s.beu ∧
    (eyeCleared e s).sc = s.sc ∧ (eyeCleared e s).rt = s.rt ∧ (eyeCleared e s).mbc = s.mbc ∧
    (eyeCleared e s).tsc = s.tsc ∧ (eyeCleared e s).cc = s.cc ∧ (eyeCleared e s).ama = s.ama ∧
    (eyeCleared e s).lsc = s.lsc ∧ (eyeCleared e s).dou = s.dou ∧ (eyeCleared e s).rs = s.rs ∧
    (eyeCleared e s).cal = s.cal ∧ (eyeCleared e s).ml.strap = s.ml.strap ∧ (eyeCleared e s).ml.fifo = s.ml.fifo ∧
    (eyeCleared e s).ml.rdy = s.ml.rdy ∧ (eyeCleared e s).ml.assembler = s.ml.assembler ∧
    (eyeCleared e s).ml.gap = s.ml.gap ∧ (eyeCleared e s).ml.replies = s.ml.replies ∧
    (eyeCleared e s).ml.tx = s.ml.tx ∧ (eyeCleared e s).ml.noticeCrc = s.ml.noticeCrc ∧
    (eyeCleared e s).ml.noticeTimeout = s.ml.noticeTimeout ∧ (eyeCleared e s).ml.noticeOverrun = s.ml.noticeOverrun ∧
    (eyeCleared e s).ml.restartPending = s.ml.restartPending := by
  simp only [eyeCleared]; (repeat' split) <;> simp
@[simp] theorem eyeCleared_reported (e : TrackedEye) {key : ReportKey} {s : State} (h : Reported key s) :
    Reported key (eyeCleared e s) := by
  simp only [eyeCleared]; (repeat' split) <;> simp +contextual (maxDischargeDepth := 40) [h]
@[simp] theorem raiseStuck_keeps (e : TrackedEye) (s : State) :
    (raiseStuck e s).pending = s.pending ∧ (raiseStuck e s).freeCount = s.freeCount ∧ (raiseStuck e s).pins = s.pins ∧
    (raiseStuck e s).params = s.params ∧ (raiseStuck e s).eu = s.eu ∧ (raiseStuck e s).beu = s.beu ∧
    (raiseStuck e s).sc = s.sc ∧ (raiseStuck e s).rt = s.rt ∧ (raiseStuck e s).mbc = s.mbc ∧
    (raiseStuck e s).tsc = s.tsc ∧ (raiseStuck e s).cc = s.cc ∧ (raiseStuck e s).ama = s.ama ∧
    (raiseStuck e s).lsc = s.lsc ∧ (raiseStuck e s).dou = s.dou ∧ (raiseStuck e s).rs = s.rs ∧
    (raiseStuck e s).cal = s.cal ∧ (raiseStuck e s).ml.strap = s.ml.strap ∧ (raiseStuck e s).ml.fifo = s.ml.fifo ∧
    (raiseStuck e s).ml.rdy = s.ml.rdy ∧ (raiseStuck e s).ml.assembler = s.ml.assembler ∧
    (raiseStuck e s).ml.gap = s.ml.gap ∧ (raiseStuck e s).ml.replies = s.ml.replies ∧
    (raiseStuck e s).ml.tx = s.ml.tx ∧ (raiseStuck e s).ml.noticeCrc = s.ml.noticeCrc ∧
    (raiseStuck e s).ml.noticeTimeout = s.ml.noticeTimeout ∧ (raiseStuck e s).ml.noticeOverrun = s.ml.noticeOverrun ∧
    (raiseStuck e s).ml.restartPending = s.ml.restartPending := by
  simp only [raiseStuck]; (repeat' split) <;> simp
@[simp] theorem raiseStuck_reported (e : TrackedEye) {key : ReportKey} {s : State} (h : Reported key s) :
    Reported key (raiseStuck e s) := by
  simp only [raiseStuck]; (repeat' split) <;> simp +contextual (maxDischargeDepth := 40) [h]
@[simp] theorem startWatches_keeps (s : State) :
    (startWatches s).pending = s.pending ∧ (startWatches s).freeCount = s.freeCount ∧ (startWatches s).pins = s.pins ∧
    (startWatches s).params = s.params ∧ (startWatches s).eu = s.eu ∧ (startWatches s).beu = s.beu ∧
    (startWatches s).sc = s.sc ∧ (startWatches s).rt = s.rt ∧ (startWatches s).lic = s.lic ∧
    (startWatches s).mbc = s.mbc ∧ (startWatches s).tsc = s.tsc ∧ (startWatches s).cc = s.cc ∧
    (startWatches s).ama = s.ama ∧ (startWatches s).lsc = s.lsc ∧ (startWatches s).dou = s.dou ∧
    (startWatches s).ft = s.ft ∧ (startWatches s).tu = s.tu ∧ (startWatches s).rs = s.rs ∧
    (startWatches s).cal = s.cal ∧ (startWatches s).ml = s.ml := by
  and_intros
  · exact foldl_pending (by simp) _ _
  · exact foldl_freeCount (by simp) _ _
  · exact foldl_pins (by simp) _ _
  · exact foldl_params (by simp) _ _
  · exact foldl_eu (by simp) _ _
  · exact foldl_beu (by simp) _ _
  · exact foldl_sc (by simp) _ _
  · exact foldl_rt (by simp) _ _
  · exact foldl_lic (by simp) _ _
  · exact foldl_mbc (by simp) _ _
  · exact foldl_tsc (by simp) _ _
  · exact foldl_cc (by simp) _ _
  · exact foldl_ama (by simp) _ _
  · exact foldl_lsc (by simp) _ _
  · exact foldl_dou (by simp) _ _
  · exact foldl_ft (by simp) _ _
  · exact foldl_tu (by simp) _ _
  · exact foldl_rs (by simp) _ _
  · exact foldl_cal (by simp) _ _
  · exact foldl_ml (by simp) _ _
@[simp] theorem startWatches_reported {key : ReportKey} {s : State} (h : Reported key s) :
    Reported key (startWatches s) := by
  exact foldl_reported (by simp +contextual) _ h
@[simp] theorem removeWatches_keeps (s : State) :
    (removeWatches s).pending = s.pending ∧ (removeWatches s).freeCount = s.freeCount ∧
    (removeWatches s).pins = s.pins ∧ (removeWatches s).params = s.params ∧ (removeWatches s).eu = s.eu ∧
    (removeWatches s).beu = s.beu ∧ (removeWatches s).sc = s.sc ∧ (removeWatches s).rt = s.rt ∧
    (removeWatches s).lic = s.lic ∧ (removeWatches s).mbc = s.mbc ∧ (removeWatches s).tsc = s.tsc ∧
    (removeWatches s).cc = s.cc ∧ (removeWatches s).ama = s.ama ∧ (removeWatches s).lsc = s.lsc ∧
    (removeWatches s).dou = s.dou ∧ (removeWatches s).ft = s.ft ∧ (removeWatches s).tu = s.tu ∧
    (removeWatches s).rs = s.rs ∧ (removeWatches s).cal = s.cal ∧ (removeWatches s).ml = s.ml := by
  simp only [removeWatches]; (repeat' split) <;> simp
@[simp] theorem removeWatches_reported {key : ReportKey} {s : State} (h : Reported key s) :
    Reported key (removeWatches s) := by
  simp only [removeWatches]; (repeat' split) <;> simp +contextual (maxDischargeDepth := 40) [h]
@[simp] theorem lose_keeps (subj : Subject) (r : LoafRecord) (s : State) :
    (lose subj r s).pending = s.pending ∧ (lose subj r s).freeCount = s.freeCount ∧ (lose subj r s).pins = s.pins ∧
    (lose subj r s).params = s.params ∧ (lose subj r s).tt = s.tt ∧ (lose subj r s).eu = s.eu ∧
    (lose subj r s).beu = s.beu ∧ (lose subj r s).sc = s.sc ∧ (lose subj r s).rt = s.rt ∧
    (lose subj r s).mbc = s.mbc ∧ (lose subj r s).tsc = s.tsc ∧ (lose subj r s).cc = s.cc ∧
    (lose subj r s).ama = s.ama ∧ (lose subj r s).lsc = s.lsc ∧ (lose subj r s).dou = s.dou ∧
    (lose subj r s).rs = s.rs ∧ (lose subj r s).cal = s.cal ∧ (lose subj r s).ml.strap = s.ml.strap ∧
    (lose subj r s).ml.fifo = s.ml.fifo ∧ (lose subj r s).ml.rdy = s.ml.rdy ∧
    (lose subj r s).ml.assembler = s.ml.assembler ∧ (lose subj r s).ml.gap = s.ml.gap ∧
    (lose subj r s).ml.replies = s.ml.replies ∧ (lose subj r s).ml.tx = s.ml.tx ∧
    (lose subj r s).ml.noticeCrc = s.ml.noticeCrc ∧ (lose subj r s).ml.noticeTimeout = s.ml.noticeTimeout ∧
    (lose subj r s).ml.noticeOverrun = s.ml.noticeOverrun ∧
    (lose subj r s).ml.restartPending = s.ml.restartPending := by
  simp only [lose]; (repeat' split) <;> simp
@[simp] theorem lose_reported (subj : Subject) (r : LoafRecord) {key : ReportKey} {s : State} (h : Reported key s) :
    Reported key (lose subj r s) := by
  simp only [lose]; (repeat' split) <;> simp +contextual (maxDischargeDepth := 40) [h]
@[simp] theorem bladeEmptied_keeps (l : Lane) (s : State) :
    (bladeEmptied l s).pending = s.pending ∧ (bladeEmptied l s).freeCount = s.freeCount ∧
    (bladeEmptied l s).pins = s.pins ∧ (bladeEmptied l s).params = s.params ∧ (bladeEmptied l s).tt = s.tt ∧
    (bladeEmptied l s).eu = s.eu ∧ (bladeEmptied l s).beu = s.beu ∧ (bladeEmptied l s).rt = s.rt ∧
    (bladeEmptied l s).mbc = s.mbc ∧ (bladeEmptied l s).tsc = s.tsc ∧ (bladeEmptied l s).cc = s.cc ∧
    (bladeEmptied l s).ama = s.ama ∧ (bladeEmptied l s).lsc = s.lsc ∧ (bladeEmptied l s).dou = s.dou ∧
    (bladeEmptied l s).ft = s.ft ∧ (bladeEmptied l s).tu = s.tu ∧ (bladeEmptied l s).rs = s.rs ∧
    (bladeEmptied l s).cal = s.cal ∧ (bladeEmptied l s).ml.strap = s.ml.strap ∧
    (bladeEmptied l s).ml.fifo = s.ml.fifo ∧ (bladeEmptied l s).ml.rdy = s.ml.rdy ∧
    (bladeEmptied l s).ml.assembler = s.ml.assembler ∧ (bladeEmptied l s).ml.gap = s.ml.gap ∧
    (bladeEmptied l s).ml.replies = s.ml.replies ∧ (bladeEmptied l s).ml.tx = s.ml.tx ∧
    (bladeEmptied l s).ml.noticeCrc = s.ml.noticeCrc ∧ (bladeEmptied l s).ml.noticeTimeout = s.ml.noticeTimeout ∧
    (bladeEmptied l s).ml.noticeOverrun = s.ml.noticeOverrun ∧
    (bladeEmptied l s).ml.restartPending = s.ml.restartPending := by
  simp only [bladeEmptied]; (repeat' split) <;> simp
@[simp] theorem bladeEmptied_reported (l : Lane) {key : ReportKey} {s : State} (h : Reported key s) :
    Reported key (bladeEmptied l s) := by
  simp only [bladeEmptied]; (repeat' split) <;> simp +contextual (maxDischargeDepth := 40) [h]
@[simp] theorem loseBlade_keeps (l : Lane) (s : State) :
    (loseBlade l s).pending = s.pending ∧ (loseBlade l s).freeCount = s.freeCount ∧ (loseBlade l s).pins = s.pins ∧
    (loseBlade l s).params = s.params ∧ (loseBlade l s).eu = s.eu ∧ (loseBlade l s).beu = s.beu ∧
    (loseBlade l s).rt = s.rt ∧ (loseBlade l s).mbc = s.mbc ∧ (loseBlade l s).tsc = s.tsc ∧
    (loseBlade l s).cc = s.cc ∧ (loseBlade l s).ama = s.ama ∧ (loseBlade l s).lsc = s.lsc ∧
    (loseBlade l s).dou = s.dou ∧ (loseBlade l s).rs = s.rs ∧ (loseBlade l s).cal = s.cal ∧
    (loseBlade l s).ml.strap = s.ml.strap ∧ (loseBlade l s).ml.fifo = s.ml.fifo ∧ (loseBlade l s).ml.rdy = s.ml.rdy ∧
    (loseBlade l s).ml.assembler = s.ml.assembler ∧ (loseBlade l s).ml.gap = s.ml.gap ∧
    (loseBlade l s).ml.replies = s.ml.replies ∧ (loseBlade l s).ml.tx = s.ml.tx ∧
    (loseBlade l s).ml.noticeCrc = s.ml.noticeCrc ∧ (loseBlade l s).ml.noticeTimeout = s.ml.noticeTimeout ∧
    (loseBlade l s).ml.noticeOverrun = s.ml.noticeOverrun ∧
    (loseBlade l s).ml.restartPending = s.ml.restartPending := by
  simp only [loseBlade]; (repeat' split) <;> simp
@[simp] theorem loseBlade_reported (l : Lane) {key : ReportKey} {s : State} (h : Reported key s) :
    Reported key (loseBlade l s) := by
  simp only [loseBlade]; (repeat' split) <;> simp +contextual (maxDischargeDepth := 40) [h]
@[simp] theorem slicerLeading_keeps (l : Lane) (x : Edge) (s : State) :
    (slicerLeading l x s).pending = s.pending ∧ (slicerLeading l x s).freeCount = s.freeCount ∧
    (slicerLeading l x s).pins = s.pins ∧ (slicerLeading l x s).params = s.params ∧ (slicerLeading l x s).eu = s.eu ∧
    (slicerLeading l x s).beu = s.beu ∧ (slicerLeading l x s).sc = s.sc ∧ (slicerLeading l x s).rt = s.rt ∧
    (slicerLeading l x s).mbc = s.mbc ∧ (slicerLeading l x s).tsc = s.tsc ∧ (slicerLeading l x s).cc = s.cc ∧
    (slicerLeading l x s).ama = s.ama ∧ (slicerLeading l x s).lsc = s.lsc ∧ (slicerLeading l x s).dou = s.dou ∧
    (slicerLeading l x s).rs = s.rs ∧ (slicerLeading l x s).cal = s.cal ∧
    (slicerLeading l x s).ml.strap = s.ml.strap ∧ (slicerLeading l x s).ml.fifo = s.ml.fifo ∧
    (slicerLeading l x s).ml.rdy = s.ml.rdy ∧ (slicerLeading l x s).ml.assembler = s.ml.assembler ∧
    (slicerLeading l x s).ml.gap = s.ml.gap ∧ (slicerLeading l x s).ml.replies = s.ml.replies ∧
    (slicerLeading l x s).ml.tx = s.ml.tx ∧ (slicerLeading l x s).ml.noticeCrc = s.ml.noticeCrc ∧
    (slicerLeading l x s).ml.noticeTimeout = s.ml.noticeTimeout ∧
    (slicerLeading l x s).ml.noticeOverrun = s.ml.noticeOverrun ∧
    (slicerLeading l x s).ml.restartPending = s.ml.restartPending := by
  simp only [slicerLeading]; (repeat' split) <;> simp
@[simp] theorem slicerLeading_reported (l : Lane) (x : Edge) {key : ReportKey} {s : State} (h : Reported key s) :
    Reported key (slicerLeading l x s) := by
  simp only [slicerLeading]; (repeat' split) <;> simp +contextual (maxDischargeDepth := 40) [h]
@[simp] theorem startMergeWindow_keeps (l : Lane) (s : State) :
    (startMergeWindow l s).pending = s.pending ∧ (startMergeWindow l s).freeCount = s.freeCount ∧
    (startMergeWindow l s).pins = s.pins ∧ (startMergeWindow l s).params = s.params ∧
    (startMergeWindow l s).eu = s.eu ∧ (startMergeWindow l s).beu = s.beu ∧ (startMergeWindow l s).sc = s.sc ∧
    (startMergeWindow l s).rt = s.rt ∧ (startMergeWindow l s).lic = s.lic ∧ (startMergeWindow l s).mbc = s.mbc ∧
    (startMergeWindow l s).tsc = s.tsc ∧ (startMergeWindow l s).cc = s.cc ∧ (startMergeWindow l s).ama = s.ama ∧
    (startMergeWindow l s).lsc = s.lsc ∧ (startMergeWindow l s).dou = s.dou ∧ (startMergeWindow l s).ft = s.ft ∧
    (startMergeWindow l s).tu = s.tu ∧ (startMergeWindow l s).rs = s.rs ∧ (startMergeWindow l s).cal = s.cal ∧
    (startMergeWindow l s).ml = s.ml := by
  simp only [startMergeWindow]; (repeat' split) <;> simp
@[simp] theorem startMergeWindow_reported (l : Lane) {key : ReportKey} {s : State} (h : Reported key s) :
    Reported key (startMergeWindow l s) := by
  simp only [startMergeWindow]; (repeat' split) <;> simp +contextual (maxDischargeDepth := 40) [h]
@[simp] theorem accumHeadLeft_keeps (l : Lane) (left : LoafRecord) (s : State) :
    (accumHeadLeft l left s).pending = s.pending ∧ (accumHeadLeft l left s).freeCount = s.freeCount ∧
    (accumHeadLeft l left s).pins = s.pins ∧ (accumHeadLeft l left s).params = s.params ∧
    (accumHeadLeft l left s).eu = s.eu ∧ (accumHeadLeft l left s).beu = s.beu ∧ (accumHeadLeft l left s).sc = s.sc ∧
    (accumHeadLeft l left s).rt = s.rt ∧ (accumHeadLeft l left s).mbc = s.mbc ∧ (accumHeadLeft l left s).tsc = s.tsc ∧
    (accumHeadLeft l left s).cc = s.cc ∧ (accumHeadLeft l left s).ama = s.ama ∧ (accumHeadLeft l left s).lsc = s.lsc ∧
    (accumHeadLeft l left s).dou = s.dou ∧ (accumHeadLeft l left s).ft = s.ft ∧ (accumHeadLeft l left s).tu = s.tu ∧
    (accumHeadLeft l left s).rs = s.rs ∧ (accumHeadLeft l left s).cal = s.cal ∧
    (accumHeadLeft l left s).ml.strap = s.ml.strap ∧ (accumHeadLeft l left s).ml.fifo = s.ml.fifo ∧
    (accumHeadLeft l left s).ml.rdy = s.ml.rdy ∧ (accumHeadLeft l left s).ml.assembler = s.ml.assembler ∧
    (accumHeadLeft l left s).ml.gap = s.ml.gap ∧ (accumHeadLeft l left s).ml.replies = s.ml.replies ∧
    (accumHeadLeft l left s).ml.tx = s.ml.tx ∧ (accumHeadLeft l left s).ml.noticeCrc = s.ml.noticeCrc ∧
    (accumHeadLeft l left s).ml.noticeTimeout = s.ml.noticeTimeout ∧
    (accumHeadLeft l left s).ml.noticeOverrun = s.ml.noticeOverrun ∧
    (accumHeadLeft l left s).ml.restartPending = s.ml.restartPending := by
  simp only [accumHeadLeft]; (repeat' split) <;> simp
@[simp] theorem accumHeadLeft_reported (l : Lane) (left : LoafRecord) {key : ReportKey} {s : State} (h : Reported key s) :
    Reported key (accumHeadLeft l left s) := by
  simp only [accumHeadLeft]; (repeat' split) <;> simp +contextual (maxDischargeDepth := 40) [h]
@[simp] theorem removeAccumHead_keeps (l : Lane) (s : State) :
    (removeAccumHead l s).pending = s.pending ∧ (removeAccumHead l s).freeCount = s.freeCount ∧
    (removeAccumHead l s).pins = s.pins ∧ (removeAccumHead l s).params = s.params ∧ (removeAccumHead l s).eu = s.eu ∧
    (removeAccumHead l s).beu = s.beu ∧ (removeAccumHead l s).sc = s.sc ∧ (removeAccumHead l s).rt = s.rt ∧
    (removeAccumHead l s).lic = s.lic ∧ (removeAccumHead l s).mbc = s.mbc ∧ (removeAccumHead l s).tsc = s.tsc ∧
    (removeAccumHead l s).cc = s.cc ∧ (removeAccumHead l s).ama = s.ama ∧ (removeAccumHead l s).lsc = s.lsc ∧
    (removeAccumHead l s).dou = s.dou ∧ (removeAccumHead l s).ft = s.ft ∧ (removeAccumHead l s).tu = s.tu ∧
    (removeAccumHead l s).rs = s.rs ∧ (removeAccumHead l s).cal = s.cal ∧ (removeAccumHead l s).ml = s.ml := by
  simp only [removeAccumHead]; (repeat' split) <;> simp
@[simp] theorem removeAccumHead_reported (l : Lane) {key : ReportKey} {s : State} (h : Reported key s) :
    Reported key (removeAccumHead l s) := by
  simp only [removeAccumHead]; (repeat' split) <;> simp +contextual (maxDischargeDepth := 40) [h]
@[simp] theorem loseAccumHead_keeps (l : Lane) (s : State) :
    (loseAccumHead l s).pending = s.pending ∧ (loseAccumHead l s).freeCount = s.freeCount ∧
    (loseAccumHead l s).pins = s.pins ∧ (loseAccumHead l s).params = s.params ∧ (loseAccumHead l s).eu = s.eu ∧
    (loseAccumHead l s).beu = s.beu ∧ (loseAccumHead l s).sc = s.sc ∧ (loseAccumHead l s).rt = s.rt ∧
    (loseAccumHead l s).mbc = s.mbc ∧ (loseAccumHead l s).tsc = s.tsc ∧ (loseAccumHead l s).cc = s.cc ∧
    (loseAccumHead l s).ama = s.ama ∧ (loseAccumHead l s).lsc = s.lsc ∧ (loseAccumHead l s).dou = s.dou ∧
    (loseAccumHead l s).rs = s.rs ∧ (loseAccumHead l s).cal = s.cal ∧ (loseAccumHead l s).ml.strap = s.ml.strap ∧
    (loseAccumHead l s).ml.fifo = s.ml.fifo ∧ (loseAccumHead l s).ml.rdy = s.ml.rdy ∧
    (loseAccumHead l s).ml.assembler = s.ml.assembler ∧ (loseAccumHead l s).ml.gap = s.ml.gap ∧
    (loseAccumHead l s).ml.replies = s.ml.replies ∧ (loseAccumHead l s).ml.tx = s.ml.tx ∧
    (loseAccumHead l s).ml.noticeCrc = s.ml.noticeCrc ∧ (loseAccumHead l s).ml.noticeTimeout = s.ml.noticeTimeout ∧
    (loseAccumHead l s).ml.noticeOverrun = s.ml.noticeOverrun ∧
    (loseAccumHead l s).ml.restartPending = s.ml.restartPending := by
  simp only [loseAccumHead]; (repeat' split) <;> simp
@[simp] theorem loseAccumHead_reported (l : Lane) {key : ReportKey} {s : State} (h : Reported key s) :
    Reported key (loseAccumHead l s) := by
  simp only [loseAccumHead]; (repeat' split) <;> simp +contextual (maxDischargeDepth := 40) [h]
@[simp] theorem slicerTrailing_keeps (l : Lane) (s : State) :
    (slicerTrailing l s).pending = s.pending ∧ (slicerTrailing l s).freeCount = s.freeCount ∧
    (slicerTrailing l s).pins = s.pins ∧ (slicerTrailing l s).params = s.params ∧ (slicerTrailing l s).eu = s.eu ∧
    (slicerTrailing l s).beu = s.beu ∧ (slicerTrailing l s).rt = s.rt ∧ (slicerTrailing l s).mbc = s.mbc ∧
    (slicerTrailing l s).tsc = s.tsc ∧ (slicerTrailing l s).cc = s.cc ∧ (slicerTrailing l s).ama = s.ama ∧
    (slicerTrailing l s).lsc = s.lsc ∧ (slicerTrailing l s).dou = s.dou ∧ (slicerTrailing l s).ft = s.ft ∧
    (slicerTrailing l s).tu = s.tu ∧ (slicerTrailing l s).rs = s.rs ∧ (slicerTrailing l s).cal = s.cal ∧
    (slicerTrailing l s).ml.strap = s.ml.strap ∧ (slicerTrailing l s).ml.fifo = s.ml.fifo ∧
    (slicerTrailing l s).ml.rdy = s.ml.rdy ∧ (slicerTrailing l s).ml.assembler = s.ml.assembler ∧
    (slicerTrailing l s).ml.gap = s.ml.gap ∧ (slicerTrailing l s).ml.replies = s.ml.replies ∧
    (slicerTrailing l s).ml.tx = s.ml.tx ∧ (slicerTrailing l s).ml.noticeCrc = s.ml.noticeCrc ∧
    (slicerTrailing l s).ml.noticeTimeout = s.ml.noticeTimeout ∧
    (slicerTrailing l s).ml.noticeOverrun = s.ml.noticeOverrun ∧
    (slicerTrailing l s).ml.restartPending = s.ml.restartPending := by
  simp only [slicerTrailing]; (repeat' split) <;> simp
@[simp] theorem slicerTrailing_reported (l : Lane) {key : ReportKey} {s : State} (h : Reported key s) :
    Reported key (slicerTrailing l s) := by
  simp only [slicerTrailing]; (repeat' split) <;> simp +contextual (maxDischargeDepth := 40) [h]
@[simp] theorem mergeLeading_keeps (l : Lane) (x : Edge) (s : State) :
    (mergeLeading l x s).pending = s.pending ∧ (mergeLeading l x s).freeCount = s.freeCount ∧
    (mergeLeading l x s).pins = s.pins ∧ (mergeLeading l x s).params = s.params ∧ (mergeLeading l x s).eu = s.eu ∧
    (mergeLeading l x s).beu = s.beu ∧ (mergeLeading l x s).sc = s.sc ∧ (mergeLeading l x s).rt = s.rt ∧
    (mergeLeading l x s).mbc = s.mbc ∧ (mergeLeading l x s).tsc = s.tsc ∧ (mergeLeading l x s).cc = s.cc ∧
    (mergeLeading l x s).ama = s.ama ∧ (mergeLeading l x s).lsc = s.lsc ∧ (mergeLeading l x s).dou = s.dou ∧
    (mergeLeading l x s).rs = s.rs ∧ (mergeLeading l x s).cal = s.cal ∧ (mergeLeading l x s).ml.strap = s.ml.strap ∧
    (mergeLeading l x s).ml.fifo = s.ml.fifo ∧ (mergeLeading l x s).ml.rdy = s.ml.rdy ∧
    (mergeLeading l x s).ml.assembler = s.ml.assembler ∧ (mergeLeading l x s).ml.gap = s.ml.gap ∧
    (mergeLeading l x s).ml.replies = s.ml.replies ∧ (mergeLeading l x s).ml.tx = s.ml.tx ∧
    (mergeLeading l x s).ml.noticeCrc = s.ml.noticeCrc ∧ (mergeLeading l x s).ml.noticeTimeout = s.ml.noticeTimeout ∧
    (mergeLeading l x s).ml.noticeOverrun = s.ml.noticeOverrun ∧
    (mergeLeading l x s).ml.restartPending = s.ml.restartPending := by
  simp only [mergeLeading]; (repeat' split) <;> simp
@[simp] theorem mergeLeading_reported (l : Lane) (x : Edge) {key : ReportKey} {s : State} (h : Reported key s) :
    Reported key (mergeLeading l x s) := by
  simp only [mergeLeading]; (repeat' split) <;> simp +contextual (maxDischargeDepth := 40) [h]
@[simp] theorem loseExitHead_keeps (s : State) :
    (loseExitHead s).pending = s.pending ∧ (loseExitHead s).freeCount = s.freeCount ∧ (loseExitHead s).pins = s.pins ∧
    (loseExitHead s).params = s.params ∧ (loseExitHead s).eu = s.eu ∧ (loseExitHead s).beu = s.beu ∧
    (loseExitHead s).sc = s.sc ∧ (loseExitHead s).rt = s.rt ∧ (loseExitHead s).mbc = s.mbc ∧
    (loseExitHead s).tsc = s.tsc ∧ (loseExitHead s).cc = s.cc ∧ (loseExitHead s).ama = s.ama ∧
    (loseExitHead s).lsc = s.lsc ∧ (loseExitHead s).dou = s.dou ∧ (loseExitHead s).rs = s.rs ∧
    (loseExitHead s).cal = s.cal ∧ (loseExitHead s).ml.strap = s.ml.strap ∧ (loseExitHead s).ml.fifo = s.ml.fifo ∧
    (loseExitHead s).ml.rdy = s.ml.rdy ∧ (loseExitHead s).ml.assembler = s.ml.assembler ∧
    (loseExitHead s).ml.gap = s.ml.gap ∧ (loseExitHead s).ml.replies = s.ml.replies ∧
    (loseExitHead s).ml.tx = s.ml.tx ∧ (loseExitHead s).ml.noticeCrc = s.ml.noticeCrc ∧
    (loseExitHead s).ml.noticeTimeout = s.ml.noticeTimeout ∧ (loseExitHead s).ml.noticeOverrun = s.ml.noticeOverrun ∧
    (loseExitHead s).ml.restartPending = s.ml.restartPending := by
  simp only [loseExitHead]; (repeat' split) <;> simp
@[simp] theorem loseExitHead_reported {key : ReportKey} {s : State} (h : Reported key s) :
    Reported key (loseExitHead s) := by
  simp only [loseExitHead]; (repeat' split) <;> simp +contextual (maxDischargeDepth := 40) [h]
@[simp] theorem compareExitHead_keeps (n : Nat) (s : State) :
    (compareExitHead n s).pending = s.pending ∧ (compareExitHead n s).freeCount = s.freeCount ∧
    (compareExitHead n s).pins = s.pins ∧ (compareExitHead n s).params = s.params ∧ (compareExitHead n s).eu = s.eu ∧
    (compareExitHead n s).beu = s.beu ∧ (compareExitHead n s).sc = s.sc ∧ (compareExitHead n s).rt = s.rt ∧
    (compareExitHead n s).mbc = s.mbc ∧ (compareExitHead n s).tsc = s.tsc ∧ (compareExitHead n s).cc = s.cc ∧
    (compareExitHead n s).ama = s.ama ∧ (compareExitHead n s).lsc = s.lsc ∧ (compareExitHead n s).dou = s.dou ∧
    (compareExitHead n s).rs = s.rs ∧ (compareExitHead n s).cal = s.cal ∧
    (compareExitHead n s).ml.strap = s.ml.strap ∧ (compareExitHead n s).ml.fifo = s.ml.fifo ∧
    (compareExitHead n s).ml.rdy = s.ml.rdy ∧ (compareExitHead n s).ml.assembler = s.ml.assembler ∧
    (compareExitHead n s).ml.gap = s.ml.gap ∧ (compareExitHead n s).ml.replies = s.ml.replies ∧
    (compareExitHead n s).ml.tx = s.ml.tx ∧ (compareExitHead n s).ml.noticeCrc = s.ml.noticeCrc ∧
    (compareExitHead n s).ml.noticeTimeout = s.ml.noticeTimeout ∧
    (compareExitHead n s).ml.noticeOverrun = s.ml.noticeOverrun ∧
    (compareExitHead n s).ml.restartPending = s.ml.restartPending := by
  induction n generalizing s with
  | zero => simp [compareExitHead]
  | succ n ih => rw [compareExitHead]; split <;> simp [ih]
@[simp] theorem compareExitHead_reported (n : Nat) {key : ReportKey} {s : State} (h : Reported key s) :
    Reported key (compareExitHead n s) := by
  induction n generalizing s with
  | zero => simpa [compareExitHead]
  | succ n ih =>
    rw [compareExitHead]; split
    · exact ih (loseExitHead_reported h)
    · exact h
@[simp] theorem exitHeadChanged_keeps (s : State) :
    (exitHeadChanged s).pending = s.pending ∧ (exitHeadChanged s).freeCount = s.freeCount ∧
    (exitHeadChanged s).pins = s.pins ∧ (exitHeadChanged s).params = s.params ∧ (exitHeadChanged s).eu = s.eu ∧
    (exitHeadChanged s).beu = s.beu ∧ (exitHeadChanged s).sc = s.sc ∧ (exitHeadChanged s).rt = s.rt ∧
    (exitHeadChanged s).mbc = s.mbc ∧ (exitHeadChanged s).tsc = s.tsc ∧ (exitHeadChanged s).cc = s.cc ∧
    (exitHeadChanged s).ama = s.ama ∧ (exitHeadChanged s).lsc = s.lsc ∧ (exitHeadChanged s).dou = s.dou ∧
    (exitHeadChanged s).rs = s.rs ∧ (exitHeadChanged s).cal = s.cal ∧ (exitHeadChanged s).ml.strap = s.ml.strap ∧
    (exitHeadChanged s).ml.fifo = s.ml.fifo ∧ (exitHeadChanged s).ml.rdy = s.ml.rdy ∧
    (exitHeadChanged s).ml.assembler = s.ml.assembler ∧ (exitHeadChanged s).ml.gap = s.ml.gap ∧
    (exitHeadChanged s).ml.replies = s.ml.replies ∧ (exitHeadChanged s).ml.tx = s.ml.tx ∧
    (exitHeadChanged s).ml.noticeCrc = s.ml.noticeCrc ∧ (exitHeadChanged s).ml.noticeTimeout = s.ml.noticeTimeout ∧
    (exitHeadChanged s).ml.noticeOverrun = s.ml.noticeOverrun ∧
    (exitHeadChanged s).ml.restartPending = s.ml.restartPending := by
  simp only [exitHeadChanged]; (repeat' split) <;> simp
@[simp] theorem exitHeadChanged_reported {key : ReportKey} {s : State} (h : Reported key s) :
    Reported key (exitHeadChanged s) := by
  simp only [exitHeadChanged]; (repeat' split) <;> simp +contextual (maxDischargeDepth := 40) [h]
@[simp] theorem joinExit_keeps (r : LoafRecord) (s : State) :
    (joinExit r s).pending = s.pending ∧ (joinExit r s).freeCount = s.freeCount ∧ (joinExit r s).pins = s.pins ∧
    (joinExit r s).params = s.params ∧ (joinExit r s).eu = s.eu ∧ (joinExit r s).beu = s.beu ∧
    (joinExit r s).sc = s.sc ∧ (joinExit r s).rt = s.rt ∧ (joinExit r s).mbc = s.mbc ∧ (joinExit r s).tsc = s.tsc ∧
    (joinExit r s).cc = s.cc ∧ (joinExit r s).ama = s.ama ∧ (joinExit r s).lsc = s.lsc ∧ (joinExit r s).dou = s.dou ∧
    (joinExit r s).rs = s.rs ∧ (joinExit r s).cal = s.cal ∧ (joinExit r s).ml.strap = s.ml.strap ∧
    (joinExit r s).ml.fifo = s.ml.fifo ∧ (joinExit r s).ml.rdy = s.ml.rdy ∧
    (joinExit r s).ml.assembler = s.ml.assembler ∧ (joinExit r s).ml.gap = s.ml.gap ∧
    (joinExit r s).ml.replies = s.ml.replies ∧ (joinExit r s).ml.tx = s.ml.tx ∧
    (joinExit r s).ml.noticeCrc = s.ml.noticeCrc ∧ (joinExit r s).ml.noticeTimeout = s.ml.noticeTimeout ∧
    (joinExit r s).ml.noticeOverrun = s.ml.noticeOverrun ∧
    (joinExit r s).ml.restartPending = s.ml.restartPending := by
  simp only [joinExit]; (repeat' split) <;> simp
@[simp] theorem joinExit_reported (r : LoafRecord) {key : ReportKey} {s : State} (h : Reported key s) :
    Reported key (joinExit r s) := by
  simp only [joinExit]; (repeat' split) <;> simp +contextual (maxDischargeDepth := 40) [h]
@[simp] theorem exitLeading_keeps (x : Edge) (s : State) :
    (exitLeading x s).pending = s.pending ∧ (exitLeading x s).freeCount = s.freeCount ∧
    (exitLeading x s).pins = s.pins ∧ (exitLeading x s).params = s.params ∧ (exitLeading x s).eu = s.eu ∧
    (exitLeading x s).beu = s.beu ∧ (exitLeading x s).sc = s.sc ∧ (exitLeading x s).rt = s.rt ∧
    (exitLeading x s).mbc = s.mbc ∧ (exitLeading x s).tsc = s.tsc ∧ (exitLeading x s).cc = s.cc ∧
    (exitLeading x s).ama = s.ama ∧ (exitLeading x s).lsc = s.lsc ∧ (exitLeading x s).dou = s.dou ∧
    (exitLeading x s).rs = s.rs ∧ (exitLeading x s).cal = s.cal ∧ (exitLeading x s).ml.strap = s.ml.strap ∧
    (exitLeading x s).ml.fifo = s.ml.fifo ∧ (exitLeading x s).ml.rdy = s.ml.rdy ∧
    (exitLeading x s).ml.assembler = s.ml.assembler ∧ (exitLeading x s).ml.gap = s.ml.gap ∧
    (exitLeading x s).ml.replies = s.ml.replies ∧ (exitLeading x s).ml.tx = s.ml.tx ∧
    (exitLeading x s).ml.noticeCrc = s.ml.noticeCrc ∧ (exitLeading x s).ml.noticeTimeout = s.ml.noticeTimeout ∧
    (exitLeading x s).ml.noticeOverrun = s.ml.noticeOverrun ∧
    (exitLeading x s).ml.restartPending = s.ml.restartPending := by
  simp only [exitLeading]; (repeat' split) <;> simp
@[simp] theorem exitLeading_reported (x : Edge) {key : ReportKey} {s : State} (h : Reported key s) :
    Reported key (exitLeading x s) := by
  simp only [exitLeading]; (repeat' split) <;> simp +contextual (maxDischargeDepth := 40) [h]
@[simp] theorem exitTrailing_keeps (s : State) :
    (exitTrailing s).pending = s.pending ∧ (exitTrailing s).freeCount = s.freeCount ∧ (exitTrailing s).pins = s.pins ∧
    (exitTrailing s).params = s.params ∧ (exitTrailing s).eu = s.eu ∧ (exitTrailing s).beu = s.beu ∧
    (exitTrailing s).sc = s.sc ∧ (exitTrailing s).rt = s.rt ∧ (exitTrailing s).mbc = s.mbc ∧
    (exitTrailing s).tsc = s.tsc ∧ (exitTrailing s).cc = s.cc ∧ (exitTrailing s).ama = s.ama ∧
    (exitTrailing s).lsc = s.lsc ∧ (exitTrailing s).dou = s.dou ∧ (exitTrailing s).rs = s.rs ∧
    (exitTrailing s).cal = s.cal ∧ (exitTrailing s).ml.strap = s.ml.strap ∧ (exitTrailing s).ml.fifo = s.ml.fifo ∧
    (exitTrailing s).ml.rdy = s.ml.rdy ∧ (exitTrailing s).ml.assembler = s.ml.assembler ∧
    (exitTrailing s).ml.gap = s.ml.gap ∧ (exitTrailing s).ml.replies = s.ml.replies ∧
    (exitTrailing s).ml.tx = s.ml.tx ∧ (exitTrailing s).ml.noticeCrc = s.ml.noticeCrc ∧
    (exitTrailing s).ml.noticeTimeout = s.ml.noticeTimeout ∧ (exitTrailing s).ml.noticeOverrun = s.ml.noticeOverrun ∧
    (exitTrailing s).ml.restartPending = s.ml.restartPending := by
  simp only [exitTrailing]; (repeat' split) <;> simp
@[simp] theorem exitTrailing_reported {key : ReportKey} {s : State} (h : Reported key s) :
    Reported key (exitTrailing s) := by
  simp only [exitTrailing]; (repeat' split) <;> simp +contextual (maxDischargeDepth := 40) [h]
@[simp] theorem stopMarking_keeps (s : State) :
    (stopMarking s).pending = s.pending ∧ (stopMarking s).freeCount = s.freeCount ∧ (stopMarking s).pins = s.pins ∧
    (stopMarking s).params = s.params ∧ (stopMarking s).eu = s.eu ∧ (stopMarking s).beu = s.beu ∧
    (stopMarking s).sc = s.sc ∧ (stopMarking s).rt = s.rt ∧ (stopMarking s).lic = s.lic ∧
    (stopMarking s).mbc = s.mbc ∧ (stopMarking s).tsc = s.tsc ∧ (stopMarking s).cc = s.cc ∧
    (stopMarking s).ama = s.ama ∧ (stopMarking s).lsc = s.lsc ∧ (stopMarking s).dou = s.dou ∧
    (stopMarking s).ft = s.ft ∧ (stopMarking s).tu = s.tu ∧ (stopMarking s).rs = s.rs ∧ (stopMarking s).cal = s.cal ∧
    (stopMarking s).ml = s.ml := by
  simp only [stopMarking]; (repeat' split) <;> simp
@[simp] theorem stopMarking_reported {key : ReportKey} {s : State} (h : Reported key s) :
    Reported key (stopMarking s) := by
  simp only [stopMarking]; (repeat' split) <;> simp +contextual (maxDischargeDepth := 40) [h]
@[simp] theorem countStopDiscard_keeps (r : LoafRecord) (s : State) :
    (countStopDiscard r s).pending = s.pending ∧ (countStopDiscard r s).freeCount = s.freeCount ∧
    (countStopDiscard r s).pins = s.pins ∧ (countStopDiscard r s).params = s.params ∧
    (countStopDiscard r s).tt = s.tt ∧ (countStopDiscard r s).eu = s.eu ∧ (countStopDiscard r s).beu = s.beu ∧
    (countStopDiscard r s).sc = s.sc ∧ (countStopDiscard r s).rt = s.rt ∧ (countStopDiscard r s).lic = s.lic ∧
    (countStopDiscard r s).mbc = s.mbc ∧ (countStopDiscard r s).tsc = s.tsc ∧ (countStopDiscard r s).cc = s.cc ∧
    (countStopDiscard r s).ama = s.ama ∧ (countStopDiscard r s).lsc = s.lsc ∧ (countStopDiscard r s).dou = s.dou ∧
    (countStopDiscard r s).ft = s.ft ∧ (countStopDiscard r s).rs = s.rs ∧ (countStopDiscard r s).cal = s.cal ∧
    (countStopDiscard r s).ml = s.ml := by
  simp only [countStopDiscard]; (repeat' split) <;> simp
@[simp] theorem countStopDiscard_reported (r : LoafRecord) {key : ReportKey} {s : State} (h : Reported key s) :
    Reported key (countStopDiscard r s) := by
  simp only [countStopDiscard]; (repeat' split) <;> simp +contextual (maxDischargeDepth := 40) [h]
@[simp] theorem discardBagger_keeps (s : State) :
    (discardBagger s).pending = s.pending ∧ (discardBagger s).freeCount = s.freeCount ∧
    (discardBagger s).pins = s.pins ∧ (discardBagger s).params = s.params ∧ (discardBagger s).eu = s.eu ∧
    (discardBagger s).beu = s.beu ∧ (discardBagger s).sc = s.sc ∧ (discardBagger s).rt = s.rt ∧
    (discardBagger s).lic = s.lic ∧ (discardBagger s).mbc = s.mbc ∧ (discardBagger s).tsc = s.tsc ∧
    (discardBagger s).cc = s.cc ∧ (discardBagger s).ama = s.ama ∧ (discardBagger s).lsc = s.lsc ∧
    (discardBagger s).dou = s.dou ∧ (discardBagger s).ft = s.ft ∧ (discardBagger s).rs = s.rs ∧
    (discardBagger s).cal = s.cal ∧ (discardBagger s).ml = s.ml := by
  simp only [discardBagger]; (repeat' split) <;> simp
@[simp] theorem discardBagger_reported {key : ReportKey} {s : State} (h : Reported key s) :
    Reported key (discardBagger s) := by
  simp only [discardBagger]; (repeat' split) <;> simp +contextual (maxDischargeDepth := 40) [h]
@[simp] theorem discardTyer_keeps (s : State) :
    (discardTyer s).pending = s.pending ∧ (discardTyer s).freeCount = s.freeCount ∧ (discardTyer s).pins = s.pins ∧
    (discardTyer s).params = s.params ∧ (discardTyer s).eu = s.eu ∧ (discardTyer s).beu = s.beu ∧
    (discardTyer s).sc = s.sc ∧ (discardTyer s).rt = s.rt ∧ (discardTyer s).mbc = s.mbc ∧
    (discardTyer s).tsc = s.tsc ∧ (discardTyer s).cc = s.cc ∧ (discardTyer s).ama = s.ama ∧
    (discardTyer s).lsc = s.lsc ∧ (discardTyer s).dou = s.dou ∧ (discardTyer s).rs = s.rs ∧
    (discardTyer s).cal = s.cal ∧ (discardTyer s).ml.strap = s.ml.strap ∧ (discardTyer s).ml.fifo = s.ml.fifo ∧
    (discardTyer s).ml.rdy = s.ml.rdy ∧ (discardTyer s).ml.assembler = s.ml.assembler ∧
    (discardTyer s).ml.gap = s.ml.gap ∧ (discardTyer s).ml.replies = s.ml.replies ∧ (discardTyer s).ml.tx = s.ml.tx ∧
    (discardTyer s).ml.noticeCrc = s.ml.noticeCrc ∧ (discardTyer s).ml.noticeTimeout = s.ml.noticeTimeout ∧
    (discardTyer s).ml.noticeOverrun = s.ml.noticeOverrun ∧
    (discardTyer s).ml.restartPending = s.ml.restartPending := by
  simp only [discardTyer]; (repeat' split) <;> simp
@[simp] theorem discardTyer_reported {key : ReportKey} {s : State} (h : Reported key s) :
    Reported key (discardTyer s) := by
  simp only [discardTyer]; (repeat' split) <;> simp +contextual (maxDischargeDepth := 40) [h]
@[simp] theorem resumeDiscard_keeps (s : State) :
    (resumeDiscard s).pending = s.pending ∧ (resumeDiscard s).freeCount = s.freeCount ∧
    (resumeDiscard s).pins = s.pins ∧ (resumeDiscard s).params = s.params ∧ (resumeDiscard s).eu = s.eu ∧
    (resumeDiscard s).beu = s.beu ∧ (resumeDiscard s).sc = s.sc ∧ (resumeDiscard s).rt = s.rt ∧
    (resumeDiscard s).mbc = s.mbc ∧ (resumeDiscard s).tsc = s.tsc ∧ (resumeDiscard s).cc = s.cc ∧
    (resumeDiscard s).ama = s.ama ∧ (resumeDiscard s).lsc = s.lsc ∧ (resumeDiscard s).dou = s.dou ∧
    (resumeDiscard s).rs = s.rs ∧ (resumeDiscard s).cal = s.cal ∧ (resumeDiscard s).ml.strap = s.ml.strap ∧
    (resumeDiscard s).ml.fifo = s.ml.fifo ∧ (resumeDiscard s).ml.rdy = s.ml.rdy ∧
    (resumeDiscard s).ml.assembler = s.ml.assembler ∧ (resumeDiscard s).ml.gap = s.ml.gap ∧
    (resumeDiscard s).ml.replies = s.ml.replies ∧ (resumeDiscard s).ml.tx = s.ml.tx ∧
    (resumeDiscard s).ml.noticeCrc = s.ml.noticeCrc ∧ (resumeDiscard s).ml.noticeTimeout = s.ml.noticeTimeout ∧
    (resumeDiscard s).ml.noticeOverrun = s.ml.noticeOverrun ∧
    (resumeDiscard s).ml.restartPending = s.ml.restartPending := by
  simp only [resumeDiscard]; (repeat' split) <;> simp
@[simp] theorem resumeDiscard_reported {key : ReportKey} {s : State} (h : Reported key s) :
    Reported key (resumeDiscard s) := by
  simp only [resumeDiscard]; (repeat' split) <;> simp +contextual (maxDischargeDepth := 40) [h]
@[simp] theorem purgePool_keeps (s : State) :
    (purgePool s).pending = s.pending ∧ (purgePool s).freeCount = s.freeCount ∧ (purgePool s).pins = s.pins ∧
    (purgePool s).params = s.params ∧ (purgePool s).eu = s.eu ∧ (purgePool s).beu = s.beu ∧ (purgePool s).rt = s.rt ∧
    (purgePool s).mbc = s.mbc ∧ (purgePool s).tsc = s.tsc ∧ (purgePool s).cc = s.cc ∧ (purgePool s).ama = s.ama ∧
    (purgePool s).lsc = s.lsc ∧ (purgePool s).dou = s.dou ∧ (purgePool s).rs = s.rs ∧ (purgePool s).cal = s.cal ∧
    (purgePool s).ml.strap = s.ml.strap ∧ (purgePool s).ml.fifo = s.ml.fifo ∧ (purgePool s).ml.rdy = s.ml.rdy ∧
    (purgePool s).ml.assembler = s.ml.assembler ∧ (purgePool s).ml.gap = s.ml.gap ∧
    (purgePool s).ml.replies = s.ml.replies ∧ (purgePool s).ml.tx = s.ml.tx ∧
    (purgePool s).ml.noticeCrc = s.ml.noticeCrc ∧ (purgePool s).ml.noticeTimeout = s.ml.noticeTimeout ∧
    (purgePool s).ml.noticeOverrun = s.ml.noticeOverrun ∧ (purgePool s).ml.restartPending = s.ml.restartPending := by
  simp only [purgePool]; and_intros <;> simp [foldl_pending, foldl_freeCount, foldl_pins, foldl_params, foldl_eu, foldl_beu, foldl_rt, foldl_mbc, foldl_tsc, foldl_cc, foldl_ama, foldl_lsc, foldl_dou, foldl_rs, foldl_cal, foldl_strap, foldl_fifo, foldl_rdy, foldl_assembler, foldl_gap, foldl_replies, foldl_tx, foldl_noticeCrc, foldl_noticeTimeout, foldl_noticeOverrun, foldl_restartPending]
@[simp] theorem purgePool_reported {key : ReportKey} {s : State} (h : Reported key s) :
    Reported key (purgePool s) := by
  simp only [purgePool]
  refine syncLanes_reported (noticeCause_reported _ _ _ (when_reported (by simp +contextual) _
    (when_reported (by simp +contextual) _ (foldl_reported (by simp +contextual) _ h))))
@[simp] theorem changeBlade_keeps (l : Lane) (b : BladeState) (wait : Timer) (s : State) :
    (changeBlade l b wait s).pending = s.pending ∧ (changeBlade l b wait s).freeCount = s.freeCount ∧
    (changeBlade l b wait s).pins = s.pins ∧ (changeBlade l b wait s).params = s.params ∧
    (changeBlade l b wait s).tt = s.tt ∧ (changeBlade l b wait s).eu = s.eu ∧ (changeBlade l b wait s).beu = s.beu ∧
    (changeBlade l b wait s).sc = s.sc ∧ (changeBlade l b wait s).rt = s.rt ∧ (changeBlade l b wait s).mbc = s.mbc ∧
    (changeBlade l b wait s).tsc = s.tsc ∧ (changeBlade l b wait s).cc = s.cc ∧ (changeBlade l b wait s).ama = s.ama ∧
    (changeBlade l b wait s).lsc = s.lsc ∧ (changeBlade l b wait s).dou = s.dou ∧ (changeBlade l b wait s).ft = s.ft ∧
    (changeBlade l b wait s).tu = s.tu ∧ (changeBlade l b wait s).rs = s.rs ∧ (changeBlade l b wait s).cal = s.cal ∧
    (changeBlade l b wait s).ml.strap = s.ml.strap ∧ (changeBlade l b wait s).ml.fifo = s.ml.fifo ∧
    (changeBlade l b wait s).ml.rdy = s.ml.rdy ∧ (changeBlade l b wait s).ml.assembler = s.ml.assembler ∧
    (changeBlade l b wait s).ml.gap = s.ml.gap ∧ (changeBlade l b wait s).ml.replies = s.ml.replies ∧
    (changeBlade l b wait s).ml.tx = s.ml.tx ∧ (changeBlade l b wait s).ml.noticeCrc = s.ml.noticeCrc ∧
    (changeBlade l b wait s).ml.noticeTimeout = s.ml.noticeTimeout ∧
    (changeBlade l b wait s).ml.noticeOverrun = s.ml.noticeOverrun ∧
    (changeBlade l b wait s).ml.restartPending = s.ml.restartPending := by
  simp only [changeBlade]; (repeat' split) <;> simp
@[simp] theorem changeBlade_reported (l : Lane) (b : BladeState) (wait : Timer) {key : ReportKey} {s : State} (h : Reported key s) :
    Reported key (changeBlade l b wait s) := by
  simp only [changeBlade]; (repeat' split) <;> simp +contextual (maxDischargeDepth := 40) [h]
@[simp] theorem startSpinUp_keeps (l : Lane) (s : State) :
    (startSpinUp l s).pending = s.pending ∧ (startSpinUp l s).freeCount = s.freeCount ∧
    (startSpinUp l s).pins = s.pins ∧ (startSpinUp l s).params = s.params ∧ (startSpinUp l s).tt = s.tt ∧
    (startSpinUp l s).eu = s.eu ∧ (startSpinUp l s).beu = s.beu ∧ (startSpinUp l s).sc = s.sc ∧
    (startSpinUp l s).rt = s.rt ∧ (startSpinUp l s).mbc = s.mbc ∧ (startSpinUp l s).tsc = s.tsc ∧
    (startSpinUp l s).cc = s.cc ∧ (startSpinUp l s).ama = s.ama ∧ (startSpinUp l s).lsc = s.lsc ∧
    (startSpinUp l s).ft = s.ft ∧ (startSpinUp l s).tu = s.tu ∧ (startSpinUp l s).rs = s.rs ∧
    (startSpinUp l s).cal = s.cal ∧ (startSpinUp l s).ml.strap = s.ml.strap ∧ (startSpinUp l s).ml.fifo = s.ml.fifo ∧
    (startSpinUp l s).ml.rdy = s.ml.rdy ∧ (startSpinUp l s).ml.assembler = s.ml.assembler ∧
    (startSpinUp l s).ml.gap = s.ml.gap ∧ (startSpinUp l s).ml.replies = s.ml.replies ∧
    (startSpinUp l s).ml.tx = s.ml.tx ∧ (startSpinUp l s).ml.noticeCrc = s.ml.noticeCrc ∧
    (startSpinUp l s).ml.noticeTimeout = s.ml.noticeTimeout ∧
    (startSpinUp l s).ml.noticeOverrun = s.ml.noticeOverrun ∧
    (startSpinUp l s).ml.restartPending = s.ml.restartPending := by
  simp only [startSpinUp]; (repeat' split) <;> simp
@[simp] theorem startSpinUp_reported (l : Lane) {key : ReportKey} {s : State} (h : Reported key s) :
    Reported key (startSpinUp l s) := by
  simp only [startSpinUp]; (repeat' split) <;> simp +contextual (maxDischargeDepth := 40) [h]
@[simp] theorem bladeOff_keeps (l : Lane) (s : State) :
    (bladeOff l s).pending = s.pending ∧ (bladeOff l s).freeCount = s.freeCount ∧ (bladeOff l s).pins = s.pins ∧
    (bladeOff l s).params = s.params ∧ (bladeOff l s).tt = s.tt ∧ (bladeOff l s).eu = s.eu ∧
    (bladeOff l s).beu = s.beu ∧ (bladeOff l s).sc = s.sc ∧ (bladeOff l s).rt = s.rt ∧ (bladeOff l s).mbc = s.mbc ∧
    (bladeOff l s).tsc = s.tsc ∧ (bladeOff l s).cc = s.cc ∧ (bladeOff l s).ama = s.ama ∧ (bladeOff l s).lsc = s.lsc ∧
    (bladeOff l s).ft = s.ft ∧ (bladeOff l s).tu = s.tu ∧ (bladeOff l s).rs = s.rs ∧ (bladeOff l s).cal = s.cal ∧
    (bladeOff l s).ml.strap = s.ml.strap ∧ (bladeOff l s).ml.fifo = s.ml.fifo ∧ (bladeOff l s).ml.rdy = s.ml.rdy ∧
    (bladeOff l s).ml.assembler = s.ml.assembler ∧ (bladeOff l s).ml.gap = s.ml.gap ∧
    (bladeOff l s).ml.replies = s.ml.replies ∧ (bladeOff l s).ml.tx = s.ml.tx ∧
    (bladeOff l s).ml.noticeCrc = s.ml.noticeCrc ∧ (bladeOff l s).ml.noticeTimeout = s.ml.noticeTimeout ∧
    (bladeOff l s).ml.noticeOverrun = s.ml.noticeOverrun ∧
    (bladeOff l s).ml.restartPending = s.ml.restartPending := by
  simp only [bladeOff]; (repeat' split) <;> simp
@[simp] theorem bladeOff_reported (l : Lane) {key : ReportKey} {s : State} (h : Reported key s) :
    Reported key (bladeOff l s) := by
  simp only [bladeOff]; (repeat' split) <;> simp +contextual (maxDischargeDepth := 40) [h]
@[simp] theorem bladeFollow_keeps (l : Lane) (s : State) :
    (bladeFollow l s).pending = s.pending ∧ (bladeFollow l s).freeCount = s.freeCount ∧
    (bladeFollow l s).pins = s.pins ∧ (bladeFollow l s).params = s.params ∧ (bladeFollow l s).tt = s.tt ∧
    (bladeFollow l s).eu = s.eu ∧ (bladeFollow l s).beu = s.beu ∧ (bladeFollow l s).sc = s.sc ∧
    (bladeFollow l s).rt = s.rt ∧ (bladeFollow l s).mbc = s.mbc ∧ (bladeFollow l s).tsc = s.tsc ∧
    (bladeFollow l s).cc = s.cc ∧ (bladeFollow l s).ama = s.ama ∧ (bladeFollow l s).lsc = s.lsc ∧
    (bladeFollow l s).ft = s.ft ∧ (bladeFollow l s).tu = s.tu ∧ (bladeFollow l s).rs = s.rs ∧
    (bladeFollow l s).cal = s.cal ∧ (bladeFollow l s).ml.strap = s.ml.strap ∧ (bladeFollow l s).ml.fifo = s.ml.fifo ∧
    (bladeFollow l s).ml.rdy = s.ml.rdy ∧ (bladeFollow l s).ml.assembler = s.ml.assembler ∧
    (bladeFollow l s).ml.gap = s.ml.gap ∧ (bladeFollow l s).ml.replies = s.ml.replies ∧
    (bladeFollow l s).ml.tx = s.ml.tx ∧ (bladeFollow l s).ml.noticeCrc = s.ml.noticeCrc ∧
    (bladeFollow l s).ml.noticeTimeout = s.ml.noticeTimeout ∧
    (bladeFollow l s).ml.noticeOverrun = s.ml.noticeOverrun ∧
    (bladeFollow l s).ml.restartPending = s.ml.restartPending := by
  simp only [bladeFollow]; (repeat' split) <;> simp
@[simp] theorem bladeFollow_reported (l : Lane) {key : ReportKey} {s : State} (h : Reported key s) :
    Reported key (bladeFollow l s) := by
  simp only [bladeFollow]; (repeat' split) <;> simp +contextual (maxDischargeDepth := 40) [h]
@[simp] theorem spinUpEnd_keeps (l : Lane) (s : State) :
    (spinUpEnd l s).pending = s.pending ∧ (spinUpEnd l s).freeCount = s.freeCount ∧ (spinUpEnd l s).pins = s.pins ∧
    (spinUpEnd l s).params = s.params ∧ (spinUpEnd l s).tt = s.tt ∧ (spinUpEnd l s).eu = s.eu ∧
    (spinUpEnd l s).beu = s.beu ∧ (spinUpEnd l s).sc = s.sc ∧ (spinUpEnd l s).rt = s.rt ∧
    (spinUpEnd l s).mbc = s.mbc ∧ (spinUpEnd l s).tsc = s.tsc ∧ (spinUpEnd l s).cc = s.cc ∧
    (spinUpEnd l s).ama = s.ama ∧ (spinUpEnd l s).lsc = s.lsc ∧ (spinUpEnd l s).rs = s.rs ∧
    (spinUpEnd l s).cal = s.cal ∧ (spinUpEnd l s).ml.strap = s.ml.strap ∧ (spinUpEnd l s).ml.fifo = s.ml.fifo ∧
    (spinUpEnd l s).ml.rdy = s.ml.rdy ∧ (spinUpEnd l s).ml.assembler = s.ml.assembler ∧
    (spinUpEnd l s).ml.gap = s.ml.gap ∧ (spinUpEnd l s).ml.replies = s.ml.replies ∧ (spinUpEnd l s).ml.tx = s.ml.tx ∧
    (spinUpEnd l s).ml.noticeCrc = s.ml.noticeCrc ∧ (spinUpEnd l s).ml.noticeTimeout = s.ml.noticeTimeout ∧
    (spinUpEnd l s).ml.noticeOverrun = s.ml.noticeOverrun ∧
    (spinUpEnd l s).ml.restartPending = s.ml.restartPending := by
  simp only [spinUpEnd]; (repeat' split) <;> simp
@[simp] theorem spinUpEnd_reported (l : Lane) {key : ReportKey} {s : State} (h : Reported key s) :
    Reported key (spinUpEnd l s) := by
  simp only [spinUpEnd]; (repeat' split) <;> simp +contextual (maxDischargeDepth := 40) [h]
@[simp] theorem tensionResult_keeps (l : Lane) (result : Nat) (s : State) :
    (tensionResult l result s).pending = s.pending ∧ (tensionResult l result s).freeCount = s.freeCount ∧
    (tensionResult l result s).pins = s.pins ∧ (tensionResult l result s).params = s.params ∧
    (tensionResult l result s).tt = s.tt ∧ (tensionResult l result s).eu = s.eu ∧
    (tensionResult l result s).beu = s.beu ∧ (tensionResult l result s).sc = s.sc ∧
    (tensionResult l result s).rt = s.rt ∧ (tensionResult l result s).mbc = s.mbc ∧
    (tensionResult l result s).tsc = s.tsc ∧ (tensionResult l result s).cc = s.cc ∧
    (tensionResult l result s).ama = s.ama ∧ (tensionResult l result s).lsc = s.lsc ∧
    (tensionResult l result s).rs = s.rs ∧ (tensionResult l result s).cal = s.cal ∧
    (tensionResult l result s).ml.strap = s.ml.strap ∧ (tensionResult l result s).ml.fifo = s.ml.fifo ∧
    (tensionResult l result s).ml.rdy = s.ml.rdy ∧ (tensionResult l result s).ml.assembler = s.ml.assembler ∧
    (tensionResult l result s).ml.gap = s.ml.gap ∧ (tensionResult l result s).ml.replies = s.ml.replies ∧
    (tensionResult l result s).ml.tx = s.ml.tx ∧ (tensionResult l result s).ml.noticeCrc = s.ml.noticeCrc ∧
    (tensionResult l result s).ml.noticeTimeout = s.ml.noticeTimeout ∧
    (tensionResult l result s).ml.noticeOverrun = s.ml.noticeOverrun ∧
    (tensionResult l result s).ml.restartPending = s.ml.restartPending := by
  simp only [tensionResult]; (repeat' split) <;> simp
@[simp] theorem tensionResult_reported (l : Lane) (result : Nat) {key : ReportKey} {s : State} (h : Reported key s) :
    Reported key (tensionResult l result s) := by
  simp only [tensionResult]; (repeat' split) <;> simp +contextual (maxDischargeDepth := 40) [h]
@[simp] theorem activate_keeps (l : Lane) (slot : Nat) (s : State) :
    (activate l slot s).pending = s.pending ∧ (activate l slot s).freeCount = s.freeCount ∧
    (activate l slot s).pins = s.pins ∧ (activate l slot s).params = s.params ∧ (activate l slot s).tt = s.tt ∧
    (activate l slot s).eu = s.eu ∧ (activate l slot s).beu = s.beu ∧ (activate l slot s).sc = s.sc ∧
    (activate l slot s).rt = s.rt ∧ (activate l slot s).mbc = s.mbc ∧ (activate l slot s).tsc = s.tsc ∧
    (activate l slot s).cc = s.cc ∧ (activate l slot s).ama = s.ama ∧ (activate l slot s).lsc = s.lsc ∧
    (activate l slot s).dou = s.dou ∧ (activate l slot s).ft = s.ft ∧ (activate l slot s).tu = s.tu ∧
    (activate l slot s).rs = s.rs ∧ (activate l slot s).cal = s.cal ∧ (activate l slot s).ml = s.ml := by
  simp only [activate]; (repeat' split) <;> simp
@[simp] theorem activate_reported (l : Lane) (slot : Nat) {key : ReportKey} {s : State} (h : Reported key s) :
    Reported key (activate l slot s) := by
  simp only [activate]; (repeat' split) <;> simp +contextual (maxDischargeDepth := 40) [h]
@[simp] theorem applyPending_keeps (l : Lane) (tag : Nat) (s : State) :
    (applyPending l tag s).pending = s.pending ∧ (applyPending l tag s).freeCount = s.freeCount ∧
    (applyPending l tag s).pins = s.pins ∧ (applyPending l tag s).params = s.params ∧
    (applyPending l tag s).tt = s.tt ∧ (applyPending l tag s).eu = s.eu ∧ (applyPending l tag s).beu = s.beu ∧
    (applyPending l tag s).sc = s.sc ∧ (applyPending l tag s).rt = s.rt ∧ (applyPending l tag s).mbc = s.mbc ∧
    (applyPending l tag s).tsc = s.tsc ∧ (applyPending l tag s).cc = s.cc ∧ (applyPending l tag s).ama = s.ama ∧
    (applyPending l tag s).lsc = s.lsc ∧ (applyPending l tag s).dou = s.dou ∧ (applyPending l tag s).ft = s.ft ∧
    (applyPending l tag s).tu = s.tu ∧ (applyPending l tag s).rs = s.rs ∧ (applyPending l tag s).cal = s.cal ∧
    (applyPending l tag s).ml.strap = s.ml.strap ∧ (applyPending l tag s).ml.fifo = s.ml.fifo ∧
    (applyPending l tag s).ml.rdy = s.ml.rdy ∧ (applyPending l tag s).ml.assembler = s.ml.assembler ∧
    (applyPending l tag s).ml.gap = s.ml.gap ∧ (applyPending l tag s).ml.replies = s.ml.replies ∧
    (applyPending l tag s).ml.tx = s.ml.tx ∧ (applyPending l tag s).ml.noticeCrc = s.ml.noticeCrc ∧
    (applyPending l tag s).ml.noticeTimeout = s.ml.noticeTimeout ∧
    (applyPending l tag s).ml.noticeOverrun = s.ml.noticeOverrun ∧
    (applyPending l tag s).ml.restartPending = s.ml.restartPending := by
  simp only [applyPending]; (repeat' split) <;> simp
@[simp] theorem applyPending_reported (l : Lane) (tag : Nat) {key : ReportKey} {s : State} (h : Reported key s) :
    Reported key (applyPending l tag s) := by
  simp only [applyPending]; (repeat' split) <;> simp +contextual (maxDischargeDepth := 40) [h]
@[simp] theorem admission_keeps (l : Lane) (r : LoafRecord) (s : State) :
    (admission l r s).pending = s.pending ∧ (admission l r s).freeCount = s.freeCount ∧
    (admission l r s).pins = s.pins ∧ (admission l r s).params = s.params ∧ (admission l r s).eu = s.eu ∧
    (admission l r s).beu = s.beu ∧ (admission l r s).sc = s.sc ∧ (admission l r s).rt = s.rt ∧
    (admission l r s).mbc = s.mbc ∧ (admission l r s).tsc = s.tsc ∧ (admission l r s).ama = s.ama ∧
    (admission l r s).lsc = s.lsc ∧ (admission l r s).ft = s.ft ∧ (admission l r s).rs = s.rs ∧
    (admission l r s).cal = s.cal ∧ (admission l r s).ml.strap = s.ml.strap ∧ (admission l r s).ml.fifo = s.ml.fifo ∧
    (admission l r s).ml.rdy = s.ml.rdy ∧ (admission l r s).ml.assembler = s.ml.assembler ∧
    (admission l r s).ml.gap = s.ml.gap ∧ (admission l r s).ml.replies = s.ml.replies ∧
    (admission l r s).ml.tx = s.ml.tx ∧ (admission l r s).ml.noticeCrc = s.ml.noticeCrc ∧
    (admission l r s).ml.noticeTimeout = s.ml.noticeTimeout ∧
    (admission l r s).ml.noticeOverrun = s.ml.noticeOverrun ∧
    (admission l r s).ml.restartPending = s.ml.restartPending := by
  simp only [admission]; (repeat' split) <;> simp
@[simp] theorem admission_reported (l : Lane) (r : LoafRecord) {key : ReportKey} {s : State} (h : Reported key s) :
    Reported key (admission l r s) := by
  simp only [admission]; (repeat' split) <;> simp +contextual (maxDischargeDepth := 40) [h]
@[simp] theorem admitIfReady_keeps (l : Lane) (s : State) :
    (admitIfReady l s).pending = s.pending ∧ (admitIfReady l s).freeCount = s.freeCount ∧
    (admitIfReady l s).pins = s.pins ∧ (admitIfReady l s).params = s.params ∧ (admitIfReady l s).eu = s.eu ∧
    (admitIfReady l s).beu = s.beu ∧ (admitIfReady l s).sc = s.sc ∧ (admitIfReady l s).rt = s.rt ∧
    (admitIfReady l s).mbc = s.mbc ∧ (admitIfReady l s).tsc = s.tsc ∧ (admitIfReady l s).ama = s.ama ∧
    (admitIfReady l s).lsc = s.lsc ∧ (admitIfReady l s).ft = s.ft ∧ (admitIfReady l s).rs = s.rs ∧
    (admitIfReady l s).cal = s.cal ∧ (admitIfReady l s).ml.strap = s.ml.strap ∧
    (admitIfReady l s).ml.fifo = s.ml.fifo ∧ (admitIfReady l s).ml.rdy = s.ml.rdy ∧
    (admitIfReady l s).ml.assembler = s.ml.assembler ∧ (admitIfReady l s).ml.gap = s.ml.gap ∧
    (admitIfReady l s).ml.replies = s.ml.replies ∧ (admitIfReady l s).ml.tx = s.ml.tx ∧
    (admitIfReady l s).ml.noticeCrc = s.ml.noticeCrc ∧ (admitIfReady l s).ml.noticeTimeout = s.ml.noticeTimeout ∧
    (admitIfReady l s).ml.noticeOverrun = s.ml.noticeOverrun ∧
    (admitIfReady l s).ml.restartPending = s.ml.restartPending := by
  simp only [admitIfReady]; (repeat' split) <;> simp
@[simp] theorem admitIfReady_reported (l : Lane) {key : ReportKey} {s : State} (h : Reported key s) :
    Reported key (admitIfReady l s) := by
  simp only [admitIfReady]; (repeat' split) <;> simp +contextual (maxDischargeDepth := 40) [h]
@[simp] theorem infeedFollow_keeps (l : Lane) (s : State) :
    (infeedFollow l s).pending = s.pending ∧ (infeedFollow l s).freeCount = s.freeCount ∧
    (infeedFollow l s).pins = s.pins ∧ (infeedFollow l s).params = s.params ∧ (infeedFollow l s).tt = s.tt ∧
    (infeedFollow l s).eu = s.eu ∧ (infeedFollow l s).beu = s.beu ∧ (infeedFollow l s).sc = s.sc ∧
    (infeedFollow l s).rt = s.rt ∧ (infeedFollow l s).lic = s.lic ∧ (infeedFollow l s).mbc = s.mbc ∧
    (infeedFollow l s).tsc = s.tsc ∧ (infeedFollow l s).cc = s.cc ∧ (infeedFollow l s).ama = s.ama ∧
    (infeedFollow l s).lsc = s.lsc ∧ (infeedFollow l s).ft = s.ft ∧ (infeedFollow l s).tu = s.tu ∧
    (infeedFollow l s).rs = s.rs ∧ (infeedFollow l s).cal = s.cal ∧ (infeedFollow l s).ml = s.ml := by
  simp only [infeedFollow]; (repeat' split) <;> simp
@[simp] theorem infeedFollow_reported (l : Lane) {key : ReportKey} {s : State} (h : Reported key s) :
    Reported key (infeedFollow l s) := by
  simp only [infeedFollow]; (repeat' split) <;> simp +contextual (maxDischargeDepth := 40) [h]
@[simp] theorem endCycle_keeps (s : State) :
    (endCycle s).pending = s.pending ∧ (endCycle s).freeCount = s.freeCount ∧ (endCycle s).pins = s.pins ∧
    (endCycle s).params = s.params ∧ (endCycle s).tt = s.tt ∧ (endCycle s).eu = s.eu ∧ (endCycle s).beu = s.beu ∧
    (endCycle s).sc = s.sc ∧ (endCycle s).rt = s.rt ∧ (endCycle s).lic = s.lic ∧ (endCycle s).tsc = s.tsc ∧
    (endCycle s).cc = s.cc ∧ (endCycle s).ama = s.ama ∧ (endCycle s).lsc = s.lsc ∧ (endCycle s).dou = s.dou ∧
    (endCycle s).ft = s.ft ∧ (endCycle s).tu = s.tu ∧ (endCycle s).rs = s.rs ∧ (endCycle s).cal = s.cal ∧
    (endCycle s).ml = s.ml := by
  simp only [endCycle]; (repeat' split) <;> simp
@[simp] theorem endCycle_reported {key : ReportKey} {s : State} (h : Reported key s) :
    Reported key (endCycle s) := by
  simp only [endCycle]; (repeat' split) <;> simp +contextual (maxDischargeDepth := 40) [h]
@[simp] theorem startTwist_keeps (s : State) :
    (startTwist s).pending = s.pending ∧ (startTwist s).freeCount = s.freeCount ∧ (startTwist s).pins = s.pins ∧
    (startTwist s).params = s.params ∧ (startTwist s).tt = s.tt ∧ (startTwist s).eu = s.eu ∧
    (startTwist s).beu = s.beu ∧ (startTwist s).sc = s.sc ∧ (startTwist s).rt = s.rt ∧ (startTwist s).lic = s.lic ∧
    (startTwist s).mbc = s.mbc ∧ (startTwist s).cc = s.cc ∧ (startTwist s).ama = s.ama ∧ (startTwist s).lsc = s.lsc ∧
    (startTwist s).ft = s.ft ∧ (startTwist s).tu = s.tu ∧ (startTwist s).rs = s.rs ∧ (startTwist s).cal = s.cal ∧
    (startTwist s).ml = s.ml := by
  simp only [startTwist]; (repeat' split) <;> simp
@[simp] theorem startTwist_reported {key : ReportKey} {s : State} (h : Reported key s) :
    Reported key (startTwist s) := by
  simp only [startTwist]; (repeat' split) <;> simp +contextual (maxDischargeDepth := 40) [h]
@[simp] theorem enterTwist_keeps (s : State) :
    (enterTwist s).pending = s.pending ∧ (enterTwist s).freeCount = s.freeCount ∧ (enterTwist s).pins = s.pins ∧
    (enterTwist s).params = s.params ∧ (enterTwist s).tt = s.tt ∧ (enterTwist s).eu = s.eu ∧
    (enterTwist s).beu = s.beu ∧ (enterTwist s).sc = s.sc ∧ (enterTwist s).rt = s.rt ∧ (enterTwist s).mbc = s.mbc ∧
    (enterTwist s).cc = s.cc ∧ (enterTwist s).ama = s.ama ∧ (enterTwist s).lsc = s.lsc ∧ (enterTwist s).rs = s.rs ∧
    (enterTwist s).cal = s.cal ∧ (enterTwist s).ml.strap = s.ml.strap ∧ (enterTwist s).ml.fifo = s.ml.fifo ∧
    (enterTwist s).ml.rdy = s.ml.rdy ∧ (enterTwist s).ml.assembler = s.ml.assembler ∧
    (enterTwist s).ml.gap = s.ml.gap ∧ (enterTwist s).ml.replies = s.ml.replies ∧ (enterTwist s).ml.tx = s.ml.tx ∧
    (enterTwist s).ml.noticeCrc = s.ml.noticeCrc ∧ (enterTwist s).ml.noticeTimeout = s.ml.noticeTimeout ∧
    (enterTwist s).ml.noticeOverrun = s.ml.noticeOverrun ∧
    (enterTwist s).ml.restartPending = s.ml.restartPending := by
  simp only [enterTwist]; (repeat' split) <;> simp
@[simp] theorem enterTwist_reported {key : ReportKey} {s : State} (h : Reported key s) :
    Reported key (enterTwist s) := by
  simp only [enterTwist]; (repeat' split) <;> simp +contextual (maxDischargeDepth := 40) [h]
@[simp] theorem startTyer_keeps (s : State) :
    (startTyer s).pending = s.pending ∧ (startTyer s).freeCount = s.freeCount ∧ (startTyer s).pins = s.pins ∧
    (startTyer s).params = s.params ∧ (startTyer s).tt = s.tt ∧ (startTyer s).eu = s.eu ∧ (startTyer s).beu = s.beu ∧
    (startTyer s).sc = s.sc ∧ (startTyer s).rt = s.rt ∧ (startTyer s).lsc = s.lsc ∧ (startTyer s).rs = s.rs ∧
    (startTyer s).cal = s.cal ∧ (startTyer s).ml.strap = s.ml.strap ∧ (startTyer s).ml.fifo = s.ml.fifo ∧
    (startTyer s).ml.rdy = s.ml.rdy ∧ (startTyer s).ml.assembler = s.ml.assembler ∧ (startTyer s).ml.gap = s.ml.gap ∧
    (startTyer s).ml.replies = s.ml.replies ∧ (startTyer s).ml.tx = s.ml.tx ∧
    (startTyer s).ml.noticeCrc = s.ml.noticeCrc ∧ (startTyer s).ml.noticeTimeout = s.ml.noticeTimeout ∧
    (startTyer s).ml.noticeOverrun = s.ml.noticeOverrun ∧ (startTyer s).ml.restartPending = s.ml.restartPending := by
  simp only [startTyer]; (repeat' split) <;> simp
@[simp] theorem startTyer_reported {key : ReportKey} {s : State} (h : Reported key s) :
    Reported key (startTyer s) := by
  simp only [startTyer]; (repeat' split) <;> simp +contextual (maxDischargeDepth := 40) [h]
@[simp] theorem endPurge_keeps (s : State) :
    (endPurge s).pending = s.pending ∧ (endPurge s).freeCount = s.freeCount ∧ (endPurge s).pins = s.pins ∧
    (endPurge s).params = s.params ∧ (endPurge s).tt = s.tt ∧ (endPurge s).eu = s.eu ∧ (endPurge s).beu = s.beu ∧
    (endPurge s).sc = s.sc ∧ (endPurge s).rt = s.rt ∧ (endPurge s).lsc = s.lsc ∧ (endPurge s).rs = s.rs ∧
    (endPurge s).cal = s.cal ∧ (endPurge s).ml.strap = s.ml.strap ∧ (endPurge s).ml.fifo = s.ml.fifo ∧
    (endPurge s).ml.rdy = s.ml.rdy ∧ (endPurge s).ml.assembler = s.ml.assembler ∧ (endPurge s).ml.gap = s.ml.gap ∧
    (endPurge s).ml.replies = s.ml.replies ∧ (endPurge s).ml.tx = s.ml.tx ∧
    (endPurge s).ml.noticeCrc = s.ml.noticeCrc ∧ (endPurge s).ml.noticeTimeout = s.ml.noticeTimeout ∧
    (endPurge s).ml.noticeOverrun = s.ml.noticeOverrun ∧ (endPurge s).ml.restartPending = s.ml.restartPending := by
  simp only [endPurge]; (repeat' split) <;> simp
@[simp] theorem endPurge_reported {key : ReportKey} {s : State} (h : Reported key s) :
    Reported key (endPurge s) := by
  simp only [endPurge]; (repeat' split) <;> simp +contextual (maxDischargeDepth := 40) [h]
@[simp] theorem enterClip_keeps (s : State) :
    (enterClip s).pending = s.pending ∧ (enterClip s).freeCount = s.freeCount ∧ (enterClip s).pins = s.pins ∧
    (enterClip s).params = s.params ∧ (enterClip s).tt = s.tt ∧ (enterClip s).eu = s.eu ∧ (enterClip s).beu = s.beu ∧
    (enterClip s).sc = s.sc ∧ (enterClip s).rt = s.rt ∧ (enterClip s).mbc = s.mbc ∧ (enterClip s).cc = s.cc ∧
    (enterClip s).ama = s.ama ∧ (enterClip s).lsc = s.lsc ∧ (enterClip s).rs = s.rs ∧ (enterClip s).cal = s.cal ∧
    (enterClip s).ml.strap = s.ml.strap ∧ (enterClip s).ml.fifo = s.ml.fifo ∧ (enterClip s).ml.rdy = s.ml.rdy ∧
    (enterClip s).ml.assembler = s.ml.assembler ∧ (enterClip s).ml.gap = s.ml.gap ∧
    (enterClip s).ml.replies = s.ml.replies ∧ (enterClip s).ml.tx = s.ml.tx ∧
    (enterClip s).ml.noticeCrc = s.ml.noticeCrc ∧ (enterClip s).ml.noticeTimeout = s.ml.noticeTimeout ∧
    (enterClip s).ml.noticeOverrun = s.ml.noticeOverrun ∧ (enterClip s).ml.restartPending = s.ml.restartPending := by
  simp only [enterClip]; (repeat' split) <;> simp
@[simp] theorem enterClip_reported {key : ReportKey} {s : State} (h : Reported key s) :
    Reported key (enterClip s) := by
  simp only [enterClip]; (repeat' split) <;> simp +contextual (maxDischargeDepth := 40) [h]
@[simp] theorem completeTie_keeps (s : State) :
    (completeTie s).pending = s.pending ∧ (completeTie s).freeCount = s.freeCount ∧ (completeTie s).pins = s.pins ∧
    (completeTie s).params = s.params ∧ (completeTie s).eu = s.eu ∧ (completeTie s).beu = s.beu ∧
    (completeTie s).sc = s.sc ∧ (completeTie s).rt = s.rt ∧ (completeTie s).mbc = s.mbc ∧ (completeTie s).cc = s.cc ∧
    (completeTie s).ama = s.ama ∧ (completeTie s).lsc = s.lsc ∧ (completeTie s).dou = s.dou ∧
    (completeTie s).rs = s.rs ∧ (completeTie s).cal = s.cal ∧ (completeTie s).ml.strap = s.ml.strap ∧
    (completeTie s).ml.fifo = s.ml.fifo ∧ (completeTie s).ml.rdy = s.ml.rdy ∧
    (completeTie s).ml.assembler = s.ml.assembler ∧ (completeTie s).ml.gap = s.ml.gap ∧
    (completeTie s).ml.replies = s.ml.replies ∧ (completeTie s).ml.tx = s.ml.tx ∧
    (completeTie s).ml.noticeCrc = s.ml.noticeCrc ∧ (completeTie s).ml.noticeTimeout = s.ml.noticeTimeout ∧
    (completeTie s).ml.noticeOverrun = s.ml.noticeOverrun ∧
    (completeTie s).ml.restartPending = s.ml.restartPending := by
  simp only [completeTie]; (repeat' split) <;> simp
@[simp] theorem completeTie_reported {key : ReportKey} {s : State} (h : Reported key s) :
    Reported key (completeTie s) := by
  simp only [completeTie]; (repeat' split) <;> simp +contextual (maxDischargeDepth := 40) [h]
@[simp] theorem tieIfHome_keeps (s : State) :
    (tieIfHome s).pending = s.pending ∧ (tieIfHome s).freeCount = s.freeCount ∧ (tieIfHome s).pins = s.pins ∧
    (tieIfHome s).params = s.params ∧ (tieIfHome s).eu = s.eu ∧ (tieIfHome s).beu = s.beu ∧ (tieIfHome s).sc = s.sc ∧
    (tieIfHome s).rt = s.rt ∧ (tieIfHome s).mbc = s.mbc ∧ (tieIfHome s).cc = s.cc ∧ (tieIfHome s).ama = s.ama ∧
    (tieIfHome s).lsc = s.lsc ∧ (tieIfHome s).dou = s.dou ∧ (tieIfHome s).rs = s.rs ∧ (tieIfHome s).cal = s.cal ∧
    (tieIfHome s).ml.strap = s.ml.strap ∧ (tieIfHome s).ml.fifo = s.ml.fifo ∧ (tieIfHome s).ml.rdy = s.ml.rdy ∧
    (tieIfHome s).ml.assembler = s.ml.assembler ∧ (tieIfHome s).ml.gap = s.ml.gap ∧
    (tieIfHome s).ml.replies = s.ml.replies ∧ (tieIfHome s).ml.tx = s.ml.tx ∧
    (tieIfHome s).ml.noticeCrc = s.ml.noticeCrc ∧ (tieIfHome s).ml.noticeTimeout = s.ml.noticeTimeout ∧
    (tieIfHome s).ml.noticeOverrun = s.ml.noticeOverrun ∧ (tieIfHome s).ml.restartPending = s.ml.restartPending := by
  simp only [tieIfHome]; (repeat' split) <;> simp
@[simp] theorem tieIfHome_reported {key : ReportKey} {s : State} (h : Reported key s) :
    Reported key (tieIfHome s) := by
  simp only [tieIfHome]; (repeat' split) <;> simp +contextual (maxDischargeDepth := 40) [h]
@[simp] theorem enterHomeWait_keeps (s : State) :
    (enterHomeWait s).pending = s.pending ∧ (enterHomeWait s).freeCount = s.freeCount ∧
    (enterHomeWait s).pins = s.pins ∧ (enterHomeWait s).params = s.params ∧ (enterHomeWait s).eu = s.eu ∧
    (enterHomeWait s).beu = s.beu ∧ (enterHomeWait s).sc = s.sc ∧ (enterHomeWait s).rt = s.rt ∧
    (enterHomeWait s).mbc = s.mbc ∧ (enterHomeWait s).cc = s.cc ∧ (enterHomeWait s).ama = s.ama ∧
    (enterHomeWait s).lsc = s.lsc ∧ (enterHomeWait s).rs = s.rs ∧ (enterHomeWait s).cal = s.cal ∧
    (enterHomeWait s).ml.strap = s.ml.strap ∧ (enterHomeWait s).ml.fifo = s.ml.fifo ∧
    (enterHomeWait s).ml.rdy = s.ml.rdy ∧ (enterHomeWait s).ml.assembler = s.ml.assembler ∧
    (enterHomeWait s).ml.gap = s.ml.gap ∧ (enterHomeWait s).ml.replies = s.ml.replies ∧
    (enterHomeWait s).ml.tx = s.ml.tx ∧ (enterHomeWait s).ml.noticeCrc = s.ml.noticeCrc ∧
    (enterHomeWait s).ml.noticeTimeout = s.ml.noticeTimeout ∧
    (enterHomeWait s).ml.noticeOverrun = s.ml.noticeOverrun ∧
    (enterHomeWait s).ml.restartPending = s.ml.restartPending := by
  simp only [enterHomeWait]; (repeat' split) <;> simp
@[simp] theorem enterHomeWait_reported {key : ReportKey} {s : State} (h : Reported key s) :
    Reported key (enterHomeWait s) := by
  simp only [enterHomeWait]; (repeat' split) <;> simp +contextual (maxDischargeDepth := 40) [h]
@[simp] theorem jamTyer_keeps (s : State) :
    (jamTyer s).pending = s.pending ∧ (jamTyer s).freeCount = s.freeCount ∧ (jamTyer s).pins = s.pins ∧
    (jamTyer s).params = s.params ∧ (jamTyer s).eu = s.eu ∧ (jamTyer s).beu = s.beu ∧ (jamTyer s).sc = s.sc ∧
    (jamTyer s).rt = s.rt ∧ (jamTyer s).mbc = s.mbc ∧ (jamTyer s).cc = s.cc ∧ (jamTyer s).ama = s.ama ∧
    (jamTyer s).lsc = s.lsc ∧ (jamTyer s).rs = s.rs ∧ (jamTyer s).cal = s.cal ∧ (jamTyer s).ml.strap = s.ml.strap ∧
    (jamTyer s).ml.fifo = s.ml.fifo ∧ (jamTyer s).ml.rdy = s.ml.rdy ∧ (jamTyer s).ml.assembler = s.ml.assembler ∧
    (jamTyer s).ml.gap = s.ml.gap ∧ (jamTyer s).ml.replies = s.ml.replies ∧ (jamTyer s).ml.tx = s.ml.tx ∧
    (jamTyer s).ml.noticeCrc = s.ml.noticeCrc ∧ (jamTyer s).ml.noticeTimeout = s.ml.noticeTimeout ∧
    (jamTyer s).ml.noticeOverrun = s.ml.noticeOverrun ∧ (jamTyer s).ml.restartPending = s.ml.restartPending := by
  simp only [jamTyer]; (repeat' split) <;> simp
@[simp] theorem jamTyer_reported {key : ReportKey} {s : State} (h : Reported key s) :
    Reported key (jamTyer s) := by
  simp only [jamTyer]; (repeat' split) <;> simp +contextual (maxDischargeDepth := 40) [h]
@[simp] theorem handoff_keeps (s : State) :
    (handoff s).pending = s.pending ∧ (handoff s).freeCount = s.freeCount ∧ (handoff s).pins = s.pins ∧
    (handoff s).params = s.params ∧ (handoff s).eu = s.eu ∧ (handoff s).beu = s.beu ∧ (handoff s).sc = s.sc ∧
    (handoff s).rt = s.rt ∧ (handoff s).lsc = s.lsc ∧ (handoff s).rs = s.rs ∧ (handoff s).cal = s.cal ∧
    (handoff s).ml.strap = s.ml.strap ∧ (handoff s).ml.fifo = s.ml.fifo ∧ (handoff s).ml.rdy = s.ml.rdy ∧
    (handoff s).ml.assembler = s.ml.assembler ∧ (handoff s).ml.gap = s.ml.gap ∧
    (handoff s).ml.replies = s.ml.replies ∧ (handoff s).ml.tx = s.ml.tx ∧ (handoff s).ml.noticeCrc = s.ml.noticeCrc ∧
    (handoff s).ml.noticeTimeout = s.ml.noticeTimeout ∧ (handoff s).ml.noticeOverrun = s.ml.noticeOverrun ∧
    (handoff s).ml.restartPending = s.ml.restartPending := by
  simp only [handoff]; (repeat' split) <;> simp
@[simp] theorem handoff_reported {key : ReportKey} {s : State} (h : Reported key s) :
    Reported key (handoff s) := by
  simp only [handoff]; (repeat' split) <;> simp +contextual (maxDischargeDepth := 40) [h]
@[simp] theorem bagCheck_keeps (s : State) :
    (bagCheck s).pending = s.pending ∧ (bagCheck s).freeCount = s.freeCount ∧ (bagCheck s).pins = s.pins ∧
    (bagCheck s).params = s.params ∧ (bagCheck s).tt = s.tt ∧ (bagCheck s).eu = s.eu ∧ (bagCheck s).beu = s.beu ∧
    (bagCheck s).sc = s.sc ∧ (bagCheck s).rt = s.rt ∧ (bagCheck s).lsc = s.lsc ∧ (bagCheck s).rs = s.rs ∧
    (bagCheck s).cal = s.cal ∧ (bagCheck s).ml.strap = s.ml.strap ∧ (bagCheck s).ml.fifo = s.ml.fifo ∧
    (bagCheck s).ml.rdy = s.ml.rdy ∧ (bagCheck s).ml.assembler = s.ml.assembler ∧ (bagCheck s).ml.gap = s.ml.gap ∧
    (bagCheck s).ml.replies = s.ml.replies ∧ (bagCheck s).ml.tx = s.ml.tx ∧
    (bagCheck s).ml.noticeCrc = s.ml.noticeCrc ∧ (bagCheck s).ml.noticeTimeout = s.ml.noticeTimeout ∧
    (bagCheck s).ml.noticeOverrun = s.ml.noticeOverrun ∧ (bagCheck s).ml.restartPending = s.ml.restartPending := by
  simp only [bagCheck]; (repeat' split) <;> simp
@[simp] theorem bagCheck_reported {key : ReportKey} {s : State} (h : Reported key s) :
    Reported key (bagCheck s) := by
  simp only [bagCheck]; (repeat' split) <;> simp +contextual (maxDischargeDepth := 40) [h]
@[simp] theorem startRoute_keeps (s : State) :
    (startRoute s).pending = s.pending ∧ (startRoute s).freeCount = s.freeCount ∧ (startRoute s).pins = s.pins ∧
    (startRoute s).params = s.params ∧ (startRoute s).tt = s.tt ∧ (startRoute s).eu = s.eu ∧
    (startRoute s).beu = s.beu ∧ (startRoute s).sc = s.sc ∧ (startRoute s).rt = s.rt ∧ (startRoute s).lsc = s.lsc ∧
    (startRoute s).rs = s.rs ∧ (startRoute s).cal = s.cal ∧ (startRoute s).ml.strap = s.ml.strap ∧
    (startRoute s).ml.fifo = s.ml.fifo ∧ (startRoute s).ml.rdy = s.ml.rdy ∧
    (startRoute s).ml.assembler = s.ml.assembler ∧ (startRoute s).ml.gap = s.ml.gap ∧
    (startRoute s).ml.replies = s.ml.replies ∧ (startRoute s).ml.tx = s.ml.tx ∧
    (startRoute s).ml.noticeCrc = s.ml.noticeCrc ∧ (startRoute s).ml.noticeTimeout = s.ml.noticeTimeout ∧
    (startRoute s).ml.noticeOverrun = s.ml.noticeOverrun ∧
    (startRoute s).ml.restartPending = s.ml.restartPending := by
  simp only [startRoute]; (repeat' split) <;> simp
@[simp] theorem startRoute_reported {key : ReportKey} {s : State} (h : Reported key s) :
    Reported key (startRoute s) := by
  simp only [startRoute]; (repeat' split) <;> simp +contextual (maxDischargeDepth := 40) [h]
@[simp] theorem startHoming_keeps (l : Lane) (s : State) :
    (startHoming l s).pending = s.pending ∧ (startHoming l s).freeCount = s.freeCount ∧
    (startHoming l s).pins = s.pins ∧ (startHoming l s).params = s.params ∧ (startHoming l s).tt = s.tt ∧
    (startHoming l s).eu = s.eu ∧ (startHoming l s).beu = s.beu ∧ (startHoming l s).sc = s.sc ∧
    (startHoming l s).rt = s.rt ∧ (startHoming l s).lic = s.lic ∧ (startHoming l s).tsc = s.tsc ∧
    (startHoming l s).cc = s.cc ∧ (startHoming l s).ama = s.ama ∧ (startHoming l s).lsc = s.lsc ∧
    (startHoming l s).ft = s.ft ∧ (startHoming l s).tu = s.tu ∧ (startHoming l s).rs = s.rs ∧
    (startHoming l s).cal = s.cal ∧ (startHoming l s).ml = s.ml := by
  simp only [startHoming]; (repeat' split) <;> simp
@[simp] theorem startHoming_reported (l : Lane) {key : ReportKey} {s : State} (h : Reported key s) :
    Reported key (startHoming l s) := by
  simp only [startHoming]; (repeat' split) <;> simp +contextual (maxDischargeDepth := 40) [h]
@[simp] theorem selectLane_keeps (l : Lane) (r : LoafRecord) (s : State) :
    (selectLane l r s).pending = s.pending ∧ (selectLane l r s).freeCount = s.freeCount ∧
    (selectLane l r s).pins = s.pins ∧ (selectLane l r s).params = s.params ∧ (selectLane l r s).eu = s.eu ∧
    (selectLane l r s).beu = s.beu ∧ (selectLane l r s).sc = s.sc ∧ (selectLane l r s).rt = s.rt ∧
    (selectLane l r s).lsc = s.lsc ∧ (selectLane l r s).rs = s.rs ∧ (selectLane l r s).cal = s.cal ∧
    (selectLane l r s).ml.strap = s.ml.strap ∧ (selectLane l r s).ml.fifo = s.ml.fifo ∧
    (selectLane l r s).ml.rdy = s.ml.rdy ∧ (selectLane l r s).ml.assembler = s.ml.assembler ∧
    (selectLane l r s).ml.gap = s.ml.gap ∧ (selectLane l r s).ml.replies = s.ml.replies ∧
    (selectLane l r s).ml.tx = s.ml.tx ∧ (selectLane l r s).ml.noticeCrc = s.ml.noticeCrc ∧
    (selectLane l r s).ml.noticeTimeout = s.ml.noticeTimeout ∧
    (selectLane l r s).ml.noticeOverrun = s.ml.noticeOverrun ∧
    (selectLane l r s).ml.restartPending = s.ml.restartPending := by
  simp only [selectLane]; (repeat' split) <;> simp
@[simp] theorem selectLane_reported (l : Lane) (r : LoafRecord) {key : ReportKey} {s : State} (h : Reported key s) :
    Reported key (selectLane l r s) := by
  simp only [selectLane]; (repeat' split) <;> simp +contextual (maxDischargeDepth := 40) [h]
@[simp] theorem selectIfReady_keeps (s : State) :
    (selectIfReady s).pending = s.pending ∧ (selectIfReady s).freeCount = s.freeCount ∧
    (selectIfReady s).pins = s.pins ∧ (selectIfReady s).params = s.params ∧ (selectIfReady s).eu = s.eu ∧
    (selectIfReady s).beu = s.beu ∧ (selectIfReady s).sc = s.sc ∧ (selectIfReady s).rt = s.rt ∧
    (selectIfReady s).lsc = s.lsc ∧ (selectIfReady s).rs = s.rs ∧ (selectIfReady s).cal = s.cal ∧
    (selectIfReady s).ml.strap = s.ml.strap ∧ (selectIfReady s).ml.fifo = s.ml.fifo ∧
    (selectIfReady s).ml.rdy = s.ml.rdy ∧ (selectIfReady s).ml.assembler = s.ml.assembler ∧
    (selectIfReady s).ml.gap = s.ml.gap ∧ (selectIfReady s).ml.replies = s.ml.replies ∧
    (selectIfReady s).ml.tx = s.ml.tx ∧ (selectIfReady s).ml.noticeCrc = s.ml.noticeCrc ∧
    (selectIfReady s).ml.noticeTimeout = s.ml.noticeTimeout ∧
    (selectIfReady s).ml.noticeOverrun = s.ml.noticeOverrun ∧
    (selectIfReady s).ml.restartPending = s.ml.restartPending := by
  simp only [selectIfReady]; (repeat' split) <;> simp
@[simp] theorem selectIfReady_reported {key : ReportKey} {s : State} (h : Reported key s) :
    Reported key (selectIfReady s) := by
  simp only [selectIfReady]; (repeat' split) <;> simp +contextual (maxDischargeDepth := 40) [h]
@[simp] theorem startStroke_keeps (s : State) :
    (startStroke s).pending = s.pending ∧ (startStroke s).freeCount = s.freeCount ∧ (startStroke s).pins = s.pins ∧
    (startStroke s).params = s.params ∧ (startStroke s).tt = s.tt ∧ (startStroke s).eu = s.eu ∧
    (startStroke s).beu = s.beu ∧ (startStroke s).sc = s.sc ∧ (startStroke s).rt = s.rt ∧
    (startStroke s).lic = s.lic ∧ (startStroke s).tsc = s.tsc ∧ (startStroke s).cc = s.cc ∧
    (startStroke s).ama = s.ama ∧ (startStroke s).lsc = s.lsc ∧ (startStroke s).ft = s.ft ∧
    (startStroke s).tu = s.tu ∧ (startStroke s).rs = s.rs ∧ (startStroke s).cal = s.cal ∧
    (startStroke s).ml = s.ml := by
  simp only [startStroke]; (repeat' split) <;> simp
@[simp] theorem startStroke_reported {key : ReportKey} {s : State} (h : Reported key s) :
    Reported key (startStroke s) := by
  simp only [startStroke]; (repeat' split) <;> simp +contextual (maxDischargeDepth := 40) [h]
@[simp] theorem flapSettled_keeps (s : State) :
    (flapSettled s).pending = s.pending ∧ (flapSettled s).freeCount = s.freeCount ∧ (flapSettled s).pins = s.pins ∧
    (flapSettled s).params = s.params ∧ (flapSettled s).tt = s.tt ∧ (flapSettled s).eu = s.eu ∧
    (flapSettled s).beu = s.beu ∧ (flapSettled s).sc = s.sc ∧ (flapSettled s).rt = s.rt ∧
    (flapSettled s).lic = s.lic ∧ (flapSettled s).tsc = s.tsc ∧ (flapSettled s).cc = s.cc ∧
    (flapSettled s).ama = s.ama ∧ (flapSettled s).lsc = s.lsc ∧ (flapSettled s).ft = s.ft ∧
    (flapSettled s).tu = s.tu ∧ (flapSettled s).rs = s.rs ∧ (flapSettled s).cal = s.cal ∧
    (flapSettled s).ml = s.ml := by
  simp only [flapSettled]; (repeat' split) <;> simp
@[simp] theorem flapSettled_reported {key : ReportKey} {s : State} (h : Reported key s) :
    Reported key (flapSettled s) := by
  simp only [flapSettled]; (repeat' split) <;> simp +contextual (maxDischargeDepth := 40) [h]
@[simp] theorem openingOver_keeps (s : State) :
    (openingOver s).pending = s.pending ∧ (openingOver s).freeCount = s.freeCount ∧ (openingOver s).pins = s.pins ∧
    (openingOver s).params = s.params ∧ (openingOver s).eu = s.eu ∧ (openingOver s).beu = s.beu ∧
    (openingOver s).sc = s.sc ∧ (openingOver s).rt = s.rt ∧ (openingOver s).tsc = s.tsc ∧ (openingOver s).cc = s.cc ∧
    (openingOver s).ama = s.ama ∧ (openingOver s).lsc = s.lsc ∧ (openingOver s).ft = s.ft ∧
    (openingOver s).tu = s.tu ∧ (openingOver s).rs = s.rs ∧ (openingOver s).cal = s.cal ∧
    (openingOver s).ml.strap = s.ml.strap ∧ (openingOver s).ml.fifo = s.ml.fifo ∧ (openingOver s).ml.rdy = s.ml.rdy ∧
    (openingOver s).ml.assembler = s.ml.assembler ∧ (openingOver s).ml.gap = s.ml.gap ∧
    (openingOver s).ml.replies = s.ml.replies ∧ (openingOver s).ml.tx = s.ml.tx ∧
    (openingOver s).ml.noticeCrc = s.ml.noticeCrc ∧ (openingOver s).ml.noticeTimeout = s.ml.noticeTimeout ∧
    (openingOver s).ml.noticeOverrun = s.ml.noticeOverrun ∧
    (openingOver s).ml.restartPending = s.ml.restartPending := by
  simp only [openingOver]; (repeat' split) <;> simp
@[simp] theorem openingOver_reported {key : ReportKey} {s : State} (h : Reported key s) :
    Reported key (openingOver s) := by
  simp only [openingOver]; (repeat' split) <;> simp +contextual (maxDischargeDepth := 40) [h]
@[simp] theorem startRetract_keeps (s : State) :
    (startRetract s).pending = s.pending ∧ (startRetract s).freeCount = s.freeCount ∧ (startRetract s).pins = s.pins ∧
    (startRetract s).params = s.params ∧ (startRetract s).tt = s.tt ∧ (startRetract s).eu = s.eu ∧
    (startRetract s).beu = s.beu ∧ (startRetract s).sc = s.sc ∧ (startRetract s).rt = s.rt ∧
    (startRetract s).lic = s.lic ∧ (startRetract s).tsc = s.tsc ∧ (startRetract s).cc = s.cc ∧
    (startRetract s).ama = s.ama ∧ (startRetract s).lsc = s.lsc ∧ (startRetract s).dou = s.dou ∧
    (startRetract s).ft = s.ft ∧ (startRetract s).tu = s.tu ∧ (startRetract s).rs = s.rs ∧
    (startRetract s).cal = s.cal ∧ (startRetract s).ml = s.ml := by
  simp only [startRetract]; (repeat' split) <;> simp
@[simp] theorem startRetract_reported {key : ReportKey} {s : State} (h : Reported key s) :
    Reported key (startRetract s) := by
  simp only [startRetract]; (repeat' split) <;> simp +contextual (maxDischargeDepth := 40) [h]
@[simp] theorem endExtend_keeps (l : Lane) (s : State) :
    (endExtend l s).pending = s.pending ∧ (endExtend l s).freeCount = s.freeCount ∧ (endExtend l s).pins = s.pins ∧
    (endExtend l s).params = s.params ∧ (endExtend l s).tt = s.tt ∧ (endExtend l s).eu = s.eu ∧
    (endExtend l s).beu = s.beu ∧ (endExtend l s).sc = s.sc ∧ (endExtend l s).rt = s.rt ∧
    (endExtend l s).lic = s.lic ∧ (endExtend l s).tsc = s.tsc ∧ (endExtend l s).cc = s.cc ∧
    (endExtend l s).ama = s.ama ∧ (endExtend l s).lsc = s.lsc ∧ (endExtend l s).ft = s.ft ∧
    (endExtend l s).tu = s.tu ∧ (endExtend l s).rs = s.rs ∧ (endExtend l s).cal = s.cal ∧
    (endExtend l s).ml = s.ml := by
  simp only [endExtend]; (repeat' split) <;> simp
@[simp] theorem endExtend_reported (l : Lane) {key : ReportKey} {s : State} (h : Reported key s) :
    Reported key (endExtend l s) := by
  simp only [endExtend]; (repeat' split) <;> simp +contextual (maxDischargeDepth := 40) [h]
@[simp] theorem freeRejected_keeps (s : State) :
    (freeRejected s).pending = s.pending ∧ (freeRejected s).freeCount = s.freeCount ∧ (freeRejected s).pins = s.pins ∧
    (freeRejected s).params = s.params ∧ (freeRejected s).eu = s.eu ∧ (freeRejected s).beu = s.beu ∧
    (freeRejected s).sc = s.sc ∧ (freeRejected s).rt = s.rt ∧ (freeRejected s).tsc = s.tsc ∧
    (freeRejected s).cc = s.cc ∧ (freeRejected s).ama = s.ama ∧ (freeRejected s).lsc = s.lsc ∧
    (freeRejected s).ft = s.ft ∧ (freeRejected s).rs = s.rs ∧ (freeRejected s).cal = s.cal ∧
    (freeRejected s).ml.strap = s.ml.strap ∧ (freeRejected s).ml.fifo = s.ml.fifo ∧
    (freeRejected s).ml.rdy = s.ml.rdy ∧ (freeRejected s).ml.assembler = s.ml.assembler ∧
    (freeRejected s).ml.gap = s.ml.gap ∧ (freeRejected s).ml.replies = s.ml.replies ∧
    (freeRejected s).ml.tx = s.ml.tx ∧ (freeRejected s).ml.noticeCrc = s.ml.noticeCrc ∧
    (freeRejected s).ml.noticeTimeout = s.ml.noticeTimeout ∧ (freeRejected s).ml.noticeOverrun = s.ml.noticeOverrun ∧
    (freeRejected s).ml.restartPending = s.ml.restartPending := by
  simp only [freeRejected]; (repeat' split) <;> simp
@[simp] theorem freeRejected_reported {key : ReportKey} {s : State} (h : Reported key s) :
    Reported key (freeRejected s) := by
  simp only [freeRejected]; (repeat' split) <;> simp +contextual (maxDischargeDepth := 40) [h]
@[simp] theorem strokeDone_keeps (s : State) :
    (strokeDone s).pending = s.pending ∧ (strokeDone s).freeCount = s.freeCount ∧ (strokeDone s).pins = s.pins ∧
    (strokeDone s).params = s.params ∧ (strokeDone s).eu = s.eu ∧ (strokeDone s).beu = s.beu ∧
    (strokeDone s).sc = s.sc ∧ (strokeDone s).rt = s.rt ∧ (strokeDone s).lsc = s.lsc ∧ (strokeDone s).rs = s.rs ∧
    (strokeDone s).cal = s.cal ∧ (strokeDone s).ml.strap = s.ml.strap ∧ (strokeDone s).ml.fifo = s.ml.fifo ∧
    (strokeDone s).ml.rdy = s.ml.rdy ∧ (strokeDone s).ml.assembler = s.ml.assembler ∧
    (strokeDone s).ml.gap = s.ml.gap ∧ (strokeDone s).ml.replies = s.ml.replies ∧ (strokeDone s).ml.tx = s.ml.tx ∧
    (strokeDone s).ml.noticeCrc = s.ml.noticeCrc ∧ (strokeDone s).ml.noticeTimeout = s.ml.noticeTimeout ∧
    (strokeDone s).ml.noticeOverrun = s.ml.noticeOverrun ∧
    (strokeDone s).ml.restartPending = s.ml.restartPending := by
  simp only [strokeDone]; (repeat' split) <;> simp
@[simp] theorem strokeDone_reported {key : ReportKey} {s : State} (h : Reported key s) :
    Reported key (strokeDone s) := by
  simp only [strokeDone]; (repeat' split) <;> simp +contextual (maxDischargeDepth := 40) [h]
@[simp] theorem motionHome_keeps (l : Lane) (s : State) :
    (motionHome l s).pending = s.pending ∧ (motionHome l s).freeCount = s.freeCount ∧ (motionHome l s).pins = s.pins ∧
    (motionHome l s).params = s.params ∧ (motionHome l s).tt = s.tt ∧ (motionHome l s).eu = s.eu ∧
    (motionHome l s).beu = s.beu ∧ (motionHome l s).sc = s.sc ∧ (motionHome l s).rt = s.rt ∧
    (motionHome l s).lic = s.lic ∧ (motionHome l s).tsc = s.tsc ∧ (motionHome l s).cc = s.cc ∧
    (motionHome l s).ama = s.ama ∧ (motionHome l s).lsc = s.lsc ∧ (motionHome l s).ft = s.ft ∧
    (motionHome l s).tu = s.tu ∧ (motionHome l s).rs = s.rs ∧ (motionHome l s).cal = s.cal ∧
    (motionHome l s).ml = s.ml := by
  simp only [motionHome]; (repeat' split) <;> simp
@[simp] theorem motionHome_reported (l : Lane) {key : ReportKey} {s : State} (h : Reported key s) :
    Reported key (motionHome l s) := by
  simp only [motionHome]; (repeat' split) <;> simp +contextual (maxDischargeDepth := 40) [h]
@[simp] theorem pusherHome_keeps (l : Lane) (s : State) :
    (pusherHome l s).pending = s.pending ∧ (pusherHome l s).freeCount = s.freeCount ∧ (pusherHome l s).pins = s.pins ∧
    (pusherHome l s).params = s.params ∧ (pusherHome l s).eu = s.eu ∧ (pusherHome l s).beu = s.beu ∧
    (pusherHome l s).sc = s.sc ∧ (pusherHome l s).rt = s.rt ∧ (pusherHome l s).lsc = s.lsc ∧
    (pusherHome l s).rs = s.rs ∧ (pusherHome l s).cal = s.cal ∧ (pusherHome l s).ml.strap = s.ml.strap ∧
    (pusherHome l s).ml.fifo = s.ml.fifo ∧ (pusherHome l s).ml.rdy = s.ml.rdy ∧
    (pusherHome l s).ml.assembler = s.ml.assembler ∧ (pusherHome l s).ml.gap = s.ml.gap ∧
    (pusherHome l s).ml.replies = s.ml.replies ∧ (pusherHome l s).ml.tx = s.ml.tx ∧
    (pusherHome l s).ml.noticeCrc = s.ml.noticeCrc ∧ (pusherHome l s).ml.noticeTimeout = s.ml.noticeTimeout ∧
    (pusherHome l s).ml.noticeOverrun = s.ml.noticeOverrun ∧
    (pusherHome l s).ml.restartPending = s.ml.restartPending := by
  simp only [pusherHome]; (repeat' split) <;> simp
@[simp] theorem pusherHome_reported (l : Lane) {key : ReportKey} {s : State} (h : Reported key s) :
    Reported key (pusherHome l s) := by
  simp only [pusherHome]; (repeat' split) <;> simp +contextual (maxDischargeDepth := 40) [h]
@[simp] theorem strokeStopped_keeps (s : State) :
    (strokeStopped s).pending = s.pending ∧ (strokeStopped s).freeCount = s.freeCount ∧
    (strokeStopped s).pins = s.pins ∧ (strokeStopped s).params = s.params ∧ (strokeStopped s).tt = s.tt ∧
    (strokeStopped s).eu = s.eu ∧ (strokeStopped s).beu = s.beu ∧ (strokeStopped s).sc = s.sc ∧
    (strokeStopped s).rt = s.rt ∧ (strokeStopped s).tsc = s.tsc ∧ (strokeStopped s).cc = s.cc ∧
    (strokeStopped s).ama = s.ama ∧ (strokeStopped s).lsc = s.lsc ∧ (strokeStopped s).rs = s.rs ∧
    (strokeStopped s).cal = s.cal ∧ (strokeStopped s).ml.strap = s.ml.strap ∧ (strokeStopped s).ml.fifo = s.ml.fifo ∧
    (strokeStopped s).ml.rdy = s.ml.rdy ∧ (strokeStopped s).ml.assembler = s.ml.assembler ∧
    (strokeStopped s).ml.gap = s.ml.gap ∧ (strokeStopped s).ml.replies = s.ml.replies ∧
    (strokeStopped s).ml.tx = s.ml.tx ∧ (strokeStopped s).ml.noticeCrc = s.ml.noticeCrc ∧
    (strokeStopped s).ml.noticeTimeout = s.ml.noticeTimeout ∧
    (strokeStopped s).ml.noticeOverrun = s.ml.noticeOverrun ∧
    (strokeStopped s).ml.restartPending = s.ml.restartPending := by
  simp only [strokeStopped]; (repeat' split) <;> simp
@[simp] theorem strokeStopped_reported {key : ReportKey} {s : State} (h : Reported key s) :
    Reported key (strokeStopped s) := by
  simp only [strokeStopped]; (repeat' split) <;> simp +contextual (maxDischargeDepth := 40) [h]
@[simp] theorem homingFailed_keeps (s : State) :
    (homingFailed s).pending = s.pending ∧ (homingFailed s).freeCount = s.freeCount ∧ (homingFailed s).pins = s.pins ∧
    (homingFailed s).params = s.params ∧ (homingFailed s).tt = s.tt ∧ (homingFailed s).eu = s.eu ∧
    (homingFailed s).beu = s.beu ∧ (homingFailed s).sc = s.sc ∧ (homingFailed s).rt = s.rt ∧
    (homingFailed s).tsc = s.tsc ∧ (homingFailed s).cc = s.cc ∧ (homingFailed s).ama = s.ama ∧
    (homingFailed s).lsc = s.lsc ∧ (homingFailed s).rs = s.rs ∧ (homingFailed s).cal = s.cal ∧
    (homingFailed s).ml.strap = s.ml.strap ∧ (homingFailed s).ml.fifo = s.ml.fifo ∧
    (homingFailed s).ml.rdy = s.ml.rdy ∧ (homingFailed s).ml.assembler = s.ml.assembler ∧
    (homingFailed s).ml.gap = s.ml.gap ∧ (homingFailed s).ml.replies = s.ml.replies ∧
    (homingFailed s).ml.tx = s.ml.tx ∧ (homingFailed s).ml.noticeCrc = s.ml.noticeCrc ∧
    (homingFailed s).ml.noticeTimeout = s.ml.noticeTimeout ∧ (homingFailed s).ml.noticeOverrun = s.ml.noticeOverrun ∧
    (homingFailed s).ml.restartPending = s.ml.restartPending := by
  simp only [homingFailed]; (repeat' split) <;> simp
@[simp] theorem homingFailed_reported {key : ReportKey} {s : State} (h : Reported key s) :
    Reported key (homingFailed s) := by
  simp only [homingFailed]; (repeat' split) <;> simp +contextual (maxDischargeDepth := 40) [h]
@[simp] theorem endStopped_keeps (s : State) :
    (endStopped s).pending = s.pending ∧ (endStopped s).freeCount = s.freeCount ∧ (endStopped s).pins = s.pins ∧
    (endStopped s).params = s.params ∧ (endStopped s).eu = s.eu ∧ (endStopped s).beu = s.beu ∧
    (endStopped s).sc = s.sc ∧ (endStopped s).rt = s.rt ∧ (endStopped s).lsc = s.lsc ∧ (endStopped s).rs = s.rs ∧
    (endStopped s).cal = s.cal ∧ (endStopped s).ml.strap = s.ml.strap ∧ (endStopped s).ml.fifo = s.ml.fifo ∧
    (endStopped s).ml.rdy = s.ml.rdy ∧ (endStopped s).ml.assembler = s.ml.assembler ∧
    (endStopped s).ml.gap = s.ml.gap ∧ (endStopped s).ml.replies = s.ml.replies ∧ (endStopped s).ml.tx = s.ml.tx ∧
    (endStopped s).ml.noticeCrc = s.ml.noticeCrc ∧ (endStopped s).ml.noticeTimeout = s.ml.noticeTimeout ∧
    (endStopped s).ml.noticeOverrun = s.ml.noticeOverrun ∧
    (endStopped s).ml.restartPending = s.ml.restartPending := by
  simp only [endStopped]; (repeat' split) <;> simp
@[simp] theorem endStopped_reported {key : ReportKey} {s : State} (h : Reported key s) :
    Reported key (endStopped s) := by
  simp only [endStopped]; (repeat' split) <;> simp +contextual (maxDischargeDepth := 40) [h]
@[simp] theorem bagConfirmed_keeps (s : State) :
    (bagConfirmed s).pending = s.pending ∧ (bagConfirmed s).freeCount = s.freeCount ∧ (bagConfirmed s).pins = s.pins ∧
    (bagConfirmed s).params = s.params ∧ (bagConfirmed s).eu = s.eu ∧ (bagConfirmed s).beu = s.beu ∧
    (bagConfirmed s).sc = s.sc ∧ (bagConfirmed s).rt = s.rt ∧ (bagConfirmed s).lsc = s.lsc ∧
    (bagConfirmed s).rs = s.rs ∧ (bagConfirmed s).cal = s.cal ∧ (bagConfirmed s).ml.strap = s.ml.strap ∧
    (bagConfirmed s).ml.fifo = s.ml.fifo ∧ (bagConfirmed s).ml.rdy = s.ml.rdy ∧
    (bagConfirmed s).ml.assembler = s.ml.assembler ∧ (bagConfirmed s).ml.gap = s.ml.gap ∧
    (bagConfirmed s).ml.replies = s.ml.replies ∧ (bagConfirmed s).ml.tx = s.ml.tx ∧
    (bagConfirmed s).ml.noticeCrc = s.ml.noticeCrc ∧ (bagConfirmed s).ml.noticeTimeout = s.ml.noticeTimeout ∧
    (bagConfirmed s).ml.noticeOverrun = s.ml.noticeOverrun ∧
    (bagConfirmed s).ml.restartPending = s.ml.restartPending := by
  have h : ∀ c (f : MergeBag → MergeBag) (t : State), when c (State.onMbc f) t = t.onMbc (if c then f else id) := by
    intro c f t; cases c <;> rfl
  simp [bagConfirmed, h]
@[simp] theorem bagConfirmed_reported {key : ReportKey} {s : State} (h : Reported key s) :
    Reported key (bagConfirmed s) := by
  have w : ∀ c (f : MergeBag → MergeBag) (t : State), when c (State.onMbc f) t = t.onMbc (if c then f else id) := by
    intro c f t; cases c <;> rfl
  simp only [bagConfirmed, w]
  exact bagConfirmNotice_reported h
@[simp] theorem bagMissed_keeps (s : State) :
    (bagMissed s).pending = s.pending ∧ (bagMissed s).freeCount = s.freeCount ∧ (bagMissed s).pins = s.pins ∧
    (bagMissed s).params = s.params ∧ (bagMissed s).eu = s.eu ∧ (bagMissed s).beu = s.beu ∧ (bagMissed s).sc = s.sc ∧
    (bagMissed s).rt = s.rt ∧ (bagMissed s).tsc = s.tsc ∧ (bagMissed s).cc = s.cc ∧ (bagMissed s).ama = s.ama ∧
    (bagMissed s).lsc = s.lsc ∧ (bagMissed s).dou = s.dou ∧ (bagMissed s).rs = s.rs ∧ (bagMissed s).cal = s.cal ∧
    (bagMissed s).ml.strap = s.ml.strap ∧ (bagMissed s).ml.fifo = s.ml.fifo ∧ (bagMissed s).ml.rdy = s.ml.rdy ∧
    (bagMissed s).ml.assembler = s.ml.assembler ∧ (bagMissed s).ml.gap = s.ml.gap ∧
    (bagMissed s).ml.replies = s.ml.replies ∧ (bagMissed s).ml.tx = s.ml.tx ∧
    (bagMissed s).ml.noticeCrc = s.ml.noticeCrc ∧ (bagMissed s).ml.noticeTimeout = s.ml.noticeTimeout ∧
    (bagMissed s).ml.noticeOverrun = s.ml.noticeOverrun ∧ (bagMissed s).ml.restartPending = s.ml.restartPending := by
  simp only [bagMissed]; (repeat' split) <;> simp
@[simp] theorem bagMissed_reported {key : ReportKey} {s : State} (h : Reported key s) :
    Reported key (bagMissed s) := by
  simp only [bagMissed]; (repeat' split) <;> simp +contextual (maxDischargeDepth := 40) [h]
@[simp] theorem endBlast_keeps (s : State) :
    (endBlast s).pending = s.pending ∧ (endBlast s).freeCount = s.freeCount ∧ (endBlast s).pins = s.pins ∧
    (endBlast s).params = s.params ∧ (endBlast s).tt = s.tt ∧ (endBlast s).eu = s.eu ∧ (endBlast s).beu = s.beu ∧
    (endBlast s).sc = s.sc ∧ (endBlast s).rt = s.rt ∧ (endBlast s).lsc = s.lsc ∧ (endBlast s).rs = s.rs ∧
    (endBlast s).cal = s.cal ∧ (endBlast s).ml.strap = s.ml.strap ∧ (endBlast s).ml.fifo = s.ml.fifo ∧
    (endBlast s).ml.rdy = s.ml.rdy ∧ (endBlast s).ml.assembler = s.ml.assembler ∧ (endBlast s).ml.gap = s.ml.gap ∧
    (endBlast s).ml.replies = s.ml.replies ∧ (endBlast s).ml.tx = s.ml.tx ∧
    (endBlast s).ml.noticeCrc = s.ml.noticeCrc ∧ (endBlast s).ml.noticeTimeout = s.ml.noticeTimeout ∧
    (endBlast s).ml.noticeOverrun = s.ml.noticeOverrun ∧ (endBlast s).ml.restartPending = s.ml.restartPending := by
  simp only [endBlast]; (repeat' split) <;> simp
@[simp] theorem endBlast_reported {key : ReportKey} {s : State} (h : Reported key s) :
    Reported key (endBlast s) := by
  simp only [endBlast]; (repeat' split) <;> simp +contextual (maxDischargeDepth := 40) [h]
@[simp] theorem abandonBagger_keeps (s : State) :
    (abandonBagger s).pending = s.pending ∧ (abandonBagger s).freeCount = s.freeCount ∧
    (abandonBagger s).pins = s.pins ∧ (abandonBagger s).params = s.params ∧ (abandonBagger s).tt = s.tt ∧
    (abandonBagger s).eu = s.eu ∧ (abandonBagger s).beu = s.beu ∧ (abandonBagger s).sc = s.sc ∧
    (abandonBagger s).rt = s.rt ∧ (abandonBagger s).lsc = s.lsc ∧ (abandonBagger s).rs = s.rs ∧
    (abandonBagger s).cal = s.cal ∧ (abandonBagger s).ml.strap = s.ml.strap ∧ (abandonBagger s).ml.fifo = s.ml.fifo ∧
    (abandonBagger s).ml.rdy = s.ml.rdy ∧ (abandonBagger s).ml.assembler = s.ml.assembler ∧
    (abandonBagger s).ml.gap = s.ml.gap ∧ (abandonBagger s).ml.replies = s.ml.replies ∧
    (abandonBagger s).ml.tx = s.ml.tx ∧ (abandonBagger s).ml.noticeCrc = s.ml.noticeCrc ∧
    (abandonBagger s).ml.noticeTimeout = s.ml.noticeTimeout ∧
    (abandonBagger s).ml.noticeOverrun = s.ml.noticeOverrun ∧
    (abandonBagger s).ml.restartPending = s.ml.restartPending := by
  simp only [abandonBagger]; (repeat' split) <;> simp
@[simp] theorem abandonBagger_reported {key : ReportKey} {s : State} (h : Reported key s) :
    Reported key (abandonBagger s) := by
  simp only [abandonBagger]; (repeat' split) <;> simp +contextual (maxDischargeDepth := 40) [h]
@[simp] theorem abandonTyer_keeps (s : State) :
    (abandonTyer s).pending = s.pending ∧ (abandonTyer s).freeCount = s.freeCount ∧ (abandonTyer s).pins = s.pins ∧
    (abandonTyer s).params = s.params ∧ (abandonTyer s).tt = s.tt ∧ (abandonTyer s).eu = s.eu ∧
    (abandonTyer s).beu = s.beu ∧ (abandonTyer s).sc = s.sc ∧ (abandonTyer s).rt = s.rt ∧
    (abandonTyer s).lsc = s.lsc ∧ (abandonTyer s).rs = s.rs ∧ (abandonTyer s).cal = s.cal ∧
    (abandonTyer s).ml.strap = s.ml.strap ∧ (abandonTyer s).ml.fifo = s.ml.fifo ∧ (abandonTyer s).ml.rdy = s.ml.rdy ∧
    (abandonTyer s).ml.assembler = s.ml.assembler ∧ (abandonTyer s).ml.gap = s.ml.gap ∧
    (abandonTyer s).ml.replies = s.ml.replies ∧ (abandonTyer s).ml.tx = s.ml.tx ∧
    (abandonTyer s).ml.noticeCrc = s.ml.noticeCrc ∧ (abandonTyer s).ml.noticeTimeout = s.ml.noticeTimeout ∧
    (abandonTyer s).ml.noticeOverrun = s.ml.noticeOverrun ∧
    (abandonTyer s).ml.restartPending = s.ml.restartPending := by
  simp only [abandonTyer]; (repeat' split) <;> simp
@[simp] theorem abandonTyer_reported {key : ReportKey} {s : State} (h : Reported key s) :
    Reported key (abandonTyer s) := by
  simp only [abandonTyer]; (repeat' split) <;> simp +contextual (maxDischargeDepth := 40) [h]
@[simp] theorem requestJob_keeps (j : Job) (s : State) :
    (requestJob j s).pending = s.pending ∧ (requestJob j s).freeCount = s.freeCount ∧ (requestJob j s).pins = s.pins ∧
    (requestJob j s).params = s.params ∧ (requestJob j s).tt = s.tt ∧ (requestJob j s).eu = s.eu ∧
    (requestJob j s).beu = s.beu ∧ (requestJob j s).sc = s.sc ∧ (requestJob j s).rt = s.rt ∧
    (requestJob j s).lic = s.lic ∧ (requestJob j s).mbc = s.mbc ∧ (requestJob j s).tsc = s.tsc ∧
    (requestJob j s).cc = s.cc ∧ (requestJob j s).ama = s.ama ∧ (requestJob j s).lsc = s.lsc ∧
    (requestJob j s).dou = s.dou ∧ (requestJob j s).ft = s.ft ∧ (requestJob j s).tu = s.tu ∧
    (requestJob j s).cal = s.cal ∧ (requestJob j s).ml = s.ml := by
  simp only [requestJob]; (repeat' split) <;> simp
@[simp] theorem requestJob_reported (j : Job) {key : ReportKey} {s : State} (h : Reported key s) :
    Reported key (requestJob j s) := by
  simp only [requestJob]; (repeat' split) <;> simp +contextual (maxDischargeDepth := 40) [h]
@[simp] theorem failureFault_keeps (k : JobKind) (done : Bool) (s : State) :
    (failureFault k done s).pending = s.pending ∧ (failureFault k done s).freeCount = s.freeCount ∧
    (failureFault k done s).pins = s.pins ∧ (failureFault k done s).params = s.params ∧
    (failureFault k done s).tt = s.tt ∧ (failureFault k done s).eu = s.eu ∧ (failureFault k done s).beu = s.beu ∧
    (failureFault k done s).sc = s.sc ∧ (failureFault k done s).rt = s.rt ∧ (failureFault k done s).mbc = s.mbc ∧
    (failureFault k done s).tsc = s.tsc ∧ (failureFault k done s).cc = s.cc ∧ (failureFault k done s).ama = s.ama ∧
    (failureFault k done s).lsc = s.lsc ∧ (failureFault k done s).dou = s.dou ∧ (failureFault k done s).rs = s.rs ∧
    (failureFault k done s).cal = s.cal ∧ (failureFault k done s).ml.strap = s.ml.strap ∧
    (failureFault k done s).ml.fifo = s.ml.fifo ∧ (failureFault k done s).ml.rdy = s.ml.rdy ∧
    (failureFault k done s).ml.assembler = s.ml.assembler ∧ (failureFault k done s).ml.gap = s.ml.gap ∧
    (failureFault k done s).ml.replies = s.ml.replies ∧ (failureFault k done s).ml.tx = s.ml.tx ∧
    (failureFault k done s).ml.noticeCrc = s.ml.noticeCrc ∧
    (failureFault k done s).ml.noticeTimeout = s.ml.noticeTimeout ∧
    (failureFault k done s).ml.noticeOverrun = s.ml.noticeOverrun ∧
    (failureFault k done s).ml.restartPending = s.ml.restartPending := by
  simp only [failureFault]; (repeat' split) <;> simp
@[simp] theorem failureFault_reported (k : JobKind) (done : Bool) {key : ReportKey} {s : State} (h : Reported key s) :
    Reported key (failureFault k done s) := by
  simp only [failureFault]; (repeat' split) <;> simp +contextual (maxDischargeDepth := 40) [h]
@[simp] theorem endJob_keeps (w : JobInProgress) (e : LogEntry) (s : State) :
    (endJob w e s).pending = s.pending ∧ (endJob w e s).freeCount = s.freeCount ∧ (endJob w e s).pins = s.pins ∧
    (endJob w e s).params = s.params ∧ (endJob w e s).tt = s.tt ∧ (endJob w e s).eu = s.eu ∧
    (endJob w e s).beu = s.beu ∧ (endJob w e s).sc = s.sc ∧ (endJob w e s).rt = s.rt ∧ (endJob w e s).mbc = s.mbc ∧
    (endJob w e s).tsc = s.tsc ∧ (endJob w e s).cc = s.cc ∧ (endJob w e s).ama = s.ama ∧ (endJob w e s).lsc = s.lsc ∧
    (endJob w e s).dou = s.dou ∧ (endJob w e s).cal = s.cal := by
  simp only [endJob]; (repeat' split) <;> simp
@[simp] theorem endJob_reported (w : JobInProgress) (e : LogEntry) {key : ReportKey} {s : State} (h : Reported key s) :
    Reported key (endJob w e s) := by
  simp only [endJob]; (repeat' split) <;> simp +contextual (maxDischargeDepth := 40) [h]
@[simp] theorem programVerified_keeps (w : JobInProgress) (s : State) :
    (programVerified w s).pending = s.pending ∧ (programVerified w s).freeCount = s.freeCount ∧
    (programVerified w s).pins = s.pins ∧ (programVerified w s).params = s.params ∧ (programVerified w s).tt = s.tt ∧
    (programVerified w s).eu = s.eu ∧ (programVerified w s).beu = s.beu ∧ (programVerified w s).sc = s.sc ∧
    (programVerified w s).rt = s.rt ∧ (programVerified w s).mbc = s.mbc ∧ (programVerified w s).tsc = s.tsc ∧
    (programVerified w s).cc = s.cc ∧ (programVerified w s).ama = s.ama ∧ (programVerified w s).lsc = s.lsc ∧
    (programVerified w s).dou = s.dou ∧ (programVerified w s).cal = s.cal := by
  have h : ∀ c (f : RecordStore → RecordStore) (t : State), when c (State.onRs f) t = t.onRs (if c then f else id) := by
    intro c f t; cases c <;> rfl
  simp only [programVerified, h]; (repeat' split) <;> simp
@[simp] theorem programFailed_keeps (w : JobInProgress) (s : State) :
    (programFailed w s).pending = s.pending ∧ (programFailed w s).pins = s.pins ∧
    (programFailed w s).params = s.params ∧ (programFailed w s).tt = s.tt ∧ (programFailed w s).eu = s.eu ∧
    (programFailed w s).beu = s.beu ∧ (programFailed w s).sc = s.sc ∧ (programFailed w s).rt = s.rt ∧
    (programFailed w s).mbc = s.mbc ∧ (programFailed w s).tsc = s.tsc ∧ (programFailed w s).cc = s.cc ∧
    (programFailed w s).ama = s.ama ∧ (programFailed w s).lsc = s.lsc ∧ (programFailed w s).dou = s.dou ∧
    (programFailed w s).cal = s.cal := by
  simp only [programFailed]; (repeat' split) <;> simp
@[simp] theorem requestCheckpoint_keeps (s : State) :
    (requestCheckpoint s).pending = s.pending ∧ (requestCheckpoint s).freeCount = s.freeCount ∧
    (requestCheckpoint s).pins = s.pins ∧ (requestCheckpoint s).params = s.params ∧ (requestCheckpoint s).tt = s.tt ∧
    (requestCheckpoint s).eu = s.eu ∧ (requestCheckpoint s).beu = s.beu ∧ (requestCheckpoint s).sc = s.sc ∧
    (requestCheckpoint s).rt = s.rt ∧ (requestCheckpoint s).lic = s.lic ∧ (requestCheckpoint s).mbc = s.mbc ∧
    (requestCheckpoint s).tsc = s.tsc ∧ (requestCheckpoint s).cc = s.cc ∧ (requestCheckpoint s).ama = s.ama ∧
    (requestCheckpoint s).lsc = s.lsc ∧ (requestCheckpoint s).dou = s.dou ∧ (requestCheckpoint s).ft = s.ft ∧
    (requestCheckpoint s).tu = s.tu ∧ (requestCheckpoint s).cal = s.cal ∧ (requestCheckpoint s).ml = s.ml := by
  simp only [requestCheckpoint]; (repeat' split) <;> simp
@[simp] theorem requestCheckpoint_reported {key : ReportKey} {s : State} (h : Reported key s) :
    Reported key (requestCheckpoint s) := by
  simp only [requestCheckpoint]; (repeat' split) <;> simp +contextual (maxDischargeDepth := 40) [h]
@[simp] theorem scanSets_keeps (s : State) :
    (scanSets s).pending = s.pending ∧ (scanSets s).freeCount = s.freeCount ∧ (scanSets s).pins = s.pins ∧
    (scanSets s).params = s.params ∧ (scanSets s).tt = s.tt ∧ (scanSets s).eu = s.eu ∧ (scanSets s).beu = s.beu ∧
    (scanSets s).sc = s.sc ∧ (scanSets s).lic = s.lic ∧ (scanSets s).mbc = s.mbc ∧ (scanSets s).tsc = s.tsc ∧
    (scanSets s).cc = s.cc ∧ (scanSets s).ama = s.ama ∧ (scanSets s).lsc = s.lsc ∧ (scanSets s).dou = s.dou ∧
    (scanSets s).ft = s.ft ∧ (scanSets s).cal = s.cal ∧ (scanSets s).ml = s.ml := by
  simp only [scanSets]; (repeat' split) <;> simp
@[simp] theorem scanSets_reported {key : ReportKey} {s : State} (h : Reported key s) :
    Reported key (scanSets s) := by
  simp only [scanSets]; (repeat' split) <;> simp +contextual (maxDischargeDepth := 40) [h]
@[simp] theorem restoreSelection_keeps (l : Lane) (slot : Option Nat) (s : State) :
    (restoreSelection l slot s).pending = s.pending ∧ (restoreSelection l slot s).freeCount = s.freeCount ∧
    (restoreSelection l slot s).pins = s.pins ∧ (restoreSelection l slot s).params = s.params ∧
    (restoreSelection l slot s).tt = s.tt ∧ (restoreSelection l slot s).eu = s.eu ∧
    (restoreSelection l slot s).beu = s.beu ∧ (restoreSelection l slot s).sc = s.sc ∧
    (restoreSelection l slot s).rt = s.rt ∧ (restoreSelection l slot s).mbc = s.mbc ∧
    (restoreSelection l slot s).tsc = s.tsc ∧ (restoreSelection l slot s).cc = s.cc ∧
    (restoreSelection l slot s).ama = s.ama ∧ (restoreSelection l slot s).lsc = s.lsc ∧
    (restoreSelection l slot s).dou = s.dou ∧ (restoreSelection l slot s).ft = s.ft ∧
    (restoreSelection l slot s).tu = s.tu ∧ (restoreSelection l slot s).rs = s.rs ∧
    (restoreSelection l slot s).cal = s.cal ∧ (restoreSelection l slot s).ml = s.ml := by
  simp only [restoreSelection]; (repeat' split) <;> simp
@[simp] theorem restoreSelection_reported (l : Lane) (slot : Option Nat) {key : ReportKey} {s : State} (h : Reported key s) :
    Reported key (restoreSelection l slot s) := by
  simp only [restoreSelection]; (repeat' split) <;> simp +contextual (maxDischargeDepth := 40) [h]
@[simp] theorem scanRestores_keeps (s : State) :
    (scanRestores s).pending = s.pending ∧ (scanRestores s).freeCount = s.freeCount ∧ (scanRestores s).pins = s.pins ∧
    (scanRestores s).params = s.params ∧ (scanRestores s).tt = s.tt ∧ (scanRestores s).eu = s.eu ∧
    (scanRestores s).beu = s.beu ∧ (scanRestores s).sc = s.sc ∧ (scanRestores s).rt = s.rt ∧
    (scanRestores s).ama = s.ama ∧ (scanRestores s).lsc = s.lsc ∧ (scanRestores s).dou = s.dou ∧
    (scanRestores s).ft = s.ft ∧ (scanRestores s).tu = s.tu ∧ (scanRestores s).rs = s.rs ∧
    (scanRestores s).cal = s.cal ∧ (scanRestores s).ml.strap = s.ml.strap ∧ (scanRestores s).ml.fifo = s.ml.fifo ∧
    (scanRestores s).ml.rdy = s.ml.rdy ∧ (scanRestores s).ml.assembler = s.ml.assembler ∧
    (scanRestores s).ml.gap = s.ml.gap ∧ (scanRestores s).ml.replies = s.ml.replies ∧
    (scanRestores s).ml.tx = s.ml.tx ∧ (scanRestores s).ml.noticeCrc = s.ml.noticeCrc ∧
    (scanRestores s).ml.noticeTimeout = s.ml.noticeTimeout ∧ (scanRestores s).ml.noticeOverrun = s.ml.noticeOverrun ∧
    (scanRestores s).ml.restartPending = s.ml.restartPending := by
  simp only [scanRestores]; (repeat' split) <;> simp
@[simp] theorem scanRestores_reported {key : ReportKey} {s : State} (h : Reported key s) :
    Reported key (scanRestores s) := by
  simp only [scanRestores]; (repeat' split) <;> simp +contextual (maxDischargeDepth := 40) [h]
@[simp] theorem changeLine_keeps (new : LineState) (s : State) :
    (changeLine new s).pending = s.pending ∧ (changeLine new s).freeCount = s.freeCount ∧
    (changeLine new s).pins = s.pins ∧ (changeLine new s).params = s.params ∧ (changeLine new s).tt = s.tt ∧
    (changeLine new s).eu = s.eu ∧ (changeLine new s).beu = s.beu ∧ (changeLine new s).sc = s.sc ∧
    (changeLine new s).rt = s.rt ∧ (changeLine new s).lic = s.lic ∧ (changeLine new s).mbc = s.mbc ∧
    (changeLine new s).tsc = s.tsc ∧ (changeLine new s).cc = s.cc ∧ (changeLine new s).ama = s.ama ∧
    (changeLine new s).dou = s.dou ∧ (changeLine new s).ft = s.ft ∧ (changeLine new s).tu = s.tu ∧
    (changeLine new s).rs = s.rs ∧ (changeLine new s).cal = s.cal ∧ (changeLine new s).ml.strap = s.ml.strap ∧
    (changeLine new s).ml.fifo = s.ml.fifo ∧ (changeLine new s).ml.rdy = s.ml.rdy ∧
    (changeLine new s).ml.assembler = s.ml.assembler ∧ (changeLine new s).ml.gap = s.ml.gap ∧
    (changeLine new s).ml.replies = s.ml.replies ∧ (changeLine new s).ml.tx = s.ml.tx ∧
    (changeLine new s).ml.noticeCrc = s.ml.noticeCrc ∧ (changeLine new s).ml.noticeTimeout = s.ml.noticeTimeout ∧
    (changeLine new s).ml.noticeOverrun = s.ml.noticeOverrun ∧
    (changeLine new s).ml.restartPending = s.ml.restartPending := by
  simp only [changeLine]; (repeat' split) <;> simp
@[simp] theorem changeLine_reported (new : LineState) {key : ReportKey} {s : State} (h : Reported key s) :
    Reported key (changeLine new s) := by
  simp only [changeLine]; (repeat' split) <;> simp +contextual (maxDischargeDepth := 40) [h]
@[simp] theorem leaveHold_keeps (s : State) :
    (leaveHold s).pending = s.pending ∧ (leaveHold s).freeCount = s.freeCount ∧ (leaveHold s).pins = s.pins ∧
    (leaveHold s).params = s.params ∧ (leaveHold s).tt = s.tt ∧ (leaveHold s).eu = s.eu ∧ (leaveHold s).beu = s.beu ∧
    (leaveHold s).sc = s.sc ∧ (leaveHold s).rt = s.rt ∧ (leaveHold s).lic = s.lic ∧ (leaveHold s).mbc = s.mbc ∧
    (leaveHold s).tsc = s.tsc ∧ (leaveHold s).cc = s.cc ∧ (leaveHold s).ama = s.ama ∧ (leaveHold s).dou = s.dou ∧
    (leaveHold s).ft = s.ft ∧ (leaveHold s).tu = s.tu ∧ (leaveHold s).rs = s.rs ∧ (leaveHold s).cal = s.cal ∧
    (leaveHold s).ml = s.ml := by
  simp only [leaveHold]; (repeat' split) <;> simp
@[simp] theorem leaveHold_reported {key : ReportKey} {s : State} (h : Reported key s) :
    Reported key (leaveHold s) := by
  simp only [leaveHold]; (repeat' split) <;> simp +contextual (maxDischargeDepth := 40) [h]
@[simp] theorem crumbEntry_keeps (was : LineState) (s : State) :
    (crumbEntry was s).pending = s.pending ∧ (crumbEntry was s).freeCount = s.freeCount ∧
    (crumbEntry was s).pins = s.pins ∧ (crumbEntry was s).params = s.params ∧ (crumbEntry was s).tt = s.tt ∧
    (crumbEntry was s).eu = s.eu ∧ (crumbEntry was s).beu = s.beu ∧ (crumbEntry was s).sc = s.sc ∧
    (crumbEntry was s).rt = s.rt ∧ (crumbEntry was s).mbc = s.mbc ∧ (crumbEntry was s).tsc = s.tsc ∧
    (crumbEntry was s).ama = s.ama ∧ (crumbEntry was s).lsc = s.lsc ∧ (crumbEntry was s).dou = s.dou ∧
    (crumbEntry was s).ft = s.ft ∧ (crumbEntry was s).tu = s.tu ∧ (crumbEntry was s).rs = s.rs ∧
    (crumbEntry was s).cal = s.cal ∧ (crumbEntry was s).ml.strap = s.ml.strap ∧
    (crumbEntry was s).ml.fifo = s.ml.fifo ∧ (crumbEntry was s).ml.rdy = s.ml.rdy ∧
    (crumbEntry was s).ml.assembler = s.ml.assembler ∧ (crumbEntry was s).ml.gap = s.ml.gap ∧
    (crumbEntry was s).ml.replies = s.ml.replies ∧ (crumbEntry was s).ml.tx = s.ml.tx ∧
    (crumbEntry was s).ml.noticeCrc = s.ml.noticeCrc ∧ (crumbEntry was s).ml.noticeTimeout = s.ml.noticeTimeout ∧
    (crumbEntry was s).ml.noticeOverrun = s.ml.noticeOverrun ∧
    (crumbEntry was s).ml.restartPending = s.ml.restartPending := by
  simp only [crumbEntry]; (repeat' split) <;> simp
@[simp] theorem crumbEntry_reported (was : LineState) {key : ReportKey} {s : State} (h : Reported key s) :
    Reported key (crumbEntry was s) := by
  simp only [crumbEntry]; (repeat' split) <;> simp +contextual (maxDischargeDepth := 40) [h]
@[simp] theorem enterStop_keeps (s : State) :
    (enterStop s).pending = s.pending ∧ (enterStop s).freeCount = s.freeCount ∧ (enterStop s).pins = s.pins ∧
    (enterStop s).params = s.params ∧ (enterStop s).eu = s.eu ∧ (enterStop s).beu = s.beu ∧ (enterStop s).sc = s.sc ∧
    (enterStop s).rt = s.rt ∧ (enterStop s).rs = s.rs ∧ (enterStop s).cal = s.cal ∧
    (enterStop s).ml.strap = s.ml.strap ∧ (enterStop s).ml.fifo = s.ml.fifo ∧ (enterStop s).ml.rdy = s.ml.rdy ∧
    (enterStop s).ml.assembler = s.ml.assembler ∧ (enterStop s).ml.gap = s.ml.gap ∧
    (enterStop s).ml.replies = s.ml.replies ∧ (enterStop s).ml.tx = s.ml.tx ∧
    (enterStop s).ml.noticeCrc = s.ml.noticeCrc ∧ (enterStop s).ml.noticeTimeout = s.ml.noticeTimeout ∧
    (enterStop s).ml.noticeOverrun = s.ml.noticeOverrun ∧ (enterStop s).ml.restartPending = s.ml.restartPending := by
  simp only [enterStop]; (repeat' split) <;> simp
@[simp] theorem enterStop_reported {key : ReportKey} {s : State} (h : Reported key s) :
    Reported key (enterStop s) := by
  simp only [enterStop]; (repeat' split) <;> simp +contextual (maxDischargeDepth := 40) [h]
@[simp] theorem enterStandby_keeps (s : State) :
    (enterStandby s).pending = s.pending ∧ (enterStandby s).freeCount = s.freeCount ∧ (enterStandby s).pins = s.pins ∧
    (enterStandby s).params = s.params ∧ (enterStandby s).eu = s.eu ∧ (enterStandby s).beu = s.beu ∧
    (enterStandby s).sc = s.sc ∧ (enterStandby s).rt = s.rt ∧ (enterStandby s).cal = s.cal ∧
    (enterStandby s).ml.strap = s.ml.strap ∧ (enterStandby s).ml.fifo = s.ml.fifo ∧
    (enterStandby s).ml.rdy = s.ml.rdy ∧ (enterStandby s).ml.assembler = s.ml.assembler ∧
    (enterStandby s).ml.gap = s.ml.gap ∧ (enterStandby s).ml.replies = s.ml.replies ∧
    (enterStandby s).ml.tx = s.ml.tx ∧ (enterStandby s).ml.noticeCrc = s.ml.noticeCrc ∧
    (enterStandby s).ml.noticeTimeout = s.ml.noticeTimeout ∧ (enterStandby s).ml.noticeOverrun = s.ml.noticeOverrun ∧
    (enterStandby s).ml.restartPending = s.ml.restartPending := by
  simp only [enterStandby]; (repeat' split) <;> simp
@[simp] theorem enterStandby_reported {key : ReportKey} {s : State} (h : Reported key s) :
    Reported key (enterStandby s) := by
  simp only [enterStandby]; (repeat' split) <;> simp +contextual (maxDischargeDepth := 40) [h]
@[simp] theorem enterSpinUp_keeps (s : State) :
    (enterSpinUp s).pending = s.pending ∧ (enterSpinUp s).freeCount = s.freeCount ∧ (enterSpinUp s).pins = s.pins ∧
    (enterSpinUp s).params = s.params ∧ (enterSpinUp s).eu = s.eu ∧ (enterSpinUp s).beu = s.beu ∧
    (enterSpinUp s).sc = s.sc ∧ (enterSpinUp s).rt = s.rt ∧ (enterSpinUp s).mbc = s.mbc ∧
    (enterSpinUp s).tsc = s.tsc ∧ (enterSpinUp s).cc = s.cc ∧ (enterSpinUp s).ama = s.ama ∧
    (enterSpinUp s).ft = s.ft ∧ (enterSpinUp s).tu = s.tu ∧ (enterSpinUp s).rs = s.rs ∧ (enterSpinUp s).cal = s.cal ∧
    (enterSpinUp s).ml.strap = s.ml.strap ∧ (enterSpinUp s).ml.fifo = s.ml.fifo ∧ (enterSpinUp s).ml.rdy = s.ml.rdy ∧
    (enterSpinUp s).ml.assembler = s.ml.assembler ∧ (enterSpinUp s).ml.gap = s.ml.gap ∧
    (enterSpinUp s).ml.replies = s.ml.replies ∧ (enterSpinUp s).ml.tx = s.ml.tx ∧
    (enterSpinUp s).ml.noticeCrc = s.ml.noticeCrc ∧ (enterSpinUp s).ml.noticeTimeout = s.ml.noticeTimeout ∧
    (enterSpinUp s).ml.noticeOverrun = s.ml.noticeOverrun ∧
    (enterSpinUp s).ml.restartPending = s.ml.restartPending := by
  simp only [enterSpinUp]; (repeat' split) <;> simp
@[simp] theorem enterSpinUp_reported {key : ReportKey} {s : State} (h : Reported key s) :
    Reported key (enterSpinUp s) := by
  simp only [enterSpinUp]; (repeat' split) <;> simp +contextual (maxDischargeDepth := 40) [h]
@[simp] theorem enterRun_keeps (s : State) :
    (enterRun s).pending = s.pending ∧ (enterRun s).freeCount = s.freeCount ∧ (enterRun s).pins = s.pins ∧
    (enterRun s).params = s.params ∧ (enterRun s).tt = s.tt ∧ (enterRun s).eu = s.eu ∧ (enterRun s).beu = s.beu ∧
    (enterRun s).sc = s.sc ∧ (enterRun s).rt = s.rt ∧ (enterRun s).mbc = s.mbc ∧ (enterRun s).tsc = s.tsc ∧
    (enterRun s).ama = s.ama ∧ (enterRun s).ft = s.ft ∧ (enterRun s).tu = s.tu ∧ (enterRun s).rs = s.rs ∧
    (enterRun s).cal = s.cal ∧ (enterRun s).ml.strap = s.ml.strap ∧ (enterRun s).ml.fifo = s.ml.fifo ∧
    (enterRun s).ml.rdy = s.ml.rdy ∧ (enterRun s).ml.assembler = s.ml.assembler ∧ (enterRun s).ml.gap = s.ml.gap ∧
    (enterRun s).ml.replies = s.ml.replies ∧ (enterRun s).ml.tx = s.ml.tx ∧
    (enterRun s).ml.noticeCrc = s.ml.noticeCrc ∧ (enterRun s).ml.noticeTimeout = s.ml.noticeTimeout ∧
    (enterRun s).ml.noticeOverrun = s.ml.noticeOverrun ∧ (enterRun s).ml.restartPending = s.ml.restartPending := by
  simp only [enterRun]; (repeat' split) <;> simp
@[simp] theorem enterRun_reported {key : ReportKey} {s : State} (h : Reported key s) :
    Reported key (enterRun s) := by
  simp only [enterRun]; (repeat' split) <;> simp +contextual (maxDischargeDepth := 40) [h]
@[simp] theorem enterDrain_keeps (s : State) :
    (enterDrain s).pending = s.pending ∧ (enterDrain s).freeCount = s.freeCount ∧ (enterDrain s).pins = s.pins ∧
    (enterDrain s).params = s.params ∧ (enterDrain s).tt = s.tt ∧ (enterDrain s).eu = s.eu ∧
    (enterDrain s).beu = s.beu ∧ (enterDrain s).sc = s.sc ∧ (enterDrain s).rt = s.rt ∧ (enterDrain s).mbc = s.mbc ∧
    (enterDrain s).tsc = s.tsc ∧ (enterDrain s).cc = s.cc ∧ (enterDrain s).ama = s.ama ∧ (enterDrain s).ft = s.ft ∧
    (enterDrain s).tu = s.tu ∧ (enterDrain s).rs = s.rs ∧ (enterDrain s).cal = s.cal ∧
    (enterDrain s).ml.strap = s.ml.strap ∧ (enterDrain s).ml.fifo = s.ml.fifo ∧ (enterDrain s).ml.rdy = s.ml.rdy ∧
    (enterDrain s).ml.assembler = s.ml.assembler ∧ (enterDrain s).ml.gap = s.ml.gap ∧
    (enterDrain s).ml.replies = s.ml.replies ∧ (enterDrain s).ml.tx = s.ml.tx ∧
    (enterDrain s).ml.noticeCrc = s.ml.noticeCrc ∧ (enterDrain s).ml.noticeTimeout = s.ml.noticeTimeout ∧
    (enterDrain s).ml.noticeOverrun = s.ml.noticeOverrun ∧
    (enterDrain s).ml.restartPending = s.ml.restartPending := by
  simp only [enterDrain]; (repeat' split) <;> simp
@[simp] theorem enterDrain_reported {key : ReportKey} {s : State} (h : Reported key s) :
    Reported key (enterDrain s) := by
  simp only [enterDrain]; (repeat' split) <;> simp +contextual (maxDischargeDepth := 40) [h]
@[simp] theorem enterHold_keeps (back : LineState) (s : State) :
    (enterHold back s).pending = s.pending ∧ (enterHold back s).freeCount = s.freeCount ∧
    (enterHold back s).pins = s.pins ∧ (enterHold back s).params = s.params ∧ (enterHold back s).tt = s.tt ∧
    (enterHold back s).eu = s.eu ∧ (enterHold back s).beu = s.beu ∧ (enterHold back s).sc = s.sc ∧
    (enterHold back s).rt = s.rt ∧ (enterHold back s).rs = s.rs ∧ (enterHold back s).cal = s.cal ∧
    (enterHold back s).ml.strap = s.ml.strap ∧ (enterHold back s).ml.fifo = s.ml.fifo ∧
    (enterHold back s).ml.rdy = s.ml.rdy ∧ (enterHold back s).ml.assembler = s.ml.assembler ∧
    (enterHold back s).ml.gap = s.ml.gap ∧ (enterHold back s).ml.replies = s.ml.replies ∧
    (enterHold back s).ml.tx = s.ml.tx ∧ (enterHold back s).ml.noticeCrc = s.ml.noticeCrc ∧
    (enterHold back s).ml.noticeTimeout = s.ml.noticeTimeout ∧
    (enterHold back s).ml.noticeOverrun = s.ml.noticeOverrun ∧
    (enterHold back s).ml.restartPending = s.ml.restartPending := by
  simp only [enterHold]; (repeat' split) <;> simp
@[simp] theorem enterHold_reported (back : LineState) {key : ReportKey} {s : State} (h : Reported key s) :
    Reported key (enterHold back s) := by
  simp only [enterHold]; (repeat' split) <;> simp +contextual (maxDischargeDepth := 40) [h]
@[simp] theorem stopIfFaulted_keeps (s : State) :
    (stopIfFaulted s).pending = s.pending ∧ (stopIfFaulted s).freeCount = s.freeCount ∧
    (stopIfFaulted s).pins = s.pins ∧ (stopIfFaulted s).params = s.params ∧ (stopIfFaulted s).eu = s.eu ∧
    (stopIfFaulted s).beu = s.beu ∧ (stopIfFaulted s).sc = s.sc ∧ (stopIfFaulted s).rt = s.rt ∧
    (stopIfFaulted s).rs = s.rs ∧ (stopIfFaulted s).cal = s.cal ∧ (stopIfFaulted s).ml.strap = s.ml.strap ∧
    (stopIfFaulted s).ml.fifo = s.ml.fifo ∧ (stopIfFaulted s).ml.rdy = s.ml.rdy ∧
    (stopIfFaulted s).ml.assembler = s.ml.assembler ∧ (stopIfFaulted s).ml.gap = s.ml.gap ∧
    (stopIfFaulted s).ml.replies = s.ml.replies ∧ (stopIfFaulted s).ml.tx = s.ml.tx ∧
    (stopIfFaulted s).ml.noticeCrc = s.ml.noticeCrc ∧ (stopIfFaulted s).ml.noticeTimeout = s.ml.noticeTimeout ∧
    (stopIfFaulted s).ml.noticeOverrun = s.ml.noticeOverrun ∧
    (stopIfFaulted s).ml.restartPending = s.ml.restartPending := by
  simp only [stopIfFaulted]; (repeat' split) <;> simp
@[simp] theorem stopIfFaulted_reported {key : ReportKey} {s : State} (h : Reported key s) :
    Reported key (stopIfFaulted s) := by
  simp only [stopIfFaulted]; (repeat' split) <;> simp +contextual (maxDischargeDepth := 40) [h]
@[simp] theorem runIfSpun_keeps (s : State) :
    (runIfSpun s).pending = s.pending ∧ (runIfSpun s).freeCount = s.freeCount ∧ (runIfSpun s).pins = s.pins ∧
    (runIfSpun s).params = s.params ∧ (runIfSpun s).tt = s.tt ∧ (runIfSpun s).eu = s.eu ∧ (runIfSpun s).beu = s.beu ∧
    (runIfSpun s).sc = s.sc ∧ (runIfSpun s).rt = s.rt ∧ (runIfSpun s).mbc = s.mbc ∧ (runIfSpun s).tsc = s.tsc ∧
    (runIfSpun s).ama = s.ama ∧ (runIfSpun s).ft = s.ft ∧ (runIfSpun s).tu = s.tu ∧ (runIfSpun s).rs = s.rs ∧
    (runIfSpun s).cal = s.cal ∧ (runIfSpun s).ml.strap = s.ml.strap ∧ (runIfSpun s).ml.fifo = s.ml.fifo ∧
    (runIfSpun s).ml.rdy = s.ml.rdy ∧ (runIfSpun s).ml.assembler = s.ml.assembler ∧ (runIfSpun s).ml.gap = s.ml.gap ∧
    (runIfSpun s).ml.replies = s.ml.replies ∧ (runIfSpun s).ml.tx = s.ml.tx ∧
    (runIfSpun s).ml.noticeCrc = s.ml.noticeCrc ∧ (runIfSpun s).ml.noticeTimeout = s.ml.noticeTimeout ∧
    (runIfSpun s).ml.noticeOverrun = s.ml.noticeOverrun ∧ (runIfSpun s).ml.restartPending = s.ml.restartPending := by
  simp only [runIfSpun]; (repeat' split) <;> simp
@[simp] theorem runIfSpun_reported {key : ReportKey} {s : State} (h : Reported key s) :
    Reported key (runIfSpun s) := by
  simp only [runIfSpun]; (repeat' split) <;> simp +contextual (maxDischargeDepth := 40) [h]
@[simp] theorem standbyIfDrained_keeps (s : State) :
    (standbyIfDrained s).pending = s.pending ∧ (standbyIfDrained s).freeCount = s.freeCount ∧
    (standbyIfDrained s).pins = s.pins ∧ (standbyIfDrained s).params = s.params ∧ (standbyIfDrained s).eu = s.eu ∧
    (standbyIfDrained s).beu = s.beu ∧ (standbyIfDrained s).sc = s.sc ∧ (standbyIfDrained s).rt = s.rt ∧
    (standbyIfDrained s).cal = s.cal ∧ (standbyIfDrained s).ml.strap = s.ml.strap ∧
    (standbyIfDrained s).ml.fifo = s.ml.fifo ∧ (standbyIfDrained s).ml.rdy = s.ml.rdy ∧
    (standbyIfDrained s).ml.assembler = s.ml.assembler ∧ (standbyIfDrained s).ml.gap = s.ml.gap ∧
    (standbyIfDrained s).ml.replies = s.ml.replies ∧ (standbyIfDrained s).ml.tx = s.ml.tx ∧
    (standbyIfDrained s).ml.noticeCrc = s.ml.noticeCrc ∧ (standbyIfDrained s).ml.noticeTimeout = s.ml.noticeTimeout ∧
    (standbyIfDrained s).ml.noticeOverrun = s.ml.noticeOverrun ∧
    (standbyIfDrained s).ml.restartPending = s.ml.restartPending := by
  simp only [standbyIfDrained]; (repeat' split) <;> simp
@[simp] theorem standbyIfDrained_reported {key : ReportKey} {s : State} (h : Reported key s) :
    Reported key (standbyIfDrained s) := by
  simp only [standbyIfDrained]; (repeat' split) <;> simp +contextual (maxDischargeDepth := 40) [h]
@[simp] theorem advanceLine_keeps (s : State) :
    (advanceLine s).pending = s.pending ∧ (advanceLine s).freeCount = s.freeCount ∧ (advanceLine s).pins = s.pins ∧
    (advanceLine s).params = s.params ∧ (advanceLine s).eu = s.eu ∧ (advanceLine s).beu = s.beu ∧
    (advanceLine s).sc = s.sc ∧ (advanceLine s).rt = s.rt ∧ (advanceLine s).cal = s.cal ∧
    (advanceLine s).ml.strap = s.ml.strap ∧ (advanceLine s).ml.fifo = s.ml.fifo ∧ (advanceLine s).ml.rdy = s.ml.rdy ∧
    (advanceLine s).ml.assembler = s.ml.assembler ∧ (advanceLine s).ml.gap = s.ml.gap ∧
    (advanceLine s).ml.replies = s.ml.replies ∧ (advanceLine s).ml.tx = s.ml.tx ∧
    (advanceLine s).ml.noticeCrc = s.ml.noticeCrc ∧ (advanceLine s).ml.noticeTimeout = s.ml.noticeTimeout ∧
    (advanceLine s).ml.noticeOverrun = s.ml.noticeOverrun ∧
    (advanceLine s).ml.restartPending = s.ml.restartPending := by
  simp only [advanceLine]; (repeat' split) <;> simp
@[simp] theorem advanceLine_reported {key : ReportKey} {s : State} (h : Reported key s) :
    Reported key (advanceLine s) := by
  simp only [advanceLine]; (repeat' split) <;> simp +contextual (maxDischargeDepth := 40) [h]
@[simp] theorem flow_keeps (s : State) :
    (flow s).pending = s.pending ∧ (flow s).freeCount = s.freeCount ∧ (flow s).pins = s.pins ∧
    (flow s).params = s.params ∧ (flow s).eu = s.eu ∧ (flow s).beu = s.beu ∧ (flow s).sc = s.sc ∧ (flow s).rt = s.rt ∧
    (flow s).lsc = s.lsc ∧ (flow s).rs = s.rs ∧ (flow s).cal = s.cal ∧ (flow s).ml.strap = s.ml.strap ∧
    (flow s).ml.fifo = s.ml.fifo ∧ (flow s).ml.rdy = s.ml.rdy ∧ (flow s).ml.assembler = s.ml.assembler ∧
    (flow s).ml.gap = s.ml.gap ∧ (flow s).ml.replies = s.ml.replies ∧ (flow s).ml.tx = s.ml.tx ∧
    (flow s).ml.noticeCrc = s.ml.noticeCrc ∧ (flow s).ml.noticeTimeout = s.ml.noticeTimeout ∧
    (flow s).ml.noticeOverrun = s.ml.noticeOverrun ∧ (flow s).ml.restartPending = s.ml.restartPending := by
  simp only [flow]; (repeat' split) <;> simp
@[simp] theorem flow_reported {key : ReportKey} {s : State} (h : Reported key s) :
    Reported key (flow s) := by
  simp only [flow]; (repeat' split) <;> simp +contextual (maxDischargeDepth := 40) [h]
@[simp] theorem settle_keeps (s : State) :
    (settle s).pending = s.pending ∧ (settle s).freeCount = s.freeCount ∧ (settle s).pins = s.pins ∧
    (settle s).params = s.params ∧ (settle s).eu = s.eu ∧ (settle s).beu = s.beu ∧ (settle s).sc = s.sc ∧
    (settle s).rt = s.rt ∧ (settle s).cal = s.cal ∧ (settle s).ml.strap = s.ml.strap ∧
    (settle s).ml.fifo = s.ml.fifo ∧ (settle s).ml.rdy = s.ml.rdy ∧ (settle s).ml.assembler = s.ml.assembler ∧
    (settle s).ml.gap = s.ml.gap ∧ (settle s).ml.replies = s.ml.replies ∧ (settle s).ml.tx = s.ml.tx ∧
    (settle s).ml.noticeCrc = s.ml.noticeCrc ∧ (settle s).ml.noticeTimeout = s.ml.noticeTimeout ∧
    (settle s).ml.noticeOverrun = s.ml.noticeOverrun ∧ (settle s).ml.restartPending = s.ml.restartPending := by
  simp only [settle]; (repeat' split) <;> simp
@[simp] theorem settle_reported {key : ReportKey} {s : State} (h : Reported key s) :
    Reported key (settle s) := by
  simp only [settle]; (repeat' split) <;> simp +contextual (maxDischargeDepth := 40) [h]
@[simp] theorem linkNotice_keeps (n : Notice) (s : State) :
    (linkNotice n s).pending = s.pending ∧ (linkNotice n s).freeCount = s.freeCount ∧ (linkNotice n s).pins = s.pins ∧
    (linkNotice n s).params = s.params ∧ (linkNotice n s).tt = s.tt ∧ (linkNotice n s).eu = s.eu ∧
    (linkNotice n s).beu = s.beu ∧ (linkNotice n s).sc = s.sc ∧ (linkNotice n s).rt = s.rt ∧
    (linkNotice n s).lic = s.lic ∧ (linkNotice n s).mbc = s.mbc ∧ (linkNotice n s).tsc = s.tsc ∧
    (linkNotice n s).cc = s.cc ∧ (linkNotice n s).ama = s.ama ∧ (linkNotice n s).lsc = s.lsc ∧
    (linkNotice n s).dou = s.dou ∧ (linkNotice n s).ft = s.ft ∧ (linkNotice n s).tu = s.tu ∧
    (linkNotice n s).rs = s.rs ∧ (linkNotice n s).cal = s.cal := by
  simp only [linkNotice]; (repeat' split) <;> simp
@[simp] theorem receiveByte_keeps (b : Byte) (s : State) :
    (receiveByte b s).pending = s.pending ∧ (receiveByte b s).freeCount = s.freeCount ∧
    (receiveByte b s).pins = s.pins ∧ (receiveByte b s).params = s.params ∧ (receiveByte b s).tt = s.tt ∧
    (receiveByte b s).eu = s.eu ∧ (receiveByte b s).beu = s.beu ∧ (receiveByte b s).sc = s.sc ∧
    (receiveByte b s).rt = s.rt ∧ (receiveByte b s).lic = s.lic ∧ (receiveByte b s).mbc = s.mbc ∧
    (receiveByte b s).tsc = s.tsc ∧ (receiveByte b s).cc = s.cc ∧ (receiveByte b s).ama = s.ama ∧
    (receiveByte b s).lsc = s.lsc ∧ (receiveByte b s).dou = s.dou ∧ (receiveByte b s).ft = s.ft ∧
    (receiveByte b s).tu = s.tu ∧ (receiveByte b s).rs = s.rs ∧ (receiveByte b s).cal = s.cal := by
  simp only [receiveByte]; (repeat' split) <;> simp
@[simp] theorem assemble_keeps (b : Byte) (s : State) :
    (assemble b s).pending = s.pending ∧ (assemble b s).freeCount = s.freeCount ∧ (assemble b s).pins = s.pins ∧
    (assemble b s).params = s.params ∧ (assemble b s).tt = s.tt ∧ (assemble b s).eu = s.eu ∧
    (assemble b s).beu = s.beu ∧ (assemble b s).sc = s.sc ∧ (assemble b s).rt = s.rt ∧ (assemble b s).lic = s.lic ∧
    (assemble b s).mbc = s.mbc ∧ (assemble b s).tsc = s.tsc ∧ (assemble b s).cc = s.cc ∧ (assemble b s).ama = s.ama ∧
    (assemble b s).lsc = s.lsc ∧ (assemble b s).dou = s.dou ∧ (assemble b s).ft = s.ft ∧ (assemble b s).tu = s.tu ∧
    (assemble b s).rs = s.rs ∧ (assemble b s).cal = s.cal := by
  simp only [assemble]; (repeat' split) <;> simp
@[simp] theorem takeByte_keeps (s : State) :
    (takeByte s).pending = s.pending ∧ (takeByte s).freeCount = s.freeCount ∧ (takeByte s).pins = s.pins ∧
    (takeByte s).params = s.params ∧ (takeByte s).tt = s.tt ∧ (takeByte s).eu = s.eu ∧ (takeByte s).beu = s.beu ∧
    (takeByte s).sc = s.sc ∧ (takeByte s).rt = s.rt ∧ (takeByte s).lic = s.lic ∧ (takeByte s).mbc = s.mbc ∧
    (takeByte s).tsc = s.tsc ∧ (takeByte s).cc = s.cc ∧ (takeByte s).ama = s.ama ∧ (takeByte s).lsc = s.lsc ∧
    (takeByte s).dou = s.dou ∧ (takeByte s).ft = s.ft ∧ (takeByte s).tu = s.tu ∧ (takeByte s).rs = s.rs ∧
    (takeByte s).cal = s.cal := by
  simp only [takeByte]; (repeat' split) <;> simp
@[simp] theorem startFrame_keeps (s : State) :
    (startFrame s).pending = s.pending ∧ (startFrame s).freeCount = s.freeCount ∧ (startFrame s).pins = s.pins ∧
    (startFrame s).params = s.params ∧ (startFrame s).tt = s.tt ∧ (startFrame s).eu = s.eu ∧
    (startFrame s).beu = s.beu ∧ (startFrame s).sc = s.sc ∧ (startFrame s).rt = s.rt ∧ (startFrame s).lic = s.lic ∧
    (startFrame s).mbc = s.mbc ∧ (startFrame s).tsc = s.tsc ∧ (startFrame s).cc = s.cc ∧ (startFrame s).ama = s.ama ∧
    (startFrame s).lsc = s.lsc ∧ (startFrame s).dou = s.dou ∧ (startFrame s).ft = s.ft ∧ (startFrame s).tu = s.tu ∧
    (startFrame s).rs = s.rs ∧ (startFrame s).cal = s.cal := by
  simp only [startFrame]; (repeat' split) <;> simp
@[simp] theorem queueReply_keeps (type : Byte) (tok : Byte) (a : Answer) (s : State) :
    (queueReply type tok a s).pending = s.pending ∧ (queueReply type tok a s).freeCount = s.freeCount ∧
    (queueReply type tok a s).pins = s.pins ∧ (queueReply type tok a s).params = s.params ∧
    (queueReply type tok a s).tt = s.tt ∧ (queueReply type tok a s).eu = s.eu ∧
    (queueReply type tok a s).beu = s.beu ∧ (queueReply type tok a s).sc = s.sc ∧
    (queueReply type tok a s).rt = s.rt ∧ (queueReply type tok a s).lic = s.lic ∧
    (queueReply type tok a s).mbc = s.mbc ∧ (queueReply type tok a s).tsc = s.tsc ∧
    (queueReply type tok a s).cc = s.cc ∧ (queueReply type tok a s).ama = s.ama ∧
    (queueReply type tok a s).lsc = s.lsc ∧ (queueReply type tok a s).dou = s.dou ∧
    (queueReply type tok a s).ft = s.ft ∧ (queueReply type tok a s).tu = s.tu ∧ (queueReply type tok a s).rs = s.rs ∧
    (queueReply type tok a s).cal = s.cal := by
  simp only [queueReply]; (repeat' split) <;> simp
@[simp] theorem paramActs_keeps (id : Nat) (index : Nat) (v : Nat) (s : State) :
    (paramActs id index v s).pending = s.pending ∧ (paramActs id index v s).freeCount = s.freeCount ∧
    (paramActs id index v s).pins = s.pins ∧ (paramActs id index v s).tt = s.tt ∧ (paramActs id index v s).eu = s.eu ∧
    (paramActs id index v s).sc = s.sc ∧ (paramActs id index v s).rt = s.rt ∧ (paramActs id index v s).lsc = s.lsc ∧
    (paramActs id index v s).rs = s.rs ∧ (paramActs id index v s).cal = s.cal := by
  simp only [paramActs]; (repeat' split) <;> simp
@[simp] theorem paramActs_reported (id : Nat) (index : Nat) (v : Nat) {key : ReportKey} {s : State} (h : Reported key s) :
    Reported key (paramActs id index v s) := by
  simp only [paramActs]; (repeat' split) <;> simp +contextual (maxDischargeDepth := 40) [h]
@[simp] theorem setRecipe_keeps (slot : Nat) (r : Recipe) (s : State) :
    (setRecipe slot r s).pending = s.pending ∧ (setRecipe slot r s).freeCount = s.freeCount ∧
    (setRecipe slot r s).pins = s.pins ∧ (setRecipe slot r s).params = s.params ∧ (setRecipe slot r s).tt = s.tt ∧
    (setRecipe slot r s).eu = s.eu ∧ (setRecipe slot r s).beu = s.beu ∧ (setRecipe slot r s).sc = s.sc ∧
    (setRecipe slot r s).lic = s.lic ∧ (setRecipe slot r s).mbc = s.mbc ∧ (setRecipe slot r s).tsc = s.tsc ∧
    (setRecipe slot r s).cc = s.cc ∧ (setRecipe slot r s).ama = s.ama ∧ (setRecipe slot r s).lsc = s.lsc ∧
    (setRecipe slot r s).dou = s.dou ∧ (setRecipe slot r s).ft = s.ft ∧ (setRecipe slot r s).tu = s.tu ∧
    (setRecipe slot r s).rs = s.rs ∧ (setRecipe slot r s).cal = s.cal ∧ (setRecipe slot r s).ml = s.ml := by
  simp only [setRecipe]; (repeat' split) <;> simp
@[simp] theorem setRecipe_reported (slot : Nat) (r : Recipe) {key : ReportKey} {s : State} (h : Reported key s) :
    Reported key (setRecipe slot r s) := by
  simp only [setRecipe]; (repeat' split) <;> simp +contextual (maxDischargeDepth := 40) [h]
@[simp] theorem bagsLoaded_keeps (s : State) :
    (bagsLoaded s).pending = s.pending ∧ (bagsLoaded s).freeCount = s.freeCount ∧ (bagsLoaded s).pins = s.pins ∧
    (bagsLoaded s).params = s.params ∧ (bagsLoaded s).tt = s.tt ∧ (bagsLoaded s).eu = s.eu ∧
    (bagsLoaded s).beu = s.beu ∧ (bagsLoaded s).sc = s.sc ∧ (bagsLoaded s).rt = s.rt ∧ (bagsLoaded s).lsc = s.lsc ∧
    (bagsLoaded s).rs = s.rs ∧ (bagsLoaded s).cal = s.cal := by
  simp only [bagsLoaded]; (repeat' split) <;> simp
@[simp] theorem bagsLoaded_reported {key : ReportKey} {s : State} (h : Reported key s) :
    Reported key (bagsLoaded s) := by
  simp only [bagsLoaded]; (repeat' split) <;> simp +contextual (maxDischargeDepth := 40) [h]
@[simp] theorem clipsLoaded_keeps (s : State) :
    (clipsLoaded s).pending = s.pending ∧ (clipsLoaded s).freeCount = s.freeCount ∧ (clipsLoaded s).pins = s.pins ∧
    (clipsLoaded s).params = s.params ∧ (clipsLoaded s).tt = s.tt ∧ (clipsLoaded s).eu = s.eu ∧
    (clipsLoaded s).beu = s.beu ∧ (clipsLoaded s).sc = s.sc ∧ (clipsLoaded s).rt = s.rt ∧
    (clipsLoaded s).mbc = s.mbc ∧ (clipsLoaded s).cc = s.cc ∧ (clipsLoaded s).ama = s.ama ∧
    (clipsLoaded s).lsc = s.lsc ∧ (clipsLoaded s).rs = s.rs ∧ (clipsLoaded s).cal = s.cal := by
  simp only [clipsLoaded]; (repeat' split) <;> simp
@[simp] theorem clipsLoaded_reported {key : ReportKey} {s : State} (h : Reported key s) :
    Reported key (clipsLoaded s) := by
  simp only [clipsLoaded]; (repeat' split) <;> simp +contextual (maxDischargeDepth := 40) [h]
@[simp] theorem retie_keeps (s : State) :
    (retie s).pending = s.pending ∧ (retie s).freeCount = s.freeCount ∧ (retie s).pins = s.pins ∧
    (retie s).params = s.params ∧ (retie s).eu = s.eu ∧ (retie s).beu = s.beu ∧ (retie s).sc = s.sc ∧
    (retie s).rt = s.rt ∧ (retie s).mbc = s.mbc ∧ (retie s).cc = s.cc ∧ (retie s).ama = s.ama ∧
    (retie s).lsc = s.lsc ∧ (retie s).rs = s.rs ∧ (retie s).cal = s.cal := by
  simp only [retie]; (repeat' split) <;> simp
@[simp] theorem retie_reported {key : ReportKey} {s : State} (h : Reported key s) :
    Reported key (retie s) := by
  simp only [retie]; (repeat' split) <;> simp +contextual (maxDischargeDepth := 40) [h]
@[simp] theorem discardJammed_keeps (r : LoafRecord) (s : State) :
    (discardJammed r s).pending = s.pending ∧ (discardJammed r s).freeCount = s.freeCount ∧
    (discardJammed r s).pins = s.pins ∧ (discardJammed r s).params = s.params ∧ (discardJammed r s).eu = s.eu ∧
    (discardJammed r s).beu = s.beu ∧ (discardJammed r s).sc = s.sc ∧ (discardJammed r s).rt = s.rt ∧
    (discardJammed r s).mbc = s.mbc ∧ (discardJammed r s).tsc = s.tsc ∧ (discardJammed r s).cc = s.cc ∧
    (discardJammed r s).ama = s.ama ∧ (discardJammed r s).lsc = s.lsc ∧ (discardJammed r s).dou = s.dou ∧
    (discardJammed r s).rs = s.rs ∧ (discardJammed r s).cal = s.cal := by
  simp only [discardJammed]; (repeat' split) <;> simp
@[simp] theorem discardJammed_reported (r : LoafRecord) {key : ReportKey} {s : State} (h : Reported key s) :
    Reported key (discardJammed r s) := by
  simp only [discardJammed]; (repeat' split) <;> simp +contextual (maxDischargeDepth := 40) [h]
@[simp] theorem closeShift_keeps (s : State) :
    (closeShift s).pending = s.pending ∧ (closeShift s).freeCount = s.freeCount ∧ (closeShift s).pins = s.pins ∧
    (closeShift s).params = s.params ∧ (closeShift s).tt = s.tt ∧ (closeShift s).eu = s.eu ∧
    (closeShift s).beu = s.beu ∧ (closeShift s).sc = s.sc ∧ (closeShift s).rt = s.rt ∧ (closeShift s).lic = s.lic ∧
    (closeShift s).mbc = s.mbc ∧ (closeShift s).tsc = s.tsc ∧ (closeShift s).cc = s.cc ∧ (closeShift s).ama = s.ama ∧
    (closeShift s).lsc = s.lsc ∧ (closeShift s).dou = s.dou ∧ (closeShift s).ft = s.ft ∧ (closeShift s).cal = s.cal ∧
    (closeShift s).ml = s.ml := by
  simp only [closeShift]; (repeat' split) <;> simp
@[simp] theorem closeShift_reported {key : ReportKey} {s : State} (h : Reported key s) :
    Reported key (closeShift s) := by
  simp only [closeShift]; (repeat' split) <;> simp +contextual (maxDischargeDepth := 40) [h]
@[simp] theorem endOfInitCheck_keeps (l : Lane) (s : State) :
    (endOfInitCheck l s).pending = s.pending ∧ (endOfInitCheck l s).freeCount = s.freeCount ∧
    (endOfInitCheck l s).pins = s.pins ∧ (endOfInitCheck l s).params = s.params ∧ (endOfInitCheck l s).tt = s.tt ∧
    (endOfInitCheck l s).eu = s.eu ∧ (endOfInitCheck l s).beu = s.beu ∧ (endOfInitCheck l s).sc = s.sc ∧
    (endOfInitCheck l s).rt = s.rt ∧ (endOfInitCheck l s).mbc = s.mbc ∧ (endOfInitCheck l s).tsc = s.tsc ∧
    (endOfInitCheck l s).cc = s.cc ∧ (endOfInitCheck l s).ama = s.ama ∧ (endOfInitCheck l s).lsc = s.lsc ∧
    (endOfInitCheck l s).dou = s.dou ∧ (endOfInitCheck l s).rs = s.rs ∧ (endOfInitCheck l s).cal = s.cal ∧
    (endOfInitCheck l s).ml.strap = s.ml.strap ∧ (endOfInitCheck l s).ml.fifo = s.ml.fifo ∧
    (endOfInitCheck l s).ml.rdy = s.ml.rdy ∧ (endOfInitCheck l s).ml.assembler = s.ml.assembler ∧
    (endOfInitCheck l s).ml.gap = s.ml.gap ∧ (endOfInitCheck l s).ml.replies = s.ml.replies ∧
    (endOfInitCheck l s).ml.tx = s.ml.tx ∧ (endOfInitCheck l s).ml.noticeCrc = s.ml.noticeCrc ∧
    (endOfInitCheck l s).ml.noticeTimeout = s.ml.noticeTimeout ∧
    (endOfInitCheck l s).ml.noticeOverrun = s.ml.noticeOverrun ∧
    (endOfInitCheck l s).ml.restartPending = s.ml.restartPending := by
  simp only [endOfInitCheck]; (repeat' split) <;> simp
@[simp] theorem endOfInitCheck_reported (l : Lane) {key : ReportKey} {s : State} (h : Reported key s) :
    Reported key (endOfInitCheck l s) := by
  simp only [endOfInitCheck]; (repeat' split) <;> simp +contextual (maxDischargeDepth := 40) [h]
@[simp] theorem completeScan_keeps (s : State) :
    (completeScan s).pending = s.pending ∧ (completeScan s).freeCount = s.freeCount ∧ (completeScan s).pins = s.pins ∧
    (completeScan s).params = s.params ∧ (completeScan s).eu = s.eu ∧ (completeScan s).beu = s.beu ∧
    (completeScan s).sc = s.sc ∧ (completeScan s).cal = s.cal := by
  simp only [completeScan]; (repeat' split) <;> simp
@[simp] theorem dropFrame_keeps (s : State) :
    (dropFrame s).pending = s.pending ∧ (dropFrame s).freeCount = s.freeCount ∧ (dropFrame s).pins = s.pins ∧
    (dropFrame s).params = s.params ∧ (dropFrame s).tt = s.tt ∧ (dropFrame s).eu = s.eu ∧ (dropFrame s).beu = s.beu ∧
    (dropFrame s).sc = s.sc ∧ (dropFrame s).rt = s.rt ∧ (dropFrame s).lic = s.lic ∧ (dropFrame s).mbc = s.mbc ∧
    (dropFrame s).tsc = s.tsc ∧ (dropFrame s).cc = s.cc ∧ (dropFrame s).ama = s.ama ∧ (dropFrame s).lsc = s.lsc ∧
    (dropFrame s).dou = s.dou ∧ (dropFrame s).ft = s.ft ∧ (dropFrame s).tu = s.tu ∧ (dropFrame s).rs = s.rs ∧
    (dropFrame s).cal = s.cal := by
  simp only [dropFrame]; (repeat' split) <;> simp
@[simp] theorem frameOut_keeps (f : TxFrame) (s : State) :
    (frameOut f s).pending = s.pending ∧ (frameOut f s).freeCount = s.freeCount ∧ (frameOut f s).pins = s.pins ∧
    (frameOut f s).params = s.params ∧ (frameOut f s).tt = s.tt ∧ (frameOut f s).eu = s.eu ∧
    (frameOut f s).beu = s.beu ∧ (frameOut f s).sc = s.sc ∧ (frameOut f s).rt = s.rt ∧ (frameOut f s).lic = s.lic ∧
    (frameOut f s).mbc = s.mbc ∧ (frameOut f s).tsc = s.tsc ∧ (frameOut f s).cc = s.cc ∧ (frameOut f s).ama = s.ama ∧
    (frameOut f s).lsc = s.lsc ∧ (frameOut f s).dou = s.dou ∧ (frameOut f s).ft = s.ft ∧ (frameOut f s).tu = s.tu ∧
    (frameOut f s).rs = s.rs ∧ (frameOut f s).cal = s.cal := by
  simp only [frameOut]; (repeat' split) <;> simp
@[simp] theorem handResult_keeps (c : Channel) (result : Nat) (s : State) :
    (handResult c result s).pending = s.pending ∧ (handResult c result s).freeCount = s.freeCount ∧
    (handResult c result s).pins = s.pins ∧ (handResult c result s).params = s.params ∧
    (handResult c result s).tt = s.tt ∧ (handResult c result s).eu = s.eu ∧ (handResult c result s).beu = s.beu ∧
    (handResult c result s).sc = s.sc ∧ (handResult c result s).rt = s.rt ∧ (handResult c result s).lsc = s.lsc ∧
    (handResult c result s).rs = s.rs ∧ (handResult c result s).cal = s.cal ∧
    (handResult c result s).ml.strap = s.ml.strap ∧ (handResult c result s).ml.fifo = s.ml.fifo ∧
    (handResult c result s).ml.rdy = s.ml.rdy ∧ (handResult c result s).ml.assembler = s.ml.assembler ∧
    (handResult c result s).ml.gap = s.ml.gap ∧ (handResult c result s).ml.replies = s.ml.replies ∧
    (handResult c result s).ml.tx = s.ml.tx ∧ (handResult c result s).ml.noticeCrc = s.ml.noticeCrc ∧
    (handResult c result s).ml.noticeTimeout = s.ml.noticeTimeout ∧
    (handResult c result s).ml.noticeOverrun = s.ml.noticeOverrun ∧
    (handResult c result s).ml.restartPending = s.ml.restartPending := by
  simp only [handResult]; (repeat' split) <;> simp
@[simp] theorem handResult_reported (c : Channel) (result : Nat) {key : ReportKey} {s : State} (h : Reported key s) :
    Reported key (handResult c result s) := by
  simp only [handResult]; (repeat' split) <;> simp +contextual (maxDischargeDepth := 40) [h]
@[simp] theorem completeConversion_keeps (c : Channel) (result : Nat) (s : State) :
    (completeConversion c result s).pending = s.pending ∧ (completeConversion c result s).freeCount = s.freeCount ∧
    (completeConversion c result s).pins = s.pins ∧ (completeConversion c result s).params = s.params ∧
    (completeConversion c result s).tt = s.tt ∧ (completeConversion c result s).eu = s.eu ∧
    (completeConversion c result s).beu = s.beu ∧ (completeConversion c result s).rt = s.rt ∧
    (completeConversion c result s).lsc = s.lsc ∧ (completeConversion c result s).rs = s.rs ∧
    (completeConversion c result s).cal = s.cal ∧ (completeConversion c result s).ml.strap = s.ml.strap ∧
    (completeConversion c result s).ml.fifo = s.ml.fifo ∧ (completeConversion c result s).ml.rdy = s.ml.rdy ∧
    (completeConversion c result s).ml.assembler = s.ml.assembler ∧
    (completeConversion c result s).ml.gap = s.ml.gap ∧ (completeConversion c result s).ml.replies = s.ml.replies ∧
    (completeConversion c result s).ml.tx = s.ml.tx ∧ (completeConversion c result s).ml.noticeCrc = s.ml.noticeCrc ∧
    (completeConversion c result s).ml.noticeTimeout = s.ml.noticeTimeout ∧
    (completeConversion c result s).ml.noticeOverrun = s.ml.noticeOverrun ∧
    (completeConversion c result s).ml.restartPending = s.ml.restartPending := by
  simp only [completeConversion]; (repeat' split) <;> simp
@[simp] theorem completeConversion_reported (c : Channel) (result : Nat) {key : ReportKey} {s : State} (h : Reported key s) :
    Reported key (completeConversion c result s) := by
  simp only [completeConversion]; (repeat' split) <;> simp +contextual (maxDischargeDepth := 40) [h]
@[simp] theorem strokeRunOut_keeps (s : State) :
    (strokeRunOut s).pending = s.pending ∧ (strokeRunOut s).freeCount = s.freeCount ∧ (strokeRunOut s).pins = s.pins ∧
    (strokeRunOut s).params = s.params ∧ (strokeRunOut s).tt = s.tt ∧ (strokeRunOut s).eu = s.eu ∧
    (strokeRunOut s).beu = s.beu ∧ (strokeRunOut s).sc = s.sc ∧ (strokeRunOut s).rt = s.rt ∧
    (strokeRunOut s).tsc = s.tsc ∧ (strokeRunOut s).cc = s.cc ∧ (strokeRunOut s).ama = s.ama ∧
    (strokeRunOut s).lsc = s.lsc ∧ (strokeRunOut s).rs = s.rs ∧ (strokeRunOut s).cal = s.cal ∧
    (strokeRunOut s).ml.strap = s.ml.strap ∧ (strokeRunOut s).ml.fifo = s.ml.fifo ∧
    (strokeRunOut s).ml.rdy = s.ml.rdy ∧ (strokeRunOut s).ml.assembler = s.ml.assembler ∧
    (strokeRunOut s).ml.gap = s.ml.gap ∧ (strokeRunOut s).ml.replies = s.ml.replies ∧
    (strokeRunOut s).ml.tx = s.ml.tx ∧ (strokeRunOut s).ml.noticeCrc = s.ml.noticeCrc ∧
    (strokeRunOut s).ml.noticeTimeout = s.ml.noticeTimeout ∧ (strokeRunOut s).ml.noticeOverrun = s.ml.noticeOverrun ∧
    (strokeRunOut s).ml.restartPending = s.ml.restartPending := by
  simp only [strokeRunOut]; (repeat' split) <;> simp
@[simp] theorem strokeRunOut_reported {key : ReportKey} {s : State} (h : Reported key s) :
    Reported key (strokeRunOut s) := by
  simp only [strokeRunOut]; (repeat' split) <;> simp +contextual (maxDischargeDepth := 40) [h]
@[simp] theorem deadTimeOver_keeps (l : Lane) (s : State) :
    (deadTimeOver l s).pending = s.pending ∧ (deadTimeOver l s).freeCount = s.freeCount ∧
    (deadTimeOver l s).pins = s.pins ∧ (deadTimeOver l s).params = s.params ∧ (deadTimeOver l s).tt = s.tt ∧
    (deadTimeOver l s).eu = s.eu ∧ (deadTimeOver l s).beu = s.beu ∧ (deadTimeOver l s).sc = s.sc ∧
    (deadTimeOver l s).rt = s.rt ∧ (deadTimeOver l s).lic = s.lic ∧ (deadTimeOver l s).tsc = s.tsc ∧
    (deadTimeOver l s).cc = s.cc ∧ (deadTimeOver l s).ama = s.ama ∧ (deadTimeOver l s).lsc = s.lsc ∧
    (deadTimeOver l s).ft = s.ft ∧ (deadTimeOver l s).tu = s.tu ∧ (deadTimeOver l s).rs = s.rs ∧
    (deadTimeOver l s).cal = s.cal ∧ (deadTimeOver l s).ml = s.ml := by
  simp only [deadTimeOver]; (repeat' split) <;> simp
@[simp] theorem deadTimeOver_reported (l : Lane) {key : ReportKey} {s : State} (h : Reported key s) :
    Reported key (deadTimeOver l s) := by
  simp only [deadTimeOver]; (repeat' split) <;> simp +contextual (maxDischargeDepth := 40) [h]
@[simp] theorem takeSafety_keeps (estopOpen : Bool) (guardOpen : Bool) (s : State) :
    (takeSafety estopOpen guardOpen s).pending = s.pending ∧
    (takeSafety estopOpen guardOpen s).freeCount = s.freeCount ∧ (takeSafety estopOpen guardOpen s).pins = s.pins ∧
    (takeSafety estopOpen guardOpen s).params = s.params ∧ (takeSafety estopOpen guardOpen s).tt = s.tt ∧
    (takeSafety estopOpen guardOpen s).eu = s.eu ∧ (takeSafety estopOpen guardOpen s).beu = s.beu ∧
    (takeSafety estopOpen guardOpen s).sc = s.sc ∧ (takeSafety estopOpen guardOpen s).rt = s.rt ∧
    (takeSafety estopOpen guardOpen s).lic = s.lic ∧ (takeSafety estopOpen guardOpen s).mbc = s.mbc ∧
    (takeSafety estopOpen guardOpen s).tsc = s.tsc ∧ (takeSafety estopOpen guardOpen s).cc = s.cc ∧
    (takeSafety estopOpen guardOpen s).ama = s.ama ∧ (takeSafety estopOpen guardOpen s).lsc = s.lsc ∧
    (takeSafety estopOpen guardOpen s).ft = s.ft ∧ (takeSafety estopOpen guardOpen s).tu = s.tu ∧
    (takeSafety estopOpen guardOpen s).rs = s.rs ∧ (takeSafety estopOpen guardOpen s).cal = s.cal ∧
    (takeSafety estopOpen guardOpen s).ml = s.ml := by
  have h : ∀ c (f : DriveUnit → DriveUnit) (t : State), when c (State.onDou f) t = t.onDou (if c then f else id) := by
    intro c f t; cases c <;> rfl
  simp [takeSafety, h]
@[simp] theorem takeSafety_reported (estopOpen : Bool) (guardOpen : Bool) {key : ReportKey} {s : State} (h : Reported key s) :
    Reported key (takeSafety estopOpen guardOpen s) := by
  have w : ∀ c (f : DriveUnit → DriveUnit) (t : State), when c (State.onDou f) t = t.onDou (if c then f else id) := by
    intro c f t; cases c <;> rfl
  simp [takeSafety, w, h]

end Sys2Proof.Machine
end

