-- ==== Sys2Proof/Laws/Parts.lean ====
section
/-! SUPPORT. The finer frames of the shared operations: of each block an operation works on, the parts it keeps. -/

namespace Sys2Proof.Machine

set_option Elab.async false
set_option linter.unusedTactic false
set_option linter.unnecessarySeqFocus false

@[simp] theorem when_dou_infeed {f : State → State} (h : ∀ s, (f s).dou.infeed = s.dou.infeed) (c : Bool) (s : State) :
    (when c f s).dou.infeed = s.dou.infeed := by cases c <;> simp [when, h]
theorem foldl_dou_infeed {α : Type} {f : State → α → State} (h : ∀ s x, (f s x).dou.infeed = s.dou.infeed) (l : List α)
    (s : State) : (l.foldl f s).dou.infeed = s.dou.infeed := by
  induction l generalizing s with
  | nil => rfl
  | cons x l ih => rw [List.foldl_cons, ih, h]
@[simp] theorem when_dou_accum {f : State → State} (h : ∀ s, (f s).dou.accum = s.dou.accum) (c : Bool) (s : State) :
    (when c f s).dou.accum = s.dou.accum := by cases c <;> simp [when, h]
theorem foldl_dou_accum {α : Type} {f : State → α → State} (h : ∀ s x, (f s x).dou.accum = s.dou.accum) (l : List α)
    (s : State) : (l.foldl f s).dou.accum = s.dou.accum := by
  induction l generalizing s with
  | nil => rfl
  | cons x l ih => rw [List.foldl_cons, ih, h]
@[simp] theorem when_dou_outfeed {f : State → State} (h : ∀ s, (f s).dou.outfeed = s.dou.outfeed) (c : Bool) (s : State) :
    (when c f s).dou.outfeed = s.dou.outfeed := by cases c <;> simp [when, h]
theorem foldl_dou_outfeed {α : Type} {f : State → α → State} (h : ∀ s x, (f s x).dou.outfeed = s.dou.outfeed) (l : List α)
    (s : State) : (l.foldl f s).dou.outfeed = s.dou.outfeed := by
  induction l generalizing s with
  | nil => rfl
  | cons x l ih => rw [List.foldl_cons, ih, h]
@[simp] theorem when_dou_blade {f : State → State} (h : ∀ s, (f s).dou.blade = s.dou.blade) (c : Bool) (s : State) :
    (when c f s).dou.blade = s.dou.blade := by cases c <;> simp [when, h]
theorem foldl_dou_blade {α : Type} {f : State → α → State} (h : ∀ s x, (f s x).dou.blade = s.dou.blade) (l : List α)
    (s : State) : (l.foldl f s).dou.blade = s.dou.blade := by
  induction l generalizing s with
  | nil => rfl
  | cons x l ih => rw [List.foldl_cons, ih, h]
@[simp] theorem when_dou_gate {f : State → State} (h : ∀ s, (f s).dou.gate = s.dou.gate) (c : Bool) (s : State) :
    (when c f s).dou.gate = s.dou.gate := by cases c <;> simp [when, h]
theorem foldl_dou_gate {α : Type} {f : State → α → State} (h : ∀ s x, (f s x).dou.gate = s.dou.gate) (l : List α)
    (s : State) : (l.foldl f s).dou.gate = s.dou.gate := by
  induction l generalizing s with
  | nil => rfl
  | cons x l ih => rw [List.foldl_cons, ih, h]
@[simp] theorem when_dou_pusher {f : State → State} (h : ∀ s, (f s).dou.pusher = s.dou.pusher) (c : Bool) (s : State) :
    (when c f s).dou.pusher = s.dou.pusher := by cases c <;> simp [when, h]
theorem foldl_dou_pusher {α : Type} {f : State → α → State} (h : ∀ s x, (f s x).dou.pusher = s.dou.pusher) (l : List α)
    (s : State) : (l.foldl f s).dou.pusher = s.dou.pusher := by
  induction l generalizing s with
  | nil => rfl
  | cons x l ih => rw [List.foldl_cons, ih, h]
@[simp] theorem when_dou_flap {f : State → State} (h : ∀ s, (f s).dou.flap = s.dou.flap) (c : Bool) (s : State) :
    (when c f s).dou.flap = s.dou.flap := by cases c <;> simp [when, h]
theorem foldl_dou_flap {α : Type} {f : State → α → State} (h : ∀ s x, (f s x).dou.flap = s.dou.flap) (l : List α)
    (s : State) : (l.foldl f s).dou.flap = s.dou.flap := by
  induction l generalizing s with
  | nil => rfl
  | cons x l ih => rw [List.foldl_cons, ih, h]
@[simp] theorem when_dou_tyer {f : State → State} (h : ∀ s, (f s).dou.tyer = s.dou.tyer) (c : Bool) (s : State) :
    (when c f s).dou.tyer = s.dou.tyer := by cases c <;> simp [when, h]
theorem foldl_dou_tyer {α : Type} {f : State → α → State} (h : ∀ s x, (f s x).dou.tyer = s.dou.tyer) (l : List α)
    (s : State) : (l.foldl f s).dou.tyer = s.dou.tyer := by
  induction l generalizing s with
  | nil => rfl
  | cons x l ih => rw [List.foldl_cons, ih, h]
@[simp] theorem when_dou_printer {f : State → State} (h : ∀ s, (f s).dou.printer = s.dou.printer) (c : Bool) (s : State) :
    (when c f s).dou.printer = s.dou.printer := by cases c <;> simp [when, h]
theorem foldl_dou_printer {α : Type} {f : State → α → State} (h : ∀ s x, (f s x).dou.printer = s.dou.printer) (l : List α)
    (s : State) : (l.foldl f s).dou.printer = s.dou.printer := by
  induction l generalizing s with
  | nil => rfl
  | cons x l ih => rw [List.foldl_cons, ih, h]
@[simp] theorem when_dou_bagBlast {f : State → State} (h : ∀ s, (f s).dou.bagBlast = s.dou.bagBlast) (c : Bool) (s : State) :
    (when c f s).dou.bagBlast = s.dou.bagBlast := by cases c <;> simp [when, h]
theorem foldl_dou_bagBlast {α : Type} {f : State → α → State} (h : ∀ s x, (f s x).dou.bagBlast = s.dou.bagBlast) (l : List α)
    (s : State) : (l.foldl f s).dou.bagBlast = s.dou.bagBlast := by
  induction l generalizing s with
  | nil => rfl
  | cons x l ih => rw [List.foldl_cons, ih, h]
@[simp] theorem when_dou_purge {f : State → State} (h : ∀ s, (f s).dou.purge = s.dou.purge) (c : Bool) (s : State) :
    (when c f s).dou.purge = s.dou.purge := by cases c <;> simp [when, h]
theorem foldl_dou_purge {α : Type} {f : State → α → State} (h : ∀ s x, (f s x).dou.purge = s.dou.purge) (l : List α)
    (s : State) : (l.foldl f s).dou.purge = s.dou.purge := by
  induction l generalizing s with
  | nil => rfl
  | cons x l ih => rw [List.foldl_cons, ih, h]
@[simp] theorem when_dou_knife {f : State → State} (h : ∀ s, (f s).dou.knife = s.dou.knife) (c : Bool) (s : State) :
    (when c f s).dou.knife = s.dou.knife := by cases c <;> simp [when, h]
theorem foldl_dou_knife {α : Type} {f : State → α → State} (h : ∀ s x, (f s x).dou.knife = s.dou.knife) (l : List α)
    (s : State) : (l.foldl f s).dou.knife = s.dou.knife := by
  induction l generalizing s with
  | nil => rfl
  | cons x l ih => rw [List.foldl_cons, ih, h]
@[simp] theorem when_dou_shaker {f : State → State} (h : ∀ s, (f s).dou.shaker = s.dou.shaker) (c : Bool) (s : State) :
    (when c f s).dou.shaker = s.dou.shaker := by cases c <;> simp [when, h]
theorem foldl_dou_shaker {α : Type} {f : State → α → State} (h : ∀ s x, (f s x).dou.shaker = s.dou.shaker) (l : List α)
    (s : State) : (l.foldl f s).dou.shaker = s.dou.shaker := by
  induction l generalizing s with
  | nil => rfl
  | cons x l ih => rw [List.foldl_cons, ih, h]
@[simp] theorem when_dou_armed {f : State → State} (h : ∀ s, (f s).dou.armed = s.dou.armed) (c : Bool) (s : State) :
    (when c f s).dou.armed = s.dou.armed := by cases c <;> simp [when, h]
theorem foldl_dou_armed {α : Type} {f : State → α → State} (h : ∀ s x, (f s x).dou.armed = s.dou.armed) (l : List α)
    (s : State) : (l.foldl f s).dou.armed = s.dou.armed := by
  induction l generalizing s with
  | nil => rfl
  | cons x l ih => rw [List.foldl_cons, ih, h]
@[simp] theorem when_dou_gateTimer {f : State → State} (h : ∀ s, (f s).dou.gateTimer = s.dou.gateTimer) (c : Bool) (s : State) :
    (when c f s).dou.gateTimer = s.dou.gateTimer := by cases c <;> simp [when, h]
theorem foldl_dou_gateTimer {α : Type} {f : State → α → State} (h : ∀ s x, (f s x).dou.gateTimer = s.dou.gateTimer) (l : List α)
    (s : State) : (l.foldl f s).dou.gateTimer = s.dou.gateTimer := by
  induction l generalizing s with
  | nil => rfl
  | cons x l ih => rw [List.foldl_cons, ih, h]
@[simp] theorem when_dou_estop {f : State → State} (h : ∀ s, (f s).dou.estop = s.dou.estop) (c : Bool) (s : State) :
    (when c f s).dou.estop = s.dou.estop := by cases c <;> simp [when, h]
theorem foldl_dou_estop {α : Type} {f : State → α → State} (h : ∀ s x, (f s x).dou.estop = s.dou.estop) (l : List α)
    (s : State) : (l.foldl f s).dou.estop = s.dou.estop := by
  induction l generalizing s with
  | nil => rfl
  | cons x l ih => rw [List.foldl_cons, ih, h]
@[simp] theorem when_dou_guardIn {f : State → State} (h : ∀ s, (f s).dou.guardIn = s.dou.guardIn) (c : Bool) (s : State) :
    (when c f s).dou.guardIn = s.dou.guardIn := by cases c <;> simp [when, h]
theorem foldl_dou_guardIn {α : Type} {f : State → α → State} (h : ∀ s x, (f s x).dou.guardIn = s.dou.guardIn) (l : List α)
    (s : State) : (l.foldl f s).dou.guardIn = s.dou.guardIn := by
  induction l generalizing s with
  | nil => rfl
  | cons x l ih => rw [List.foldl_cons, ih, h]
@[simp] theorem when_tt_approach {f : State → State} (h : ∀ s, (f s).tt.approach = s.tt.approach) (c : Bool) (s : State) :
    (when c f s).tt.approach = s.tt.approach := by cases c <;> simp [when, h]
theorem foldl_tt_approach {α : Type} {f : State → α → State} (h : ∀ s x, (f s x).tt.approach = s.tt.approach) (l : List α)
    (s : State) : (l.foldl f s).tt.approach = s.tt.approach := by
  induction l generalizing s with
  | nil => rfl
  | cons x l ih => rw [List.foldl_cons, ih, h]
@[simp] theorem when_tt_blade {f : State → State} (h : ∀ s, (f s).tt.blade = s.tt.blade) (c : Bool) (s : State) :
    (when c f s).tt.blade = s.tt.blade := by cases c <;> simp [when, h]
theorem foldl_tt_blade {α : Type} {f : State → α → State} (h : ∀ s x, (f s x).tt.blade = s.tt.blade) (l : List α)
    (s : State) : (l.foldl f s).tt.blade = s.tt.blade := by
  induction l generalizing s with
  | nil => rfl
  | cons x l ih => rw [List.foldl_cons, ih, h]
@[simp] theorem when_tt_accum {f : State → State} (h : ∀ s, (f s).tt.accum = s.tt.accum) (c : Bool) (s : State) :
    (when c f s).tt.accum = s.tt.accum := by cases c <;> simp [when, h]
theorem foldl_tt_accum {α : Type} {f : State → α → State} (h : ∀ s x, (f s x).tt.accum = s.tt.accum) (l : List α)
    (s : State) : (l.foldl f s).tt.accum = s.tt.accum := by
  induction l generalizing s with
  | nil => rfl
  | cons x l ih => rw [List.foldl_cons, ih, h]
@[simp] theorem when_tt_bagger {f : State → State} (h : ∀ s, (f s).tt.bagger = s.tt.bagger) (c : Bool) (s : State) :
    (when c f s).tt.bagger = s.tt.bagger := by cases c <;> simp [when, h]
theorem foldl_tt_bagger {α : Type} {f : State → α → State} (h : ∀ s x, (f s x).tt.bagger = s.tt.bagger) (l : List α)
    (s : State) : (l.foldl f s).tt.bagger = s.tt.bagger := by
  induction l generalizing s with
  | nil => rfl
  | cons x l ih => rw [List.foldl_cons, ih, h]
@[simp] theorem when_tt_tyer {f : State → State} (h : ∀ s, (f s).tt.tyer = s.tt.tyer) (c : Bool) (s : State) :
    (when c f s).tt.tyer = s.tt.tyer := by cases c <;> simp [when, h]
theorem foldl_tt_tyer {α : Type} {f : State → α → State} (h : ∀ s x, (f s x).tt.tyer = s.tt.tyer) (l : List α)
    (s : State) : (l.foldl f s).tt.tyer = s.tt.tyer := by
  induction l generalizing s with
  | nil => rfl
  | cons x l ih => rw [List.foldl_cons, ih, h]
@[simp] theorem when_tt_exit {f : State → State} (h : ∀ s, (f s).tt.exit = s.tt.exit) (c : Bool) (s : State) :
    (when c f s).tt.exit = s.tt.exit := by cases c <;> simp [when, h]
theorem foldl_tt_exit {α : Type} {f : State → α → State} (h : ∀ s x, (f s x).tt.exit = s.tt.exit) (l : List α)
    (s : State) : (l.foldl f s).tt.exit = s.tt.exit := by
  induction l generalizing s with
  | nil => rfl
  | cons x l ih => rw [List.foldl_cons, ih, h]
@[simp] theorem when_tt_nextTag {f : State → State} (h : ∀ s, (f s).tt.nextTag = s.tt.nextTag) (c : Bool) (s : State) :
    (when c f s).tt.nextTag = s.tt.nextTag := by cases c <;> simp [when, h]
theorem foldl_tt_nextTag {α : Type} {f : State → α → State} (h : ∀ s x, (f s x).tt.nextTag = s.tt.nextTag) (l : List α)
    (s : State) : (l.foldl f s).tt.nextTag = s.tt.nextTag := by
  induction l generalizing s with
  | nil => rfl
  | cons x l ih => rw [List.foldl_cons, ih, h]
@[simp] theorem when_tt_watch {f : State → State} (h : ∀ s, (f s).tt.watch = s.tt.watch) (c : Bool) (s : State) :
    (when c f s).tt.watch = s.tt.watch := by cases c <;> simp [when, h]
theorem foldl_tt_watch {α : Type} {f : State → α → State} (h : ∀ s x, (f s x).tt.watch = s.tt.watch) (l : List α)
    (s : State) : (l.foldl f s).tt.watch = s.tt.watch := by
  induction l generalizing s with
  | nil => rfl
  | cons x l ih => rw [List.foldl_cons, ih, h]
@[simp] theorem when_tt_stuck {f : State → State} (h : ∀ s, (f s).tt.stuck = s.tt.stuck) (c : Bool) (s : State) :
    (when c f s).tt.stuck = s.tt.stuck := by cases c <;> simp [when, h]
theorem foldl_tt_stuck {α : Type} {f : State → α → State} (h : ∀ s x, (f s x).tt.stuck = s.tt.stuck) (l : List α)
    (s : State) : (l.foldl f s).tt.stuck = s.tt.stuck := by
  induction l generalizing s with
  | nil => rfl
  | cons x l ih => rw [List.foldl_cons, ih, h]
@[simp] theorem when_mbc_bagger {f : State → State} (h : ∀ s, (f s).mbc.bagger = s.mbc.bagger) (c : Bool) (s : State) :
    (when c f s).mbc.bagger = s.mbc.bagger := by cases c <;> simp [when, h]
theorem foldl_mbc_bagger {α : Type} {f : State → α → State} (h : ∀ s x, (f s x).mbc.bagger = s.mbc.bagger) (l : List α)
    (s : State) : (l.foldl f s).mbc.bagger = s.mbc.bagger := by
  induction l generalizing s with
  | nil => rfl
  | cons x l ih => rw [List.foldl_cons, ih, h]
@[simp] theorem when_mbc_route {f : State → State} (h : ∀ s, (f s).mbc.route = s.mbc.route) (c : Bool) (s : State) :
    (when c f s).mbc.route = s.mbc.route := by cases c <;> simp [when, h]
theorem foldl_mbc_route {α : Type} {f : State → α → State} (h : ∀ s x, (f s x).mbc.route = s.mbc.route) (l : List α)
    (s : State) : (l.foldl f s).mbc.route = s.mbc.route := by
  induction l generalizing s with
  | nil => rfl
  | cons x l ih => rw [List.foldl_cons, ih, h]
@[simp] theorem when_mbc_selected {f : State → State} (h : ∀ s, (f s).mbc.selected = s.mbc.selected) (c : Bool) (s : State) :
    (when c f s).mbc.selected = s.mbc.selected := by cases c <;> simp [when, h]
theorem foldl_mbc_selected {α : Type} {f : State → α → State} (h : ∀ s x, (f s x).mbc.selected = s.mbc.selected) (l : List α)
    (s : State) : (l.foldl f s).mbc.selected = s.mbc.selected := by
  induction l generalizing s with
  | nil => rfl
  | cons x l ih => rw [List.foldl_cons, ih, h]
@[simp] theorem when_mbc_lastServed {f : State → State} (h : ∀ s, (f s).mbc.lastServed = s.mbc.lastServed) (c : Bool) (s : State) :
    (when c f s).mbc.lastServed = s.mbc.lastServed := by cases c <;> simp [when, h]
theorem foldl_mbc_lastServed {α : Type} {f : State → α → State} (h : ∀ s x, (f s x).mbc.lastServed = s.mbc.lastServed) (l : List α)
    (s : State) : (l.foldl f s).mbc.lastServed = s.mbc.lastServed := by
  induction l generalizing s with
  | nil => rfl
  | cons x l ih => rw [List.foldl_cons, ih, h]
@[simp] theorem when_mbc_phase {f : State → State} (h : ∀ s, (f s).mbc.phase = s.mbc.phase) (c : Bool) (s : State) :
    (when c f s).mbc.phase = s.mbc.phase := by cases c <;> simp [when, h]
theorem foldl_mbc_phase {α : Type} {f : State → α → State} (h : ∀ s x, (f s x).mbc.phase = s.mbc.phase) (l : List α)
    (s : State) : (l.foldl f s).mbc.phase = s.mbc.phase := by
  induction l generalizing s with
  | nil => rfl
  | cons x l ih => rw [List.foldl_cons, ih, h]
@[simp] theorem when_mbc_strokeTimer {f : State → State} (h : ∀ s, (f s).mbc.strokeTimer = s.mbc.strokeTimer) (c : Bool) (s : State) :
    (when c f s).mbc.strokeTimer = s.mbc.strokeTimer := by cases c <;> simp [when, h]
theorem foldl_mbc_strokeTimer {α : Type} {f : State → α → State} (h : ∀ s x, (f s x).mbc.strokeTimer = s.mbc.strokeTimer) (l : List α)
    (s : State) : (l.foldl f s).mbc.strokeTimer = s.mbc.strokeTimer := by
  induction l generalizing s with
  | nil => rfl
  | cons x l ih => rw [List.foldl_cons, ih, h]
@[simp] theorem when_mbc_flapTimer {f : State → State} (h : ∀ s, (f s).mbc.flapTimer = s.mbc.flapTimer) (c : Bool) (s : State) :
    (when c f s).mbc.flapTimer = s.mbc.flapTimer := by cases c <;> simp [when, h]
theorem foldl_mbc_flapTimer {α : Type} {f : State → α → State} (h : ∀ s x, (f s x).mbc.flapTimer = s.mbc.flapTimer) (l : List α)
    (s : State) : (l.foldl f s).mbc.flapTimer = s.mbc.flapTimer := by
  induction l generalizing s with
  | nil => rfl
  | cons x l ih => rw [List.foldl_cons, ih, h]
@[simp] theorem when_mbc_openTimer {f : State → State} (h : ∀ s, (f s).mbc.openTimer = s.mbc.openTimer) (c : Bool) (s : State) :
    (when c f s).mbc.openTimer = s.mbc.openTimer := by cases c <;> simp [when, h]
theorem foldl_mbc_openTimer {α : Type} {f : State → α → State} (h : ∀ s x, (f s x).mbc.openTimer = s.mbc.openTimer) (l : List α)
    (s : State) : (l.foldl f s).mbc.openTimer = s.mbc.openTimer := by
  induction l generalizing s with
  | nil => rfl
  | cons x l ih => rw [List.foldl_cons, ih, h]
@[simp] theorem when_mbc_confirmWatch {f : State → State} (h : ∀ s, (f s).mbc.confirmWatch = s.mbc.confirmWatch) (c : Bool) (s : State) :
    (when c f s).mbc.confirmWatch = s.mbc.confirmWatch := by cases c <;> simp [when, h]
theorem foldl_mbc_confirmWatch {α : Type} {f : State → α → State} (h : ∀ s x, (f s x).mbc.confirmWatch = s.mbc.confirmWatch) (l : List α)
    (s : State) : (l.foldl f s).mbc.confirmWatch = s.mbc.confirmWatch := by
  induction l generalizing s with
  | nil => rfl
  | cons x l ih => rw [List.foldl_cons, ih, h]
@[simp] theorem when_mbc_confirmed {f : State → State} (h : ∀ s, (f s).mbc.confirmed = s.mbc.confirmed) (c : Bool) (s : State) :
    (when c f s).mbc.confirmed = s.mbc.confirmed := by cases c <;> simp [when, h]
theorem foldl_mbc_confirmed {α : Type} {f : State → α → State} (h : ∀ s x, (f s x).mbc.confirmed = s.mbc.confirmed) (l : List α)
    (s : State) : (l.foldl f s).mbc.confirmed = s.mbc.confirmed := by
  induction l generalizing s with
  | nil => rfl
  | cons x l ih => rw [List.foldl_cons, ih, h]
@[simp] theorem when_mbc_blast {f : State → State} (h : ∀ s, (f s).mbc.blast = s.mbc.blast) (c : Bool) (s : State) :
    (when c f s).mbc.blast = s.mbc.blast := by cases c <;> simp [when, h]
theorem foldl_mbc_blast {α : Type} {f : State → α → State} (h : ∀ s x, (f s x).mbc.blast = s.mbc.blast) (l : List α)
    (s : State) : (l.foldl f s).mbc.blast = s.mbc.blast := by
  induction l generalizing s with
  | nil => rfl
  | cons x l ih => rw [List.foldl_cons, ih, h]
@[simp] theorem when_mbc_stopped {f : State → State} (h : ∀ s, (f s).mbc.stopped = s.mbc.stopped) (c : Bool) (s : State) :
    (when c f s).mbc.stopped = s.mbc.stopped := by cases c <;> simp [when, h]
theorem foldl_mbc_stopped {α : Type} {f : State → α → State} (h : ∀ s x, (f s x).mbc.stopped = s.mbc.stopped) (l : List α)
    (s : State) : (l.foldl f s).mbc.stopped = s.mbc.stopped := by
  induction l generalizing s with
  | nil => rfl
  | cons x l ih => rw [List.foldl_cons, ih, h]
@[simp] theorem when_mbc_bagCount {f : State → State} (h : ∀ s, (f s).mbc.bagCount = s.mbc.bagCount) (c : Bool) (s : State) :
    (when c f s).mbc.bagCount = s.mbc.bagCount := by cases c <;> simp [when, h]
theorem foldl_mbc_bagCount {α : Type} {f : State → α → State} (h : ∀ s x, (f s x).mbc.bagCount = s.mbc.bagCount) (l : List α)
    (s : State) : (l.foldl f s).mbc.bagCount = s.mbc.bagCount := by
  induction l generalizing s with
  | nil => rfl
  | cons x l ih => rw [List.foldl_cons, ih, h]
@[simp] theorem when_mbc_bagLow {f : State → State} (h : ∀ s, (f s).mbc.bagLow = s.mbc.bagLow) (c : Bool) (s : State) :
    (when c f s).mbc.bagLow = s.mbc.bagLow := by cases c <;> simp [when, h]
theorem foldl_mbc_bagLow {α : Type} {f : State → α → State} (h : ∀ s x, (f s x).mbc.bagLow = s.mbc.bagLow) (l : List α)
    (s : State) : (l.foldl f s).mbc.bagLow = s.mbc.bagLow := by
  induction l generalizing s with
  | nil => rfl
  | cons x l ih => rw [List.foldl_cons, ih, h]
@[simp] theorem when_tsc_tyer {f : State → State} (h : ∀ s, (f s).tsc.tyer = s.tsc.tyer) (c : Bool) (s : State) :
    (when c f s).tsc.tyer = s.tsc.tyer := by cases c <;> simp [when, h]
theorem foldl_tsc_tyer {α : Type} {f : State → α → State} (h : ∀ s x, (f s x).tsc.tyer = s.tsc.tyer) (l : List α)
    (s : State) : (l.foldl f s).tsc.tyer = s.tsc.tyer := by
  induction l generalizing s with
  | nil => rfl
  | cons x l ih => rw [List.foldl_cons, ih, h]
@[simp] theorem when_tsc_purge {f : State → State} (h : ∀ s, (f s).tsc.purge = s.tsc.purge) (c : Bool) (s : State) :
    (when c f s).tsc.purge = s.tsc.purge := by cases c <;> simp [when, h]
theorem foldl_tsc_purge {α : Type} {f : State → α → State} (h : ∀ s x, (f s x).tsc.purge = s.tsc.purge) (l : List α)
    (s : State) : (l.foldl f s).tsc.purge = s.tsc.purge := by
  induction l generalizing s with
  | nil => rfl
  | cons x l ih => rw [List.foldl_cons, ih, h]
@[simp] theorem when_tsc_phaseTimer {f : State → State} (h : ∀ s, (f s).tsc.phaseTimer = s.tsc.phaseTimer) (c : Bool) (s : State) :
    (when c f s).tsc.phaseTimer = s.tsc.phaseTimer := by cases c <;> simp [when, h]
theorem foldl_tsc_phaseTimer {α : Type} {f : State → α → State} (h : ∀ s x, (f s x).tsc.phaseTimer = s.tsc.phaseTimer) (l : List α)
    (s : State) : (l.foldl f s).tsc.phaseTimer = s.tsc.phaseTimer := by
  induction l generalizing s with
  | nil => rfl
  | cons x l ih => rw [List.foldl_cons, ih, h]
@[simp] theorem when_tsc_tieTimer {f : State → State} (h : ∀ s, (f s).tsc.tieTimer = s.tsc.tieTimer) (c : Bool) (s : State) :
    (when c f s).tsc.tieTimer = s.tsc.tieTimer := by cases c <;> simp [when, h]
theorem foldl_tsc_tieTimer {α : Type} {f : State → α → State} (h : ∀ s x, (f s x).tsc.tieTimer = s.tsc.tieTimer) (l : List α)
    (s : State) : (l.foldl f s).tsc.tieTimer = s.tsc.tieTimer := by
  induction l generalizing s with
  | nil => rfl
  | cons x l ih => rw [List.foldl_cons, ih, h]
@[simp] theorem when_tsc_leftHome {f : State → State} (h : ∀ s, (f s).tsc.leftHome = s.tsc.leftHome) (c : Bool) (s : State) :
    (when c f s).tsc.leftHome = s.tsc.leftHome := by cases c <;> simp [when, h]
theorem foldl_tsc_leftHome {α : Type} {f : State → α → State} (h : ∀ s x, (f s x).tsc.leftHome = s.tsc.leftHome) (l : List α)
    (s : State) : (l.foldl f s).tsc.leftHome = s.tsc.leftHome := by
  induction l generalizing s with
  | nil => rfl
  | cons x l ih => rw [List.foldl_cons, ih, h]
@[simp] theorem when_tsc_code {f : State → State} (h : ∀ s, (f s).tsc.code = s.tsc.code) (c : Bool) (s : State) :
    (when c f s).tsc.code = s.tsc.code := by cases c <;> simp [when, h]
theorem foldl_tsc_code {α : Type} {f : State → α → State} (h : ∀ s x, (f s x).tsc.code = s.tsc.code) (l : List α)
    (s : State) : (l.foldl f s).tsc.code = s.tsc.code := by
  induction l generalizing s with
  | nil => rfl
  | cons x l ih => rw [List.foldl_cons, ih, h]
@[simp] theorem when_tsc_tiesSincePurge {f : State → State} (h : ∀ s, (f s).tsc.tiesSincePurge = s.tsc.tiesSincePurge) (c : Bool) (s : State) :
    (when c f s).tsc.tiesSincePurge = s.tsc.tiesSincePurge := by cases c <;> simp [when, h]
theorem foldl_tsc_tiesSincePurge {α : Type} {f : State → α → State} (h : ∀ s x, (f s x).tsc.tiesSincePurge = s.tsc.tiesSincePurge) (l : List α)
    (s : State) : (l.foldl f s).tsc.tiesSincePurge = s.tsc.tiesSincePurge := by
  induction l generalizing s with
  | nil => rfl
  | cons x l ih => rw [List.foldl_cons, ih, h]
@[simp] theorem when_tsc_clipCount {f : State → State} (h : ∀ s, (f s).tsc.clipCount = s.tsc.clipCount) (c : Bool) (s : State) :
    (when c f s).tsc.clipCount = s.tsc.clipCount := by cases c <;> simp [when, h]
theorem foldl_tsc_clipCount {α : Type} {f : State → α → State} (h : ∀ s x, (f s x).tsc.clipCount = s.tsc.clipCount) (l : List α)
    (s : State) : (l.foldl f s).tsc.clipCount = s.tsc.clipCount := by
  induction l generalizing s with
  | nil => rfl
  | cons x l ih => rw [List.foldl_cons, ih, h]
@[simp] theorem when_tsc_clipLow {f : State → State} (h : ∀ s, (f s).tsc.clipLow = s.tsc.clipLow) (c : Bool) (s : State) :
    (when c f s).tsc.clipLow = s.tsc.clipLow := by cases c <;> simp [when, h]
theorem foldl_tsc_clipLow {α : Type} {f : State → α → State} (h : ∀ s x, (f s x).tsc.clipLow = s.tsc.clipLow) (l : List α)
    (s : State) : (l.foldl f s).tsc.clipLow = s.tsc.clipLow := by
  induction l generalizing s with
  | nil => rfl
  | cons x l ih => rw [List.foldl_cons, ih, h]
@[simp] theorem when_ama_holder {f : State → State} (h : ∀ s, (f s).ama.holder = s.ama.holder) (c : Bool) (s : State) :
    (when c f s).ama.holder = s.ama.holder := by cases c <;> simp [when, h]
theorem foldl_ama_holder {α : Type} {f : State → α → State} (h : ∀ s x, (f s x).ama.holder = s.ama.holder) (l : List α)
    (s : State) : (l.foldl f s).ama.holder = s.ama.holder := by
  induction l generalizing s with
  | nil => rfl
  | cons x l ih => rw [List.foldl_cons, ih, h]
@[simp] theorem when_ama_waiting {f : State → State} (h : ∀ s, (f s).ama.waiting = s.ama.waiting) (c : Bool) (s : State) :
    (when c f s).ama.waiting = s.ama.waiting := by cases c <;> simp [when, h]
theorem foldl_ama_waiting {α : Type} {f : State → α → State} (h : ∀ s x, (f s x).ama.waiting = s.ama.waiting) (l : List α)
    (s : State) : (l.foldl f s).ama.waiting = s.ama.waiting := by
  induction l generalizing s with
  | nil => rfl
  | cons x l ih => rw [List.foldl_cons, ih, h]
@[simp] theorem when_ama_pressureLow {f : State → State} (h : ∀ s, (f s).ama.pressureLow = s.ama.pressureLow) (c : Bool) (s : State) :
    (when c f s).ama.pressureLow = s.ama.pressureLow := by cases c <;> simp [when, h]
theorem foldl_ama_pressureLow {α : Type} {f : State → α → State} (h : ∀ s x, (f s x).ama.pressureLow = s.ama.pressureLow) (l : List α)
    (s : State) : (l.foldl f s).ama.pressureLow = s.ama.pressureLow := by
  induction l generalizing s with
  | nil => rfl
  | cons x l ih => rw [List.foldl_cons, ih, h]
@[simp] theorem when_ama_lastKnife {f : State → State} (h : ∀ s, (f s).ama.lastKnife = s.ama.lastKnife) (c : Bool) (s : State) :
    (when c f s).ama.lastKnife = s.ama.lastKnife := by cases c <;> simp [when, h]
theorem foldl_ama_lastKnife {α : Type} {f : State → α → State} (h : ∀ s x, (f s x).ama.lastKnife = s.ama.lastKnife) (l : List α)
    (s : State) : (l.foldl f s).ama.lastKnife = s.ama.lastKnife := by
  induction l generalizing s with
  | nil => rfl
  | cons x l ih => rw [List.foldl_cons, ih, h]
@[simp] theorem when_sc_result {f : State → State} (h : ∀ s, (f s).sc.result = s.sc.result) (c : Bool) (s : State) :
    (when c f s).sc.result = s.sc.result := by cases c <;> simp [when, h]
theorem foldl_sc_result {α : Type} {f : State → α → State} (h : ∀ s x, (f s x).sc.result = s.sc.result) (l : List α)
    (s : State) : (l.foldl f s).sc.result = s.sc.result := by
  induction l generalizing s with
  | nil => rfl
  | cons x l ih => rw [List.foldl_cons, ih, h]
@[simp] theorem when_sc_age {f : State → State} (h : ∀ s, (f s).sc.age = s.sc.age) (c : Bool) (s : State) :
    (when c f s).sc.age = s.sc.age := by cases c <;> simp [when, h]
theorem foldl_sc_age {α : Type} {f : State → α → State} (h : ∀ s x, (f s x).sc.age = s.sc.age) (l : List α)
    (s : State) : (l.foldl f s).sc.age = s.sc.age := by
  induction l generalizing s with
  | nil => rfl
  | cons x l ih => rw [List.foldl_cons, ih, h]
@[simp] theorem when_sc_flag {f : State → State} (h : ∀ s, (f s).sc.flag = s.sc.flag) (c : Bool) (s : State) :
    (when c f s).sc.flag = s.sc.flag := by cases c <;> simp [when, h]
theorem foldl_sc_flag {α : Type} {f : State → α → State} (h : ∀ s x, (f s x).sc.flag = s.sc.flag) (l : List α)
    (s : State) : (l.foldl f s).sc.flag = s.sc.flag := by
  induction l generalizing s with
  | nil => rfl
  | cons x l ih => rw [List.foldl_cons, ih, h]
@[simp] theorem when_sc_inFlight {f : State → State} (h : ∀ s, (f s).sc.inFlight = s.sc.inFlight) (c : Bool) (s : State) :
    (when c f s).sc.inFlight = s.sc.inFlight := by cases c <;> simp [when, h]
theorem foldl_sc_inFlight {α : Type} {f : State → α → State} (h : ∀ s x, (f s x).sc.inFlight = s.sc.inFlight) (l : List α)
    (s : State) : (l.foldl f s).sc.inFlight = s.sc.inFlight := by
  induction l generalizing s with
  | nil => rfl
  | cons x l ih => rw [List.foldl_cons, ih, h]
@[simp] theorem when_sc_timer {f : State → State} (h : ∀ s, (f s).sc.timer = s.sc.timer) (c : Bool) (s : State) :
    (when c f s).sc.timer = s.sc.timer := by cases c <;> simp [when, h]
theorem foldl_sc_timer {α : Type} {f : State → α → State} (h : ∀ s x, (f s x).sc.timer = s.sc.timer) (l : List α)
    (s : State) : (l.foldl f s).sc.timer = s.sc.timer := by
  induction l generalizing s with
  | nil => rfl
  | cons x l ih => rw [List.foldl_cons, ih, h]
@[simp] theorem when_tu_live {f : State → State} (h : ∀ s, (f s).tu.live = s.tu.live) (c : Bool) (s : State) :
    (when c f s).tu.live = s.tu.live := by cases c <;> simp [when, h]
theorem foldl_tu_live {α : Type} {f : State → α → State} (h : ∀ s x, (f s x).tu.live = s.tu.live) (l : List α)
    (s : State) : (l.foldl f s).tu.live = s.tu.live := by
  induction l generalizing s with
  | nil => rfl
  | cons x l ih => rw [List.foldl_cons, ih, h]
@[simp] theorem when_tu_closeBuffer {f : State → State} (h : ∀ s, (f s).tu.closeBuffer = s.tu.closeBuffer) (c : Bool) (s : State) :
    (when c f s).tu.closeBuffer = s.tu.closeBuffer := by cases c <;> simp [when, h]
theorem foldl_tu_closeBuffer {α : Type} {f : State → α → State} (h : ∀ s x, (f s x).tu.closeBuffer = s.tu.closeBuffer) (l : List α)
    (s : State) : (l.foldl f s).tu.closeBuffer = s.tu.closeBuffer := by
  induction l generalizing s with
  | nil => rfl
  | cons x l ih => rw [List.foldl_cons, ih, h]
@[simp] theorem when_tu_tally {f : State → State} (h : ∀ s, (f s).tu.tally = s.tu.tally) (c : Bool) (s : State) :
    (when c f s).tu.tally = s.tu.tally := by cases c <;> simp [when, h]
theorem foldl_tu_tally {α : Type} {f : State → α → State} (h : ∀ s x, (f s x).tu.tally = s.tu.tally) (l : List α)
    (s : State) : (l.foldl f s).tu.tally = s.tu.tally := by
  induction l generalizing s with
  | nil => rfl
  | cons x l ih => rw [List.foldl_cons, ih, h]
@[simp] theorem when_tu_totalsSet {f : State → State} (h : ∀ s, (f s).tu.totalsSet = s.tu.totalsSet) (c : Bool) (s : State) :
    (when c f s).tu.totalsSet = s.tu.totalsSet := by cases c <;> simp [when, h]
theorem foldl_tu_totalsSet {α : Type} {f : State → α → State} (h : ∀ s x, (f s x).tu.totalsSet = s.tu.totalsSet) (l : List α)
    (s : State) : (l.foldl f s).tu.totalsSet = s.tu.totalsSet := by
  induction l generalizing s with
  | nil => rfl
  | cons x l ih => rw [List.foldl_cons, ih, h]
@[simp] theorem when_ft_causes {f : State → State} (h : ∀ s, (f s).ft.causes = s.ft.causes) (c : Bool) (s : State) :
    (when c f s).ft.causes = s.ft.causes := by cases c <;> simp [when, h]
theorem foldl_ft_causes {α : Type} {f : State → α → State} (h : ∀ s x, (f s x).ft.causes = s.ft.causes) (l : List α)
    (s : State) : (l.foldl f s).ft.causes = s.ft.causes := by
  induction l generalizing s with
  | nil => rfl
  | cons x l ih => rw [List.foldl_cons, ih, h]
@[simp] theorem when_ft_raiseCounter {f : State → State} (h : ∀ s, (f s).ft.raiseCounter = s.ft.raiseCounter) (c : Bool) (s : State) :
    (when c f s).ft.raiseCounter = s.ft.raiseCounter := by cases c <;> simp [when, h]
theorem foldl_ft_raiseCounter {α : Type} {f : State → α → State} (h : ∀ s x, (f s x).ft.raiseCounter = s.ft.raiseCounter) (l : List α)
    (s : State) : (l.foldl f s).ft.raiseCounter = s.ft.raiseCounter := by
  induction l generalizing s with
  | nil => rfl
  | cons x l ih => rw [List.foldl_cons, ih, h]
@[simp] theorem when_ft_changeNumber {f : State → State} (h : ∀ s, (f s).ft.changeNumber = s.ft.changeNumber) (c : Bool) (s : State) :
    (when c f s).ft.changeNumber = s.ft.changeNumber := by cases c <;> simp [when, h]
theorem foldl_ft_changeNumber {α : Type} {f : State → α → State} (h : ∀ s x, (f s x).ft.changeNumber = s.ft.changeNumber) (l : List α)
    (s : State) : (l.foldl f s).ft.changeNumber = s.ft.changeNumber := by
  induction l generalizing s with
  | nil => rfl
  | cons x l ih => rw [List.foldl_cons, ih, h]
@[simp] theorem when_rs_cells {f : State → State} (h : ∀ s, (f s).rs.cells = s.rs.cells) (c : Bool) (s : State) :
    (when c f s).rs.cells = s.rs.cells := by cases c <;> simp [when, h]
theorem foldl_rs_cells {α : Type} {f : State → α → State} (h : ∀ s x, (f s x).rs.cells = s.rs.cells) (l : List α)
    (s : State) : (l.foldl f s).rs.cells = s.rs.cells := by
  induction l generalizing s with
  | nil => rfl
  | cons x l ih => rw [List.foldl_cons, ih, h]
@[simp] theorem when_rs_headers {f : State → State} (h : ∀ s, (f s).rs.headers = s.rs.headers) (c : Bool) (s : State) :
    (when c f s).rs.headers = s.rs.headers := by cases c <;> simp [when, h]
theorem foldl_rs_headers {α : Type} {f : State → α → State} (h : ∀ s x, (f s x).rs.headers = s.rs.headers) (l : List α)
    (s : State) : (l.foldl f s).rs.headers = s.rs.headers := by
  induction l generalizing s with
  | nil => rfl
  | cons x l ih => rw [List.foldl_cons, ih, h]
@[simp] theorem when_rs_index {f : State → State} (h : ∀ s, (f s).rs.index = s.rs.index) (c : Bool) (s : State) :
    (when c f s).rs.index = s.rs.index := by cases c <;> simp [when, h]
theorem foldl_rs_index {α : Type} {f : State → α → State} (h : ∀ s x, (f s x).rs.index = s.rs.index) (l : List α)
    (s : State) : (l.foldl f s).rs.index = s.rs.index := by
  induction l generalizing s with
  | nil => rfl
  | cons x l ih => rw [List.foldl_cons, ih, h]
@[simp] theorem when_rs_ckpt {f : State → State} (h : ∀ s, (f s).rs.ckpt = s.rs.ckpt) (c : Bool) (s : State) :
    (when c f s).rs.ckpt = s.rs.ckpt := by cases c <;> simp [when, h]
theorem foldl_rs_ckpt {α : Type} {f : State → α → State} (h : ∀ s x, (f s x).rs.ckpt = s.rs.ckpt) (l : List α)
    (s : State) : (l.foldl f s).rs.ckpt = s.rs.ckpt := by
  induction l generalizing s with
  | nil => rfl
  | cons x l ih => rw [List.foldl_cons, ih, h]
@[simp] theorem when_rs_writer {f : State → State} (h : ∀ s, (f s).rs.writer = s.rs.writer) (c : Bool) (s : State) :
    (when c f s).rs.writer = s.rs.writer := by cases c <;> simp [when, h]
theorem foldl_rs_writer {α : Type} {f : State → α → State} (h : ∀ s x, (f s x).rs.writer = s.rs.writer) (l : List α)
    (s : State) : (l.foldl f s).rs.writer = s.rs.writer := by
  induction l generalizing s with
  | nil => rfl
  | cons x l ih => rw [List.foldl_cons, ih, h]
@[simp] theorem when_rs_queue {f : State → State} (h : ∀ s, (f s).rs.queue = s.rs.queue) (c : Bool) (s : State) :
    (when c f s).rs.queue = s.rs.queue := by cases c <;> simp [when, h]
theorem foldl_rs_queue {α : Type} {f : State → α → State} (h : ∀ s x, (f s x).rs.queue = s.rs.queue) (l : List α)
    (s : State) : (l.foldl f s).rs.queue = s.rs.queue := by
  induction l generalizing s with
  | nil => rfl
  | cons x l ih => rw [List.foldl_cons, ih, h]
@[simp] theorem when_rs_lastShift {f : State → State} (h : ∀ s, (f s).rs.lastShift = s.rs.lastShift) (c : Bool) (s : State) :
    (when c f s).rs.lastShift = s.rs.lastShift := by cases c <;> simp [when, h]
theorem foldl_rs_lastShift {α : Type} {f : State → α → State} (h : ∀ s x, (f s x).rs.lastShift = s.rs.lastShift) (l : List α)
    (s : State) : (l.foldl f s).rs.lastShift = s.rs.lastShift := by
  induction l generalizing s with
  | nil => rfl
  | cons x l ih => rw [List.foldl_cons, ih, h]
@[simp] theorem when_rs_lastCkpt {f : State → State} (h : ∀ s, (f s).rs.lastCkpt = s.rs.lastCkpt) (c : Bool) (s : State) :
    (when c f s).rs.lastCkpt = s.rs.lastCkpt := by cases c <;> simp [when, h]
theorem foldl_rs_lastCkpt {α : Type} {f : State → α → State} (h : ∀ s x, (f s x).rs.lastCkpt = s.rs.lastCkpt) (l : List α)
    (s : State) : (l.foldl f s).rs.lastCkpt = s.rs.lastCkpt := by
  induction l generalizing s with
  | nil => rfl
  | cons x l ih => rw [List.foldl_cons, ih, h]
@[simp] theorem when_rs_lastRecipes {f : State → State} (h : ∀ s, (f s).rs.lastRecipes = s.rs.lastRecipes) (c : Bool) (s : State) :
    (when c f s).rs.lastRecipes = s.rs.lastRecipes := by cases c <;> simp [when, h]
theorem foldl_rs_lastRecipes {α : Type} {f : State → α → State} (h : ∀ s x, (f s x).rs.lastRecipes = s.rs.lastRecipes) (l : List α)
    (s : State) : (l.foldl f s).rs.lastRecipes = s.rs.lastRecipes := by
  induction l generalizing s with
  | nil => rfl
  | cons x l ih => rw [List.foldl_cons, ih, h]
@[simp] theorem when_rs_findings {f : State → State} (h : ∀ s, (f s).rs.findings = s.rs.findings) (c : Bool) (s : State) :
    (when c f s).rs.findings = s.rs.findings := by cases c <;> simp [when, h]
theorem foldl_rs_findings {α : Type} {f : State → α → State} (h : ∀ s x, (f s x).rs.findings = s.rs.findings) (l : List α)
    (s : State) : (l.foldl f s).rs.findings = s.rs.findings := by
  induction l generalizing s with
  | nil => rfl
  | cons x l ih => rw [List.foldl_cons, ih, h]
@[simp] theorem when_lsc_line {f : State → State} (h : ∀ s, (f s).lsc.line = s.lsc.line) (c : Bool) (s : State) :
    (when c f s).lsc.line = s.lsc.line := by cases c <;> simp [when, h]
theorem foldl_lsc_line {α : Type} {f : State → α → State} (h : ∀ s x, (f s x).lsc.line = s.lsc.line) (l : List α)
    (s : State) : (l.foldl f s).lsc.line = s.lsc.line := by
  induction l generalizing s with
  | nil => rfl
  | cons x l ih => rw [List.foldl_cons, ih, h]
@[simp] theorem when_lsc_previous {f : State → State} (h : ∀ s, (f s).lsc.previous = s.lsc.previous) (c : Bool) (s : State) :
    (when c f s).lsc.previous = s.lsc.previous := by cases c <;> simp [when, h]
theorem foldl_lsc_previous {α : Type} {f : State → α → State} (h : ∀ s x, (f s x).lsc.previous = s.lsc.previous) (l : List α)
    (s : State) : (l.foldl f s).lsc.previous = s.lsc.previous := by
  induction l generalizing s with
  | nil => rfl
  | cons x l ih => rw [List.foldl_cons, ih, h]
@[simp] theorem when_lsc_returnState {f : State → State} (h : ∀ s, (f s).lsc.returnState = s.lsc.returnState) (c : Bool) (s : State) :
    (when c f s).lsc.returnState = s.lsc.returnState := by cases c <;> simp [when, h]
theorem foldl_lsc_returnState {α : Type} {f : State → α → State} (h : ∀ s x, (f s x).lsc.returnState = s.lsc.returnState) (l : List α)
    (s : State) : (l.foldl f s).lsc.returnState = s.lsc.returnState := by
  induction l generalizing s with
  | nil => rfl
  | cons x l ih => rw [List.foldl_cons, ih, h]
@[simp] theorem when_lsc_holdHost {f : State → State} (h : ∀ s, (f s).lsc.holdHost = s.lsc.holdHost) (c : Bool) (s : State) :
    (when c f s).lsc.holdHost = s.lsc.holdHost := by cases c <;> simp [when, h]
theorem foldl_lsc_holdHost {α : Type} {f : State → α → State} (h : ∀ s x, (f s x).lsc.holdHost = s.lsc.holdHost) (l : List α)
    (s : State) : (l.foldl f s).lsc.holdHost = s.lsc.holdHost := by
  induction l generalizing s with
  | nil => rfl
  | cons x l ih => rw [List.foldl_cons, ih, h]
@[simp] theorem when_lsc_runMs {f : State → State} (h : ∀ s, (f s).lsc.runMs = s.lsc.runMs) (c : Bool) (s : State) :
    (when c f s).lsc.runMs = s.lsc.runMs := by cases c <;> simp [when, h]
theorem foldl_lsc_runMs {α : Type} {f : State → α → State} (h : ∀ s x, (f s x).lsc.runMs = s.lsc.runMs) (l : List α)
    (s : State) : (l.foldl f s).lsc.runMs = s.lsc.runMs := by
  induction l generalizing s with
  | nil => rfl
  | cons x l ih => rw [List.foldl_cons, ih, h]
@[simp] theorem when_lsc_holdMs {f : State → State} (h : ∀ s, (f s).lsc.holdMs = s.lsc.holdMs) (c : Bool) (s : State) :
    (when c f s).lsc.holdMs = s.lsc.holdMs := by cases c <;> simp [when, h]
theorem foldl_lsc_holdMs {α : Type} {f : State → α → State} (h : ∀ s x, (f s x).lsc.holdMs = s.lsc.holdMs) (l : List α)
    (s : State) : (l.foldl f s).lsc.holdMs = s.lsc.holdMs := by
  induction l generalizing s with
  | nil => rfl
  | cons x l ih => rw [List.foldl_cons, ih, h]
@[simp] theorem when_lsc_stopMs {f : State → State} (h : ∀ s, (f s).lsc.stopMs = s.lsc.stopMs) (c : Bool) (s : State) :
    (when c f s).lsc.stopMs = s.lsc.stopMs := by cases c <;> simp [when, h]
theorem foldl_lsc_stopMs {α : Type} {f : State → α → State} (h : ∀ s x, (f s x).lsc.stopMs = s.lsc.stopMs) (l : List α)
    (s : State) : (l.foldl f s).lsc.stopMs = s.lsc.stopMs := by
  induction l generalizing s with
  | nil => rfl
  | cons x l ih => rw [List.foldl_cons, ih, h]
@[simp] theorem onLive_parts (f : Totals → Totals) (s : State) :
    (s.onLive f).tu.closeBuffer = s.tu.closeBuffer ∧ (s.onLive f).tu.tally = s.tu.tally ∧
    (s.onLive f).tu.totalsSet = s.tu.totalsSet := by
  simp only [State.onLive]; (repeat' split) <;> simp
@[simp] theorem countLine_parts (f : LineBlock → LineBlock) (s : State) :
    (countLine f s).tu.closeBuffer = s.tu.closeBuffer ∧ (countLine f s).tu.tally = s.tu.tally ∧
    (countLine f s).tu.totalsSet = s.tu.totalsSet := by
  simp only [countLine]; (repeat' split) <;> simp
@[simp] theorem countProduct_parts (code : Nat) (f : Counters → Counters) (s : State) :
    (countProduct code f s).tu.closeBuffer = s.tu.closeBuffer ∧ (countProduct code f s).tu.tally = s.tu.tally ∧
    (countProduct code f s).tu.totalsSet = s.tu.totalsSet := by
  simp only [countProduct]; (repeat' split) <;> simp
@[simp] theorem countRecord_parts (r : LoafRecord) (f : Counters → Counters) (s : State) :
    (countRecord r f s).tu.closeBuffer = s.tu.closeBuffer ∧ (countRecord r f s).tu.tally = s.tu.tally ∧
    (countRecord r f s).tu.totalsSet = s.tu.totalsSet := by
  simp only [countRecord]; (repeat' split) <;> simp
@[simp] theorem countLost_parts (r : LoafRecord) (s : State) :
    (countLost r s).tu.closeBuffer = s.tu.closeBuffer ∧ (countLost r s).tu.tally = s.tu.tally ∧
    (countLost r s).tu.totalsSet = s.tu.totalsSet := by
  simp only [countLost]; (repeat' split) <;> simp
@[simp] theorem countBagged_parts (r : LoafRecord) (s : State) :
    (countBagged r s).tu.closeBuffer = s.tu.closeBuffer ∧ (countBagged r s).tu.tally = s.tu.tally ∧
    (countBagged r s).tu.totalsSet = s.tu.totalsSet := by
  simp only [countBagged]; (repeat' split) <;> simp
@[simp] theorem countRejected_parts (r : LoafRecord) (f : Counters → Counters) (s : State) :
    (countRejected r f s).tu.closeBuffer = s.tu.closeBuffer ∧ (countRejected r f s).tu.tally = s.tu.tally ∧
    (countRejected r f s).tu.totalsSet = s.tu.totalsSet := by
  simp only [countRejected]; (repeat' split) <;> simp
@[simp] theorem countFault_parts (s : State) :
    (countFault s).tu.closeBuffer = s.tu.closeBuffer ∧ (countFault s).tu.totalsSet = s.tu.totalsSet := by
  simp only [countFault]; (repeat' split) <;> simp
@[simp] theorem tableChanged_parts (s : State) :
    (tableChanged s).ft.causes = s.ft.causes ∧ (tableChanged s).ft.raiseCounter = s.ft.raiseCounter := by
  simp only [tableChanged]; (repeat' split) <;> simp
@[simp] theorem placeEntry_parts (e : FaultEntry) (s : State) :
    (placeEntry e s).tu.closeBuffer = s.tu.closeBuffer ∧ (placeEntry e s).tu.totalsSet = s.tu.totalsSet ∧
    (placeEntry e s).ft.causes = s.ft.causes ∧ (placeEntry e s).ft.raiseCounter = s.ft.raiseCounter ∧
    (placeEntry e s).ft.changeNumber = s.ft.changeNumber := by
  simp only [placeEntry]; (repeat' split) <;> simp
@[simp] theorem raiseFault_parts (k : FaultKind) (subj : Subject) (detail : Option Nat) (s : State) :
    (raiseFault k subj detail s).tu.closeBuffer = s.tu.closeBuffer ∧
    (raiseFault k subj detail s).tu.totalsSet = s.tu.totalsSet := by
  simp only [raiseFault]; (repeat' split) <;> simp
@[simp] theorem present_parts (e : FaultEntry) (s : State) :
    (present e s).tu.closeBuffer = s.tu.closeBuffer ∧ (present e s).tu.totalsSet = s.tu.totalsSet ∧
    (present e s).ft.causes = s.ft.causes ∧ (present e s).ft.raiseCounter = s.ft.raiseCounter ∧
    (present e s).ft.changeNumber = s.ft.changeNumber := by
  simp only [present]; (repeat' split) <;> simp
@[simp] theorem presentNext_parts (s : State) :
    (presentNext s).tu.closeBuffer = s.tu.closeBuffer ∧ (presentNext s).tu.totalsSet = s.tu.totalsSet ∧
    (presentNext s).ft.causes = s.ft.causes ∧ (presentNext s).ft.raiseCounter = s.ft.raiseCounter ∧
    (presentNext s).ft.changeNumber = s.ft.changeNumber := by
  simp only [presentNext]; (repeat' split) <;> simp
@[simp] theorem removeEntry_parts (k : FaultKind) (subj : Subject) (s : State) :
    (removeEntry k subj s).tu.closeBuffer = s.tu.closeBuffer ∧ (removeEntry k subj s).tu.totalsSet = s.tu.totalsSet ∧
    (removeEntry k subj s).ft.causes = s.ft.causes ∧ (removeEntry k subj s).ft.raiseCounter = s.ft.raiseCounter ∧
    (removeEntry k subj s).ft.changeNumber = s.ft.changeNumber := by
  simp only [removeEntry]; (repeat' split) <;> simp
@[simp] theorem noticeCause_parts (k : FaultKind) (subj : Subject) (isPresent : Bool) (s : State) :
    (noticeCause k subj isPresent s).tu.closeBuffer = s.tu.closeBuffer ∧
    (noticeCause k subj isPresent s).tu.totalsSet = s.tu.totalsSet ∧
    (noticeCause k subj isPresent s).ft.raiseCounter = s.ft.raiseCounter := by
  simp only [noticeCause]; (repeat' split) <;> simp
@[simp] theorem removeAll_parts (l : List FaultEntry) (s : State) :
    (removeAll l s).tu.closeBuffer = s.tu.closeBuffer ∧ (removeAll l s).tu.totalsSet = s.tu.totalsSet ∧
    (removeAll l s).ft.causes = s.ft.causes ∧ (removeAll l s).ft.raiseCounter = s.ft.raiseCounter ∧
    (removeAll l s).ft.changeNumber = s.ft.changeNumber := by
  and_intros
  · exact foldl_tu_closeBuffer (by simp) _ _
  · exact foldl_tu_totalsSet (by simp) _ _
  · exact foldl_ft_causes (by simp) _ _
  · exact foldl_ft_raiseCounter (by simp) _ _
  · exact foldl_ft_changeNumber (by simp) _ _
@[simp] theorem noticeRemoval_parts (hit : FaultEntry → Bool) (s : State) :
    (noticeRemoval hit s).tu.closeBuffer = s.tu.closeBuffer ∧ (noticeRemoval hit s).tu.totalsSet = s.tu.totalsSet ∧
    (noticeRemoval hit s).ft.causes = s.ft.causes ∧ (noticeRemoval hit s).ft.raiseCounter = s.ft.raiseCounter := by
  simp only [noticeRemoval]; (repeat' split) <;> simp
@[simp] theorem matchNotice_parts (subj : Subject) (s : State) :
    (matchNotice subj s).tu.closeBuffer = s.tu.closeBuffer ∧ (matchNotice subj s).tu.totalsSet = s.tu.totalsSet ∧
    (matchNotice subj s).ft.causes = s.ft.causes ∧ (matchNotice subj s).ft.raiseCounter = s.ft.raiseCounter := by
  simp only [matchNotice]; (repeat' split) <;> simp
@[simp] theorem bagConfirmNotice_parts (s : State) :
    (bagConfirmNotice s).tu.closeBuffer = s.tu.closeBuffer ∧ (bagConfirmNotice s).tu.totalsSet = s.tu.totalsSet ∧
    (bagConfirmNotice s).ft.causes = s.ft.causes ∧ (bagConfirmNotice s).ft.raiseCounter = s.ft.raiseCounter := by
  simp only [bagConfirmNotice]; (repeat' split) <;> simp
@[simp] theorem clearCompletedNotice_parts (l : Lane) (s : State) :
    (clearCompletedNotice l s).tu.closeBuffer = s.tu.closeBuffer ∧
    (clearCompletedNotice l s).tu.totalsSet = s.tu.totalsSet ∧ (clearCompletedNotice l s).ft.causes = s.ft.causes ∧
    (clearCompletedNotice l s).ft.raiseCounter = s.ft.raiseCounter := by
  simp only [clearCompletedNotice]; (repeat' split) <;> simp
@[simp] theorem eyeStuckToAuto_parts (s : State) :
    (eyeStuckToAuto s).tu.closeBuffer = s.tu.closeBuffer ∧ (eyeStuckToAuto s).tu.totalsSet = s.tu.totalsSet ∧
    (eyeStuckToAuto s).ft.causes = s.ft.causes ∧ (eyeStuckToAuto s).ft.raiseCounter = s.ft.raiseCounter := by
  simp only [eyeStuckToAuto]; (repeat' split) <;> simp
@[simp] theorem clearPresented_parts (e : FaultEntry) (s : State) :
    (clearPresented e s).tu.closeBuffer = s.tu.closeBuffer ∧ (clearPresented e s).tu.totalsSet = s.tu.totalsSet ∧
    (clearPresented e s).ft.causes = s.ft.causes ∧ (clearPresented e s).ft.raiseCounter = s.ft.raiseCounter := by
  simp only [clearPresented]; (repeat' split) <;> simp
@[simp] theorem onPusher_parts (l : Lane) (f : Pusher → Pusher) (s : State) :
    (s.onPusher l f).dou.infeed = s.dou.infeed ∧ (s.onPusher l f).dou.accum = s.dou.accum ∧
    (s.onPusher l f).dou.outfeed = s.dou.outfeed ∧ (s.onPusher l f).dou.blade = s.dou.blade ∧
    (s.onPusher l f).dou.gate = s.dou.gate ∧ (s.onPusher l f).dou.flap = s.dou.flap ∧
    (s.onPusher l f).dou.tyer = s.dou.tyer ∧ (s.onPusher l f).dou.printer = s.dou.printer ∧
    (s.onPusher l f).dou.bagBlast = s.dou.bagBlast ∧ (s.onPusher l f).dou.purge = s.dou.purge ∧
    (s.onPusher l f).dou.knife = s.dou.knife ∧ (s.onPusher l f).dou.shaker = s.dou.shaker ∧
    (s.onPusher l f).dou.armed = s.dou.armed ∧ (s.onPusher l f).dou.gateTimer = s.dou.gateTimer ∧
    (s.onPusher l f).dou.estop = s.dou.estop ∧ (s.onPusher l f).dou.guardIn = s.dou.guardIn := by
  simp only [State.onPusher]; (repeat' split) <;> simp
@[simp] theorem valveOn_parts (l : Lane) (v : Valve) (s : State) :
    (valveOn l v s).dou.infeed = s.dou.infeed ∧ (valveOn l v s).dou.accum = s.dou.accum ∧
    (valveOn l v s).dou.outfeed = s.dou.outfeed ∧ (valveOn l v s).dou.blade = s.dou.blade ∧
    (valveOn l v s).dou.gate = s.dou.gate ∧ (valveOn l v s).dou.flap = s.dou.flap ∧
    (valveOn l v s).dou.tyer = s.dou.tyer ∧ (valveOn l v s).dou.printer = s.dou.printer ∧
    (valveOn l v s).dou.bagBlast = s.dou.bagBlast ∧ (valveOn l v s).dou.purge = s.dou.purge ∧
    (valveOn l v s).dou.knife = s.dou.knife ∧ (valveOn l v s).dou.shaker = s.dou.shaker ∧
    (valveOn l v s).dou.armed = s.dou.armed ∧ (valveOn l v s).dou.gateTimer = s.dou.gateTimer ∧
    (valveOn l v s).dou.estop = s.dou.estop ∧ (valveOn l v s).dou.guardIn = s.dou.guardIn := by
  simp only [valveOn]; (repeat' split) <;> simp
@[simp] theorem valveOff_parts (l : Lane) (v : Valve) (s : State) :
    (valveOff l v s).dou.infeed = s.dou.infeed ∧ (valveOff l v s).dou.accum = s.dou.accum ∧
    (valveOff l v s).dou.outfeed = s.dou.outfeed ∧ (valveOff l v s).dou.blade = s.dou.blade ∧
    (valveOff l v s).dou.gate = s.dou.gate ∧ (valveOff l v s).dou.flap = s.dou.flap ∧
    (valveOff l v s).dou.tyer = s.dou.tyer ∧ (valveOff l v s).dou.printer = s.dou.printer ∧
    (valveOff l v s).dou.bagBlast = s.dou.bagBlast ∧ (valveOff l v s).dou.purge = s.dou.purge ∧
    (valveOff l v s).dou.knife = s.dou.knife ∧ (valveOff l v s).dou.shaker = s.dou.shaker ∧
    (valveOff l v s).dou.armed = s.dou.armed ∧ (valveOff l v s).dou.gateTimer = s.dou.gateTimer ∧
    (valveOff l v s).dou.estop = s.dou.estop ∧ (valveOff l v s).dou.guardIn = s.dou.guardIn := by
  simp only [valveOff]; (repeat' split) <;> simp
@[simp] theorem armGate_parts (l : Lane) (s : State) :
    (armGate l s).dou.infeed = s.dou.infeed ∧ (armGate l s).dou.accum = s.dou.accum ∧
    (armGate l s).dou.outfeed = s.dou.outfeed ∧ (armGate l s).dou.blade = s.dou.blade ∧
    (armGate l s).dou.pusher = s.dou.pusher ∧ (armGate l s).dou.flap = s.dou.flap ∧
    (armGate l s).dou.tyer = s.dou.tyer ∧ (armGate l s).dou.printer = s.dou.printer ∧
    (armGate l s).dou.bagBlast = s.dou.bagBlast ∧ (armGate l s).dou.purge = s.dou.purge ∧
    (armGate l s).dou.knife = s.dou.knife ∧ (armGate l s).dou.shaker = s.dou.shaker ∧
    (armGate l s).dou.estop = s.dou.estop ∧ (armGate l s).dou.guardIn = s.dou.guardIn := by
  simp only [armGate, driveOn]; (repeat' split) <;> simp
@[simp] theorem disarmGate_parts (l : Lane) (s : State) :
    (disarmGate l s).dou.infeed = s.dou.infeed ∧ (disarmGate l s).dou.accum = s.dou.accum ∧
    (disarmGate l s).dou.outfeed = s.dou.outfeed ∧ (disarmGate l s).dou.blade = s.dou.blade ∧
    (disarmGate l s).dou.pusher = s.dou.pusher ∧ (disarmGate l s).dou.flap = s.dou.flap ∧
    (disarmGate l s).dou.tyer = s.dou.tyer ∧ (disarmGate l s).dou.printer = s.dou.printer ∧
    (disarmGate l s).dou.bagBlast = s.dou.bagBlast ∧ (disarmGate l s).dou.purge = s.dou.purge ∧
    (disarmGate l s).dou.knife = s.dou.knife ∧ (disarmGate l s).dou.shaker = s.dou.shaker ∧
    (disarmGate l s).dou.estop = s.dou.estop ∧ (disarmGate l s).dou.guardIn = s.dou.guardIn := by
  simp only [disarmGate]; (repeat' split) <;> simp
@[simp] theorem setBlade_parts (l : Lane) (b : Bool) (s : State) :
    (setBlade l b s).dou.infeed = s.dou.infeed ∧ (setBlade l b s).dou.accum = s.dou.accum ∧
    (setBlade l b s).dou.outfeed = s.dou.outfeed ∧ (setBlade l b s).dou.gate = s.dou.gate ∧
    (setBlade l b s).dou.pusher = s.dou.pusher ∧ (setBlade l b s).dou.flap = s.dou.flap ∧
    (setBlade l b s).dou.tyer = s.dou.tyer ∧ (setBlade l b s).dou.printer = s.dou.printer ∧
    (setBlade l b s).dou.bagBlast = s.dou.bagBlast ∧ (setBlade l b s).dou.purge = s.dou.purge ∧
    (setBlade l b s).dou.knife = s.dou.knife ∧ (setBlade l b s).dou.shaker = s.dou.shaker ∧
    (setBlade l b s).dou.armed = s.dou.armed ∧ (setBlade l b s).dou.gateTimer = s.dou.gateTimer ∧
    (setBlade l b s).dou.estop = s.dou.estop ∧ (setBlade l b s).dou.guardIn = s.dou.guardIn := by
  simp only [setBlade, driveOn]; (repeat' split) <;> simp
@[simp] theorem setKnife_parts (l : Lane) (b : Bool) (s : State) :
    (setKnife l b s).dou.infeed = s.dou.infeed ∧ (setKnife l b s).dou.accum = s.dou.accum ∧
    (setKnife l b s).dou.outfeed = s.dou.outfeed ∧ (setKnife l b s).dou.blade = s.dou.blade ∧
    (setKnife l b s).dou.gate = s.dou.gate ∧ (setKnife l b s).dou.pusher = s.dou.pusher ∧
    (setKnife l b s).dou.flap = s.dou.flap ∧ (setKnife l b s).dou.tyer = s.dou.tyer ∧
    (setKnife l b s).dou.printer = s.dou.printer ∧ (setKnife l b s).dou.bagBlast = s.dou.bagBlast ∧
    (setKnife l b s).dou.purge = s.dou.purge ∧ (setKnife l b s).dou.shaker = s.dou.shaker ∧
    (setKnife l b s).dou.armed = s.dou.armed ∧ (setKnife l b s).dou.gateTimer = s.dou.gateTimer ∧
    (setKnife l b s).dou.estop = s.dou.estop ∧ (setKnife l b s).dou.guardIn = s.dou.guardIn := by
  simp only [setKnife, driveOn]; (repeat' split) <;> simp
@[simp] theorem setShaker_parts (l : Lane) (b : Bool) (s : State) :
    (setShaker l b s).dou.infeed = s.dou.infeed ∧ (setShaker l b s).dou.accum = s.dou.accum ∧
    (setShaker l b s).dou.outfeed = s.dou.outfeed ∧ (setShaker l b s).dou.blade = s.dou.blade ∧
    (setShaker l b s).dou.gate = s.dou.gate ∧ (setShaker l b s).dou.pusher = s.dou.pusher ∧
    (setShaker l b s).dou.flap = s.dou.flap ∧ (setShaker l b s).dou.tyer = s.dou.tyer ∧
    (setShaker l b s).dou.printer = s.dou.printer ∧ (setShaker l b s).dou.bagBlast = s.dou.bagBlast ∧
    (setShaker l b s).dou.purge = s.dou.purge ∧ (setShaker l b s).dou.knife = s.dou.knife ∧
    (setShaker l b s).dou.armed = s.dou.armed ∧ (setShaker l b s).dou.gateTimer = s.dou.gateTimer ∧
    (setShaker l b s).dou.estop = s.dou.estop ∧ (setShaker l b s).dou.guardIn = s.dou.guardIn := by
  simp only [setShaker, driveOn]; (repeat' split) <;> simp
@[simp] theorem setInfeed_parts (l : Lane) (b : Bool) (s : State) :
    (setInfeed l b s).dou.accum = s.dou.accum ∧ (setInfeed l b s).dou.outfeed = s.dou.outfeed ∧
    (setInfeed l b s).dou.blade = s.dou.blade ∧ (setInfeed l b s).dou.gate = s.dou.gate ∧
    (setInfeed l b s).dou.pusher = s.dou.pusher ∧ (setInfeed l b s).dou.flap = s.dou.flap ∧
    (setInfeed l b s).dou.tyer = s.dou.tyer ∧ (setInfeed l b s).dou.printer = s.dou.printer ∧
    (setInfeed l b s).dou.bagBlast = s.dou.bagBlast ∧ (setInfeed l b s).dou.purge = s.dou.purge ∧
    (setInfeed l b s).dou.knife = s.dou.knife ∧ (setInfeed l b s).dou.shaker = s.dou.shaker ∧
    (setInfeed l b s).dou.armed = s.dou.armed ∧ (setInfeed l b s).dou.gateTimer = s.dou.gateTimer ∧
    (setInfeed l b s).dou.estop = s.dou.estop ∧ (setInfeed l b s).dou.guardIn = s.dou.guardIn := by
  simp only [setInfeed, driveOn]; (repeat' split) <;> simp
@[simp] theorem setFlap_parts (b : Bool) (s : State) :
    (setFlap b s).dou.infeed = s.dou.infeed ∧ (setFlap b s).dou.accum = s.dou.accum ∧
    (setFlap b s).dou.outfeed = s.dou.outfeed ∧ (setFlap b s).dou.blade = s.dou.blade ∧
    (setFlap b s).dou.gate = s.dou.gate ∧ (setFlap b s).dou.pusher = s.dou.pusher ∧
    (setFlap b s).dou.tyer = s.dou.tyer ∧ (setFlap b s).dou.printer = s.dou.printer ∧
    (setFlap b s).dou.bagBlast = s.dou.bagBlast ∧ (setFlap b s).dou.purge = s.dou.purge ∧
    (setFlap b s).dou.knife = s.dou.knife ∧ (setFlap b s).dou.shaker = s.dou.shaker ∧
    (setFlap b s).dou.armed = s.dou.armed ∧ (setFlap b s).dou.gateTimer = s.dou.gateTimer ∧
    (setFlap b s).dou.estop = s.dou.estop ∧ (setFlap b s).dou.guardIn = s.dou.guardIn := by
  simp only [setFlap, driveOn]; (repeat' split) <;> simp
@[simp] theorem setTyer_parts (b : Bool) (s : State) :
    (setTyer b s).dou.infeed = s.dou.infeed ∧ (setTyer b s).dou.accum = s.dou.accum ∧
    (setTyer b s).dou.outfeed = s.dou.outfeed ∧ (setTyer b s).dou.blade = s.dou.blade ∧
    (setTyer b s).dou.gate = s.dou.gate ∧ (setTyer b s).dou.pusher = s.dou.pusher ∧
    (setTyer b s).dou.flap = s.dou.flap ∧ (setTyer b s).dou.printer = s.dou.printer ∧
    (setTyer b s).dou.bagBlast = s.dou.bagBlast ∧ (setTyer b s).dou.purge = s.dou.purge ∧
    (setTyer b s).dou.knife = s.dou.knife ∧ (setTyer b s).dou.shaker = s.dou.shaker ∧
    (setTyer b s).dou.armed = s.dou.armed ∧ (setTyer b s).dou.gateTimer = s.dou.gateTimer ∧
    (setTyer b s).dou.estop = s.dou.estop ∧ (setTyer b s).dou.guardIn = s.dou.guardIn := by
  simp only [setTyer, driveOn]; (repeat' split) <;> simp
@[simp] theorem setBagBlast_parts (b : Bool) (s : State) :
    (setBagBlast b s).dou.infeed = s.dou.infeed ∧ (setBagBlast b s).dou.accum = s.dou.accum ∧
    (setBagBlast b s).dou.outfeed = s.dou.outfeed ∧ (setBagBlast b s).dou.blade = s.dou.blade ∧
    (setBagBlast b s).dou.gate = s.dou.gate ∧ (setBagBlast b s).dou.pusher = s.dou.pusher ∧
    (setBagBlast b s).dou.flap = s.dou.flap ∧ (setBagBlast b s).dou.tyer = s.dou.tyer ∧
    (setBagBlast b s).dou.printer = s.dou.printer ∧ (setBagBlast b s).dou.purge = s.dou.purge ∧
    (setBagBlast b s).dou.knife = s.dou.knife ∧ (setBagBlast b s).dou.shaker = s.dou.shaker ∧
    (setBagBlast b s).dou.armed = s.dou.armed ∧ (setBagBlast b s).dou.gateTimer = s.dou.gateTimer ∧
    (setBagBlast b s).dou.estop = s.dou.estop ∧ (setBagBlast b s).dou.guardIn = s.dou.guardIn := by
  simp only [setBagBlast, driveOn]; (repeat' split) <;> simp
@[simp] theorem setPurge_parts (b : Bool) (s : State) :
    (setPurge b s).dou.infeed = s.dou.infeed ∧ (setPurge b s).dou.accum = s.dou.accum ∧
    (setPurge b s).dou.outfeed = s.dou.outfeed ∧ (setPurge b s).dou.blade = s.dou.blade ∧
    (setPurge b s).dou.gate = s.dou.gate ∧ (setPurge b s).dou.pusher = s.dou.pusher ∧
    (setPurge b s).dou.flap = s.dou.flap ∧ (setPurge b s).dou.tyer = s.dou.tyer ∧
    (setPurge b s).dou.printer = s.dou.printer ∧ (setPurge b s).dou.bagBlast = s.dou.bagBlast ∧
    (setPurge b s).dou.knife = s.dou.knife ∧ (setPurge b s).dou.shaker = s.dou.shaker ∧
    (setPurge b s).dou.armed = s.dou.armed ∧ (setPurge b s).dou.gateTimer = s.dou.gateTimer ∧
    (setPurge b s).dou.estop = s.dou.estop ∧ (setPurge b s).dou.guardIn = s.dou.guardIn := by
  simp only [setPurge, driveOn]; (repeat' split) <;> simp
@[simp] theorem setPrinter_parts (code : Option (List Byte)) (s : State) :
    (setPrinter code s).dou.infeed = s.dou.infeed ∧ (setPrinter code s).dou.accum = s.dou.accum ∧
    (setPrinter code s).dou.outfeed = s.dou.outfeed ∧ (setPrinter code s).dou.blade = s.dou.blade ∧
    (setPrinter code s).dou.gate = s.dou.gate ∧ (setPrinter code s).dou.pusher = s.dou.pusher ∧
    (setPrinter code s).dou.flap = s.dou.flap ∧ (setPrinter code s).dou.tyer = s.dou.tyer ∧
    (setPrinter code s).dou.bagBlast = s.dou.bagBlast ∧ (setPrinter code s).dou.purge = s.dou.purge ∧
    (setPrinter code s).dou.knife = s.dou.knife ∧ (setPrinter code s).dou.shaker = s.dou.shaker ∧
    (setPrinter code s).dou.armed = s.dou.armed ∧ (setPrinter code s).dou.gateTimer = s.dou.gateTimer ∧
    (setPrinter code s).dou.estop = s.dou.estop ∧ (setPrinter code s).dou.guardIn = s.dou.guardIn := by
  simp only [setPrinter, driveOn]; (repeat' split) <;> simp
@[simp] theorem setConveyors_parts (b : Bool) (s : State) :
    (setConveyors b s).dou.infeed = s.dou.infeed ∧ (setConveyors b s).dou.blade = s.dou.blade ∧
    (setConveyors b s).dou.gate = s.dou.gate ∧ (setConveyors b s).dou.pusher = s.dou.pusher ∧
    (setConveyors b s).dou.flap = s.dou.flap ∧ (setConveyors b s).dou.tyer = s.dou.tyer ∧
    (setConveyors b s).dou.printer = s.dou.printer ∧ (setConveyors b s).dou.bagBlast = s.dou.bagBlast ∧
    (setConveyors b s).dou.purge = s.dou.purge ∧ (setConveyors b s).dou.knife = s.dou.knife ∧
    (setConveyors b s).dou.shaker = s.dou.shaker ∧ (setConveyors b s).dou.armed = s.dou.armed ∧
    (setConveyors b s).dou.gateTimer = s.dou.gateTimer ∧ (setConveyors b s).dou.estop = s.dou.estop ∧
    (setConveyors b s).dou.guardIn = s.dou.guardIn := by
  simp only [setConveyors]; (repeat' split) <;> simp
@[simp] theorem dropOutputs_parts (s : State) :
    (dropOutputs s).dou.estop = s.dou.estop ∧ (dropOutputs s).dou.guardIn = s.dou.guardIn := by
  simp [dropOutputs, DriveUnit.dropped]
@[simp] theorem inputTaken_parts (k : FaultKind) (was : Bool) (now : Bool) (s : State) :
    (inputTaken k was now s).tu.closeBuffer = s.tu.closeBuffer ∧
    (inputTaken k was now s).tu.totalsSet = s.tu.totalsSet := by
  simp only [inputTaken]; (repeat' split) <;> simp
@[simp] theorem evalBagLow_parts (s : State) :
    (evalBagLow s).mbc.bagger = s.mbc.bagger ∧ (evalBagLow s).mbc.route = s.mbc.route ∧
    (evalBagLow s).mbc.selected = s.mbc.selected ∧ (evalBagLow s).mbc.lastServed = s.mbc.lastServed ∧
    (evalBagLow s).mbc.phase = s.mbc.phase ∧ (evalBagLow s).mbc.strokeTimer = s.mbc.strokeTimer ∧
    (evalBagLow s).mbc.flapTimer = s.mbc.flapTimer ∧ (evalBagLow s).mbc.openTimer = s.mbc.openTimer ∧
    (evalBagLow s).mbc.confirmWatch = s.mbc.confirmWatch ∧ (evalBagLow s).mbc.confirmed = s.mbc.confirmed ∧
    (evalBagLow s).mbc.blast = s.mbc.blast ∧ (evalBagLow s).mbc.stopped = s.mbc.stopped ∧
    (evalBagLow s).mbc.bagCount = s.mbc.bagCount ∧ (evalBagLow s).tu.closeBuffer = s.tu.closeBuffer ∧
    (evalBagLow s).tu.totalsSet = s.tu.totalsSet := by
  simp only [evalBagLow]; (repeat' split) <;> simp
@[simp] theorem evalClipLow_parts (s : State) :
    (evalClipLow s).tsc.tyer = s.tsc.tyer ∧ (evalClipLow s).tsc.purge = s.tsc.purge ∧
    (evalClipLow s).tsc.phaseTimer = s.tsc.phaseTimer ∧ (evalClipLow s).tsc.tieTimer = s.tsc.tieTimer ∧
    (evalClipLow s).tsc.leftHome = s.tsc.leftHome ∧ (evalClipLow s).tsc.code = s.tsc.code ∧
    (evalClipLow s).tsc.tiesSincePurge = s.tsc.tiesSincePurge ∧ (evalClipLow s).tsc.clipCount = s.tsc.clipCount ∧
    (evalClipLow s).tu.closeBuffer = s.tu.closeBuffer ∧ (evalClipLow s).tu.totalsSet = s.tu.totalsSet := by
  simp only [evalClipLow]; (repeat' split) <;> simp
@[simp] theorem setBagCount_parts (n : Nat) (s : State) :
    (setBagCount n s).mbc.bagger = s.mbc.bagger ∧ (setBagCount n s).mbc.route = s.mbc.route ∧
    (setBagCount n s).mbc.selected = s.mbc.selected ∧ (setBagCount n s).mbc.lastServed = s.mbc.lastServed ∧
    (setBagCount n s).mbc.phase = s.mbc.phase ∧ (setBagCount n s).mbc.strokeTimer = s.mbc.strokeTimer ∧
    (setBagCount n s).mbc.flapTimer = s.mbc.flapTimer ∧ (setBagCount n s).mbc.openTimer = s.mbc.openTimer ∧
    (setBagCount n s).mbc.confirmWatch = s.mbc.confirmWatch ∧ (setBagCount n s).mbc.confirmed = s.mbc.confirmed ∧
    (setBagCount n s).mbc.blast = s.mbc.blast ∧ (setBagCount n s).mbc.stopped = s.mbc.stopped ∧
    (setBagCount n s).tu.closeBuffer = s.tu.closeBuffer ∧ (setBagCount n s).tu.totalsSet = s.tu.totalsSet := by
  simp only [setBagCount]; (repeat' split) <;> simp
@[simp] theorem setClipCount_parts (n : Nat) (s : State) :
    (setClipCount n s).tsc.tyer = s.tsc.tyer ∧ (setClipCount n s).tsc.purge = s.tsc.purge ∧
    (setClipCount n s).tsc.phaseTimer = s.tsc.phaseTimer ∧ (setClipCount n s).tsc.tieTimer = s.tsc.tieTimer ∧
    (setClipCount n s).tsc.leftHome = s.tsc.leftHome ∧ (setClipCount n s).tsc.code = s.tsc.code ∧
    (setClipCount n s).tsc.tiesSincePurge = s.tsc.tiesSincePurge ∧
    (setClipCount n s).tu.closeBuffer = s.tu.closeBuffer ∧ (setClipCount n s).tu.totalsSet = s.tu.totalsSet := by
  simp only [setClipCount]; (repeat' split) <;> simp
@[simp] theorem setWaiting_parts (r : Requester) (c : Option AirChannel) (s : State) :
    (setWaiting r c s).ama.holder = s.ama.holder ∧ (setWaiting r c s).ama.pressureLow = s.ama.pressureLow ∧
    (setWaiting r c s).ama.lastKnife = s.ama.lastKnife := by
  simp only [setWaiting]; (repeat' split) <;> simp
@[simp] theorem setHolder_parts (c : AirChannel) (r : Option Requester) (s : State) :
    (setHolder c r s).ama.waiting = s.ama.waiting ∧ (setHolder c r s).ama.pressureLow = s.ama.pressureLow ∧
    (setHolder c r s).ama.lastKnife = s.ama.lastKnife := by
  simp only [setHolder]; (repeat' split) <;> simp
@[simp] theorem enterBlowing_parts (l : Lane) (shakerOnly : Bool) (s : State) :
    (enterBlowing l shakerOnly s).dou.infeed = s.dou.infeed ∧ (enterBlowing l shakerOnly s).dou.accum = s.dou.accum ∧
    (enterBlowing l shakerOnly s).dou.outfeed = s.dou.outfeed ∧
    (enterBlowing l shakerOnly s).dou.blade = s.dou.blade ∧ (enterBlowing l shakerOnly s).dou.gate = s.dou.gate ∧
    (enterBlowing l shakerOnly s).dou.pusher = s.dou.pusher ∧ (enterBlowing l shakerOnly s).dou.flap = s.dou.flap ∧
    (enterBlowing l shakerOnly s).dou.tyer = s.dou.tyer ∧ (enterBlowing l shakerOnly s).dou.printer = s.dou.printer ∧
    (enterBlowing l shakerOnly s).dou.bagBlast = s.dou.bagBlast ∧
    (enterBlowing l shakerOnly s).dou.purge = s.dou.purge ∧ (enterBlowing l shakerOnly s).dou.armed = s.dou.armed ∧
    (enterBlowing l shakerOnly s).dou.gateTimer = s.dou.gateTimer ∧
    (enterBlowing l shakerOnly s).dou.estop = s.dou.estop ∧
    (enterBlowing l shakerOnly s).dou.guardIn = s.dou.guardIn := by
  simp only [enterBlowing]; (repeat' split) <;> simp
@[simp] theorem openBag_parts (s : State) :
    (openBag s).dou.infeed = s.dou.infeed ∧ (openBag s).dou.accum = s.dou.accum ∧
    (openBag s).dou.outfeed = s.dou.outfeed ∧ (openBag s).dou.blade = s.dou.blade ∧
    (openBag s).dou.gate = s.dou.gate ∧ (openBag s).dou.pusher = s.dou.pusher ∧ (openBag s).dou.flap = s.dou.flap ∧
    (openBag s).dou.tyer = s.dou.tyer ∧ (openBag s).dou.printer = s.dou.printer ∧
    (openBag s).dou.purge = s.dou.purge ∧ (openBag s).dou.knife = s.dou.knife ∧
    (openBag s).dou.shaker = s.dou.shaker ∧ (openBag s).dou.armed = s.dou.armed ∧
    (openBag s).dou.gateTimer = s.dou.gateTimer ∧ (openBag s).dou.estop = s.dou.estop ∧
    (openBag s).dou.guardIn = s.dou.guardIn ∧ (openBag s).mbc.route = s.mbc.route ∧
    (openBag s).mbc.selected = s.mbc.selected ∧ (openBag s).mbc.lastServed = s.mbc.lastServed ∧
    (openBag s).mbc.phase = s.mbc.phase ∧ (openBag s).mbc.strokeTimer = s.mbc.strokeTimer ∧
    (openBag s).mbc.flapTimer = s.mbc.flapTimer ∧ (openBag s).mbc.confirmWatch = s.mbc.confirmWatch ∧
    (openBag s).mbc.confirmed = s.mbc.confirmed ∧ (openBag s).mbc.stopped = s.mbc.stopped ∧
    (openBag s).tu.closeBuffer = s.tu.closeBuffer ∧ (openBag s).tu.totalsSet = s.tu.totalsSet := by
  simp only [openBag]; (repeat' split) <;> simp
@[simp] theorem waitForBags_parts (s : State) :
    (waitForBags s).mbc.route = s.mbc.route ∧ (waitForBags s).mbc.selected = s.mbc.selected ∧
    (waitForBags s).mbc.lastServed = s.mbc.lastServed ∧ (waitForBags s).mbc.phase = s.mbc.phase ∧
    (waitForBags s).mbc.strokeTimer = s.mbc.strokeTimer ∧ (waitForBags s).mbc.flapTimer = s.mbc.flapTimer ∧
    (waitForBags s).mbc.openTimer = s.mbc.openTimer ∧ (waitForBags s).mbc.confirmWatch = s.mbc.confirmWatch ∧
    (waitForBags s).mbc.confirmed = s.mbc.confirmed ∧ (waitForBags s).mbc.blast = s.mbc.blast ∧
    (waitForBags s).mbc.stopped = s.mbc.stopped ∧ (waitForBags s).mbc.bagCount = s.mbc.bagCount ∧
    (waitForBags s).mbc.bagLow = s.mbc.bagLow ∧ (waitForBags s).tu.closeBuffer = s.tu.closeBuffer ∧
    (waitForBags s).tu.totalsSet = s.tu.totalsSet := by
  simp only [waitForBags]; (repeat' split) <;> simp
@[simp] theorem startPurge_parts (s : State) :
    (startPurge s).dou.infeed = s.dou.infeed ∧ (startPurge s).dou.accum = s.dou.accum ∧
    (startPurge s).dou.outfeed = s.dou.outfeed ∧ (startPurge s).dou.blade = s.dou.blade ∧
    (startPurge s).dou.gate = s.dou.gate ∧ (startPurge s).dou.pusher = s.dou.pusher ∧
    (startPurge s).dou.flap = s.dou.flap ∧ (startPurge s).dou.tyer = s.dou.tyer ∧
    (startPurge s).dou.printer = s.dou.printer ∧ (startPurge s).dou.bagBlast = s.dou.bagBlast ∧
    (startPurge s).dou.knife = s.dou.knife ∧ (startPurge s).dou.shaker = s.dou.shaker ∧
    (startPurge s).dou.armed = s.dou.armed ∧ (startPurge s).dou.gateTimer = s.dou.gateTimer ∧
    (startPurge s).dou.estop = s.dou.estop ∧ (startPurge s).dou.guardIn = s.dou.guardIn ∧
    (startPurge s).tsc.tyer = s.tsc.tyer ∧ (startPurge s).tsc.phaseTimer = s.tsc.phaseTimer ∧
    (startPurge s).tsc.tieTimer = s.tsc.tieTimer ∧ (startPurge s).tsc.leftHome = s.tsc.leftHome ∧
    (startPurge s).tsc.code = s.tsc.code ∧ (startPurge s).tsc.tiesSincePurge = s.tsc.tiesSincePurge ∧
    (startPurge s).tsc.clipCount = s.tsc.clipCount ∧ (startPurge s).tsc.clipLow = s.tsc.clipLow := by
  simp only [startPurge]; (repeat' split) <;> simp
@[simp] theorem becomeHolder_parts (r : Requester) (c : AirChannel) (s : State) :
    (becomeHolder r c s).ama.pressureLow = s.ama.pressureLow := by
  simp only [becomeHolder]; (repeat' split) <;> simp
@[simp] theorem grantOther_parts (r : Requester) (c : AirChannel) (s : State) :
    (grantOther r c s).dou.infeed = s.dou.infeed ∧ (grantOther r c s).dou.accum = s.dou.accum ∧
    (grantOther r c s).dou.outfeed = s.dou.outfeed ∧ (grantOther r c s).dou.blade = s.dou.blade ∧
    (grantOther r c s).dou.gate = s.dou.gate ∧ (grantOther r c s).dou.pusher = s.dou.pusher ∧
    (grantOther r c s).dou.flap = s.dou.flap ∧ (grantOther r c s).dou.tyer = s.dou.tyer ∧
    (grantOther r c s).dou.printer = s.dou.printer ∧ (grantOther r c s).dou.bagBlast = s.dou.bagBlast ∧
    (grantOther r c s).dou.armed = s.dou.armed ∧ (grantOther r c s).dou.gateTimer = s.dou.gateTimer ∧
    (grantOther r c s).dou.estop = s.dou.estop ∧ (grantOther r c s).dou.guardIn = s.dou.guardIn ∧
    (grantOther r c s).tsc.tyer = s.tsc.tyer ∧ (grantOther r c s).tsc.phaseTimer = s.tsc.phaseTimer ∧
    (grantOther r c s).tsc.tieTimer = s.tsc.tieTimer ∧ (grantOther r c s).tsc.leftHome = s.tsc.leftHome ∧
    (grantOther r c s).tsc.code = s.tsc.code ∧ (grantOther r c s).tsc.tiesSincePurge = s.tsc.tiesSincePurge ∧
    (grantOther r c s).tsc.clipCount = s.tsc.clipCount ∧ (grantOther r c s).tsc.clipLow = s.tsc.clipLow ∧
    (grantOther r c s).ama.pressureLow = s.ama.pressureLow := by
  simp only [grantOther]; (repeat' split) <;> simp
@[simp] theorem grantAfterBag_parts (c : AirChannel) (s : State) :
    (grantAfterBag c s).dou.infeed = s.dou.infeed ∧ (grantAfterBag c s).dou.accum = s.dou.accum ∧
    (grantAfterBag c s).dou.outfeed = s.dou.outfeed ∧ (grantAfterBag c s).dou.blade = s.dou.blade ∧
    (grantAfterBag c s).dou.gate = s.dou.gate ∧ (grantAfterBag c s).dou.pusher = s.dou.pusher ∧
    (grantAfterBag c s).dou.flap = s.dou.flap ∧ (grantAfterBag c s).dou.tyer = s.dou.tyer ∧
    (grantAfterBag c s).dou.printer = s.dou.printer ∧ (grantAfterBag c s).dou.bagBlast = s.dou.bagBlast ∧
    (grantAfterBag c s).dou.armed = s.dou.armed ∧ (grantAfterBag c s).dou.gateTimer = s.dou.gateTimer ∧
    (grantAfterBag c s).dou.estop = s.dou.estop ∧ (grantAfterBag c s).dou.guardIn = s.dou.guardIn ∧
    (grantAfterBag c s).tsc.tyer = s.tsc.tyer ∧ (grantAfterBag c s).tsc.phaseTimer = s.tsc.phaseTimer ∧
    (grantAfterBag c s).tsc.tieTimer = s.tsc.tieTimer ∧ (grantAfterBag c s).tsc.leftHome = s.tsc.leftHome ∧
    (grantAfterBag c s).tsc.code = s.tsc.code ∧ (grantAfterBag c s).tsc.tiesSincePurge = s.tsc.tiesSincePurge ∧
    (grantAfterBag c s).tsc.clipCount = s.tsc.clipCount ∧ (grantAfterBag c s).tsc.clipLow = s.tsc.clipLow ∧
    (grantAfterBag c s).ama.pressureLow = s.ama.pressureLow := by
  simp only [grantAfterBag]; (repeat' split) <;> simp
@[simp] theorem grantBag_parts (c : AirChannel) (s : State) :
    (grantBag c s).dou.infeed = s.dou.infeed ∧ (grantBag c s).dou.accum = s.dou.accum ∧
    (grantBag c s).dou.outfeed = s.dou.outfeed ∧ (grantBag c s).dou.blade = s.dou.blade ∧
    (grantBag c s).dou.gate = s.dou.gate ∧ (grantBag c s).dou.pusher = s.dou.pusher ∧
    (grantBag c s).dou.flap = s.dou.flap ∧ (grantBag c s).dou.tyer = s.dou.tyer ∧
    (grantBag c s).dou.printer = s.dou.printer ∧ (grantBag c s).dou.armed = s.dou.armed ∧
    (grantBag c s).dou.gateTimer = s.dou.gateTimer ∧ (grantBag c s).dou.estop = s.dou.estop ∧
    (grantBag c s).dou.guardIn = s.dou.guardIn ∧ (grantBag c s).mbc.route = s.mbc.route ∧
    (grantBag c s).mbc.selected = s.mbc.selected ∧ (grantBag c s).mbc.lastServed = s.mbc.lastServed ∧
    (grantBag c s).mbc.phase = s.mbc.phase ∧ (grantBag c s).mbc.strokeTimer = s.mbc.strokeTimer ∧
    (grantBag c s).mbc.flapTimer = s.mbc.flapTimer ∧ (grantBag c s).mbc.confirmWatch = s.mbc.confirmWatch ∧
    (grantBag c s).mbc.confirmed = s.mbc.confirmed ∧ (grantBag c s).mbc.stopped = s.mbc.stopped ∧
    (grantBag c s).tsc.tyer = s.tsc.tyer ∧ (grantBag c s).tsc.phaseTimer = s.tsc.phaseTimer ∧
    (grantBag c s).tsc.tieTimer = s.tsc.tieTimer ∧ (grantBag c s).tsc.leftHome = s.tsc.leftHome ∧
    (grantBag c s).tsc.code = s.tsc.code ∧ (grantBag c s).tsc.tiesSincePurge = s.tsc.tiesSincePurge ∧
    (grantBag c s).tsc.clipCount = s.tsc.clipCount ∧ (grantBag c s).tsc.clipLow = s.tsc.clipLow ∧
    (grantBag c s).ama.pressureLow = s.ama.pressureLow ∧ (grantBag c s).tu.closeBuffer = s.tu.closeBuffer ∧
    (grantBag c s).tu.totalsSet = s.tu.totalsSet := by
  simp only [grantBag]; (repeat' split) <;> simp
@[simp] theorem grantNext_parts (c : AirChannel) (s : State) :
    (grantNext c s).dou.infeed = s.dou.infeed ∧ (grantNext c s).dou.accum = s.dou.accum ∧
    (grantNext c s).dou.outfeed = s.dou.outfeed ∧ (grantNext c s).dou.blade = s.dou.blade ∧
    (grantNext c s).dou.gate = s.dou.gate ∧ (grantNext c s).dou.pusher = s.dou.pusher ∧
    (grantNext c s).dou.flap = s.dou.flap ∧ (grantNext c s).dou.tyer = s.dou.tyer ∧
    (grantNext c s).dou.printer = s.dou.printer ∧ (grantNext c s).dou.armed = s.dou.armed ∧
    (grantNext c s).dou.gateTimer = s.dou.gateTimer ∧ (grantNext c s).dou.estop = s.dou.estop ∧
    (grantNext c s).dou.guardIn = s.dou.guardIn ∧ (grantNext c s).mbc.route = s.mbc.route ∧
    (grantNext c s).mbc.selected = s.mbc.selected ∧ (grantNext c s).mbc.lastServed = s.mbc.lastServed ∧
    (grantNext c s).mbc.phase = s.mbc.phase ∧ (grantNext c s).mbc.strokeTimer = s.mbc.strokeTimer ∧
    (grantNext c s).mbc.flapTimer = s.mbc.flapTimer ∧ (grantNext c s).mbc.confirmWatch = s.mbc.confirmWatch ∧
    (grantNext c s).mbc.confirmed = s.mbc.confirmed ∧ (grantNext c s).mbc.stopped = s.mbc.stopped ∧
    (grantNext c s).tsc.tyer = s.tsc.tyer ∧ (grantNext c s).tsc.phaseTimer = s.tsc.phaseTimer ∧
    (grantNext c s).tsc.tieTimer = s.tsc.tieTimer ∧ (grantNext c s).tsc.leftHome = s.tsc.leftHome ∧
    (grantNext c s).tsc.code = s.tsc.code ∧ (grantNext c s).tsc.tiesSincePurge = s.tsc.tiesSincePurge ∧
    (grantNext c s).tsc.clipCount = s.tsc.clipCount ∧ (grantNext c s).tsc.clipLow = s.tsc.clipLow ∧
    (grantNext c s).ama.pressureLow = s.ama.pressureLow ∧ (grantNext c s).tu.closeBuffer = s.tu.closeBuffer ∧
    (grantNext c s).tu.totalsSet = s.tu.totalsSet := by
  simp only [grantNext]; (repeat' split) <;> simp
@[simp] theorem grantTo_parts (r : Requester) (c : AirChannel) (s : State) :
    (grantTo r c s).dou.infeed = s.dou.infeed ∧ (grantTo r c s).dou.accum = s.dou.accum ∧
    (grantTo r c s).dou.outfeed = s.dou.outfeed ∧ (grantTo r c s).dou.blade = s.dou.blade ∧
    (grantTo r c s).dou.gate = s.dou.gate ∧ (grantTo r c s).dou.pusher = s.dou.pusher ∧
    (grantTo r c s).dou.flap = s.dou.flap ∧ (grantTo r c s).dou.tyer = s.dou.tyer ∧
    (grantTo r c s).dou.printer = s.dou.printer ∧ (grantTo r c s).dou.armed = s.dou.armed ∧
    (grantTo r c s).dou.gateTimer = s.dou.gateTimer ∧ (grantTo r c s).dou.estop = s.dou.estop ∧
    (grantTo r c s).dou.guardIn = s.dou.guardIn ∧ (grantTo r c s).mbc.route = s.mbc.route ∧
    (grantTo r c s).mbc.selected = s.mbc.selected ∧ (grantTo r c s).mbc.lastServed = s.mbc.lastServed ∧
    (grantTo r c s).mbc.phase = s.mbc.phase ∧ (grantTo r c s).mbc.strokeTimer = s.mbc.strokeTimer ∧
    (grantTo r c s).mbc.flapTimer = s.mbc.flapTimer ∧ (grantTo r c s).mbc.confirmWatch = s.mbc.confirmWatch ∧
    (grantTo r c s).mbc.confirmed = s.mbc.confirmed ∧ (grantTo r c s).mbc.stopped = s.mbc.stopped ∧
    (grantTo r c s).tsc.tyer = s.tsc.tyer ∧ (grantTo r c s).tsc.phaseTimer = s.tsc.phaseTimer ∧
    (grantTo r c s).tsc.tieTimer = s.tsc.tieTimer ∧ (grantTo r c s).tsc.leftHome = s.tsc.leftHome ∧
    (grantTo r c s).tsc.code = s.tsc.code ∧ (grantTo r c s).tsc.tiesSincePurge = s.tsc.tiesSincePurge ∧
    (grantTo r c s).tsc.clipCount = s.tsc.clipCount ∧ (grantTo r c s).tsc.clipLow = s.tsc.clipLow ∧
    (grantTo r c s).ama.pressureLow = s.ama.pressureLow ∧ (grantTo r c s).tu.closeBuffer = s.tu.closeBuffer ∧
    (grantTo r c s).tu.totalsSet = s.tu.totalsSet := by
  simp only [grantTo]; (repeat' split) <;> simp
@[simp] theorem airRequest_parts (r : Requester) (s : State) :
    (airRequest r s).dou.infeed = s.dou.infeed ∧ (airRequest r s).dou.accum = s.dou.accum ∧
    (airRequest r s).dou.outfeed = s.dou.outfeed ∧ (airRequest r s).dou.blade = s.dou.blade ∧
    (airRequest r s).dou.gate = s.dou.gate ∧ (airRequest r s).dou.pusher = s.dou.pusher ∧
    (airRequest r s).dou.flap = s.dou.flap ∧ (airRequest r s).dou.tyer = s.dou.tyer ∧
    (airRequest r s).dou.printer = s.dou.printer ∧ (airRequest r s).dou.armed = s.dou.armed ∧
    (airRequest r s).dou.gateTimer = s.dou.gateTimer ∧ (airRequest r s).dou.estop = s.dou.estop ∧
    (airRequest r s).dou.guardIn = s.dou.guardIn ∧ (airRequest r s).mbc.route = s.mbc.route ∧
    (airRequest r s).mbc.selected = s.mbc.selected ∧ (airRequest r s).mbc.lastServed = s.mbc.lastServed ∧
    (airRequest r s).mbc.phase = s.mbc.phase ∧ (airRequest r s).mbc.strokeTimer = s.mbc.strokeTimer ∧
    (airRequest r s).mbc.flapTimer = s.mbc.flapTimer ∧ (airRequest r s).mbc.confirmWatch = s.mbc.confirmWatch ∧
    (airRequest r s).mbc.confirmed = s.mbc.confirmed ∧ (airRequest r s).mbc.stopped = s.mbc.stopped ∧
    (airRequest r s).tsc.tyer = s.tsc.tyer ∧ (airRequest r s).tsc.phaseTimer = s.tsc.phaseTimer ∧
    (airRequest r s).tsc.tieTimer = s.tsc.tieTimer ∧ (airRequest r s).tsc.leftHome = s.tsc.leftHome ∧
    (airRequest r s).tsc.code = s.tsc.code ∧ (airRequest r s).tsc.tiesSincePurge = s.tsc.tiesSincePurge ∧
    (airRequest r s).tsc.clipCount = s.tsc.clipCount ∧ (airRequest r s).tsc.clipLow = s.tsc.clipLow ∧
    (airRequest r s).ama.pressureLow = s.ama.pressureLow ∧ (airRequest r s).tu.closeBuffer = s.tu.closeBuffer ∧
    (airRequest r s).tu.totalsSet = s.tu.totalsSet := by
  simp only [airRequest]; (repeat' split) <;> simp
@[simp] theorem releaseChannel_parts (c : AirChannel) (s : State) :
    (releaseChannel c s).dou.infeed = s.dou.infeed ∧ (releaseChannel c s).dou.accum = s.dou.accum ∧
    (releaseChannel c s).dou.outfeed = s.dou.outfeed ∧ (releaseChannel c s).dou.blade = s.dou.blade ∧
    (releaseChannel c s).dou.gate = s.dou.gate ∧ (releaseChannel c s).dou.pusher = s.dou.pusher ∧
    (releaseChannel c s).dou.flap = s.dou.flap ∧ (releaseChannel c s).dou.tyer = s.dou.tyer ∧
    (releaseChannel c s).dou.printer = s.dou.printer ∧ (releaseChannel c s).dou.armed = s.dou.armed ∧
    (releaseChannel c s).dou.gateTimer = s.dou.gateTimer ∧ (releaseChannel c s).dou.estop = s.dou.estop ∧
    (releaseChannel c s).dou.guardIn = s.dou.guardIn ∧ (releaseChannel c s).mbc.route = s.mbc.route ∧
    (releaseChannel c s).mbc.selected = s.mbc.selected ∧ (releaseChannel c s).mbc.lastServed = s.mbc.lastServed ∧
    (releaseChannel c s).mbc.phase = s.mbc.phase ∧ (releaseChannel c s).mbc.strokeTimer = s.mbc.strokeTimer ∧
    (releaseChannel c s).mbc.flapTimer = s.mbc.flapTimer ∧
    (releaseChannel c s).mbc.confirmWatch = s.mbc.confirmWatch ∧
    (releaseChannel c s).mbc.confirmed = s.mbc.confirmed ∧ (releaseChannel c s).mbc.stopped = s.mbc.stopped ∧
    (releaseChannel c s).tsc.tyer = s.tsc.tyer ∧ (releaseChannel c s).tsc.phaseTimer = s.tsc.phaseTimer ∧
    (releaseChannel c s).tsc.tieTimer = s.tsc.tieTimer ∧ (releaseChannel c s).tsc.leftHome = s.tsc.leftHome ∧
    (releaseChannel c s).tsc.code = s.tsc.code ∧ (releaseChannel c s).tsc.tiesSincePurge = s.tsc.tiesSincePurge ∧
    (releaseChannel c s).tsc.clipCount = s.tsc.clipCount ∧ (releaseChannel c s).tsc.clipLow = s.tsc.clipLow ∧
    (releaseChannel c s).ama.pressureLow = s.ama.pressureLow ∧
    (releaseChannel c s).tu.closeBuffer = s.tu.closeBuffer ∧ (releaseChannel c s).tu.totalsSet = s.tu.totalsSet := by
  simp only [releaseChannel]; (repeat' split) <;> simp
@[simp] theorem airRelease_parts (r : Requester) (s : State) :
    (airRelease r s).dou.infeed = s.dou.infeed ∧ (airRelease r s).dou.accum = s.dou.accum ∧
    (airRelease r s).dou.outfeed = s.dou.outfeed ∧ (airRelease r s).dou.blade = s.dou.blade ∧
    (airRelease r s).dou.gate = s.dou.gate ∧ (airRelease r s).dou.pusher = s.dou.pusher ∧
    (airRelease r s).dou.flap = s.dou.flap ∧ (airRelease r s).dou.tyer = s.dou.tyer ∧
    (airRelease r s).dou.printer = s.dou.printer ∧ (airRelease r s).dou.armed = s.dou.armed ∧
    (airRelease r s).dou.gateTimer = s.dou.gateTimer ∧ (airRelease r s).dou.estop = s.dou.estop ∧
    (airRelease r s).dou.guardIn = s.dou.guardIn ∧ (airRelease r s).mbc.route = s.mbc.route ∧
    (airRelease r s).mbc.selected = s.mbc.selected ∧ (airRelease r s).mbc.lastServed = s.mbc.lastServed ∧
    (airRelease r s).mbc.phase = s.mbc.phase ∧ (airRelease r s).mbc.strokeTimer = s.mbc.strokeTimer ∧
    (airRelease r s).mbc.flapTimer = s.mbc.flapTimer ∧ (airRelease r s).mbc.confirmWatch = s.mbc.confirmWatch ∧
    (airRelease r s).mbc.confirmed = s.mbc.confirmed ∧ (airRelease r s).mbc.stopped = s.mbc.stopped ∧
    (airRelease r s).tsc.tyer = s.tsc.tyer ∧ (airRelease r s).tsc.phaseTimer = s.tsc.phaseTimer ∧
    (airRelease r s).tsc.tieTimer = s.tsc.tieTimer ∧ (airRelease r s).tsc.leftHome = s.tsc.leftHome ∧
    (airRelease r s).tsc.code = s.tsc.code ∧ (airRelease r s).tsc.tiesSincePurge = s.tsc.tiesSincePurge ∧
    (airRelease r s).tsc.clipCount = s.tsc.clipCount ∧ (airRelease r s).tsc.clipLow = s.tsc.clipLow ∧
    (airRelease r s).ama.pressureLow = s.ama.pressureLow ∧ (airRelease r s).tu.closeBuffer = s.tu.closeBuffer ∧
    (airRelease r s).tu.totalsSet = s.tu.totalsSet := by
  simp only [airRelease]; (repeat' split) <;> simp
@[simp] theorem airWithdraw_parts (r : Requester) (s : State) :
    (airWithdraw r s).dou.infeed = s.dou.infeed ∧ (airWithdraw r s).dou.accum = s.dou.accum ∧
    (airWithdraw r s).dou.outfeed = s.dou.outfeed ∧ (airWithdraw r s).dou.blade = s.dou.blade ∧
    (airWithdraw r s).dou.gate = s.dou.gate ∧ (airWithdraw r s).dou.pusher = s.dou.pusher ∧
    (airWithdraw r s).dou.flap = s.dou.flap ∧ (airWithdraw r s).dou.tyer = s.dou.tyer ∧
    (airWithdraw r s).dou.printer = s.dou.printer ∧ (airWithdraw r s).dou.armed = s.dou.armed ∧
    (airWithdraw r s).dou.gateTimer = s.dou.gateTimer ∧ (airWithdraw r s).dou.estop = s.dou.estop ∧
    (airWithdraw r s).dou.guardIn = s.dou.guardIn ∧ (airWithdraw r s).mbc.route = s.mbc.route ∧
    (airWithdraw r s).mbc.selected = s.mbc.selected ∧ (airWithdraw r s).mbc.lastServed = s.mbc.lastServed ∧
    (airWithdraw r s).mbc.phase = s.mbc.phase ∧ (airWithdraw r s).mbc.strokeTimer = s.mbc.strokeTimer ∧
    (airWithdraw r s).mbc.flapTimer = s.mbc.flapTimer ∧ (airWithdraw r s).mbc.confirmWatch = s.mbc.confirmWatch ∧
    (airWithdraw r s).mbc.confirmed = s.mbc.confirmed ∧ (airWithdraw r s).mbc.stopped = s.mbc.stopped ∧
    (airWithdraw r s).tsc.tyer = s.tsc.tyer ∧ (airWithdraw r s).tsc.phaseTimer = s.tsc.phaseTimer ∧
    (airWithdraw r s).tsc.tieTimer = s.tsc.tieTimer ∧ (airWithdraw r s).tsc.leftHome = s.tsc.leftHome ∧
    (airWithdraw r s).tsc.code = s.tsc.code ∧ (airWithdraw r s).tsc.tiesSincePurge = s.tsc.tiesSincePurge ∧
    (airWithdraw r s).tsc.clipCount = s.tsc.clipCount ∧ (airWithdraw r s).tsc.clipLow = s.tsc.clipLow ∧
    (airWithdraw r s).ama.pressureLow = s.ama.pressureLow ∧ (airWithdraw r s).tu.closeBuffer = s.tu.closeBuffer ∧
    (airWithdraw r s).tu.totalsSet = s.tu.totalsSet := by
  simp only [airWithdraw]; (repeat' split) <;> simp
@[simp] theorem steer_parts (r : Requester) (e : Steer) (s : State) :
    (steer r e s).dou.infeed = s.dou.infeed ∧ (steer r e s).dou.accum = s.dou.accum ∧
    (steer r e s).dou.outfeed = s.dou.outfeed ∧ (steer r e s).dou.blade = s.dou.blade ∧
    (steer r e s).dou.gate = s.dou.gate ∧ (steer r e s).dou.pusher = s.dou.pusher ∧
    (steer r e s).dou.flap = s.dou.flap ∧ (steer r e s).dou.tyer = s.dou.tyer ∧
    (steer r e s).dou.printer = s.dou.printer ∧ (steer r e s).dou.armed = s.dou.armed ∧
    (steer r e s).dou.gateTimer = s.dou.gateTimer ∧ (steer r e s).dou.estop = s.dou.estop ∧
    (steer r e s).dou.guardIn = s.dou.guardIn ∧ (steer r e s).mbc.route = s.mbc.route ∧
    (steer r e s).mbc.selected = s.mbc.selected ∧ (steer r e s).mbc.lastServed = s.mbc.lastServed ∧
    (steer r e s).mbc.phase = s.mbc.phase ∧ (steer r e s).mbc.strokeTimer = s.mbc.strokeTimer ∧
    (steer r e s).mbc.flapTimer = s.mbc.flapTimer ∧ (steer r e s).mbc.confirmWatch = s.mbc.confirmWatch ∧
    (steer r e s).mbc.confirmed = s.mbc.confirmed ∧ (steer r e s).mbc.stopped = s.mbc.stopped ∧
    (steer r e s).tsc.tyer = s.tsc.tyer ∧ (steer r e s).tsc.phaseTimer = s.tsc.phaseTimer ∧
    (steer r e s).tsc.tieTimer = s.tsc.tieTimer ∧ (steer r e s).tsc.leftHome = s.tsc.leftHome ∧
    (steer r e s).tsc.code = s.tsc.code ∧ (steer r e s).tsc.tiesSincePurge = s.tsc.tiesSincePurge ∧
    (steer r e s).tsc.clipCount = s.tsc.clipCount ∧ (steer r e s).tsc.clipLow = s.tsc.clipLow ∧
    (steer r e s).ama.pressureLow = s.ama.pressureLow ∧ (steer r e s).tu.closeBuffer = s.tu.closeBuffer ∧
    (steer r e s).tu.totalsSet = s.tu.totalsSet := by
  simp only [steer]; (repeat' split) <;> simp
@[simp] theorem airPressure_parts (result : Nat) (s : State) :
    (airPressure result s).dou.infeed = s.dou.infeed ∧ (airPressure result s).dou.accum = s.dou.accum ∧
    (airPressure result s).dou.outfeed = s.dou.outfeed ∧ (airPressure result s).dou.blade = s.dou.blade ∧
    (airPressure result s).dou.gate = s.dou.gate ∧ (airPressure result s).dou.pusher = s.dou.pusher ∧
    (airPressure result s).dou.flap = s.dou.flap ∧ (airPressure result s).dou.tyer = s.dou.tyer ∧
    (airPressure result s).dou.printer = s.dou.printer ∧ (airPressure result s).dou.armed = s.dou.armed ∧
    (airPressure result s).dou.gateTimer = s.dou.gateTimer ∧ (airPressure result s).dou.estop = s.dou.estop ∧
    (airPressure result s).dou.guardIn = s.dou.guardIn ∧ (airPressure result s).mbc.route = s.mbc.route ∧
    (airPressure result s).mbc.selected = s.mbc.selected ∧ (airPressure result s).mbc.lastServed = s.mbc.lastServed ∧
    (airPressure result s).mbc.phase = s.mbc.phase ∧ (airPressure result s).mbc.strokeTimer = s.mbc.strokeTimer ∧
    (airPressure result s).mbc.flapTimer = s.mbc.flapTimer ∧
    (airPressure result s).mbc.confirmWatch = s.mbc.confirmWatch ∧
    (airPressure result s).mbc.confirmed = s.mbc.confirmed ∧ (airPressure result s).mbc.stopped = s.mbc.stopped ∧
    (airPressure result s).tsc.tyer = s.tsc.tyer ∧ (airPressure result s).tsc.phaseTimer = s.tsc.phaseTimer ∧
    (airPressure result s).tsc.tieTimer = s.tsc.tieTimer ∧ (airPressure result s).tsc.leftHome = s.tsc.leftHome ∧
    (airPressure result s).tsc.code = s.tsc.code ∧ (airPressure result s).tsc.tiesSincePurge = s.tsc.tiesSincePurge ∧
    (airPressure result s).tsc.clipCount = s.tsc.clipCount ∧ (airPressure result s).tsc.clipLow = s.tsc.clipLow ∧
    (airPressure result s).tu.closeBuffer = s.tu.closeBuffer ∧
    (airPressure result s).tu.totalsSet = s.tu.totalsSet := by
  simp only [airPressure]; (repeat' split) <;> simp
@[simp] theorem requestBag_parts (s : State) :
    (requestBag s).dou.infeed = s.dou.infeed ∧ (requestBag s).dou.accum = s.dou.accum ∧
    (requestBag s).dou.outfeed = s.dou.outfeed ∧ (requestBag s).dou.blade = s.dou.blade ∧
    (requestBag s).dou.gate = s.dou.gate ∧ (requestBag s).dou.pusher = s.dou.pusher ∧
    (requestBag s).dou.flap = s.dou.flap ∧ (requestBag s).dou.tyer = s.dou.tyer ∧
    (requestBag s).dou.printer = s.dou.printer ∧ (requestBag s).dou.armed = s.dou.armed ∧
    (requestBag s).dou.gateTimer = s.dou.gateTimer ∧ (requestBag s).dou.estop = s.dou.estop ∧
    (requestBag s).dou.guardIn = s.dou.guardIn ∧ (requestBag s).mbc.route = s.mbc.route ∧
    (requestBag s).mbc.selected = s.mbc.selected ∧ (requestBag s).mbc.lastServed = s.mbc.lastServed ∧
    (requestBag s).mbc.phase = s.mbc.phase ∧ (requestBag s).mbc.strokeTimer = s.mbc.strokeTimer ∧
    (requestBag s).mbc.flapTimer = s.mbc.flapTimer ∧ (requestBag s).mbc.confirmWatch = s.mbc.confirmWatch ∧
    (requestBag s).mbc.confirmed = s.mbc.confirmed ∧ (requestBag s).mbc.stopped = s.mbc.stopped ∧
    (requestBag s).tsc.tyer = s.tsc.tyer ∧ (requestBag s).tsc.phaseTimer = s.tsc.phaseTimer ∧
    (requestBag s).tsc.tieTimer = s.tsc.tieTimer ∧ (requestBag s).tsc.leftHome = s.tsc.leftHome ∧
    (requestBag s).tsc.code = s.tsc.code ∧ (requestBag s).tsc.tiesSincePurge = s.tsc.tiesSincePurge ∧
    (requestBag s).tsc.clipCount = s.tsc.clipCount ∧ (requestBag s).tsc.clipLow = s.tsc.clipLow ∧
    (requestBag s).ama.pressureLow = s.ama.pressureLow ∧ (requestBag s).tu.closeBuffer = s.tu.closeBuffer ∧
    (requestBag s).tu.totalsSet = s.tu.totalsSet := by
  simp only [requestBag]; (repeat' split) <;> simp
@[simp] theorem requestKnife_parts (l : Lane) (s : State) :
    (requestKnife l s).dou.infeed = s.dou.infeed ∧ (requestKnife l s).dou.accum = s.dou.accum ∧
    (requestKnife l s).dou.outfeed = s.dou.outfeed ∧ (requestKnife l s).dou.blade = s.dou.blade ∧
    (requestKnife l s).dou.gate = s.dou.gate ∧ (requestKnife l s).dou.pusher = s.dou.pusher ∧
    (requestKnife l s).dou.flap = s.dou.flap ∧ (requestKnife l s).dou.tyer = s.dou.tyer ∧
    (requestKnife l s).dou.printer = s.dou.printer ∧ (requestKnife l s).dou.armed = s.dou.armed ∧
    (requestKnife l s).dou.gateTimer = s.dou.gateTimer ∧ (requestKnife l s).dou.estop = s.dou.estop ∧
    (requestKnife l s).dou.guardIn = s.dou.guardIn ∧ (requestKnife l s).mbc.route = s.mbc.route ∧
    (requestKnife l s).mbc.selected = s.mbc.selected ∧ (requestKnife l s).mbc.lastServed = s.mbc.lastServed ∧
    (requestKnife l s).mbc.phase = s.mbc.phase ∧ (requestKnife l s).mbc.strokeTimer = s.mbc.strokeTimer ∧
    (requestKnife l s).mbc.flapTimer = s.mbc.flapTimer ∧ (requestKnife l s).mbc.confirmWatch = s.mbc.confirmWatch ∧
    (requestKnife l s).mbc.confirmed = s.mbc.confirmed ∧ (requestKnife l s).mbc.stopped = s.mbc.stopped ∧
    (requestKnife l s).tsc.tyer = s.tsc.tyer ∧ (requestKnife l s).tsc.phaseTimer = s.tsc.phaseTimer ∧
    (requestKnife l s).tsc.tieTimer = s.tsc.tieTimer ∧ (requestKnife l s).tsc.leftHome = s.tsc.leftHome ∧
    (requestKnife l s).tsc.code = s.tsc.code ∧ (requestKnife l s).tsc.tiesSincePurge = s.tsc.tiesSincePurge ∧
    (requestKnife l s).tsc.clipCount = s.tsc.clipCount ∧ (requestKnife l s).tsc.clipLow = s.tsc.clipLow ∧
    (requestKnife l s).ama.pressureLow = s.ama.pressureLow ∧ (requestKnife l s).tu.closeBuffer = s.tu.closeBuffer ∧
    (requestKnife l s).tu.totalsSet = s.tu.totalsSet := by
  simp only [requestKnife]; (repeat' split) <;> simp
@[simp] theorem makeGap_parts (l : Lane) (s : State) :
    (makeGap l s).dou.infeed = s.dou.infeed ∧ (makeGap l s).dou.accum = s.dou.accum ∧
    (makeGap l s).dou.outfeed = s.dou.outfeed ∧ (makeGap l s).dou.blade = s.dou.blade ∧
    (makeGap l s).dou.gate = s.dou.gate ∧ (makeGap l s).dou.pusher = s.dou.pusher ∧
    (makeGap l s).dou.flap = s.dou.flap ∧ (makeGap l s).dou.tyer = s.dou.tyer ∧
    (makeGap l s).dou.printer = s.dou.printer ∧ (makeGap l s).dou.armed = s.dou.armed ∧
    (makeGap l s).dou.gateTimer = s.dou.gateTimer ∧ (makeGap l s).dou.estop = s.dou.estop ∧
    (makeGap l s).dou.guardIn = s.dou.guardIn ∧ (makeGap l s).mbc.route = s.mbc.route ∧
    (makeGap l s).mbc.selected = s.mbc.selected ∧ (makeGap l s).mbc.lastServed = s.mbc.lastServed ∧
    (makeGap l s).mbc.phase = s.mbc.phase ∧ (makeGap l s).mbc.strokeTimer = s.mbc.strokeTimer ∧
    (makeGap l s).mbc.flapTimer = s.mbc.flapTimer ∧ (makeGap l s).mbc.confirmWatch = s.mbc.confirmWatch ∧
    (makeGap l s).mbc.confirmed = s.mbc.confirmed ∧ (makeGap l s).mbc.stopped = s.mbc.stopped ∧
    (makeGap l s).tsc.tyer = s.tsc.tyer ∧ (makeGap l s).tsc.phaseTimer = s.tsc.phaseTimer ∧
    (makeGap l s).tsc.tieTimer = s.tsc.tieTimer ∧ (makeGap l s).tsc.leftHome = s.tsc.leftHome ∧
    (makeGap l s).tsc.code = s.tsc.code ∧ (makeGap l s).tsc.tiesSincePurge = s.tsc.tiesSincePurge ∧
    (makeGap l s).tsc.clipCount = s.tsc.clipCount ∧ (makeGap l s).tsc.clipLow = s.tsc.clipLow ∧
    (makeGap l s).ama.pressureLow = s.ama.pressureLow ∧ (makeGap l s).tu.closeBuffer = s.tu.closeBuffer ∧
    (makeGap l s).tu.totalsSet = s.tu.totalsSet := by
  simp only [makeGap]; (repeat' split) <;> simp
@[simp] theorem overfullCheck_parts (l : Lane) (s : State) :
    (overfullCheck l s).tu.closeBuffer = s.tu.closeBuffer ∧ (overfullCheck l s).tu.totalsSet = s.tu.totalsSet := by
  simp only [overfullCheck]; (repeat' split) <;> simp
@[simp] theorem crumbResult_parts (l : Lane) (result : Nat) (s : State) :
    (crumbResult l result s).tu.closeBuffer = s.tu.closeBuffer ∧
    (crumbResult l result s).tu.totalsSet = s.tu.totalsSet := by
  simp only [crumbResult]; (repeat' split) <;> simp
@[simp] theorem endBlowing_parts (l : Lane) (s : State) :
    (endBlowing l s).dou.estop = s.dou.estop ∧ (endBlowing l s).dou.guardIn = s.dou.guardIn ∧
    (endBlowing l s).tt.exit = s.tt.exit ∧ (endBlowing l s).tt.nextTag = s.tt.nextTag ∧
    (endBlowing l s).tt.stuck = s.tt.stuck ∧ (endBlowing l s).tsc.tiesSincePurge = s.tsc.tiesSincePurge ∧
    (endBlowing l s).tsc.clipCount = s.tsc.clipCount ∧ (endBlowing l s).tsc.clipLow = s.tsc.clipLow ∧
    (endBlowing l s).ama.pressureLow = s.ama.pressureLow ∧ (endBlowing l s).tu.closeBuffer = s.tu.closeBuffer ∧
    (endBlowing l s).tu.totalsSet = s.tu.totalsSet ∧ (endBlowing l s).rs.cells = s.rs.cells ∧
    (endBlowing l s).rs.headers = s.rs.headers ∧ (endBlowing l s).rs.index = s.rs.index ∧
    (endBlowing l s).rs.ckpt = s.rs.ckpt ∧ (endBlowing l s).rs.lastShift = s.rs.lastShift ∧
    (endBlowing l s).rs.lastCkpt = s.rs.lastCkpt ∧ (endBlowing l s).rs.lastRecipes = s.rs.lastRecipes ∧
    (endBlowing l s).rs.findings = s.rs.findings ∧ (endBlowing l s).lsc.runMs = s.lsc.runMs ∧
    (endBlowing l s).lsc.holdMs = s.lsc.holdMs ∧ (endBlowing l s).lsc.stopMs = s.lsc.stopMs := by
  simp only [endBlowing]; (repeat' split) <;> simp
@[simp] theorem completeClear_parts (l : Lane) (s : State) :
    (completeClear l s).tu.closeBuffer = s.tu.closeBuffer ∧ (completeClear l s).tu.totalsSet = s.tu.totalsSet ∧
    (completeClear l s).ft.causes = s.ft.causes ∧ (completeClear l s).ft.raiseCounter = s.ft.raiseCounter := by
  simp only [completeClear]; (repeat' split) <;> simp
@[simp] theorem backOff_parts (l : Lane) (s : State) :
    (backOff l s).dou.infeed = s.dou.infeed ∧ (backOff l s).dou.accum = s.dou.accum ∧
    (backOff l s).dou.outfeed = s.dou.outfeed ∧ (backOff l s).dou.blade = s.dou.blade ∧
    (backOff l s).dou.gate = s.dou.gate ∧ (backOff l s).dou.pusher = s.dou.pusher ∧
    (backOff l s).dou.flap = s.dou.flap ∧ (backOff l s).dou.tyer = s.dou.tyer ∧
    (backOff l s).dou.printer = s.dou.printer ∧ (backOff l s).dou.armed = s.dou.armed ∧
    (backOff l s).dou.gateTimer = s.dou.gateTimer ∧ (backOff l s).dou.estop = s.dou.estop ∧
    (backOff l s).dou.guardIn = s.dou.guardIn ∧ (backOff l s).mbc.route = s.mbc.route ∧
    (backOff l s).mbc.selected = s.mbc.selected ∧ (backOff l s).mbc.lastServed = s.mbc.lastServed ∧
    (backOff l s).mbc.phase = s.mbc.phase ∧ (backOff l s).mbc.strokeTimer = s.mbc.strokeTimer ∧
    (backOff l s).mbc.flapTimer = s.mbc.flapTimer ∧ (backOff l s).mbc.confirmWatch = s.mbc.confirmWatch ∧
    (backOff l s).mbc.confirmed = s.mbc.confirmed ∧ (backOff l s).mbc.stopped = s.mbc.stopped ∧
    (backOff l s).tsc.tyer = s.tsc.tyer ∧ (backOff l s).tsc.phaseTimer = s.tsc.phaseTimer ∧
    (backOff l s).tsc.tieTimer = s.tsc.tieTimer ∧ (backOff l s).tsc.leftHome = s.tsc.leftHome ∧
    (backOff l s).tsc.code = s.tsc.code ∧ (backOff l s).tsc.tiesSincePurge = s.tsc.tiesSincePurge ∧
    (backOff l s).tsc.clipCount = s.tsc.clipCount ∧ (backOff l s).tsc.clipLow = s.tsc.clipLow ∧
    (backOff l s).ama.pressureLow = s.ama.pressureLow ∧ (backOff l s).tu.closeBuffer = s.tu.closeBuffer ∧
    (backOff l s).tu.totalsSet = s.tu.totalsSet := by
  simp only [backOff]; (repeat' split) <;> simp
@[simp] theorem holdCrumb_parts (l : Lane) (s : State) :
    (holdCrumb l s).dou.infeed = s.dou.infeed ∧ (holdCrumb l s).dou.accum = s.dou.accum ∧
    (holdCrumb l s).dou.outfeed = s.dou.outfeed ∧ (holdCrumb l s).dou.blade = s.dou.blade ∧
    (holdCrumb l s).dou.gate = s.dou.gate ∧ (holdCrumb l s).dou.pusher = s.dou.pusher ∧
    (holdCrumb l s).dou.flap = s.dou.flap ∧ (holdCrumb l s).dou.tyer = s.dou.tyer ∧
    (holdCrumb l s).dou.printer = s.dou.printer ∧ (holdCrumb l s).dou.armed = s.dou.armed ∧
    (holdCrumb l s).dou.gateTimer = s.dou.gateTimer ∧ (holdCrumb l s).dou.estop = s.dou.estop ∧
    (holdCrumb l s).dou.guardIn = s.dou.guardIn ∧ (holdCrumb l s).mbc.route = s.mbc.route ∧
    (holdCrumb l s).mbc.selected = s.mbc.selected ∧ (holdCrumb l s).mbc.lastServed = s.mbc.lastServed ∧
    (holdCrumb l s).mbc.phase = s.mbc.phase ∧ (holdCrumb l s).mbc.strokeTimer = s.mbc.strokeTimer ∧
    (holdCrumb l s).mbc.flapTimer = s.mbc.flapTimer ∧ (holdCrumb l s).mbc.confirmWatch = s.mbc.confirmWatch ∧
    (holdCrumb l s).mbc.confirmed = s.mbc.confirmed ∧ (holdCrumb l s).mbc.stopped = s.mbc.stopped ∧
    (holdCrumb l s).tsc.tyer = s.tsc.tyer ∧ (holdCrumb l s).tsc.phaseTimer = s.tsc.phaseTimer ∧
    (holdCrumb l s).tsc.tieTimer = s.tsc.tieTimer ∧ (holdCrumb l s).tsc.leftHome = s.tsc.leftHome ∧
    (holdCrumb l s).tsc.code = s.tsc.code ∧ (holdCrumb l s).tsc.tiesSincePurge = s.tsc.tiesSincePurge ∧
    (holdCrumb l s).tsc.clipCount = s.tsc.clipCount ∧ (holdCrumb l s).tsc.clipLow = s.tsc.clipLow ∧
    (holdCrumb l s).ama.pressureLow = s.ama.pressureLow ∧ (holdCrumb l s).tu.closeBuffer = s.tu.closeBuffer ∧
    (holdCrumb l s).tu.totalsSet = s.tu.totalsSet := by
  simp only [holdCrumb]; (repeat' split) <;> simp
@[simp] theorem abandonCrumb_parts (l : Lane) (s : State) :
    (abandonCrumb l s).dou.infeed = s.dou.infeed ∧ (abandonCrumb l s).dou.accum = s.dou.accum ∧
    (abandonCrumb l s).dou.outfeed = s.dou.outfeed ∧ (abandonCrumb l s).dou.blade = s.dou.blade ∧
    (abandonCrumb l s).dou.gate = s.dou.gate ∧ (abandonCrumb l s).dou.pusher = s.dou.pusher ∧
    (abandonCrumb l s).dou.flap = s.dou.flap ∧ (abandonCrumb l s).dou.tyer = s.dou.tyer ∧
    (abandonCrumb l s).dou.printer = s.dou.printer ∧ (abandonCrumb l s).dou.armed = s.dou.armed ∧
    (abandonCrumb l s).dou.gateTimer = s.dou.gateTimer ∧ (abandonCrumb l s).dou.estop = s.dou.estop ∧
    (abandonCrumb l s).dou.guardIn = s.dou.guardIn ∧ (abandonCrumb l s).mbc.route = s.mbc.route ∧
    (abandonCrumb l s).mbc.selected = s.mbc.selected ∧ (abandonCrumb l s).mbc.lastServed = s.mbc.lastServed ∧
    (abandonCrumb l s).mbc.phase = s.mbc.phase ∧ (abandonCrumb l s).mbc.strokeTimer = s.mbc.strokeTimer ∧
    (abandonCrumb l s).mbc.flapTimer = s.mbc.flapTimer ∧ (abandonCrumb l s).mbc.confirmWatch = s.mbc.confirmWatch ∧
    (abandonCrumb l s).mbc.confirmed = s.mbc.confirmed ∧ (abandonCrumb l s).mbc.stopped = s.mbc.stopped ∧
    (abandonCrumb l s).tsc.tyer = s.tsc.tyer ∧ (abandonCrumb l s).tsc.tieTimer = s.tsc.tieTimer ∧
    (abandonCrumb l s).tsc.leftHome = s.tsc.leftHome ∧ (abandonCrumb l s).tsc.code = s.tsc.code ∧
    (abandonCrumb l s).tsc.tiesSincePurge = s.tsc.tiesSincePurge ∧
    (abandonCrumb l s).tsc.clipCount = s.tsc.clipCount ∧ (abandonCrumb l s).tsc.clipLow = s.tsc.clipLow ∧
    (abandonCrumb l s).ama.pressureLow = s.ama.pressureLow ∧ (abandonCrumb l s).tu.closeBuffer = s.tu.closeBuffer ∧
    (abandonCrumb l s).tu.totalsSet = s.tu.totalsSet := by
  simp only [abandonCrumb]; (repeat' split) <;> simp
@[simp] theorem trigger_parts (x : Channel) (s : State) :
    (trigger x s).sc.result = s.sc.result ∧ (trigger x s).sc.age = s.sc.age ∧
    (trigger x s).sc.timer = s.sc.timer := by
  simp only [trigger, ScanConverter.trigger, ScanConverter.start, onSc_sc]; (repeat' split) <;> simp
@[simp] theorem scanTriggers_parts (s : State) :
    (scanTriggers s).sc.result = s.sc.result ∧ (scanTriggers s).sc.age = s.sc.age ∧
    (scanTriggers s).sc.timer = s.sc.timer := by
  simp only [scanTriggers]; (repeat' split) <;> simp
@[simp] theorem quietPoint_parts (l : Lane) (s : State) :
    (quietPoint l s).sc.result = s.sc.result ∧ (quietPoint l s).sc.age = s.sc.age ∧
    (quietPoint l s).sc.timer = s.sc.timer := by
  simp only [quietPoint]; (repeat' split) <;> simp
@[simp] theorem onApproach_parts (l : Lane) (f : List LoafRecord → List LoafRecord) (s : State) :
    (s.onApproach l f).tt.blade = s.tt.blade ∧ (s.onApproach l f).tt.accum = s.tt.accum ∧
    (s.onApproach l f).tt.bagger = s.tt.bagger ∧ (s.onApproach l f).tt.tyer = s.tt.tyer ∧
    (s.onApproach l f).tt.exit = s.tt.exit ∧ (s.onApproach l f).tt.nextTag = s.tt.nextTag ∧
    (s.onApproach l f).tt.watch = s.tt.watch ∧ (s.onApproach l f).tt.stuck = s.tt.stuck := by
  simp only [State.onApproach]; (repeat' split) <;> simp
@[simp] theorem onBladeZone_parts (l : Lane) (f : Option LoafRecord → Option LoafRecord) (s : State) :
    (s.onBladeZone l f).tt.approach = s.tt.approach ∧ (s.onBladeZone l f).tt.accum = s.tt.accum ∧
    (s.onBladeZone l f).tt.bagger = s.tt.bagger ∧ (s.onBladeZone l f).tt.tyer = s.tt.tyer ∧
    (s.onBladeZone l f).tt.exit = s.tt.exit ∧ (s.onBladeZone l f).tt.nextTag = s.tt.nextTag ∧
    (s.onBladeZone l f).tt.watch = s.tt.watch ∧ (s.onBladeZone l f).tt.stuck = s.tt.stuck := by
  simp only [State.onBladeZone]; (repeat' split) <;> simp
@[simp] theorem onAccum_parts (l : Lane) (f : List LoafRecord → List LoafRecord) (s : State) :
    (s.onAccum l f).tt.approach = s.tt.approach ∧ (s.onAccum l f).tt.blade = s.tt.blade ∧
    (s.onAccum l f).tt.bagger = s.tt.bagger ∧ (s.onAccum l f).tt.tyer = s.tt.tyer ∧
    (s.onAccum l f).tt.exit = s.tt.exit ∧ (s.onAccum l f).tt.nextTag = s.tt.nextTag ∧
    (s.onAccum l f).tt.watch = s.tt.watch ∧ (s.onAccum l f).tt.stuck = s.tt.stuck := by
  simp only [State.onAccum]; (repeat' split) <;> simp
@[simp] theorem onExit_parts (f : List LoafRecord → List LoafRecord) (s : State) :
    (s.onExit f).tt.approach = s.tt.approach ∧ (s.onExit f).tt.blade = s.tt.blade ∧
    (s.onExit f).tt.accum = s.tt.accum ∧ (s.onExit f).tt.bagger = s.tt.bagger ∧ (s.onExit f).tt.tyer = s.tt.tyer ∧
    (s.onExit f).tt.nextTag = s.tt.nextTag ∧ (s.onExit f).tt.watch = s.tt.watch ∧
    (s.onExit f).tt.stuck = s.tt.stuck := by
  simp only [State.onExit]; (repeat' split) <;> simp
@[simp] theorem createRecord_parts (l : Lane) (x : Edge) (s : State) :
    (createRecord l x s).tt.blade = s.tt.blade ∧ (createRecord l x s).tt.accum = s.tt.accum ∧
    (createRecord l x s).tt.bagger = s.tt.bagger ∧ (createRecord l x s).tt.tyer = s.tt.tyer ∧
    (createRecord l x s).tt.exit = s.tt.exit ∧ (createRecord l x s).tt.watch = s.tt.watch ∧
    (createRecord l x s).tt.stuck = s.tt.stuck ∧ (createRecord l x s).tu.closeBuffer = s.tu.closeBuffer ∧
    (createRecord l x s).tu.totalsSet = s.tu.totalsSet := by
  simp only [createRecord]; (repeat' split) <;> simp
@[simp] theorem startWatch_parts (e : TrackedEye) (at_ : Pos) (s : State) :
    (startWatch e at_ s).tt.approach = s.tt.approach ∧ (startWatch e at_ s).tt.blade = s.tt.blade ∧
    (startWatch e at_ s).tt.accum = s.tt.accum ∧ (startWatch e at_ s).tt.bagger = s.tt.bagger ∧
    (startWatch e at_ s).tt.tyer = s.tt.tyer ∧ (startWatch e at_ s).tt.exit = s.tt.exit ∧
    (startWatch e at_ s).tt.nextTag = s.tt.nextTag ∧ (startWatch e at_ s).tt.stuck = s.tt.stuck := by
  simp only [startWatch]; (repeat' split) <;> simp
@[simp] theorem eyeCleared_parts (e : TrackedEye) (s : State) :
    (eyeCleared e s).tt.approach = s.tt.approach ∧ (eyeCleared e s).tt.blade = s.tt.blade ∧
    (eyeCleared e s).tt.accum = s.tt.accum ∧ (eyeCleared e s).tt.bagger = s.tt.bagger ∧
    (eyeCleared e s).tt.tyer = s.tt.tyer ∧ (eyeCleared e s).tt.exit = s.tt.exit ∧
    (eyeCleared e s).tt.nextTag = s.tt.nextTag ∧ (eyeCleared e s).tu.closeBuffer = s.tu.closeBuffer ∧
    (eyeCleared e s).tu.totalsSet = s.tu.totalsSet ∧ (eyeCleared e s).ft.raiseCounter = s.ft.raiseCounter := by
  simp only [eyeCleared]; (repeat' split) <;> simp
@[simp] theorem raiseStuck_parts (e : TrackedEye) (s : State) :
    (raiseStuck e s).tt.approach = s.tt.approach ∧ (raiseStuck e s).tt.blade = s.tt.blade ∧
    (raiseStuck e s).tt.accum = s.tt.accum ∧ (raiseStuck e s).tt.bagger = s.tt.bagger ∧
    (raiseStuck e s).tt.tyer = s.tt.tyer ∧ (raiseStuck e s).tt.exit = s.tt.exit ∧
    (raiseStuck e s).tt.nextTag = s.tt.nextTag ∧ (raiseStuck e s).tu.closeBuffer = s.tu.closeBuffer ∧
    (raiseStuck e s).tu.totalsSet = s.tu.totalsSet := by
  simp only [raiseStuck]; (repeat' split) <;> simp
@[simp] theorem startWatches_parts (s : State) :
    (startWatches s).tt.approach = s.tt.approach ∧ (startWatches s).tt.blade = s.tt.blade ∧
    (startWatches s).tt.accum = s.tt.accum ∧ (startWatches s).tt.bagger = s.tt.bagger ∧
    (startWatches s).tt.tyer = s.tt.tyer ∧ (startWatches s).tt.exit = s.tt.exit ∧
    (startWatches s).tt.nextTag = s.tt.nextTag ∧ (startWatches s).tt.stuck = s.tt.stuck := by
  and_intros
  · exact foldl_tt_approach (by simp) _ _
  · exact foldl_tt_blade (by simp) _ _
  · exact foldl_tt_accum (by simp) _ _
  · exact foldl_tt_bagger (by simp) _ _
  · exact foldl_tt_tyer (by simp) _ _
  · exact foldl_tt_exit (by simp) _ _
  · exact foldl_tt_nextTag (by simp) _ _
  · exact foldl_tt_stuck (by simp) _ _
@[simp] theorem removeWatches_parts (s : State) :
    (removeWatches s).tt.approach = s.tt.approach ∧ (removeWatches s).tt.blade = s.tt.blade ∧
    (removeWatches s).tt.accum = s.tt.accum ∧ (removeWatches s).tt.bagger = s.tt.bagger ∧
    (removeWatches s).tt.tyer = s.tt.tyer ∧ (removeWatches s).tt.exit = s.tt.exit ∧
    (removeWatches s).tt.nextTag = s.tt.nextTag ∧ (removeWatches s).tt.stuck = s.tt.stuck := by
  simp only [removeWatches]; (repeat' split) <;> simp
@[simp] theorem lose_parts (subj : Subject) (r : LoafRecord) (s : State) :
    (lose subj r s).tu.closeBuffer = s.tu.closeBuffer ∧ (lose subj r s).tu.totalsSet = s.tu.totalsSet := by
  simp only [lose]; (repeat' split) <;> simp
@[simp] theorem bladeEmptied_parts (l : Lane) (s : State) :
    (bladeEmptied l s).sc.result = s.sc.result ∧ (bladeEmptied l s).sc.age = s.sc.age ∧
    (bladeEmptied l s).sc.timer = s.sc.timer := by
  simp only [bladeEmptied]; (repeat' split) <;> simp
@[simp] theorem loseBlade_parts (l : Lane) (s : State) :
    (loseBlade l s).tt.approach = s.tt.approach ∧ (loseBlade l s).tt.accum = s.tt.accum ∧
    (loseBlade l s).tt.bagger = s.tt.bagger ∧ (loseBlade l s).tt.tyer = s.tt.tyer ∧
    (loseBlade l s).tt.exit = s.tt.exit ∧ (loseBlade l s).tt.nextTag = s.tt.nextTag ∧
    (loseBlade l s).tt.watch = s.tt.watch ∧ (loseBlade l s).tt.stuck = s.tt.stuck ∧
    (loseBlade l s).sc.result = s.sc.result ∧ (loseBlade l s).sc.age = s.sc.age ∧
    (loseBlade l s).sc.timer = s.sc.timer ∧ (loseBlade l s).tu.closeBuffer = s.tu.closeBuffer ∧
    (loseBlade l s).tu.totalsSet = s.tu.totalsSet := by
  simp only [loseBlade]; (repeat' split) <;> simp
@[simp] theorem slicerLeading_parts (l : Lane) (x : Edge) (s : State) :
    (slicerLeading l x s).tt.approach = s.tt.approach ∧ (slicerLeading l x s).tt.accum = s.tt.accum ∧
    (slicerLeading l x s).tt.bagger = s.tt.bagger ∧ (slicerLeading l x s).tt.tyer = s.tt.tyer ∧
    (slicerLeading l x s).tt.exit = s.tt.exit ∧ (slicerLeading l x s).tt.nextTag = s.tt.nextTag ∧
    (slicerLeading l x s).tt.stuck = s.tt.stuck ∧ (slicerLeading l x s).tu.closeBuffer = s.tu.closeBuffer ∧
    (slicerLeading l x s).tu.totalsSet = s.tu.totalsSet := by
  simp only [slicerLeading]; (repeat' split) <;> simp
@[simp] theorem startMergeWindow_parts (l : Lane) (s : State) :
    (startMergeWindow l s).tt.approach = s.tt.approach ∧ (startMergeWindow l s).tt.blade = s.tt.blade ∧
    (startMergeWindow l s).tt.bagger = s.tt.bagger ∧ (startMergeWindow l s).tt.tyer = s.tt.tyer ∧
    (startMergeWindow l s).tt.exit = s.tt.exit ∧ (startMergeWindow l s).tt.nextTag = s.tt.nextTag ∧
    (startMergeWindow l s).tt.watch = s.tt.watch ∧ (startMergeWindow l s).tt.stuck = s.tt.stuck := by
  simp only [startMergeWindow]; (repeat' split) <;> simp
@[simp] theorem accumHeadLeft_parts (l : Lane) (left : LoafRecord) (s : State) :
    (accumHeadLeft l left s).tt.approach = s.tt.approach ∧ (accumHeadLeft l left s).tt.blade = s.tt.blade ∧
    (accumHeadLeft l left s).tt.bagger = s.tt.bagger ∧ (accumHeadLeft l left s).tt.tyer = s.tt.tyer ∧
    (accumHeadLeft l left s).tt.exit = s.tt.exit ∧ (accumHeadLeft l left s).tt.nextTag = s.tt.nextTag ∧
    (accumHeadLeft l left s).tt.stuck = s.tt.stuck := by
  simp only [accumHeadLeft]; (repeat' split) <;> simp
@[simp] theorem removeAccumHead_parts (l : Lane) (s : State) :
    (removeAccumHead l s).tt.approach = s.tt.approach ∧ (removeAccumHead l s).tt.blade = s.tt.blade ∧
    (removeAccumHead l s).tt.bagger = s.tt.bagger ∧ (removeAccumHead l s).tt.tyer = s.tt.tyer ∧
    (removeAccumHead l s).tt.exit = s.tt.exit ∧ (removeAccumHead l s).tt.nextTag = s.tt.nextTag ∧
    (removeAccumHead l s).tt.watch = s.tt.watch ∧ (removeAccumHead l s).tt.stuck = s.tt.stuck := by
  simp only [removeAccumHead]; (repeat' split) <;> simp
@[simp] theorem loseAccumHead_parts (l : Lane) (s : State) :
    (loseAccumHead l s).tt.approach = s.tt.approach ∧ (loseAccumHead l s).tt.blade = s.tt.blade ∧
    (loseAccumHead l s).tt.bagger = s.tt.bagger ∧ (loseAccumHead l s).tt.tyer = s.tt.tyer ∧
    (loseAccumHead l s).tt.exit = s.tt.exit ∧ (loseAccumHead l s).tt.nextTag = s.tt.nextTag ∧
    (loseAccumHead l s).tt.stuck = s.tt.stuck ∧ (loseAccumHead l s).tu.closeBuffer = s.tu.closeBuffer ∧
    (loseAccumHead l s).tu.totalsSet = s.tu.totalsSet := by
  simp only [loseAccumHead]; (repeat' split) <;> simp
@[simp] theorem slicerTrailing_parts (l : Lane) (s : State) :
    (slicerTrailing l s).tt.approach = s.tt.approach ∧ (slicerTrailing l s).tt.bagger = s.tt.bagger ∧
    (slicerTrailing l s).tt.tyer = s.tt.tyer ∧ (slicerTrailing l s).tt.exit = s.tt.exit ∧
    (slicerTrailing l s).tt.nextTag = s.tt.nextTag ∧ (slicerTrailing l s).tt.watch = s.tt.watch ∧
    (slicerTrailing l s).tt.stuck = s.tt.stuck ∧ (slicerTrailing l s).sc.result = s.sc.result ∧
    (slicerTrailing l s).sc.age = s.sc.age ∧ (slicerTrailing l s).sc.timer = s.sc.timer := by
  simp only [slicerTrailing]; (repeat' split) <;> simp
@[simp] theorem mergeLeading_parts (l : Lane) (x : Edge) (s : State) :
    (mergeLeading l x s).tt.approach = s.tt.approach ∧ (mergeLeading l x s).tt.blade = s.tt.blade ∧
    (mergeLeading l x s).tt.bagger = s.tt.bagger ∧ (mergeLeading l x s).tt.tyer = s.tt.tyer ∧
    (mergeLeading l x s).tt.exit = s.tt.exit ∧ (mergeLeading l x s).tt.nextTag = s.tt.nextTag ∧
    (mergeLeading l x s).tt.stuck = s.tt.stuck ∧ (mergeLeading l x s).tu.closeBuffer = s.tu.closeBuffer ∧
    (mergeLeading l x s).tu.totalsSet = s.tu.totalsSet := by
  simp only [mergeLeading]; (repeat' split) <;> simp
@[simp] theorem loseExitHead_parts (s : State) :
    (loseExitHead s).tt.approach = s.tt.approach ∧ (loseExitHead s).tt.blade = s.tt.blade ∧
    (loseExitHead s).tt.accum = s.tt.accum ∧ (loseExitHead s).tt.bagger = s.tt.bagger ∧
    (loseExitHead s).tt.tyer = s.tt.tyer ∧ (loseExitHead s).tt.nextTag = s.tt.nextTag ∧
    (loseExitHead s).tt.watch = s.tt.watch ∧ (loseExitHead s).tt.stuck = s.tt.stuck ∧
    (loseExitHead s).tu.closeBuffer = s.tu.closeBuffer ∧ (loseExitHead s).tu.totalsSet = s.tu.totalsSet := by
  simp only [loseExitHead]; (repeat' split) <;> simp
@[simp] theorem compareExitHead_parts (n : Nat) (s : State) :
    (compareExitHead n s).tt.approach = s.tt.approach ∧ (compareExitHead n s).tt.blade = s.tt.blade ∧
    (compareExitHead n s).tt.accum = s.tt.accum ∧ (compareExitHead n s).tt.bagger = s.tt.bagger ∧
    (compareExitHead n s).tt.tyer = s.tt.tyer ∧ (compareExitHead n s).tt.nextTag = s.tt.nextTag ∧
    (compareExitHead n s).tt.watch = s.tt.watch ∧ (compareExitHead n s).tt.stuck = s.tt.stuck ∧
    (compareExitHead n s).tu.closeBuffer = s.tu.closeBuffer ∧
    (compareExitHead n s).tu.totalsSet = s.tu.totalsSet := by
  induction n generalizing s with
  | zero => simp [compareExitHead]
  | succ n ih => rw [compareExitHead]; split <;> simp [ih]
@[simp] theorem exitHeadChanged_parts (s : State) :
    (exitHeadChanged s).tt.approach = s.tt.approach ∧ (exitHeadChanged s).tt.blade = s.tt.blade ∧
    (exitHeadChanged s).tt.accum = s.tt.accum ∧ (exitHeadChanged s).tt.bagger = s.tt.bagger ∧
    (exitHeadChanged s).tt.tyer = s.tt.tyer ∧ (exitHeadChanged s).tt.nextTag = s.tt.nextTag ∧
    (exitHeadChanged s).tt.watch = s.tt.watch ∧ (exitHeadChanged s).tt.stuck = s.tt.stuck ∧
    (exitHeadChanged s).tu.closeBuffer = s.tu.closeBuffer ∧ (exitHeadChanged s).tu.totalsSet = s.tu.totalsSet := by
  simp only [exitHeadChanged]; (repeat' split) <;> simp
@[simp] theorem joinExit_parts (r : LoafRecord) (s : State) :
    (joinExit r s).tt.approach = s.tt.approach ∧ (joinExit r s).tt.blade = s.tt.blade ∧
    (joinExit r s).tt.accum = s.tt.accum ∧ (joinExit r s).tt.bagger = s.tt.bagger ∧
    (joinExit r s).tt.tyer = s.tt.tyer ∧ (joinExit r s).tt.nextTag = s.tt.nextTag ∧
    (joinExit r s).tt.watch = s.tt.watch ∧ (joinExit r s).tt.stuck = s.tt.stuck ∧
    (joinExit r s).tu.closeBuffer = s.tu.closeBuffer ∧ (joinExit r s).tu.totalsSet = s.tu.totalsSet := by
  simp only [joinExit]; (repeat' split) <;> simp
@[simp] theorem exitLeading_parts (x : Edge) (s : State) :
    (exitLeading x s).tt.approach = s.tt.approach ∧ (exitLeading x s).tt.blade = s.tt.blade ∧
    (exitLeading x s).tt.accum = s.tt.accum ∧ (exitLeading x s).tt.bagger = s.tt.bagger ∧
    (exitLeading x s).tt.tyer = s.tt.tyer ∧ (exitLeading x s).tt.nextTag = s.tt.nextTag ∧
    (exitLeading x s).tt.stuck = s.tt.stuck ∧ (exitLeading x s).tu.closeBuffer = s.tu.closeBuffer ∧
    (exitLeading x s).tu.totalsSet = s.tu.totalsSet := by
  simp only [exitLeading]; (repeat' split) <;> simp
@[simp] theorem exitTrailing_parts (s : State) :
    (exitTrailing s).tt.approach = s.tt.approach ∧ (exitTrailing s).tt.blade = s.tt.blade ∧
    (exitTrailing s).tt.accum = s.tt.accum ∧ (exitTrailing s).tt.bagger = s.tt.bagger ∧
    (exitTrailing s).tt.tyer = s.tt.tyer ∧ (exitTrailing s).tt.nextTag = s.tt.nextTag ∧
    (exitTrailing s).tt.watch = s.tt.watch ∧ (exitTrailing s).tt.stuck = s.tt.stuck ∧
    (exitTrailing s).tu.closeBuffer = s.tu.closeBuffer ∧ (exitTrailing s).tu.totalsSet = s.tu.totalsSet := by
  simp only [exitTrailing]; (repeat' split) <;> simp
@[simp] theorem stopMarking_parts (s : State) :
    (stopMarking s).tt.approach = s.tt.approach ∧ (stopMarking s).tt.exit = s.tt.exit ∧
    (stopMarking s).tt.nextTag = s.tt.nextTag ∧ (stopMarking s).tt.watch = s.tt.watch ∧
    (stopMarking s).tt.stuck = s.tt.stuck := by
  simp only [stopMarking]; (repeat' split) <;> simp
@[simp] theorem countStopDiscard_parts (r : LoafRecord) (s : State) :
    (countStopDiscard r s).tu.closeBuffer = s.tu.closeBuffer ∧ (countStopDiscard r s).tu.tally = s.tu.tally ∧
    (countStopDiscard r s).tu.totalsSet = s.tu.totalsSet := by
  simp only [countStopDiscard]; (repeat' split) <;> simp
@[simp] theorem discardBagger_parts (s : State) :
    (discardBagger s).tt.approach = s.tt.approach ∧ (discardBagger s).tt.blade = s.tt.blade ∧
    (discardBagger s).tt.accum = s.tt.accum ∧ (discardBagger s).tt.tyer = s.tt.tyer ∧
    (discardBagger s).tt.exit = s.tt.exit ∧ (discardBagger s).tt.nextTag = s.tt.nextTag ∧
    (discardBagger s).tt.watch = s.tt.watch ∧ (discardBagger s).tt.stuck = s.tt.stuck ∧
    (discardBagger s).tu.closeBuffer = s.tu.closeBuffer ∧ (discardBagger s).tu.tally = s.tu.tally ∧
    (discardBagger s).tu.totalsSet = s.tu.totalsSet := by
  simp only [discardBagger]; (repeat' split) <;> simp
@[simp] theorem discardTyer_parts (s : State) :
    (discardTyer s).tt.approach = s.tt.approach ∧ (discardTyer s).tt.blade = s.tt.blade ∧
    (discardTyer s).tt.accum = s.tt.accum ∧ (discardTyer s).tt.bagger = s.tt.bagger ∧
    (discardTyer s).tt.exit = s.tt.exit ∧ (discardTyer s).tt.nextTag = s.tt.nextTag ∧
    (discardTyer s).tt.watch = s.tt.watch ∧ (discardTyer s).tt.stuck = s.tt.stuck ∧
    (discardTyer s).tu.closeBuffer = s.tu.closeBuffer ∧ (discardTyer s).tu.totalsSet = s.tu.totalsSet ∧
    (discardTyer s).ft.raiseCounter = s.ft.raiseCounter := by
  simp only [discardTyer]; (repeat' split) <;> simp
@[simp] theorem resumeDiscard_parts (s : State) :
    (resumeDiscard s).tt.approach = s.tt.approach ∧ (resumeDiscard s).tt.blade = s.tt.blade ∧
    (resumeDiscard s).tt.accum = s.tt.accum ∧ (resumeDiscard s).tt.exit = s.tt.exit ∧
    (resumeDiscard s).tt.nextTag = s.tt.nextTag ∧ (resumeDiscard s).tt.watch = s.tt.watch ∧
    (resumeDiscard s).tt.stuck = s.tt.stuck ∧ (resumeDiscard s).tu.closeBuffer = s.tu.closeBuffer ∧
    (resumeDiscard s).tu.totalsSet = s.tu.totalsSet ∧ (resumeDiscard s).ft.raiseCounter = s.ft.raiseCounter := by
  simp only [resumeDiscard]; (repeat' split) <;> simp
@[simp] theorem purgePool_parts (s : State) :
    (purgePool s).tt.nextTag = s.tt.nextTag ∧ (purgePool s).tt.watch = s.tt.watch ∧
    (purgePool s).tt.stuck = s.tt.stuck ∧ (purgePool s).sc.result = s.sc.result ∧ (purgePool s).sc.age = s.sc.age ∧
    (purgePool s).sc.timer = s.sc.timer ∧ (purgePool s).tu.closeBuffer = s.tu.closeBuffer ∧
    (purgePool s).tu.totalsSet = s.tu.totalsSet ∧ (purgePool s).ft.raiseCounter = s.ft.raiseCounter := by
  simp only [purgePool]; and_intros <;> simp [foldl_tt_nextTag, foldl_tt_watch, foldl_tt_stuck, foldl_sc_result, foldl_sc_age, foldl_sc_timer, foldl_tu_closeBuffer, foldl_tu_totalsSet, foldl_ft_raiseCounter]
@[simp] theorem startSpinUp_parts (l : Lane) (s : State) :
    (startSpinUp l s).dou.infeed = s.dou.infeed ∧ (startSpinUp l s).dou.accum = s.dou.accum ∧
    (startSpinUp l s).dou.outfeed = s.dou.outfeed ∧ (startSpinUp l s).dou.gate = s.dou.gate ∧
    (startSpinUp l s).dou.pusher = s.dou.pusher ∧ (startSpinUp l s).dou.flap = s.dou.flap ∧
    (startSpinUp l s).dou.tyer = s.dou.tyer ∧ (startSpinUp l s).dou.printer = s.dou.printer ∧
    (startSpinUp l s).dou.bagBlast = s.dou.bagBlast ∧ (startSpinUp l s).dou.purge = s.dou.purge ∧
    (startSpinUp l s).dou.knife = s.dou.knife ∧ (startSpinUp l s).dou.shaker = s.dou.shaker ∧
    (startSpinUp l s).dou.armed = s.dou.armed ∧ (startSpinUp l s).dou.gateTimer = s.dou.gateTimer ∧
    (startSpinUp l s).dou.estop = s.dou.estop ∧ (startSpinUp l s).dou.guardIn = s.dou.guardIn := by
  simp only [startSpinUp]; (repeat' split) <;> simp
@[simp] theorem bladeOff_parts (l : Lane) (s : State) :
    (bladeOff l s).dou.infeed = s.dou.infeed ∧ (bladeOff l s).dou.accum = s.dou.accum ∧
    (bladeOff l s).dou.outfeed = s.dou.outfeed ∧ (bladeOff l s).dou.gate = s.dou.gate ∧
    (bladeOff l s).dou.pusher = s.dou.pusher ∧ (bladeOff l s).dou.flap = s.dou.flap ∧
    (bladeOff l s).dou.tyer = s.dou.tyer ∧ (bladeOff l s).dou.printer = s.dou.printer ∧
    (bladeOff l s).dou.bagBlast = s.dou.bagBlast ∧ (bladeOff l s).dou.purge = s.dou.purge ∧
    (bladeOff l s).dou.knife = s.dou.knife ∧ (bladeOff l s).dou.shaker = s.dou.shaker ∧
    (bladeOff l s).dou.armed = s.dou.armed ∧ (bladeOff l s).dou.gateTimer = s.dou.gateTimer ∧
    (bladeOff l s).dou.estop = s.dou.estop ∧ (bladeOff l s).dou.guardIn = s.dou.guardIn := by
  simp only [bladeOff]; (repeat' split) <;> simp
@[simp] theorem bladeFollow_parts (l : Lane) (s : State) :
    (bladeFollow l s).dou.infeed = s.dou.infeed ∧ (bladeFollow l s).dou.accum = s.dou.accum ∧
    (bladeFollow l s).dou.outfeed = s.dou.outfeed ∧ (bladeFollow l s).dou.gate = s.dou.gate ∧
    (bladeFollow l s).dou.pusher = s.dou.pusher ∧ (bladeFollow l s).dou.flap = s.dou.flap ∧
    (bladeFollow l s).dou.tyer = s.dou.tyer ∧ (bladeFollow l s).dou.printer = s.dou.printer ∧
    (bladeFollow l s).dou.bagBlast = s.dou.bagBlast ∧ (bladeFollow l s).dou.purge = s.dou.purge ∧
    (bladeFollow l s).dou.knife = s.dou.knife ∧ (bladeFollow l s).dou.shaker = s.dou.shaker ∧
    (bladeFollow l s).dou.armed = s.dou.armed ∧ (bladeFollow l s).dou.gateTimer = s.dou.gateTimer ∧
    (bladeFollow l s).dou.estop = s.dou.estop ∧ (bladeFollow l s).dou.guardIn = s.dou.guardIn := by
  simp only [bladeFollow]; (repeat' split) <;> simp
@[simp] theorem spinUpEnd_parts (l : Lane) (s : State) :
    (spinUpEnd l s).dou.infeed = s.dou.infeed ∧ (spinUpEnd l s).dou.accum = s.dou.accum ∧
    (spinUpEnd l s).dou.outfeed = s.dou.outfeed ∧ (spinUpEnd l s).dou.gate = s.dou.gate ∧
    (spinUpEnd l s).dou.pusher = s.dou.pusher ∧ (spinUpEnd l s).dou.flap = s.dou.flap ∧
    (spinUpEnd l s).dou.tyer = s.dou.tyer ∧ (spinUpEnd l s).dou.printer = s.dou.printer ∧
    (spinUpEnd l s).dou.bagBlast = s.dou.bagBlast ∧ (spinUpEnd l s).dou.purge = s.dou.purge ∧
    (spinUpEnd l s).dou.knife = s.dou.knife ∧ (spinUpEnd l s).dou.shaker = s.dou.shaker ∧
    (spinUpEnd l s).dou.armed = s.dou.armed ∧ (spinUpEnd l s).dou.gateTimer = s.dou.gateTimer ∧
    (spinUpEnd l s).dou.estop = s.dou.estop ∧ (spinUpEnd l s).dou.guardIn = s.dou.guardIn ∧
    (spinUpEnd l s).tu.closeBuffer = s.tu.closeBuffer ∧ (spinUpEnd l s).tu.totalsSet = s.tu.totalsSet := by
  simp only [spinUpEnd]; (repeat' split) <;> simp
@[simp] theorem tensionResult_parts (l : Lane) (result : Nat) (s : State) :
    (tensionResult l result s).dou.infeed = s.dou.infeed ∧ (tensionResult l result s).dou.accum = s.dou.accum ∧
    (tensionResult l result s).dou.outfeed = s.dou.outfeed ∧ (tensionResult l result s).dou.gate = s.dou.gate ∧
    (tensionResult l result s).dou.pusher = s.dou.pusher ∧ (tensionResult l result s).dou.flap = s.dou.flap ∧
    (tensionResult l result s).dou.tyer = s.dou.tyer ∧ (tensionResult l result s).dou.printer = s.dou.printer ∧
    (tensionResult l result s).dou.bagBlast = s.dou.bagBlast ∧ (tensionResult l result s).dou.purge = s.dou.purge ∧
    (tensionResult l result s).dou.knife = s.dou.knife ∧ (tensionResult l result s).dou.shaker = s.dou.shaker ∧
    (tensionResult l result s).dou.armed = s.dou.armed ∧ (tensionResult l result s).dou.gateTimer = s.dou.gateTimer ∧
    (tensionResult l result s).dou.estop = s.dou.estop ∧ (tensionResult l result s).dou.guardIn = s.dou.guardIn ∧
    (tensionResult l result s).tu.closeBuffer = s.tu.closeBuffer ∧
    (tensionResult l result s).tu.totalsSet = s.tu.totalsSet := by
  simp only [tensionResult]; (repeat' split) <;> simp
@[simp] theorem admission_parts (l : Lane) (r : LoafRecord) (s : State) :
    (admission l r s).dou.infeed = s.dou.infeed ∧ (admission l r s).dou.accum = s.dou.accum ∧
    (admission l r s).dou.outfeed = s.dou.outfeed ∧ (admission l r s).dou.blade = s.dou.blade ∧
    (admission l r s).dou.pusher = s.dou.pusher ∧ (admission l r s).dou.flap = s.dou.flap ∧
    (admission l r s).dou.tyer = s.dou.tyer ∧ (admission l r s).dou.printer = s.dou.printer ∧
    (admission l r s).dou.bagBlast = s.dou.bagBlast ∧ (admission l r s).dou.purge = s.dou.purge ∧
    (admission l r s).dou.knife = s.dou.knife ∧ (admission l r s).dou.shaker = s.dou.shaker ∧
    (admission l r s).dou.estop = s.dou.estop ∧ (admission l r s).dou.guardIn = s.dou.guardIn ∧
    (admission l r s).tt.accum = s.tt.accum ∧ (admission l r s).tt.bagger = s.tt.bagger ∧
    (admission l r s).tt.tyer = s.tt.tyer ∧ (admission l r s).tt.exit = s.tt.exit ∧
    (admission l r s).tt.nextTag = s.tt.nextTag ∧ (admission l r s).tt.watch = s.tt.watch ∧
    (admission l r s).tt.stuck = s.tt.stuck ∧ (admission l r s).tu.closeBuffer = s.tu.closeBuffer ∧
    (admission l r s).tu.tally = s.tu.tally ∧ (admission l r s).tu.totalsSet = s.tu.totalsSet := by
  simp only [admission]; (repeat' split) <;> simp
@[simp] theorem admitIfReady_parts (l : Lane) (s : State) :
    (admitIfReady l s).dou.infeed = s.dou.infeed ∧ (admitIfReady l s).dou.accum = s.dou.accum ∧
    (admitIfReady l s).dou.outfeed = s.dou.outfeed ∧ (admitIfReady l s).dou.blade = s.dou.blade ∧
    (admitIfReady l s).dou.pusher = s.dou.pusher ∧ (admitIfReady l s).dou.flap = s.dou.flap ∧
    (admitIfReady l s).dou.tyer = s.dou.tyer ∧ (admitIfReady l s).dou.printer = s.dou.printer ∧
    (admitIfReady l s).dou.bagBlast = s.dou.bagBlast ∧ (admitIfReady l s).dou.purge = s.dou.purge ∧
    (admitIfReady l s).dou.knife = s.dou.knife ∧ (admitIfReady l s).dou.shaker = s.dou.shaker ∧
    (admitIfReady l s).dou.estop = s.dou.estop ∧ (admitIfReady l s).dou.guardIn = s.dou.guardIn ∧
    (admitIfReady l s).tt.accum = s.tt.accum ∧ (admitIfReady l s).tt.bagger = s.tt.bagger ∧
    (admitIfReady l s).tt.tyer = s.tt.tyer ∧ (admitIfReady l s).tt.exit = s.tt.exit ∧
    (admitIfReady l s).tt.nextTag = s.tt.nextTag ∧ (admitIfReady l s).tt.watch = s.tt.watch ∧
    (admitIfReady l s).tt.stuck = s.tt.stuck ∧ (admitIfReady l s).tu.closeBuffer = s.tu.closeBuffer ∧
    (admitIfReady l s).tu.tally = s.tu.tally ∧ (admitIfReady l s).tu.totalsSet = s.tu.totalsSet := by
  simp only [admitIfReady]; (repeat' split) <;> simp
@[simp] theorem infeedFollow_parts (l : Lane) (s : State) :
    (infeedFollow l s).dou.accum = s.dou.accum ∧ (infeedFollow l s).dou.outfeed = s.dou.outfeed ∧
    (infeedFollow l s).dou.blade = s.dou.blade ∧ (infeedFollow l s).dou.gate = s.dou.gate ∧
    (infeedFollow l s).dou.pusher = s.dou.pusher ∧ (infeedFollow l s).dou.flap = s.dou.flap ∧
    (infeedFollow l s).dou.tyer = s.dou.tyer ∧ (infeedFollow l s).dou.printer = s.dou.printer ∧
    (infeedFollow l s).dou.bagBlast = s.dou.bagBlast ∧ (infeedFollow l s).dou.purge = s.dou.purge ∧
    (infeedFollow l s).dou.knife = s.dou.knife ∧ (infeedFollow l s).dou.shaker = s.dou.shaker ∧
    (infeedFollow l s).dou.armed = s.dou.armed ∧ (infeedFollow l s).dou.gateTimer = s.dou.gateTimer ∧
    (infeedFollow l s).dou.estop = s.dou.estop ∧ (infeedFollow l s).dou.guardIn = s.dou.guardIn := by
  simp only [infeedFollow]; (repeat' split) <;> simp
@[simp] theorem endCycle_parts (s : State) :
    (endCycle s).mbc.lastServed = s.mbc.lastServed ∧ (endCycle s).mbc.phase = s.mbc.phase ∧
    (endCycle s).mbc.strokeTimer = s.mbc.strokeTimer ∧ (endCycle s).mbc.flapTimer = s.mbc.flapTimer ∧
    (endCycle s).mbc.openTimer = s.mbc.openTimer ∧ (endCycle s).mbc.confirmWatch = s.mbc.confirmWatch ∧
    (endCycle s).mbc.confirmed = s.mbc.confirmed ∧ (endCycle s).mbc.blast = s.mbc.blast ∧
    (endCycle s).mbc.stopped = s.mbc.stopped ∧ (endCycle s).mbc.bagCount = s.mbc.bagCount ∧
    (endCycle s).mbc.bagLow = s.mbc.bagLow := by
  simp only [endCycle]; (repeat' split) <;> simp
@[simp] theorem startTwist_parts (s : State) :
    (startTwist s).dou.infeed = s.dou.infeed ∧ (startTwist s).dou.accum = s.dou.accum ∧
    (startTwist s).dou.outfeed = s.dou.outfeed ∧ (startTwist s).dou.blade = s.dou.blade ∧
    (startTwist s).dou.gate = s.dou.gate ∧ (startTwist s).dou.pusher = s.dou.pusher ∧
    (startTwist s).dou.flap = s.dou.flap ∧ (startTwist s).dou.printer = s.dou.printer ∧
    (startTwist s).dou.bagBlast = s.dou.bagBlast ∧ (startTwist s).dou.purge = s.dou.purge ∧
    (startTwist s).dou.knife = s.dou.knife ∧ (startTwist s).dou.shaker = s.dou.shaker ∧
    (startTwist s).dou.armed = s.dou.armed ∧ (startTwist s).dou.gateTimer = s.dou.gateTimer ∧
    (startTwist s).dou.estop = s.dou.estop ∧ (startTwist s).dou.guardIn = s.dou.guardIn ∧
    (startTwist s).tsc.purge = s.tsc.purge ∧ (startTwist s).tsc.code = s.tsc.code ∧
    (startTwist s).tsc.tiesSincePurge = s.tsc.tiesSincePurge ∧ (startTwist s).tsc.clipCount = s.tsc.clipCount ∧
    (startTwist s).tsc.clipLow = s.tsc.clipLow := by
  simp only [startTwist]; (repeat' split) <;> simp
@[simp] theorem enterTwist_parts (s : State) :
    (enterTwist s).dou.infeed = s.dou.infeed ∧ (enterTwist s).dou.accum = s.dou.accum ∧
    (enterTwist s).dou.outfeed = s.dou.outfeed ∧ (enterTwist s).dou.blade = s.dou.blade ∧
    (enterTwist s).dou.gate = s.dou.gate ∧ (enterTwist s).dou.pusher = s.dou.pusher ∧
    (enterTwist s).dou.flap = s.dou.flap ∧ (enterTwist s).dou.printer = s.dou.printer ∧
    (enterTwist s).dou.bagBlast = s.dou.bagBlast ∧ (enterTwist s).dou.purge = s.dou.purge ∧
    (enterTwist s).dou.knife = s.dou.knife ∧ (enterTwist s).dou.shaker = s.dou.shaker ∧
    (enterTwist s).dou.armed = s.dou.armed ∧ (enterTwist s).dou.gateTimer = s.dou.gateTimer ∧
    (enterTwist s).dou.estop = s.dou.estop ∧ (enterTwist s).dou.guardIn = s.dou.guardIn ∧
    (enterTwist s).tsc.purge = s.tsc.purge ∧ (enterTwist s).tsc.code = s.tsc.code ∧
    (enterTwist s).tsc.tiesSincePurge = s.tsc.tiesSincePurge ∧ (enterTwist s).tsc.clipCount = s.tsc.clipCount ∧
    (enterTwist s).tsc.clipLow = s.tsc.clipLow ∧ (enterTwist s).tu.closeBuffer = s.tu.closeBuffer ∧
    (enterTwist s).tu.totalsSet = s.tu.totalsSet := by
  simp only [enterTwist]; (repeat' split) <;> simp
@[simp] theorem startTyer_parts (s : State) :
    (startTyer s).dou.infeed = s.dou.infeed ∧ (startTyer s).dou.accum = s.dou.accum ∧
    (startTyer s).dou.outfeed = s.dou.outfeed ∧ (startTyer s).dou.blade = s.dou.blade ∧
    (startTyer s).dou.gate = s.dou.gate ∧ (startTyer s).dou.pusher = s.dou.pusher ∧
    (startTyer s).dou.flap = s.dou.flap ∧ (startTyer s).dou.printer = s.dou.printer ∧
    (startTyer s).dou.armed = s.dou.armed ∧ (startTyer s).dou.gateTimer = s.dou.gateTimer ∧
    (startTyer s).dou.estop = s.dou.estop ∧ (startTyer s).dou.guardIn = s.dou.guardIn ∧
    (startTyer s).mbc.route = s.mbc.route ∧ (startTyer s).mbc.selected = s.mbc.selected ∧
    (startTyer s).mbc.lastServed = s.mbc.lastServed ∧ (startTyer s).mbc.phase = s.mbc.phase ∧
    (startTyer s).mbc.strokeTimer = s.mbc.strokeTimer ∧ (startTyer s).mbc.flapTimer = s.mbc.flapTimer ∧
    (startTyer s).mbc.confirmWatch = s.mbc.confirmWatch ∧ (startTyer s).mbc.confirmed = s.mbc.confirmed ∧
    (startTyer s).mbc.stopped = s.mbc.stopped ∧ (startTyer s).tsc.code = s.tsc.code ∧
    (startTyer s).tsc.tiesSincePurge = s.tsc.tiesSincePurge ∧ (startTyer s).tsc.clipCount = s.tsc.clipCount ∧
    (startTyer s).tsc.clipLow = s.tsc.clipLow ∧ (startTyer s).ama.pressureLow = s.ama.pressureLow ∧
    (startTyer s).tu.closeBuffer = s.tu.closeBuffer ∧ (startTyer s).tu.totalsSet = s.tu.totalsSet := by
  simp only [startTyer]; (repeat' split) <;> simp
@[simp] theorem endPurge_parts (s : State) :
    (endPurge s).dou.infeed = s.dou.infeed ∧ (endPurge s).dou.accum = s.dou.accum ∧
    (endPurge s).dou.outfeed = s.dou.outfeed ∧ (endPurge s).dou.blade = s.dou.blade ∧
    (endPurge s).dou.gate = s.dou.gate ∧ (endPurge s).dou.pusher = s.dou.pusher ∧ (endPurge s).dou.flap = s.dou.flap ∧
    (endPurge s).dou.printer = s.dou.printer ∧ (endPurge s).dou.armed = s.dou.armed ∧
    (endPurge s).dou.gateTimer = s.dou.gateTimer ∧ (endPurge s).dou.estop = s.dou.estop ∧
    (endPurge s).dou.guardIn = s.dou.guardIn ∧ (endPurge s).mbc.route = s.mbc.route ∧
    (endPurge s).mbc.selected = s.mbc.selected ∧ (endPurge s).mbc.lastServed = s.mbc.lastServed ∧
    (endPurge s).mbc.phase = s.mbc.phase ∧ (endPurge s).mbc.strokeTimer = s.mbc.strokeTimer ∧
    (endPurge s).mbc.flapTimer = s.mbc.flapTimer ∧ (endPurge s).mbc.confirmWatch = s.mbc.confirmWatch ∧
    (endPurge s).mbc.confirmed = s.mbc.confirmed ∧ (endPurge s).mbc.stopped = s.mbc.stopped ∧
    (endPurge s).tsc.code = s.tsc.code ∧ (endPurge s).tsc.clipCount = s.tsc.clipCount ∧
    (endPurge s).tsc.clipLow = s.tsc.clipLow ∧ (endPurge s).ama.pressureLow = s.ama.pressureLow ∧
    (endPurge s).tu.closeBuffer = s.tu.closeBuffer ∧ (endPurge s).tu.totalsSet = s.tu.totalsSet := by
  simp only [endPurge]; (repeat' split) <;> simp
@[simp] theorem enterClip_parts (s : State) :
    (enterClip s).dou.infeed = s.dou.infeed ∧ (enterClip s).dou.accum = s.dou.accum ∧
    (enterClip s).dou.outfeed = s.dou.outfeed ∧ (enterClip s).dou.blade = s.dou.blade ∧
    (enterClip s).dou.gate = s.dou.gate ∧ (enterClip s).dou.pusher = s.dou.pusher ∧
    (enterClip s).dou.flap = s.dou.flap ∧ (enterClip s).dou.bagBlast = s.dou.bagBlast ∧
    (enterClip s).dou.purge = s.dou.purge ∧ (enterClip s).dou.knife = s.dou.knife ∧
    (enterClip s).dou.shaker = s.dou.shaker ∧ (enterClip s).dou.armed = s.dou.armed ∧
    (enterClip s).dou.gateTimer = s.dou.gateTimer ∧ (enterClip s).dou.estop = s.dou.estop ∧
    (enterClip s).dou.guardIn = s.dou.guardIn ∧ (enterClip s).tsc.purge = s.tsc.purge ∧
    (enterClip s).tsc.tieTimer = s.tsc.tieTimer ∧ (enterClip s).tsc.leftHome = s.tsc.leftHome ∧
    (enterClip s).tsc.tiesSincePurge = s.tsc.tiesSincePurge ∧ (enterClip s).tu.closeBuffer = s.tu.closeBuffer ∧
    (enterClip s).tu.totalsSet = s.tu.totalsSet := by
  simp only [enterClip]; (repeat' split) <;> simp
@[simp] theorem completeTie_parts (s : State) :
    (completeTie s).tt.approach = s.tt.approach ∧ (completeTie s).tt.blade = s.tt.blade ∧
    (completeTie s).tt.accum = s.tt.accum ∧ (completeTie s).tt.bagger = s.tt.bagger ∧
    (completeTie s).tt.nextTag = s.tt.nextTag ∧ (completeTie s).tt.watch = s.tt.watch ∧
    (completeTie s).tt.stuck = s.tt.stuck ∧ (completeTie s).tsc.purge = s.tsc.purge ∧
    (completeTie s).tsc.phaseTimer = s.tsc.phaseTimer ∧ (completeTie s).tsc.clipCount = s.tsc.clipCount ∧
    (completeTie s).tsc.clipLow = s.tsc.clipLow ∧ (completeTie s).tu.closeBuffer = s.tu.closeBuffer ∧
    (completeTie s).tu.totalsSet = s.tu.totalsSet := by
  simp only [completeTie]; (repeat' split) <;> simp
@[simp] theorem tieIfHome_parts (s : State) :
    (tieIfHome s).tt.approach = s.tt.approach ∧ (tieIfHome s).tt.blade = s.tt.blade ∧
    (tieIfHome s).tt.accum = s.tt.accum ∧ (tieIfHome s).tt.bagger = s.tt.bagger ∧
    (tieIfHome s).tt.nextTag = s.tt.nextTag ∧ (tieIfHome s).tt.watch = s.tt.watch ∧
    (tieIfHome s).tt.stuck = s.tt.stuck ∧ (tieIfHome s).tsc.purge = s.tsc.purge ∧
    (tieIfHome s).tsc.phaseTimer = s.tsc.phaseTimer ∧ (tieIfHome s).tsc.clipCount = s.tsc.clipCount ∧
    (tieIfHome s).tsc.clipLow = s.tsc.clipLow ∧ (tieIfHome s).tu.closeBuffer = s.tu.closeBuffer ∧
    (tieIfHome s).tu.totalsSet = s.tu.totalsSet := by
  simp only [tieIfHome]; (repeat' split) <;> simp
@[simp] theorem enterHomeWait_parts (s : State) :
    (enterHomeWait s).dou.infeed = s.dou.infeed ∧ (enterHomeWait s).dou.accum = s.dou.accum ∧
    (enterHomeWait s).dou.outfeed = s.dou.outfeed ∧ (enterHomeWait s).dou.blade = s.dou.blade ∧
    (enterHomeWait s).dou.gate = s.dou.gate ∧ (enterHomeWait s).dou.pusher = s.dou.pusher ∧
    (enterHomeWait s).dou.flap = s.dou.flap ∧ (enterHomeWait s).dou.bagBlast = s.dou.bagBlast ∧
    (enterHomeWait s).dou.purge = s.dou.purge ∧ (enterHomeWait s).dou.knife = s.dou.knife ∧
    (enterHomeWait s).dou.shaker = s.dou.shaker ∧ (enterHomeWait s).dou.armed = s.dou.armed ∧
    (enterHomeWait s).dou.gateTimer = s.dou.gateTimer ∧ (enterHomeWait s).dou.estop = s.dou.estop ∧
    (enterHomeWait s).dou.guardIn = s.dou.guardIn ∧ (enterHomeWait s).tt.approach = s.tt.approach ∧
    (enterHomeWait s).tt.blade = s.tt.blade ∧ (enterHomeWait s).tt.accum = s.tt.accum ∧
    (enterHomeWait s).tt.bagger = s.tt.bagger ∧ (enterHomeWait s).tt.nextTag = s.tt.nextTag ∧
    (enterHomeWait s).tt.watch = s.tt.watch ∧ (enterHomeWait s).tt.stuck = s.tt.stuck ∧
    (enterHomeWait s).tsc.purge = s.tsc.purge ∧ (enterHomeWait s).tsc.clipCount = s.tsc.clipCount ∧
    (enterHomeWait s).tsc.clipLow = s.tsc.clipLow ∧ (enterHomeWait s).tu.closeBuffer = s.tu.closeBuffer ∧
    (enterHomeWait s).tu.totalsSet = s.tu.totalsSet := by
  simp only [enterHomeWait]; (repeat' split) <;> simp
@[simp] theorem jamTyer_parts (s : State) :
    (jamTyer s).dou.infeed = s.dou.infeed ∧ (jamTyer s).dou.accum = s.dou.accum ∧
    (jamTyer s).dou.outfeed = s.dou.outfeed ∧ (jamTyer s).dou.blade = s.dou.blade ∧
    (jamTyer s).dou.gate = s.dou.gate ∧ (jamTyer s).dou.pusher = s.dou.pusher ∧ (jamTyer s).dou.flap = s.dou.flap ∧
    (jamTyer s).dou.bagBlast = s.dou.bagBlast ∧ (jamTyer s).dou.purge = s.dou.purge ∧
    (jamTyer s).dou.knife = s.dou.knife ∧ (jamTyer s).dou.shaker = s.dou.shaker ∧
    (jamTyer s).dou.armed = s.dou.armed ∧ (jamTyer s).dou.gateTimer = s.dou.gateTimer ∧
    (jamTyer s).dou.estop = s.dou.estop ∧ (jamTyer s).dou.guardIn = s.dou.guardIn ∧
    (jamTyer s).tt.approach = s.tt.approach ∧ (jamTyer s).tt.blade = s.tt.blade ∧ (jamTyer s).tt.accum = s.tt.accum ∧
    (jamTyer s).tt.bagger = s.tt.bagger ∧ (jamTyer s).tt.exit = s.tt.exit ∧ (jamTyer s).tt.nextTag = s.tt.nextTag ∧
    (jamTyer s).tt.watch = s.tt.watch ∧ (jamTyer s).tt.stuck = s.tt.stuck ∧ (jamTyer s).tsc.purge = s.tsc.purge ∧
    (jamTyer s).tsc.leftHome = s.tsc.leftHome ∧ (jamTyer s).tsc.tiesSincePurge = s.tsc.tiesSincePurge ∧
    (jamTyer s).tsc.clipCount = s.tsc.clipCount ∧ (jamTyer s).tsc.clipLow = s.tsc.clipLow ∧
    (jamTyer s).tu.closeBuffer = s.tu.closeBuffer ∧ (jamTyer s).tu.totalsSet = s.tu.totalsSet := by
  simp only [jamTyer]; (repeat' split) <;> simp
@[simp] theorem handoff_parts (s : State) :
    (handoff s).dou.infeed = s.dou.infeed ∧ (handoff s).dou.accum = s.dou.accum ∧
    (handoff s).dou.outfeed = s.dou.outfeed ∧ (handoff s).dou.blade = s.dou.blade ∧
    (handoff s).dou.gate = s.dou.gate ∧ (handoff s).dou.pusher = s.dou.pusher ∧ (handoff s).dou.flap = s.dou.flap ∧
    (handoff s).dou.printer = s.dou.printer ∧ (handoff s).dou.armed = s.dou.armed ∧
    (handoff s).dou.gateTimer = s.dou.gateTimer ∧ (handoff s).dou.estop = s.dou.estop ∧
    (handoff s).dou.guardIn = s.dou.guardIn ∧ (handoff s).tt.approach = s.tt.approach ∧
    (handoff s).tt.blade = s.tt.blade ∧ (handoff s).tt.accum = s.tt.accum ∧ (handoff s).tt.exit = s.tt.exit ∧
    (handoff s).tt.nextTag = s.tt.nextTag ∧ (handoff s).tt.watch = s.tt.watch ∧ (handoff s).tt.stuck = s.tt.stuck ∧
    (handoff s).mbc.lastServed = s.mbc.lastServed ∧ (handoff s).mbc.phase = s.mbc.phase ∧
    (handoff s).mbc.strokeTimer = s.mbc.strokeTimer ∧ (handoff s).mbc.flapTimer = s.mbc.flapTimer ∧
    (handoff s).mbc.confirmWatch = s.mbc.confirmWatch ∧ (handoff s).mbc.confirmed = s.mbc.confirmed ∧
    (handoff s).mbc.stopped = s.mbc.stopped ∧ (handoff s).tsc.code = s.tsc.code ∧
    (handoff s).tsc.tiesSincePurge = s.tsc.tiesSincePurge ∧ (handoff s).tsc.clipCount = s.tsc.clipCount ∧
    (handoff s).tsc.clipLow = s.tsc.clipLow ∧ (handoff s).ama.pressureLow = s.ama.pressureLow ∧
    (handoff s).tu.closeBuffer = s.tu.closeBuffer ∧ (handoff s).tu.totalsSet = s.tu.totalsSet := by
  simp only [handoff]; (repeat' split) <;> simp
@[simp] theorem bagCheck_parts (s : State) :
    (bagCheck s).dou.infeed = s.dou.infeed ∧ (bagCheck s).dou.accum = s.dou.accum ∧
    (bagCheck s).dou.outfeed = s.dou.outfeed ∧ (bagCheck s).dou.blade = s.dou.blade ∧
    (bagCheck s).dou.gate = s.dou.gate ∧ (bagCheck s).dou.pusher = s.dou.pusher ∧ (bagCheck s).dou.flap = s.dou.flap ∧
    (bagCheck s).dou.tyer = s.dou.tyer ∧ (bagCheck s).dou.printer = s.dou.printer ∧
    (bagCheck s).dou.armed = s.dou.armed ∧ (bagCheck s).dou.gateTimer = s.dou.gateTimer ∧
    (bagCheck s).dou.estop = s.dou.estop ∧ (bagCheck s).dou.guardIn = s.dou.guardIn ∧
    (bagCheck s).mbc.route = s.mbc.route ∧ (bagCheck s).mbc.selected = s.mbc.selected ∧
    (bagCheck s).mbc.lastServed = s.mbc.lastServed ∧ (bagCheck s).mbc.phase = s.mbc.phase ∧
    (bagCheck s).mbc.strokeTimer = s.mbc.strokeTimer ∧ (bagCheck s).mbc.flapTimer = s.mbc.flapTimer ∧
    (bagCheck s).mbc.confirmWatch = s.mbc.confirmWatch ∧ (bagCheck s).mbc.confirmed = s.mbc.confirmed ∧
    (bagCheck s).mbc.stopped = s.mbc.stopped ∧ (bagCheck s).tsc.tyer = s.tsc.tyer ∧
    (bagCheck s).tsc.phaseTimer = s.tsc.phaseTimer ∧ (bagCheck s).tsc.tieTimer = s.tsc.tieTimer ∧
    (bagCheck s).tsc.leftHome = s.tsc.leftHome ∧ (bagCheck s).tsc.code = s.tsc.code ∧
    (bagCheck s).tsc.tiesSincePurge = s.tsc.tiesSincePurge ∧ (bagCheck s).tsc.clipCount = s.tsc.clipCount ∧
    (bagCheck s).tsc.clipLow = s.tsc.clipLow ∧ (bagCheck s).ama.pressureLow = s.ama.pressureLow ∧
    (bagCheck s).tu.closeBuffer = s.tu.closeBuffer ∧ (bagCheck s).tu.totalsSet = s.tu.totalsSet := by
  simp only [bagCheck]; (repeat' split) <;> simp
@[simp] theorem startRoute_parts (s : State) :
    (startRoute s).dou.infeed = s.dou.infeed ∧ (startRoute s).dou.accum = s.dou.accum ∧
    (startRoute s).dou.outfeed = s.dou.outfeed ∧ (startRoute s).dou.blade = s.dou.blade ∧
    (startRoute s).dou.gate = s.dou.gate ∧ (startRoute s).dou.pusher = s.dou.pusher ∧
    (startRoute s).dou.tyer = s.dou.tyer ∧ (startRoute s).dou.printer = s.dou.printer ∧
    (startRoute s).dou.armed = s.dou.armed ∧ (startRoute s).dou.gateTimer = s.dou.gateTimer ∧
    (startRoute s).dou.estop = s.dou.estop ∧ (startRoute s).dou.guardIn = s.dou.guardIn ∧
    (startRoute s).mbc.route = s.mbc.route ∧ (startRoute s).mbc.selected = s.mbc.selected ∧
    (startRoute s).mbc.lastServed = s.mbc.lastServed ∧ (startRoute s).mbc.strokeTimer = s.mbc.strokeTimer ∧
    (startRoute s).mbc.confirmWatch = s.mbc.confirmWatch ∧ (startRoute s).mbc.confirmed = s.mbc.confirmed ∧
    (startRoute s).mbc.stopped = s.mbc.stopped ∧ (startRoute s).tsc.tyer = s.tsc.tyer ∧
    (startRoute s).tsc.phaseTimer = s.tsc.phaseTimer ∧ (startRoute s).tsc.tieTimer = s.tsc.tieTimer ∧
    (startRoute s).tsc.leftHome = s.tsc.leftHome ∧ (startRoute s).tsc.code = s.tsc.code ∧
    (startRoute s).tsc.tiesSincePurge = s.tsc.tiesSincePurge ∧ (startRoute s).tsc.clipCount = s.tsc.clipCount ∧
    (startRoute s).tsc.clipLow = s.tsc.clipLow ∧ (startRoute s).ama.pressureLow = s.ama.pressureLow ∧
    (startRoute s).tu.closeBuffer = s.tu.closeBuffer ∧ (startRoute s).tu.totalsSet = s.tu.totalsSet := by
  simp only [startRoute]; (repeat' split) <;> simp
@[simp] theorem startHoming_parts (l : Lane) (s : State) :
    (startHoming l s).dou.infeed = s.dou.infeed ∧ (startHoming l s).dou.accum = s.dou.accum ∧
    (startHoming l s).dou.outfeed = s.dou.outfeed ∧ (startHoming l s).dou.blade = s.dou.blade ∧
    (startHoming l s).dou.gate = s.dou.gate ∧ (startHoming l s).dou.flap = s.dou.flap ∧
    (startHoming l s).dou.tyer = s.dou.tyer ∧ (startHoming l s).dou.printer = s.dou.printer ∧
    (startHoming l s).dou.bagBlast = s.dou.bagBlast ∧ (startHoming l s).dou.purge = s.dou.purge ∧
    (startHoming l s).dou.knife = s.dou.knife ∧ (startHoming l s).dou.shaker = s.dou.shaker ∧
    (startHoming l s).dou.armed = s.dou.armed ∧ (startHoming l s).dou.gateTimer = s.dou.gateTimer ∧
    (startHoming l s).dou.estop = s.dou.estop ∧ (startHoming l s).dou.guardIn = s.dou.guardIn ∧
    (startHoming l s).mbc.bagger = s.mbc.bagger ∧ (startHoming l s).mbc.route = s.mbc.route ∧
    (startHoming l s).mbc.selected = s.mbc.selected ∧ (startHoming l s).mbc.lastServed = s.mbc.lastServed ∧
    (startHoming l s).mbc.flapTimer = s.mbc.flapTimer ∧ (startHoming l s).mbc.openTimer = s.mbc.openTimer ∧
    (startHoming l s).mbc.confirmWatch = s.mbc.confirmWatch ∧ (startHoming l s).mbc.confirmed = s.mbc.confirmed ∧
    (startHoming l s).mbc.blast = s.mbc.blast ∧ (startHoming l s).mbc.stopped = s.mbc.stopped ∧
    (startHoming l s).mbc.bagCount = s.mbc.bagCount ∧ (startHoming l s).mbc.bagLow = s.mbc.bagLow := by
  simp only [startHoming]; (repeat' split) <;> simp
@[simp] theorem selectLane_parts (l : Lane) (r : LoafRecord) (s : State) :
    (selectLane l r s).dou.infeed = s.dou.infeed ∧ (selectLane l r s).dou.accum = s.dou.accum ∧
    (selectLane l r s).dou.outfeed = s.dou.outfeed ∧ (selectLane l r s).dou.blade = s.dou.blade ∧
    (selectLane l r s).dou.gate = s.dou.gate ∧ (selectLane l r s).dou.tyer = s.dou.tyer ∧
    (selectLane l r s).dou.printer = s.dou.printer ∧ (selectLane l r s).dou.armed = s.dou.armed ∧
    (selectLane l r s).dou.gateTimer = s.dou.gateTimer ∧ (selectLane l r s).dou.estop = s.dou.estop ∧
    (selectLane l r s).dou.guardIn = s.dou.guardIn ∧ (selectLane l r s).tt.approach = s.tt.approach ∧
    (selectLane l r s).tt.blade = s.tt.blade ∧ (selectLane l r s).tt.tyer = s.tt.tyer ∧
    (selectLane l r s).tt.exit = s.tt.exit ∧ (selectLane l r s).tt.nextTag = s.tt.nextTag ∧
    (selectLane l r s).tt.watch = s.tt.watch ∧ (selectLane l r s).tt.stuck = s.tt.stuck ∧
    (selectLane l r s).mbc.confirmWatch = s.mbc.confirmWatch ∧ (selectLane l r s).mbc.confirmed = s.mbc.confirmed ∧
    (selectLane l r s).mbc.stopped = s.mbc.stopped ∧ (selectLane l r s).tsc.tyer = s.tsc.tyer ∧
    (selectLane l r s).tsc.phaseTimer = s.tsc.phaseTimer ∧ (selectLane l r s).tsc.tieTimer = s.tsc.tieTimer ∧
    (selectLane l r s).tsc.leftHome = s.tsc.leftHome ∧ (selectLane l r s).tsc.code = s.tsc.code ∧
    (selectLane l r s).tsc.tiesSincePurge = s.tsc.tiesSincePurge ∧
    (selectLane l r s).tsc.clipCount = s.tsc.clipCount ∧ (selectLane l r s).tsc.clipLow = s.tsc.clipLow ∧
    (selectLane l r s).ama.pressureLow = s.ama.pressureLow ∧ (selectLane l r s).tu.closeBuffer = s.tu.closeBuffer ∧
    (selectLane l r s).tu.totalsSet = s.tu.totalsSet := by
  simp only [selectLane]; (repeat' split) <;> simp
@[simp] theorem selectIfReady_parts (s : State) :
    (selectIfReady s).dou.infeed = s.dou.infeed ∧ (selectIfReady s).dou.accum = s.dou.accum ∧
    (selectIfReady s).dou.outfeed = s.dou.outfeed ∧ (selectIfReady s).dou.blade = s.dou.blade ∧
    (selectIfReady s).dou.gate = s.dou.gate ∧ (selectIfReady s).dou.tyer = s.dou.tyer ∧
    (selectIfReady s).dou.printer = s.dou.printer ∧ (selectIfReady s).dou.armed = s.dou.armed ∧
    (selectIfReady s).dou.gateTimer = s.dou.gateTimer ∧ (selectIfReady s).dou.estop = s.dou.estop ∧
    (selectIfReady s).dou.guardIn = s.dou.guardIn ∧ (selectIfReady s).tt.approach = s.tt.approach ∧
    (selectIfReady s).tt.blade = s.tt.blade ∧ (selectIfReady s).tt.tyer = s.tt.tyer ∧
    (selectIfReady s).tt.exit = s.tt.exit ∧ (selectIfReady s).tt.nextTag = s.tt.nextTag ∧
    (selectIfReady s).tt.watch = s.tt.watch ∧ (selectIfReady s).tt.stuck = s.tt.stuck ∧
    (selectIfReady s).mbc.confirmWatch = s.mbc.confirmWatch ∧ (selectIfReady s).mbc.confirmed = s.mbc.confirmed ∧
    (selectIfReady s).mbc.stopped = s.mbc.stopped ∧ (selectIfReady s).tsc.tyer = s.tsc.tyer ∧
    (selectIfReady s).tsc.phaseTimer = s.tsc.phaseTimer ∧ (selectIfReady s).tsc.tieTimer = s.tsc.tieTimer ∧
    (selectIfReady s).tsc.leftHome = s.tsc.leftHome ∧ (selectIfReady s).tsc.code = s.tsc.code ∧
    (selectIfReady s).tsc.tiesSincePurge = s.tsc.tiesSincePurge ∧ (selectIfReady s).tsc.clipCount = s.tsc.clipCount ∧
    (selectIfReady s).tsc.clipLow = s.tsc.clipLow ∧ (selectIfReady s).ama.pressureLow = s.ama.pressureLow ∧
    (selectIfReady s).tu.closeBuffer = s.tu.closeBuffer ∧ (selectIfReady s).tu.totalsSet = s.tu.totalsSet := by
  simp only [selectIfReady]; (repeat' split) <;> simp
@[simp] theorem startStroke_parts (s : State) :
    (startStroke s).dou.infeed = s.dou.infeed ∧ (startStroke s).dou.accum = s.dou.accum ∧
    (startStroke s).dou.outfeed = s.dou.outfeed ∧ (startStroke s).dou.blade = s.dou.blade ∧
    (startStroke s).dou.gate = s.dou.gate ∧ (startStroke s).dou.flap = s.dou.flap ∧
    (startStroke s).dou.tyer = s.dou.tyer ∧ (startStroke s).dou.printer = s.dou.printer ∧
    (startStroke s).dou.bagBlast = s.dou.bagBlast ∧ (startStroke s).dou.purge = s.dou.purge ∧
    (startStroke s).dou.knife = s.dou.knife ∧ (startStroke s).dou.shaker = s.dou.shaker ∧
    (startStroke s).dou.armed = s.dou.armed ∧ (startStroke s).dou.gateTimer = s.dou.gateTimer ∧
    (startStroke s).dou.estop = s.dou.estop ∧ (startStroke s).dou.guardIn = s.dou.guardIn ∧
    (startStroke s).mbc.route = s.mbc.route ∧ (startStroke s).mbc.selected = s.mbc.selected ∧
    (startStroke s).mbc.lastServed = s.mbc.lastServed ∧ (startStroke s).mbc.flapTimer = s.mbc.flapTimer ∧
    (startStroke s).mbc.openTimer = s.mbc.openTimer ∧ (startStroke s).mbc.confirmWatch = s.mbc.confirmWatch ∧
    (startStroke s).mbc.confirmed = s.mbc.confirmed ∧ (startStroke s).mbc.blast = s.mbc.blast ∧
    (startStroke s).mbc.stopped = s.mbc.stopped ∧ (startStroke s).mbc.bagCount = s.mbc.bagCount ∧
    (startStroke s).mbc.bagLow = s.mbc.bagLow := by
  simp only [startStroke]; (repeat' split) <;> simp
@[simp] theorem flapSettled_parts (s : State) :
    (flapSettled s).dou.infeed = s.dou.infeed ∧ (flapSettled s).dou.accum = s.dou.accum ∧
    (flapSettled s).dou.outfeed = s.dou.outfeed ∧ (flapSettled s).dou.blade = s.dou.blade ∧
    (flapSettled s).dou.gate = s.dou.gate ∧ (flapSettled s).dou.flap = s.dou.flap ∧
    (flapSettled s).dou.tyer = s.dou.tyer ∧ (flapSettled s).dou.printer = s.dou.printer ∧
    (flapSettled s).dou.bagBlast = s.dou.bagBlast ∧ (flapSettled s).dou.purge = s.dou.purge ∧
    (flapSettled s).dou.knife = s.dou.knife ∧ (flapSettled s).dou.shaker = s.dou.shaker ∧
    (flapSettled s).dou.armed = s.dou.armed ∧ (flapSettled s).dou.gateTimer = s.dou.gateTimer ∧
    (flapSettled s).dou.estop = s.dou.estop ∧ (flapSettled s).dou.guardIn = s.dou.guardIn ∧
    (flapSettled s).mbc.route = s.mbc.route ∧ (flapSettled s).mbc.selected = s.mbc.selected ∧
    (flapSettled s).mbc.lastServed = s.mbc.lastServed ∧ (flapSettled s).mbc.openTimer = s.mbc.openTimer ∧
    (flapSettled s).mbc.confirmWatch = s.mbc.confirmWatch ∧ (flapSettled s).mbc.confirmed = s.mbc.confirmed ∧
    (flapSettled s).mbc.blast = s.mbc.blast ∧ (flapSettled s).mbc.stopped = s.mbc.stopped ∧
    (flapSettled s).mbc.bagCount = s.mbc.bagCount ∧ (flapSettled s).mbc.bagLow = s.mbc.bagLow := by
  simp only [flapSettled]; (repeat' split) <;> simp
@[simp] theorem openingOver_parts (s : State) :
    (openingOver s).dou.infeed = s.dou.infeed ∧ (openingOver s).dou.accum = s.dou.accum ∧
    (openingOver s).dou.outfeed = s.dou.outfeed ∧ (openingOver s).dou.blade = s.dou.blade ∧
    (openingOver s).dou.gate = s.dou.gate ∧ (openingOver s).dou.flap = s.dou.flap ∧
    (openingOver s).dou.tyer = s.dou.tyer ∧ (openingOver s).dou.printer = s.dou.printer ∧
    (openingOver s).dou.bagBlast = s.dou.bagBlast ∧ (openingOver s).dou.purge = s.dou.purge ∧
    (openingOver s).dou.knife = s.dou.knife ∧ (openingOver s).dou.shaker = s.dou.shaker ∧
    (openingOver s).dou.armed = s.dou.armed ∧ (openingOver s).dou.gateTimer = s.dou.gateTimer ∧
    (openingOver s).dou.estop = s.dou.estop ∧ (openingOver s).dou.guardIn = s.dou.guardIn ∧
    (openingOver s).tt.approach = s.tt.approach ∧ (openingOver s).tt.blade = s.tt.blade ∧
    (openingOver s).tt.tyer = s.tt.tyer ∧ (openingOver s).tt.exit = s.tt.exit ∧
    (openingOver s).tt.nextTag = s.tt.nextTag ∧ (openingOver s).tt.stuck = s.tt.stuck ∧
    (openingOver s).mbc.lastServed = s.mbc.lastServed ∧ (openingOver s).mbc.flapTimer = s.mbc.flapTimer ∧
    (openingOver s).mbc.blast = s.mbc.blast ∧ (openingOver s).mbc.stopped = s.mbc.stopped ∧
    (openingOver s).mbc.bagCount = s.mbc.bagCount ∧ (openingOver s).mbc.bagLow = s.mbc.bagLow := by
  simp only [openingOver]; (repeat' split) <;> simp
@[simp] theorem startRetract_parts (s : State) :
    (startRetract s).mbc.bagger = s.mbc.bagger ∧ (startRetract s).mbc.route = s.mbc.route ∧
    (startRetract s).mbc.selected = s.mbc.selected ∧ (startRetract s).mbc.lastServed = s.mbc.lastServed ∧
    (startRetract s).mbc.flapTimer = s.mbc.flapTimer ∧ (startRetract s).mbc.openTimer = s.mbc.openTimer ∧
    (startRetract s).mbc.confirmWatch = s.mbc.confirmWatch ∧ (startRetract s).mbc.confirmed = s.mbc.confirmed ∧
    (startRetract s).mbc.blast = s.mbc.blast ∧ (startRetract s).mbc.stopped = s.mbc.stopped ∧
    (startRetract s).mbc.bagCount = s.mbc.bagCount ∧ (startRetract s).mbc.bagLow = s.mbc.bagLow := by
  simp only [startRetract]; (repeat' split) <;> simp
@[simp] theorem endExtend_parts (l : Lane) (s : State) :
    (endExtend l s).dou.infeed = s.dou.infeed ∧ (endExtend l s).dou.accum = s.dou.accum ∧
    (endExtend l s).dou.outfeed = s.dou.outfeed ∧ (endExtend l s).dou.blade = s.dou.blade ∧
    (endExtend l s).dou.gate = s.dou.gate ∧ (endExtend l s).dou.flap = s.dou.flap ∧
    (endExtend l s).dou.tyer = s.dou.tyer ∧ (endExtend l s).dou.printer = s.dou.printer ∧
    (endExtend l s).dou.bagBlast = s.dou.bagBlast ∧ (endExtend l s).dou.purge = s.dou.purge ∧
    (endExtend l s).dou.knife = s.dou.knife ∧ (endExtend l s).dou.shaker = s.dou.shaker ∧
    (endExtend l s).dou.armed = s.dou.armed ∧ (endExtend l s).dou.gateTimer = s.dou.gateTimer ∧
    (endExtend l s).dou.estop = s.dou.estop ∧ (endExtend l s).dou.guardIn = s.dou.guardIn ∧
    (endExtend l s).mbc.bagger = s.mbc.bagger ∧ (endExtend l s).mbc.route = s.mbc.route ∧
    (endExtend l s).mbc.selected = s.mbc.selected ∧ (endExtend l s).mbc.lastServed = s.mbc.lastServed ∧
    (endExtend l s).mbc.flapTimer = s.mbc.flapTimer ∧ (endExtend l s).mbc.openTimer = s.mbc.openTimer ∧
    (endExtend l s).mbc.confirmWatch = s.mbc.confirmWatch ∧ (endExtend l s).mbc.confirmed = s.mbc.confirmed ∧
    (endExtend l s).mbc.blast = s.mbc.blast ∧ (endExtend l s).mbc.stopped = s.mbc.stopped ∧
    (endExtend l s).mbc.bagCount = s.mbc.bagCount ∧ (endExtend l s).mbc.bagLow = s.mbc.bagLow := by
  simp only [endExtend]; (repeat' split) <;> simp
@[simp] theorem freeRejected_parts (s : State) :
    (freeRejected s).dou.infeed = s.dou.infeed ∧ (freeRejected s).dou.accum = s.dou.accum ∧
    (freeRejected s).dou.outfeed = s.dou.outfeed ∧ (freeRejected s).dou.blade = s.dou.blade ∧
    (freeRejected s).dou.gate = s.dou.gate ∧ (freeRejected s).dou.pusher = s.dou.pusher ∧
    (freeRejected s).dou.tyer = s.dou.tyer ∧ (freeRejected s).dou.printer = s.dou.printer ∧
    (freeRejected s).dou.bagBlast = s.dou.bagBlast ∧ (freeRejected s).dou.purge = s.dou.purge ∧
    (freeRejected s).dou.knife = s.dou.knife ∧ (freeRejected s).dou.shaker = s.dou.shaker ∧
    (freeRejected s).dou.armed = s.dou.armed ∧ (freeRejected s).dou.gateTimer = s.dou.gateTimer ∧
    (freeRejected s).dou.estop = s.dou.estop ∧ (freeRejected s).dou.guardIn = s.dou.guardIn ∧
    (freeRejected s).tt.approach = s.tt.approach ∧ (freeRejected s).tt.blade = s.tt.blade ∧
    (freeRejected s).tt.bagger = s.tt.bagger ∧ (freeRejected s).tt.tyer = s.tt.tyer ∧
    (freeRejected s).tt.exit = s.tt.exit ∧ (freeRejected s).tt.nextTag = s.tt.nextTag ∧
    (freeRejected s).tt.stuck = s.tt.stuck ∧ (freeRejected s).mbc.lastServed = s.mbc.lastServed ∧
    (freeRejected s).mbc.phase = s.mbc.phase ∧ (freeRejected s).mbc.strokeTimer = s.mbc.strokeTimer ∧
    (freeRejected s).mbc.flapTimer = s.mbc.flapTimer ∧ (freeRejected s).mbc.openTimer = s.mbc.openTimer ∧
    (freeRejected s).mbc.confirmWatch = s.mbc.confirmWatch ∧ (freeRejected s).mbc.confirmed = s.mbc.confirmed ∧
    (freeRejected s).mbc.blast = s.mbc.blast ∧ (freeRejected s).mbc.stopped = s.mbc.stopped ∧
    (freeRejected s).mbc.bagCount = s.mbc.bagCount ∧ (freeRejected s).mbc.bagLow = s.mbc.bagLow ∧
    (freeRejected s).tu.closeBuffer = s.tu.closeBuffer ∧ (freeRejected s).tu.tally = s.tu.tally ∧
    (freeRejected s).tu.totalsSet = s.tu.totalsSet := by
  simp only [freeRejected]; (repeat' split) <;> simp
@[simp] theorem strokeDone_parts (s : State) :
    (strokeDone s).dou.infeed = s.dou.infeed ∧ (strokeDone s).dou.accum = s.dou.accum ∧
    (strokeDone s).dou.outfeed = s.dou.outfeed ∧ (strokeDone s).dou.blade = s.dou.blade ∧
    (strokeDone s).dou.gate = s.dou.gate ∧ (strokeDone s).dou.pusher = s.dou.pusher ∧
    (strokeDone s).dou.printer = s.dou.printer ∧ (strokeDone s).dou.armed = s.dou.armed ∧
    (strokeDone s).dou.gateTimer = s.dou.gateTimer ∧ (strokeDone s).dou.estop = s.dou.estop ∧
    (strokeDone s).dou.guardIn = s.dou.guardIn ∧ (strokeDone s).tt.approach = s.tt.approach ∧
    (strokeDone s).tt.blade = s.tt.blade ∧ (strokeDone s).tt.exit = s.tt.exit ∧
    (strokeDone s).tt.nextTag = s.tt.nextTag ∧ (strokeDone s).tt.stuck = s.tt.stuck ∧
    (strokeDone s).mbc.lastServed = s.mbc.lastServed ∧ (strokeDone s).mbc.phase = s.mbc.phase ∧
    (strokeDone s).mbc.strokeTimer = s.mbc.strokeTimer ∧ (strokeDone s).mbc.flapTimer = s.mbc.flapTimer ∧
    (strokeDone s).mbc.confirmWatch = s.mbc.confirmWatch ∧ (strokeDone s).mbc.confirmed = s.mbc.confirmed ∧
    (strokeDone s).mbc.stopped = s.mbc.stopped ∧ (strokeDone s).tsc.code = s.tsc.code ∧
    (strokeDone s).tsc.tiesSincePurge = s.tsc.tiesSincePurge ∧ (strokeDone s).tsc.clipCount = s.tsc.clipCount ∧
    (strokeDone s).tsc.clipLow = s.tsc.clipLow ∧ (strokeDone s).ama.pressureLow = s.ama.pressureLow ∧
    (strokeDone s).tu.closeBuffer = s.tu.closeBuffer ∧ (strokeDone s).tu.totalsSet = s.tu.totalsSet := by
  simp only [strokeDone]; (repeat' split) <;> simp
@[simp] theorem motionHome_parts (l : Lane) (s : State) :
    (motionHome l s).dou.infeed = s.dou.infeed ∧ (motionHome l s).dou.accum = s.dou.accum ∧
    (motionHome l s).dou.outfeed = s.dou.outfeed ∧ (motionHome l s).dou.blade = s.dou.blade ∧
    (motionHome l s).dou.gate = s.dou.gate ∧ (motionHome l s).dou.flap = s.dou.flap ∧
    (motionHome l s).dou.tyer = s.dou.tyer ∧ (motionHome l s).dou.printer = s.dou.printer ∧
    (motionHome l s).dou.bagBlast = s.dou.bagBlast ∧ (motionHome l s).dou.purge = s.dou.purge ∧
    (motionHome l s).dou.knife = s.dou.knife ∧ (motionHome l s).dou.shaker = s.dou.shaker ∧
    (motionHome l s).dou.armed = s.dou.armed ∧ (motionHome l s).dou.gateTimer = s.dou.gateTimer ∧
    (motionHome l s).dou.estop = s.dou.estop ∧ (motionHome l s).dou.guardIn = s.dou.guardIn ∧
    (motionHome l s).mbc.bagger = s.mbc.bagger ∧ (motionHome l s).mbc.route = s.mbc.route ∧
    (motionHome l s).mbc.selected = s.mbc.selected ∧ (motionHome l s).mbc.lastServed = s.mbc.lastServed ∧
    (motionHome l s).mbc.flapTimer = s.mbc.flapTimer ∧ (motionHome l s).mbc.openTimer = s.mbc.openTimer ∧
    (motionHome l s).mbc.confirmWatch = s.mbc.confirmWatch ∧ (motionHome l s).mbc.confirmed = s.mbc.confirmed ∧
    (motionHome l s).mbc.blast = s.mbc.blast ∧ (motionHome l s).mbc.stopped = s.mbc.stopped ∧
    (motionHome l s).mbc.bagCount = s.mbc.bagCount ∧ (motionHome l s).mbc.bagLow = s.mbc.bagLow := by
  simp only [motionHome]; (repeat' split) <;> simp
@[simp] theorem pusherHome_parts (l : Lane) (s : State) :
    (pusherHome l s).dou.infeed = s.dou.infeed ∧ (pusherHome l s).dou.accum = s.dou.accum ∧
    (pusherHome l s).dou.outfeed = s.dou.outfeed ∧ (pusherHome l s).dou.blade = s.dou.blade ∧
    (pusherHome l s).dou.gate = s.dou.gate ∧ (pusherHome l s).dou.printer = s.dou.printer ∧
    (pusherHome l s).dou.armed = s.dou.armed ∧ (pusherHome l s).dou.gateTimer = s.dou.gateTimer ∧
    (pusherHome l s).dou.estop = s.dou.estop ∧ (pusherHome l s).dou.guardIn = s.dou.guardIn ∧
    (pusherHome l s).tt.approach = s.tt.approach ∧ (pusherHome l s).tt.blade = s.tt.blade ∧
    (pusherHome l s).tt.exit = s.tt.exit ∧ (pusherHome l s).tt.nextTag = s.tt.nextTag ∧
    (pusherHome l s).tt.stuck = s.tt.stuck ∧ (pusherHome l s).mbc.lastServed = s.mbc.lastServed ∧
    (pusherHome l s).mbc.confirmWatch = s.mbc.confirmWatch ∧ (pusherHome l s).mbc.confirmed = s.mbc.confirmed ∧
    (pusherHome l s).mbc.stopped = s.mbc.stopped ∧ (pusherHome l s).tsc.code = s.tsc.code ∧
    (pusherHome l s).tsc.tiesSincePurge = s.tsc.tiesSincePurge ∧ (pusherHome l s).tsc.clipCount = s.tsc.clipCount ∧
    (pusherHome l s).tsc.clipLow = s.tsc.clipLow ∧ (pusherHome l s).ama.pressureLow = s.ama.pressureLow ∧
    (pusherHome l s).tu.closeBuffer = s.tu.closeBuffer ∧ (pusherHome l s).tu.totalsSet = s.tu.totalsSet := by
  simp only [pusherHome]; (repeat' split) <;> simp
@[simp] theorem strokeStopped_parts (s : State) :
    (strokeStopped s).dou.infeed = s.dou.infeed ∧ (strokeStopped s).dou.accum = s.dou.accum ∧
    (strokeStopped s).dou.outfeed = s.dou.outfeed ∧ (strokeStopped s).dou.blade = s.dou.blade ∧
    (strokeStopped s).dou.gate = s.dou.gate ∧ (strokeStopped s).dou.flap = s.dou.flap ∧
    (strokeStopped s).dou.tyer = s.dou.tyer ∧ (strokeStopped s).dou.printer = s.dou.printer ∧
    (strokeStopped s).dou.bagBlast = s.dou.bagBlast ∧ (strokeStopped s).dou.purge = s.dou.purge ∧
    (strokeStopped s).dou.knife = s.dou.knife ∧ (strokeStopped s).dou.shaker = s.dou.shaker ∧
    (strokeStopped s).dou.armed = s.dou.armed ∧ (strokeStopped s).dou.gateTimer = s.dou.gateTimer ∧
    (strokeStopped s).dou.estop = s.dou.estop ∧ (strokeStopped s).dou.guardIn = s.dou.guardIn ∧
    (strokeStopped s).mbc.bagger = s.mbc.bagger ∧ (strokeStopped s).mbc.route = s.mbc.route ∧
    (strokeStopped s).mbc.selected = s.mbc.selected ∧ (strokeStopped s).mbc.lastServed = s.mbc.lastServed ∧
    (strokeStopped s).mbc.flapTimer = s.mbc.flapTimer ∧ (strokeStopped s).mbc.openTimer = s.mbc.openTimer ∧
    (strokeStopped s).mbc.confirmWatch = s.mbc.confirmWatch ∧ (strokeStopped s).mbc.confirmed = s.mbc.confirmed ∧
    (strokeStopped s).mbc.blast = s.mbc.blast ∧ (strokeStopped s).mbc.bagCount = s.mbc.bagCount ∧
    (strokeStopped s).mbc.bagLow = s.mbc.bagLow ∧ (strokeStopped s).tu.closeBuffer = s.tu.closeBuffer ∧
    (strokeStopped s).tu.totalsSet = s.tu.totalsSet := by
  simp only [strokeStopped]; (repeat' split) <;> simp
@[simp] theorem homingFailed_parts (s : State) :
    (homingFailed s).dou.infeed = s.dou.infeed ∧ (homingFailed s).dou.accum = s.dou.accum ∧
    (homingFailed s).dou.outfeed = s.dou.outfeed ∧ (homingFailed s).dou.blade = s.dou.blade ∧
    (homingFailed s).dou.gate = s.dou.gate ∧ (homingFailed s).dou.flap = s.dou.flap ∧
    (homingFailed s).dou.tyer = s.dou.tyer ∧ (homingFailed s).dou.printer = s.dou.printer ∧
    (homingFailed s).dou.bagBlast = s.dou.bagBlast ∧ (homingFailed s).dou.purge = s.dou.purge ∧
    (homingFailed s).dou.knife = s.dou.knife ∧ (homingFailed s).dou.shaker = s.dou.shaker ∧
    (homingFailed s).dou.armed = s.dou.armed ∧ (homingFailed s).dou.gateTimer = s.dou.gateTimer ∧
    (homingFailed s).dou.estop = s.dou.estop ∧ (homingFailed s).dou.guardIn = s.dou.guardIn ∧
    (homingFailed s).mbc.lastServed = s.mbc.lastServed ∧ (homingFailed s).mbc.flapTimer = s.mbc.flapTimer ∧
    (homingFailed s).mbc.openTimer = s.mbc.openTimer ∧ (homingFailed s).mbc.confirmWatch = s.mbc.confirmWatch ∧
    (homingFailed s).mbc.confirmed = s.mbc.confirmed ∧ (homingFailed s).mbc.blast = s.mbc.blast ∧
    (homingFailed s).mbc.stopped = s.mbc.stopped ∧ (homingFailed s).mbc.bagCount = s.mbc.bagCount ∧
    (homingFailed s).mbc.bagLow = s.mbc.bagLow ∧ (homingFailed s).tu.closeBuffer = s.tu.closeBuffer ∧
    (homingFailed s).tu.totalsSet = s.tu.totalsSet := by
  simp only [homingFailed]; (repeat' split) <;> simp
@[simp] theorem endStopped_parts (s : State) :
    (endStopped s).dou.infeed = s.dou.infeed ∧ (endStopped s).dou.accum = s.dou.accum ∧
    (endStopped s).dou.outfeed = s.dou.outfeed ∧ (endStopped s).dou.blade = s.dou.blade ∧
    (endStopped s).dou.gate = s.dou.gate ∧ (endStopped s).dou.pusher = s.dou.pusher ∧
    (endStopped s).dou.printer = s.dou.printer ∧ (endStopped s).dou.armed = s.dou.armed ∧
    (endStopped s).dou.gateTimer = s.dou.gateTimer ∧ (endStopped s).dou.estop = s.dou.estop ∧
    (endStopped s).dou.guardIn = s.dou.guardIn ∧ (endStopped s).tt.approach = s.tt.approach ∧
    (endStopped s).tt.blade = s.tt.blade ∧ (endStopped s).tt.exit = s.tt.exit ∧
    (endStopped s).tt.nextTag = s.tt.nextTag ∧ (endStopped s).tt.stuck = s.tt.stuck ∧
    (endStopped s).mbc.lastServed = s.mbc.lastServed ∧ (endStopped s).mbc.phase = s.mbc.phase ∧
    (endStopped s).mbc.strokeTimer = s.mbc.strokeTimer ∧ (endStopped s).mbc.flapTimer = s.mbc.flapTimer ∧
    (endStopped s).mbc.confirmWatch = s.mbc.confirmWatch ∧ (endStopped s).mbc.confirmed = s.mbc.confirmed ∧
    (endStopped s).tsc.code = s.tsc.code ∧ (endStopped s).tsc.tiesSincePurge = s.tsc.tiesSincePurge ∧
    (endStopped s).tsc.clipCount = s.tsc.clipCount ∧ (endStopped s).tsc.clipLow = s.tsc.clipLow ∧
    (endStopped s).ama.pressureLow = s.ama.pressureLow ∧ (endStopped s).tu.closeBuffer = s.tu.closeBuffer ∧
    (endStopped s).tu.totalsSet = s.tu.totalsSet := by
  simp only [endStopped]; (repeat' split) <;> simp
@[simp] theorem bagConfirmed_parts (s : State) :
    (bagConfirmed s).dou.infeed = s.dou.infeed ∧ (bagConfirmed s).dou.accum = s.dou.accum ∧
    (bagConfirmed s).dou.outfeed = s.dou.outfeed ∧ (bagConfirmed s).dou.blade = s.dou.blade ∧
    (bagConfirmed s).dou.gate = s.dou.gate ∧ (bagConfirmed s).dou.pusher = s.dou.pusher ∧
    (bagConfirmed s).dou.flap = s.dou.flap ∧ (bagConfirmed s).dou.printer = s.dou.printer ∧
    (bagConfirmed s).dou.armed = s.dou.armed ∧ (bagConfirmed s).dou.gateTimer = s.dou.gateTimer ∧
    (bagConfirmed s).dou.estop = s.dou.estop ∧ (bagConfirmed s).dou.guardIn = s.dou.guardIn ∧
    (bagConfirmed s).tt.approach = s.tt.approach ∧ (bagConfirmed s).tt.blade = s.tt.blade ∧
    (bagConfirmed s).tt.accum = s.tt.accum ∧ (bagConfirmed s).tt.exit = s.tt.exit ∧
    (bagConfirmed s).tt.nextTag = s.tt.nextTag ∧ (bagConfirmed s).tt.watch = s.tt.watch ∧
    (bagConfirmed s).tt.stuck = s.tt.stuck ∧ (bagConfirmed s).mbc.lastServed = s.mbc.lastServed ∧
    (bagConfirmed s).mbc.phase = s.mbc.phase ∧ (bagConfirmed s).mbc.strokeTimer = s.mbc.strokeTimer ∧
    (bagConfirmed s).mbc.flapTimer = s.mbc.flapTimer ∧ (bagConfirmed s).mbc.stopped = s.mbc.stopped ∧
    (bagConfirmed s).tsc.code = s.tsc.code ∧ (bagConfirmed s).tsc.tiesSincePurge = s.tsc.tiesSincePurge ∧
    (bagConfirmed s).tsc.clipCount = s.tsc.clipCount ∧ (bagConfirmed s).tsc.clipLow = s.tsc.clipLow ∧
    (bagConfirmed s).ama.pressureLow = s.ama.pressureLow ∧ (bagConfirmed s).tu.closeBuffer = s.tu.closeBuffer ∧
    (bagConfirmed s).tu.totalsSet = s.tu.totalsSet := by
  have h : ∀ c (f : MergeBag → MergeBag) (t : State), when c (State.onMbc f) t = t.onMbc (if c then f else id) := by
    intro c f t; cases c <;> rfl
  simp only [bagConfirmed, h]; and_intros <;> (try split) <;> simp
@[simp] theorem bagMissed_parts (s : State) :
    (bagMissed s).tt.approach = s.tt.approach ∧ (bagMissed s).tt.blade = s.tt.blade ∧
    (bagMissed s).tt.accum = s.tt.accum ∧ (bagMissed s).tt.tyer = s.tt.tyer ∧ (bagMissed s).tt.exit = s.tt.exit ∧
    (bagMissed s).tt.nextTag = s.tt.nextTag ∧ (bagMissed s).tt.watch = s.tt.watch ∧
    (bagMissed s).tt.stuck = s.tt.stuck ∧ (bagMissed s).mbc.lastServed = s.mbc.lastServed ∧
    (bagMissed s).mbc.phase = s.mbc.phase ∧ (bagMissed s).mbc.strokeTimer = s.mbc.strokeTimer ∧
    (bagMissed s).mbc.flapTimer = s.mbc.flapTimer ∧ (bagMissed s).mbc.openTimer = s.mbc.openTimer ∧
    (bagMissed s).mbc.confirmed = s.mbc.confirmed ∧ (bagMissed s).mbc.blast = s.mbc.blast ∧
    (bagMissed s).mbc.stopped = s.mbc.stopped ∧ (bagMissed s).mbc.bagCount = s.mbc.bagCount ∧
    (bagMissed s).mbc.bagLow = s.mbc.bagLow ∧ (bagMissed s).tu.closeBuffer = s.tu.closeBuffer ∧
    (bagMissed s).tu.totalsSet = s.tu.totalsSet := by
  simp only [bagMissed]; (repeat' split) <;> simp
@[simp] theorem endBlast_parts (s : State) :
    (endBlast s).dou.infeed = s.dou.infeed ∧ (endBlast s).dou.accum = s.dou.accum ∧
    (endBlast s).dou.outfeed = s.dou.outfeed ∧ (endBlast s).dou.blade = s.dou.blade ∧
    (endBlast s).dou.gate = s.dou.gate ∧ (endBlast s).dou.pusher = s.dou.pusher ∧ (endBlast s).dou.flap = s.dou.flap ∧
    (endBlast s).dou.tyer = s.dou.tyer ∧ (endBlast s).dou.printer = s.dou.printer ∧
    (endBlast s).dou.armed = s.dou.armed ∧ (endBlast s).dou.gateTimer = s.dou.gateTimer ∧
    (endBlast s).dou.estop = s.dou.estop ∧ (endBlast s).dou.guardIn = s.dou.guardIn ∧
    (endBlast s).mbc.route = s.mbc.route ∧ (endBlast s).mbc.selected = s.mbc.selected ∧
    (endBlast s).mbc.lastServed = s.mbc.lastServed ∧ (endBlast s).mbc.phase = s.mbc.phase ∧
    (endBlast s).mbc.strokeTimer = s.mbc.strokeTimer ∧ (endBlast s).mbc.flapTimer = s.mbc.flapTimer ∧
    (endBlast s).mbc.confirmWatch = s.mbc.confirmWatch ∧ (endBlast s).mbc.confirmed = s.mbc.confirmed ∧
    (endBlast s).mbc.stopped = s.mbc.stopped ∧ (endBlast s).tsc.tyer = s.tsc.tyer ∧
    (endBlast s).tsc.phaseTimer = s.tsc.phaseTimer ∧ (endBlast s).tsc.tieTimer = s.tsc.tieTimer ∧
    (endBlast s).tsc.leftHome = s.tsc.leftHome ∧ (endBlast s).tsc.code = s.tsc.code ∧
    (endBlast s).tsc.tiesSincePurge = s.tsc.tiesSincePurge ∧ (endBlast s).tsc.clipCount = s.tsc.clipCount ∧
    (endBlast s).tsc.clipLow = s.tsc.clipLow ∧ (endBlast s).ama.pressureLow = s.ama.pressureLow ∧
    (endBlast s).tu.closeBuffer = s.tu.closeBuffer ∧ (endBlast s).tu.totalsSet = s.tu.totalsSet := by
  simp only [endBlast]; (repeat' split) <;> simp
@[simp] theorem abandonBagger_parts (s : State) :
    (abandonBagger s).dou.infeed = s.dou.infeed ∧ (abandonBagger s).dou.accum = s.dou.accum ∧
    (abandonBagger s).dou.outfeed = s.dou.outfeed ∧ (abandonBagger s).dou.blade = s.dou.blade ∧
    (abandonBagger s).dou.gate = s.dou.gate ∧ (abandonBagger s).dou.tyer = s.dou.tyer ∧
    (abandonBagger s).dou.printer = s.dou.printer ∧ (abandonBagger s).dou.armed = s.dou.armed ∧
    (abandonBagger s).dou.gateTimer = s.dou.gateTimer ∧ (abandonBagger s).dou.estop = s.dou.estop ∧
    (abandonBagger s).dou.guardIn = s.dou.guardIn ∧ (abandonBagger s).mbc.lastServed = s.mbc.lastServed ∧
    (abandonBagger s).tsc.tyer = s.tsc.tyer ∧ (abandonBagger s).tsc.phaseTimer = s.tsc.phaseTimer ∧
    (abandonBagger s).tsc.tieTimer = s.tsc.tieTimer ∧ (abandonBagger s).tsc.leftHome = s.tsc.leftHome ∧
    (abandonBagger s).tsc.code = s.tsc.code ∧ (abandonBagger s).tsc.tiesSincePurge = s.tsc.tiesSincePurge ∧
    (abandonBagger s).tsc.clipCount = s.tsc.clipCount ∧ (abandonBagger s).tsc.clipLow = s.tsc.clipLow ∧
    (abandonBagger s).ama.pressureLow = s.ama.pressureLow ∧ (abandonBagger s).tu.closeBuffer = s.tu.closeBuffer ∧
    (abandonBagger s).tu.totalsSet = s.tu.totalsSet := by
  simp only [abandonBagger]; (repeat' split) <;> simp
@[simp] theorem abandonTyer_parts (s : State) :
    (abandonTyer s).dou.infeed = s.dou.infeed ∧ (abandonTyer s).dou.accum = s.dou.accum ∧
    (abandonTyer s).dou.outfeed = s.dou.outfeed ∧ (abandonTyer s).dou.blade = s.dou.blade ∧
    (abandonTyer s).dou.gate = s.dou.gate ∧ (abandonTyer s).dou.pusher = s.dou.pusher ∧
    (abandonTyer s).dou.flap = s.dou.flap ∧ (abandonTyer s).dou.armed = s.dou.armed ∧
    (abandonTyer s).dou.gateTimer = s.dou.gateTimer ∧ (abandonTyer s).dou.estop = s.dou.estop ∧
    (abandonTyer s).dou.guardIn = s.dou.guardIn ∧ (abandonTyer s).mbc.route = s.mbc.route ∧
    (abandonTyer s).mbc.selected = s.mbc.selected ∧ (abandonTyer s).mbc.lastServed = s.mbc.lastServed ∧
    (abandonTyer s).mbc.phase = s.mbc.phase ∧ (abandonTyer s).mbc.strokeTimer = s.mbc.strokeTimer ∧
    (abandonTyer s).mbc.flapTimer = s.mbc.flapTimer ∧ (abandonTyer s).mbc.confirmWatch = s.mbc.confirmWatch ∧
    (abandonTyer s).mbc.confirmed = s.mbc.confirmed ∧ (abandonTyer s).mbc.stopped = s.mbc.stopped ∧
    (abandonTyer s).tsc.leftHome = s.tsc.leftHome ∧ (abandonTyer s).tsc.tiesSincePurge = s.tsc.tiesSincePurge ∧
    (abandonTyer s).tsc.clipCount = s.tsc.clipCount ∧ (abandonTyer s).tsc.clipLow = s.tsc.clipLow ∧
    (abandonTyer s).ama.pressureLow = s.ama.pressureLow ∧ (abandonTyer s).tu.closeBuffer = s.tu.closeBuffer ∧
    (abandonTyer s).tu.totalsSet = s.tu.totalsSet := by
  simp only [abandonTyer]; (repeat' split) <;> simp
@[simp] theorem requestJob_parts (j : Job) (s : State) :
    (requestJob j s).rs.cells = s.rs.cells ∧ (requestJob j s).rs.headers = s.rs.headers ∧
    (requestJob j s).rs.index = s.rs.index ∧ (requestJob j s).rs.ckpt = s.rs.ckpt ∧
    (requestJob j s).rs.lastShift = s.rs.lastShift ∧ (requestJob j s).rs.lastCkpt = s.rs.lastCkpt ∧
    (requestJob j s).rs.lastRecipes = s.rs.lastRecipes ∧ (requestJob j s).rs.findings = s.rs.findings := by
  simp only [requestJob, onRs_rs, RecordStore.begin]; (repeat' split) <;> simp
@[simp] theorem failureFault_parts (k : JobKind) (done : Bool) (s : State) :
    (failureFault k done s).tu.closeBuffer = s.tu.closeBuffer ∧
    (failureFault k done s).tu.totalsSet = s.tu.totalsSet := by
  simp only [failureFault]; (repeat' split) <;> simp
@[simp] theorem requestCheckpoint_parts (s : State) :
    (requestCheckpoint s).rs.cells = s.rs.cells ∧ (requestCheckpoint s).rs.headers = s.rs.headers ∧
    (requestCheckpoint s).rs.index = s.rs.index ∧ (requestCheckpoint s).rs.ckpt = s.rs.ckpt ∧
    (requestCheckpoint s).rs.lastShift = s.rs.lastShift ∧ (requestCheckpoint s).rs.lastCkpt = s.rs.lastCkpt ∧
    (requestCheckpoint s).rs.lastRecipes = s.rs.lastRecipes ∧ (requestCheckpoint s).rs.findings = s.rs.findings := by
  simp only [requestCheckpoint]; (repeat' split) <;> simp
@[simp] theorem changeLine_parts (new : LineState) (s : State) :
    (changeLine new s).lsc.returnState = s.lsc.returnState ∧ (changeLine new s).lsc.holdHost = s.lsc.holdHost ∧
    (changeLine new s).lsc.runMs = s.lsc.runMs ∧ (changeLine new s).lsc.holdMs = s.lsc.holdMs ∧
    (changeLine new s).lsc.stopMs = s.lsc.stopMs := by
  simp only [changeLine]; (repeat' split) <;> simp
@[simp] theorem leaveHold_parts (s : State) :
    (leaveHold s).lsc.line = s.lsc.line ∧ (leaveHold s).lsc.previous = s.lsc.previous ∧
    (leaveHold s).lsc.runMs = s.lsc.runMs ∧ (leaveHold s).lsc.holdMs = s.lsc.holdMs ∧
    (leaveHold s).lsc.stopMs = s.lsc.stopMs := by
  simp only [leaveHold]; (repeat' split) <;> simp
@[simp] theorem enterStop_parts (s : State) :
    (enterStop s).dou.estop = s.dou.estop ∧ (enterStop s).dou.guardIn = s.dou.guardIn ∧
    (enterStop s).tt.approach = s.tt.approach ∧ (enterStop s).tt.exit = s.tt.exit ∧
    (enterStop s).tt.nextTag = s.tt.nextTag ∧ (enterStop s).tt.watch = s.tt.watch ∧
    (enterStop s).tt.stuck = s.tt.stuck ∧ (enterStop s).mbc.lastServed = s.mbc.lastServed ∧
    (enterStop s).tsc.leftHome = s.tsc.leftHome ∧ (enterStop s).tsc.tiesSincePurge = s.tsc.tiesSincePurge ∧
    (enterStop s).tsc.clipCount = s.tsc.clipCount ∧ (enterStop s).tsc.clipLow = s.tsc.clipLow ∧
    (enterStop s).ama.pressureLow = s.ama.pressureLow ∧ (enterStop s).tu.closeBuffer = s.tu.closeBuffer ∧
    (enterStop s).tu.totalsSet = s.tu.totalsSet ∧ (enterStop s).lsc.runMs = s.lsc.runMs ∧
    (enterStop s).lsc.holdMs = s.lsc.holdMs ∧ (enterStop s).lsc.stopMs = s.lsc.stopMs := by
  simp only [enterStop]; (repeat' split) <;> simp
@[simp] theorem enterStandby_parts (s : State) :
    (enterStandby s).dou.infeed = s.dou.infeed ∧ (enterStandby s).dou.gate = s.dou.gate ∧
    (enterStandby s).dou.armed = s.dou.armed ∧ (enterStandby s).dou.gateTimer = s.dou.gateTimer ∧
    (enterStandby s).dou.estop = s.dou.estop ∧ (enterStandby s).dou.guardIn = s.dou.guardIn ∧
    (enterStandby s).tt.approach = s.tt.approach ∧ (enterStandby s).tt.blade = s.tt.blade ∧
    (enterStandby s).tt.accum = s.tt.accum ∧ (enterStandby s).tt.bagger = s.tt.bagger ∧
    (enterStandby s).tt.tyer = s.tt.tyer ∧ (enterStandby s).tt.exit = s.tt.exit ∧
    (enterStandby s).tt.nextTag = s.tt.nextTag ∧ (enterStandby s).tt.stuck = s.tt.stuck ∧
    (enterStandby s).mbc.lastServed = s.mbc.lastServed ∧ (enterStandby s).tsc.leftHome = s.tsc.leftHome ∧
    (enterStandby s).tsc.tiesSincePurge = s.tsc.tiesSincePurge ∧ (enterStandby s).tsc.clipCount = s.tsc.clipCount ∧
    (enterStandby s).tsc.clipLow = s.tsc.clipLow ∧ (enterStandby s).ama.pressureLow = s.ama.pressureLow ∧
    (enterStandby s).tu.closeBuffer = s.tu.closeBuffer ∧ (enterStandby s).tu.totalsSet = s.tu.totalsSet ∧
    (enterStandby s).rs.cells = s.rs.cells ∧ (enterStandby s).rs.headers = s.rs.headers ∧
    (enterStandby s).rs.index = s.rs.index ∧ (enterStandby s).rs.ckpt = s.rs.ckpt ∧
    (enterStandby s).rs.lastShift = s.rs.lastShift ∧ (enterStandby s).rs.lastCkpt = s.rs.lastCkpt ∧
    (enterStandby s).rs.lastRecipes = s.rs.lastRecipes ∧ (enterStandby s).rs.findings = s.rs.findings ∧
    (enterStandby s).lsc.runMs = s.lsc.runMs ∧ (enterStandby s).lsc.holdMs = s.lsc.holdMs ∧
    (enterStandby s).lsc.stopMs = s.lsc.stopMs := by
  simp only [enterStandby]; (repeat' split) <;> simp
@[simp] theorem enterSpinUp_parts (s : State) :
    (enterSpinUp s).dou.infeed = s.dou.infeed ∧ (enterSpinUp s).dou.blade = s.dou.blade ∧
    (enterSpinUp s).dou.gate = s.dou.gate ∧ (enterSpinUp s).dou.pusher = s.dou.pusher ∧
    (enterSpinUp s).dou.flap = s.dou.flap ∧ (enterSpinUp s).dou.tyer = s.dou.tyer ∧
    (enterSpinUp s).dou.printer = s.dou.printer ∧ (enterSpinUp s).dou.bagBlast = s.dou.bagBlast ∧
    (enterSpinUp s).dou.purge = s.dou.purge ∧ (enterSpinUp s).dou.knife = s.dou.knife ∧
    (enterSpinUp s).dou.shaker = s.dou.shaker ∧ (enterSpinUp s).dou.armed = s.dou.armed ∧
    (enterSpinUp s).dou.gateTimer = s.dou.gateTimer ∧ (enterSpinUp s).dou.estop = s.dou.estop ∧
    (enterSpinUp s).dou.guardIn = s.dou.guardIn ∧ (enterSpinUp s).tt.approach = s.tt.approach ∧
    (enterSpinUp s).tt.blade = s.tt.blade ∧ (enterSpinUp s).tt.accum = s.tt.accum ∧
    (enterSpinUp s).tt.bagger = s.tt.bagger ∧ (enterSpinUp s).tt.tyer = s.tt.tyer ∧
    (enterSpinUp s).tt.exit = s.tt.exit ∧ (enterSpinUp s).tt.nextTag = s.tt.nextTag ∧
    (enterSpinUp s).tt.stuck = s.tt.stuck ∧ (enterSpinUp s).lsc.returnState = s.lsc.returnState ∧
    (enterSpinUp s).lsc.holdHost = s.lsc.holdHost ∧ (enterSpinUp s).lsc.runMs = s.lsc.runMs ∧
    (enterSpinUp s).lsc.holdMs = s.lsc.holdMs ∧ (enterSpinUp s).lsc.stopMs = s.lsc.stopMs := by
  simp only [enterSpinUp]; (repeat' split) <;> simp
@[simp] theorem enterRun_parts (s : State) :
    (enterRun s).dou.infeed = s.dou.infeed ∧ (enterRun s).dou.blade = s.dou.blade ∧
    (enterRun s).dou.gate = s.dou.gate ∧ (enterRun s).dou.pusher = s.dou.pusher ∧ (enterRun s).dou.flap = s.dou.flap ∧
    (enterRun s).dou.tyer = s.dou.tyer ∧ (enterRun s).dou.printer = s.dou.printer ∧
    (enterRun s).dou.bagBlast = s.dou.bagBlast ∧ (enterRun s).dou.purge = s.dou.purge ∧
    (enterRun s).dou.knife = s.dou.knife ∧ (enterRun s).dou.shaker = s.dou.shaker ∧
    (enterRun s).dou.armed = s.dou.armed ∧ (enterRun s).dou.gateTimer = s.dou.gateTimer ∧
    (enterRun s).dou.estop = s.dou.estop ∧ (enterRun s).dou.guardIn = s.dou.guardIn ∧
    (enterRun s).lsc.runMs = s.lsc.runMs ∧ (enterRun s).lsc.holdMs = s.lsc.holdMs ∧
    (enterRun s).lsc.stopMs = s.lsc.stopMs := by
  simp only [enterRun]; (repeat' split) <;> simp
@[simp] theorem enterDrain_parts (s : State) :
    (enterDrain s).dou.infeed = s.dou.infeed ∧ (enterDrain s).dou.blade = s.dou.blade ∧
    (enterDrain s).dou.gate = s.dou.gate ∧ (enterDrain s).dou.pusher = s.dou.pusher ∧
    (enterDrain s).dou.flap = s.dou.flap ∧ (enterDrain s).dou.tyer = s.dou.tyer ∧
    (enterDrain s).dou.printer = s.dou.printer ∧ (enterDrain s).dou.bagBlast = s.dou.bagBlast ∧
    (enterDrain s).dou.purge = s.dou.purge ∧ (enterDrain s).dou.knife = s.dou.knife ∧
    (enterDrain s).dou.shaker = s.dou.shaker ∧ (enterDrain s).dou.armed = s.dou.armed ∧
    (enterDrain s).dou.gateTimer = s.dou.gateTimer ∧ (enterDrain s).dou.estop = s.dou.estop ∧
    (enterDrain s).dou.guardIn = s.dou.guardIn ∧ (enterDrain s).lsc.runMs = s.lsc.runMs ∧
    (enterDrain s).lsc.holdMs = s.lsc.holdMs ∧ (enterDrain s).lsc.stopMs = s.lsc.stopMs := by
  simp only [enterDrain]; (repeat' split) <;> simp
@[simp] theorem enterHold_parts (back : LineState) (s : State) :
    (enterHold back s).dou.infeed = s.dou.infeed ∧ (enterHold back s).dou.blade = s.dou.blade ∧
    (enterHold back s).dou.gate = s.dou.gate ∧ (enterHold back s).dou.pusher = s.dou.pusher ∧
    (enterHold back s).dou.flap = s.dou.flap ∧ (enterHold back s).dou.tyer = s.dou.tyer ∧
    (enterHold back s).dou.printer = s.dou.printer ∧ (enterHold back s).dou.armed = s.dou.armed ∧
    (enterHold back s).dou.gateTimer = s.dou.gateTimer ∧ (enterHold back s).dou.estop = s.dou.estop ∧
    (enterHold back s).dou.guardIn = s.dou.guardIn ∧ (enterHold back s).mbc.route = s.mbc.route ∧
    (enterHold back s).mbc.selected = s.mbc.selected ∧ (enterHold back s).mbc.lastServed = s.mbc.lastServed ∧
    (enterHold back s).mbc.phase = s.mbc.phase ∧ (enterHold back s).mbc.strokeTimer = s.mbc.strokeTimer ∧
    (enterHold back s).mbc.flapTimer = s.mbc.flapTimer ∧ (enterHold back s).mbc.confirmWatch = s.mbc.confirmWatch ∧
    (enterHold back s).mbc.confirmed = s.mbc.confirmed ∧ (enterHold back s).mbc.stopped = s.mbc.stopped ∧
    (enterHold back s).tsc.tyer = s.tsc.tyer ∧ (enterHold back s).tsc.phaseTimer = s.tsc.phaseTimer ∧
    (enterHold back s).tsc.tieTimer = s.tsc.tieTimer ∧ (enterHold back s).tsc.leftHome = s.tsc.leftHome ∧
    (enterHold back s).tsc.code = s.tsc.code ∧ (enterHold back s).tsc.tiesSincePurge = s.tsc.tiesSincePurge ∧
    (enterHold back s).tsc.clipCount = s.tsc.clipCount ∧ (enterHold back s).tsc.clipLow = s.tsc.clipLow ∧
    (enterHold back s).ama.pressureLow = s.ama.pressureLow ∧ (enterHold back s).tu.closeBuffer = s.tu.closeBuffer ∧
    (enterHold back s).tu.totalsSet = s.tu.totalsSet ∧ (enterHold back s).lsc.runMs = s.lsc.runMs ∧
    (enterHold back s).lsc.holdMs = s.lsc.holdMs ∧ (enterHold back s).lsc.stopMs = s.lsc.stopMs := by
  simp only [enterHold]; (repeat' split) <;> simp
@[simp] theorem stopIfFaulted_parts (s : State) :
    (stopIfFaulted s).dou.estop = s.dou.estop ∧ (stopIfFaulted s).dou.guardIn = s.dou.guardIn ∧
    (stopIfFaulted s).tt.approach = s.tt.approach ∧ (stopIfFaulted s).tt.exit = s.tt.exit ∧
    (stopIfFaulted s).tt.nextTag = s.tt.nextTag ∧ (stopIfFaulted s).tt.watch = s.tt.watch ∧
    (stopIfFaulted s).tt.stuck = s.tt.stuck ∧ (stopIfFaulted s).mbc.lastServed = s.mbc.lastServed ∧
    (stopIfFaulted s).tsc.leftHome = s.tsc.leftHome ∧ (stopIfFaulted s).tsc.tiesSincePurge = s.tsc.tiesSincePurge ∧
    (stopIfFaulted s).tsc.clipCount = s.tsc.clipCount ∧ (stopIfFaulted s).tsc.clipLow = s.tsc.clipLow ∧
    (stopIfFaulted s).ama.pressureLow = s.ama.pressureLow ∧ (stopIfFaulted s).tu.closeBuffer = s.tu.closeBuffer ∧
    (stopIfFaulted s).tu.totalsSet = s.tu.totalsSet ∧ (stopIfFaulted s).lsc.runMs = s.lsc.runMs ∧
    (stopIfFaulted s).lsc.holdMs = s.lsc.holdMs ∧ (stopIfFaulted s).lsc.stopMs = s.lsc.stopMs := by
  simp only [stopIfFaulted]; (repeat' split) <;> simp
@[simp] theorem runIfSpun_parts (s : State) :
    (runIfSpun s).dou.infeed = s.dou.infeed ∧ (runIfSpun s).dou.blade = s.dou.blade ∧
    (runIfSpun s).dou.gate = s.dou.gate ∧ (runIfSpun s).dou.pusher = s.dou.pusher ∧
    (runIfSpun s).dou.flap = s.dou.flap ∧ (runIfSpun s).dou.tyer = s.dou.tyer ∧
    (runIfSpun s).dou.printer = s.dou.printer ∧ (runIfSpun s).dou.bagBlast = s.dou.bagBlast ∧
    (runIfSpun s).dou.purge = s.dou.purge ∧ (runIfSpun s).dou.knife = s.dou.knife ∧
    (runIfSpun s).dou.shaker = s.dou.shaker ∧ (runIfSpun s).dou.armed = s.dou.armed ∧
    (runIfSpun s).dou.gateTimer = s.dou.gateTimer ∧ (runIfSpun s).dou.estop = s.dou.estop ∧
    (runIfSpun s).dou.guardIn = s.dou.guardIn ∧ (runIfSpun s).lsc.runMs = s.lsc.runMs ∧
    (runIfSpun s).lsc.holdMs = s.lsc.holdMs ∧ (runIfSpun s).lsc.stopMs = s.lsc.stopMs := by
  simp only [runIfSpun]; (repeat' split) <;> simp
@[simp] theorem standbyIfDrained_parts (s : State) :
    (standbyIfDrained s).dou.infeed = s.dou.infeed ∧ (standbyIfDrained s).dou.gate = s.dou.gate ∧
    (standbyIfDrained s).dou.armed = s.dou.armed ∧ (standbyIfDrained s).dou.gateTimer = s.dou.gateTimer ∧
    (standbyIfDrained s).dou.estop = s.dou.estop ∧ (standbyIfDrained s).dou.guardIn = s.dou.guardIn ∧
    (standbyIfDrained s).tt.approach = s.tt.approach ∧ (standbyIfDrained s).tt.blade = s.tt.blade ∧
    (standbyIfDrained s).tt.accum = s.tt.accum ∧ (standbyIfDrained s).tt.bagger = s.tt.bagger ∧
    (standbyIfDrained s).tt.tyer = s.tt.tyer ∧ (standbyIfDrained s).tt.exit = s.tt.exit ∧
    (standbyIfDrained s).tt.nextTag = s.tt.nextTag ∧ (standbyIfDrained s).tt.stuck = s.tt.stuck ∧
    (standbyIfDrained s).mbc.lastServed = s.mbc.lastServed ∧ (standbyIfDrained s).tsc.leftHome = s.tsc.leftHome ∧
    (standbyIfDrained s).tsc.tiesSincePurge = s.tsc.tiesSincePurge ∧
    (standbyIfDrained s).tsc.clipCount = s.tsc.clipCount ∧ (standbyIfDrained s).tsc.clipLow = s.tsc.clipLow ∧
    (standbyIfDrained s).ama.pressureLow = s.ama.pressureLow ∧
    (standbyIfDrained s).tu.closeBuffer = s.tu.closeBuffer ∧ (standbyIfDrained s).tu.totalsSet = s.tu.totalsSet ∧
    (standbyIfDrained s).rs.cells = s.rs.cells ∧ (standbyIfDrained s).rs.headers = s.rs.headers ∧
    (standbyIfDrained s).rs.index = s.rs.index ∧ (standbyIfDrained s).rs.ckpt = s.rs.ckpt ∧
    (standbyIfDrained s).rs.lastShift = s.rs.lastShift ∧ (standbyIfDrained s).rs.lastCkpt = s.rs.lastCkpt ∧
    (standbyIfDrained s).rs.lastRecipes = s.rs.lastRecipes ∧ (standbyIfDrained s).rs.findings = s.rs.findings ∧
    (standbyIfDrained s).lsc.runMs = s.lsc.runMs ∧ (standbyIfDrained s).lsc.holdMs = s.lsc.holdMs ∧
    (standbyIfDrained s).lsc.stopMs = s.lsc.stopMs := by
  simp only [standbyIfDrained]; (repeat' split) <;> simp
@[simp] theorem advanceLine_parts (s : State) :
    (advanceLine s).dou.estop = s.dou.estop ∧ (advanceLine s).dou.guardIn = s.dou.guardIn ∧
    (advanceLine s).tt.approach = s.tt.approach ∧ (advanceLine s).tt.exit = s.tt.exit ∧
    (advanceLine s).tt.nextTag = s.tt.nextTag ∧ (advanceLine s).tt.stuck = s.tt.stuck ∧
    (advanceLine s).mbc.lastServed = s.mbc.lastServed ∧ (advanceLine s).tsc.leftHome = s.tsc.leftHome ∧
    (advanceLine s).tsc.tiesSincePurge = s.tsc.tiesSincePurge ∧ (advanceLine s).tsc.clipCount = s.tsc.clipCount ∧
    (advanceLine s).tsc.clipLow = s.tsc.clipLow ∧ (advanceLine s).ama.pressureLow = s.ama.pressureLow ∧
    (advanceLine s).tu.closeBuffer = s.tu.closeBuffer ∧ (advanceLine s).tu.totalsSet = s.tu.totalsSet ∧
    (advanceLine s).rs.cells = s.rs.cells ∧ (advanceLine s).rs.headers = s.rs.headers ∧
    (advanceLine s).rs.index = s.rs.index ∧ (advanceLine s).rs.ckpt = s.rs.ckpt ∧
    (advanceLine s).rs.lastShift = s.rs.lastShift ∧ (advanceLine s).rs.lastCkpt = s.rs.lastCkpt ∧
    (advanceLine s).rs.lastRecipes = s.rs.lastRecipes ∧ (advanceLine s).rs.findings = s.rs.findings ∧
    (advanceLine s).lsc.runMs = s.lsc.runMs ∧ (advanceLine s).lsc.holdMs = s.lsc.holdMs ∧
    (advanceLine s).lsc.stopMs = s.lsc.stopMs := by
  simp only [advanceLine]; (repeat' split) <;> simp
@[simp] theorem flow_parts (s : State) :
    (flow s).dou.accum = s.dou.accum ∧ (flow s).dou.outfeed = s.dou.outfeed ∧ (flow s).dou.blade = s.dou.blade ∧
    (flow s).dou.printer = s.dou.printer ∧ (flow s).dou.estop = s.dou.estop ∧ (flow s).dou.guardIn = s.dou.guardIn ∧
    (flow s).tt.exit = s.tt.exit ∧ (flow s).tt.nextTag = s.tt.nextTag ∧ (flow s).tt.watch = s.tt.watch ∧
    (flow s).tt.stuck = s.tt.stuck ∧ (flow s).mbc.confirmWatch = s.mbc.confirmWatch ∧
    (flow s).mbc.confirmed = s.mbc.confirmed ∧ (flow s).mbc.stopped = s.mbc.stopped ∧ (flow s).tsc.code = s.tsc.code ∧
    (flow s).tsc.tiesSincePurge = s.tsc.tiesSincePurge ∧ (flow s).tsc.clipCount = s.tsc.clipCount ∧
    (flow s).tsc.clipLow = s.tsc.clipLow ∧ (flow s).ama.pressureLow = s.ama.pressureLow ∧
    (flow s).tu.closeBuffer = s.tu.closeBuffer ∧ (flow s).tu.totalsSet = s.tu.totalsSet := by
  simp only [flow]; (repeat' split) <;> simp
@[simp] theorem settle_parts (s : State) :
    (settle s).dou.estop = s.dou.estop ∧ (settle s).dou.guardIn = s.dou.guardIn ∧ (settle s).tt.exit = s.tt.exit ∧
    (settle s).tt.nextTag = s.tt.nextTag ∧ (settle s).tt.stuck = s.tt.stuck ∧
    (settle s).tsc.tiesSincePurge = s.tsc.tiesSincePurge ∧ (settle s).tsc.clipCount = s.tsc.clipCount ∧
    (settle s).tsc.clipLow = s.tsc.clipLow ∧ (settle s).ama.pressureLow = s.ama.pressureLow ∧
    (settle s).tu.closeBuffer = s.tu.closeBuffer ∧ (settle s).tu.totalsSet = s.tu.totalsSet ∧
    (settle s).rs.cells = s.rs.cells ∧ (settle s).rs.headers = s.rs.headers ∧ (settle s).rs.index = s.rs.index ∧
    (settle s).rs.ckpt = s.rs.ckpt ∧ (settle s).rs.lastShift = s.rs.lastShift ∧
    (settle s).rs.lastCkpt = s.rs.lastCkpt ∧ (settle s).rs.lastRecipes = s.rs.lastRecipes ∧
    (settle s).rs.findings = s.rs.findings ∧ (settle s).lsc.runMs = s.lsc.runMs ∧
    (settle s).lsc.holdMs = s.lsc.holdMs ∧ (settle s).lsc.stopMs = s.lsc.stopMs := by
  simp only [settle]; (repeat' split) <;> simp
@[simp] theorem endOfInitCheck_parts (l : Lane) (s : State) :
    (endOfInitCheck l s).tu.closeBuffer = s.tu.closeBuffer ∧ (endOfInitCheck l s).tu.totalsSet = s.tu.totalsSet := by
  simp only [endOfInitCheck]; (repeat' split) <;> simp
@[simp] theorem handResult_parts (c : Channel) (result : Nat) (s : State) :
    (handResult c result s).dou.infeed = s.dou.infeed ∧ (handResult c result s).dou.accum = s.dou.accum ∧
    (handResult c result s).dou.outfeed = s.dou.outfeed ∧ (handResult c result s).dou.gate = s.dou.gate ∧
    (handResult c result s).dou.pusher = s.dou.pusher ∧ (handResult c result s).dou.flap = s.dou.flap ∧
    (handResult c result s).dou.tyer = s.dou.tyer ∧ (handResult c result s).dou.printer = s.dou.printer ∧
    (handResult c result s).dou.armed = s.dou.armed ∧ (handResult c result s).dou.gateTimer = s.dou.gateTimer ∧
    (handResult c result s).dou.estop = s.dou.estop ∧ (handResult c result s).dou.guardIn = s.dou.guardIn ∧
    (handResult c result s).mbc.route = s.mbc.route ∧ (handResult c result s).mbc.selected = s.mbc.selected ∧
    (handResult c result s).mbc.lastServed = s.mbc.lastServed ∧ (handResult c result s).mbc.phase = s.mbc.phase ∧
    (handResult c result s).mbc.strokeTimer = s.mbc.strokeTimer ∧
    (handResult c result s).mbc.flapTimer = s.mbc.flapTimer ∧
    (handResult c result s).mbc.confirmWatch = s.mbc.confirmWatch ∧
    (handResult c result s).mbc.confirmed = s.mbc.confirmed ∧ (handResult c result s).mbc.stopped = s.mbc.stopped ∧
    (handResult c result s).tsc.tyer = s.tsc.tyer ∧ (handResult c result s).tsc.phaseTimer = s.tsc.phaseTimer ∧
    (handResult c result s).tsc.tieTimer = s.tsc.tieTimer ∧ (handResult c result s).tsc.leftHome = s.tsc.leftHome ∧
    (handResult c result s).tsc.code = s.tsc.code ∧
    (handResult c result s).tsc.tiesSincePurge = s.tsc.tiesSincePurge ∧
    (handResult c result s).tsc.clipCount = s.tsc.clipCount ∧ (handResult c result s).tsc.clipLow = s.tsc.clipLow ∧
    (handResult c result s).tu.closeBuffer = s.tu.closeBuffer ∧
    (handResult c result s).tu.totalsSet = s.tu.totalsSet := by
  simp only [handResult]; (repeat' split) <;> simp
@[simp] theorem completeConversion_parts (c : Channel) (result : Nat) (s : State) :
    (completeConversion c result s).dou.infeed = s.dou.infeed ∧
    (completeConversion c result s).dou.accum = s.dou.accum ∧
    (completeConversion c result s).dou.outfeed = s.dou.outfeed ∧
    (completeConversion c result s).dou.gate = s.dou.gate ∧
    (completeConversion c result s).dou.pusher = s.dou.pusher ∧
    (completeConversion c result s).dou.flap = s.dou.flap ∧ (completeConversion c result s).dou.tyer = s.dou.tyer ∧
    (completeConversion c result s).dou.printer = s.dou.printer ∧
    (completeConversion c result s).dou.armed = s.dou.armed ∧
    (completeConversion c result s).dou.gateTimer = s.dou.gateTimer ∧
    (completeConversion c result s).dou.estop = s.dou.estop ∧
    (completeConversion c result s).dou.guardIn = s.dou.guardIn ∧
    (completeConversion c result s).mbc.route = s.mbc.route ∧
    (completeConversion c result s).mbc.selected = s.mbc.selected ∧
    (completeConversion c result s).mbc.lastServed = s.mbc.lastServed ∧
    (completeConversion c result s).mbc.phase = s.mbc.phase ∧
    (completeConversion c result s).mbc.strokeTimer = s.mbc.strokeTimer ∧
    (completeConversion c result s).mbc.flapTimer = s.mbc.flapTimer ∧
    (completeConversion c result s).mbc.confirmWatch = s.mbc.confirmWatch ∧
    (completeConversion c result s).mbc.confirmed = s.mbc.confirmed ∧
    (completeConversion c result s).mbc.stopped = s.mbc.stopped ∧
    (completeConversion c result s).tsc.tyer = s.tsc.tyer ∧
    (completeConversion c result s).tsc.phaseTimer = s.tsc.phaseTimer ∧
    (completeConversion c result s).tsc.tieTimer = s.tsc.tieTimer ∧
    (completeConversion c result s).tsc.leftHome = s.tsc.leftHome ∧
    (completeConversion c result s).tsc.code = s.tsc.code ∧
    (completeConversion c result s).tsc.tiesSincePurge = s.tsc.tiesSincePurge ∧
    (completeConversion c result s).tsc.clipCount = s.tsc.clipCount ∧
    (completeConversion c result s).tsc.clipLow = s.tsc.clipLow ∧
    (completeConversion c result s).sc.timer = s.sc.timer ∧
    (completeConversion c result s).tu.closeBuffer = s.tu.closeBuffer ∧
    (completeConversion c result s).tu.totalsSet = s.tu.totalsSet := by
  simp only [completeConversion, ScanConverter.start, onSc_sc]; (repeat' split) <;> simp
@[simp] theorem strokeRunOut_parts (s : State) :
    (strokeRunOut s).dou.infeed = s.dou.infeed ∧ (strokeRunOut s).dou.accum = s.dou.accum ∧
    (strokeRunOut s).dou.outfeed = s.dou.outfeed ∧ (strokeRunOut s).dou.blade = s.dou.blade ∧
    (strokeRunOut s).dou.gate = s.dou.gate ∧ (strokeRunOut s).dou.flap = s.dou.flap ∧
    (strokeRunOut s).dou.tyer = s.dou.tyer ∧ (strokeRunOut s).dou.printer = s.dou.printer ∧
    (strokeRunOut s).dou.bagBlast = s.dou.bagBlast ∧ (strokeRunOut s).dou.purge = s.dou.purge ∧
    (strokeRunOut s).dou.knife = s.dou.knife ∧ (strokeRunOut s).dou.shaker = s.dou.shaker ∧
    (strokeRunOut s).dou.armed = s.dou.armed ∧ (strokeRunOut s).dou.gateTimer = s.dou.gateTimer ∧
    (strokeRunOut s).dou.estop = s.dou.estop ∧ (strokeRunOut s).dou.guardIn = s.dou.guardIn ∧
    (strokeRunOut s).mbc.lastServed = s.mbc.lastServed ∧ (strokeRunOut s).mbc.flapTimer = s.mbc.flapTimer ∧
    (strokeRunOut s).mbc.openTimer = s.mbc.openTimer ∧ (strokeRunOut s).mbc.confirmWatch = s.mbc.confirmWatch ∧
    (strokeRunOut s).mbc.confirmed = s.mbc.confirmed ∧ (strokeRunOut s).mbc.blast = s.mbc.blast ∧
    (strokeRunOut s).mbc.bagCount = s.mbc.bagCount ∧ (strokeRunOut s).mbc.bagLow = s.mbc.bagLow ∧
    (strokeRunOut s).tu.closeBuffer = s.tu.closeBuffer ∧ (strokeRunOut s).tu.totalsSet = s.tu.totalsSet := by
  simp only [strokeRunOut]; (repeat' split) <;> simp
@[simp] theorem deadTimeOver_parts (l : Lane) (s : State) :
    (deadTimeOver l s).dou.infeed = s.dou.infeed ∧ (deadTimeOver l s).dou.accum = s.dou.accum ∧
    (deadTimeOver l s).dou.outfeed = s.dou.outfeed ∧ (deadTimeOver l s).dou.blade = s.dou.blade ∧
    (deadTimeOver l s).dou.gate = s.dou.gate ∧ (deadTimeOver l s).dou.flap = s.dou.flap ∧
    (deadTimeOver l s).dou.tyer = s.dou.tyer ∧ (deadTimeOver l s).dou.printer = s.dou.printer ∧
    (deadTimeOver l s).dou.bagBlast = s.dou.bagBlast ∧ (deadTimeOver l s).dou.purge = s.dou.purge ∧
    (deadTimeOver l s).dou.knife = s.dou.knife ∧ (deadTimeOver l s).dou.shaker = s.dou.shaker ∧
    (deadTimeOver l s).dou.armed = s.dou.armed ∧ (deadTimeOver l s).dou.gateTimer = s.dou.gateTimer ∧
    (deadTimeOver l s).dou.estop = s.dou.estop ∧ (deadTimeOver l s).dou.guardIn = s.dou.guardIn ∧
    (deadTimeOver l s).mbc.bagger = s.mbc.bagger ∧ (deadTimeOver l s).mbc.route = s.mbc.route ∧
    (deadTimeOver l s).mbc.selected = s.mbc.selected ∧ (deadTimeOver l s).mbc.lastServed = s.mbc.lastServed ∧
    (deadTimeOver l s).mbc.flapTimer = s.mbc.flapTimer ∧ (deadTimeOver l s).mbc.openTimer = s.mbc.openTimer ∧
    (deadTimeOver l s).mbc.confirmWatch = s.mbc.confirmWatch ∧ (deadTimeOver l s).mbc.confirmed = s.mbc.confirmed ∧
    (deadTimeOver l s).mbc.blast = s.mbc.blast ∧ (deadTimeOver l s).mbc.stopped = s.mbc.stopped ∧
    (deadTimeOver l s).mbc.bagCount = s.mbc.bagCount ∧ (deadTimeOver l s).mbc.bagLow = s.mbc.bagLow := by
  simp only [deadTimeOver]; (repeat' split) <;> simp

end Sys2Proof.Machine
end

