-- ==== Sys2Proof/Laws/Lanes.lean ====
section
/-! SUPPORT. The frames of the shared operations on the lanes: of the two lanes' controllers, the parts each keeps. -/

namespace Sys2Proof.Machine

set_option Elab.async false
set_option linter.unusedTactic false
set_option linter.unnecessarySeqFocus false

@[simp] theorem when_lic_enabled {f : State → State} {m : Lane}
    (h : ∀ s, ((f s).lic.get m).enabled = (s.lic.get m).enabled) (c : Bool) (s : State) :
    ((when c f s).lic.get m).enabled = (s.lic.get m).enabled := by cases c <;> simp [when, h]
theorem foldl_lic_enabled {α : Type} {f : State → α → State} {m : Lane}
    (h : ∀ s x, ((f s x).lic.get m).enabled = (s.lic.get m).enabled) (l : List α)
    (s : State) : ((l.foldl f s).lic.get m).enabled = (s.lic.get m).enabled := by
  induction l generalizing s with
  | nil => rfl
  | cons x l ih => rw [List.foldl_cons, ih, h]
@[simp] theorem when_lic_blade {f : State → State} {m : Lane}
    (h : ∀ s, ((f s).lic.get m).blade = (s.lic.get m).blade) (c : Bool) (s : State) :
    ((when c f s).lic.get m).blade = (s.lic.get m).blade := by cases c <;> simp [when, h]
theorem foldl_lic_blade {α : Type} {f : State → α → State} {m : Lane}
    (h : ∀ s x, ((f s x).lic.get m).blade = (s.lic.get m).blade) (l : List α)
    (s : State) : ((l.foldl f s).lic.get m).blade = (s.lic.get m).blade := by
  induction l generalizing s with
  | nil => rfl
  | cons x l ih => rw [List.foldl_cons, ih, h]
@[simp] theorem when_lic_spinWait {f : State → State} {m : Lane}
    (h : ∀ s, ((f s).lic.get m).spinWait = (s.lic.get m).spinWait) (c : Bool) (s : State) :
    ((when c f s).lic.get m).spinWait = (s.lic.get m).spinWait := by cases c <;> simp [when, h]
theorem foldl_lic_spinWait {α : Type} {f : State → α → State} {m : Lane}
    (h : ∀ s x, ((f s x).lic.get m).spinWait = (s.lic.get m).spinWait) (l : List α)
    (s : State) : ((l.foldl f s).lic.get m).spinWait = (s.lic.get m).spinWait := by
  induction l generalizing s with
  | nil => rfl
  | cons x l ih => rw [List.foldl_cons, ih, h]
@[simp] theorem when_lic_active {f : State → State} {m : Lane}
    (h : ∀ s, ((f s).lic.get m).active = (s.lic.get m).active) (c : Bool) (s : State) :
    ((when c f s).lic.get m).active = (s.lic.get m).active := by cases c <;> simp [when, h]
theorem foldl_lic_active {α : Type} {f : State → α → State} {m : Lane}
    (h : ∀ s x, ((f s x).lic.get m).active = (s.lic.get m).active) (l : List α)
    (s : State) : ((l.foldl f s).lic.get m).active = (s.lic.get m).active := by
  induction l generalizing s with
  | nil => rfl
  | cons x l ih => rw [List.foldl_cons, ih, h]
@[simp] theorem when_lic_pendingSel {f : State → State} {m : Lane}
    (h : ∀ s, ((f s).lic.get m).pendingSel = (s.lic.get m).pendingSel) (c : Bool) (s : State) :
    ((when c f s).lic.get m).pendingSel = (s.lic.get m).pendingSel := by cases c <;> simp [when, h]
theorem foldl_lic_pendingSel {α : Type} {f : State → α → State} {m : Lane}
    (h : ∀ s x, ((f s x).lic.get m).pendingSel = (s.lic.get m).pendingSel) (l : List α)
    (s : State) : ((l.foldl f s).lic.get m).pendingSel = (s.lic.get m).pendingSel := by
  induction l generalizing s with
  | nil => rfl
  | cons x l ih => rw [List.foldl_cons, ih, h]
@[simp] theorem when_lic_feedRef {f : State → State} {m : Lane}
    (h : ∀ s, ((f s).lic.get m).feedRef = (s.lic.get m).feedRef) (c : Bool) (s : State) :
    ((when c f s).lic.get m).feedRef = (s.lic.get m).feedRef := by cases c <;> simp [when, h]
theorem foldl_lic_feedRef {α : Type} {f : State → α → State} {m : Lane}
    (h : ∀ s x, ((f s x).lic.get m).feedRef = (s.lic.get m).feedRef) (l : List α)
    (s : State) : ((l.foldl f s).lic.get m).feedRef = (s.lic.get m).feedRef := by
  induction l generalizing s with
  | nil => rfl
  | cons x l ih => rw [List.foldl_cons, ih, h]
@[simp] theorem when_lic_appliedTag {f : State → State} {m : Lane}
    (h : ∀ s, ((f s).lic.get m).appliedTag = (s.lic.get m).appliedTag) (c : Bool) (s : State) :
    ((when c f s).lic.get m).appliedTag = (s.lic.get m).appliedTag := by cases c <;> simp [when, h]
theorem foldl_lic_appliedTag {α : Type} {f : State → α → State} {m : Lane}
    (h : ∀ s x, ((f s x).lic.get m).appliedTag = (s.lic.get m).appliedTag) (l : List α)
    (s : State) : ((l.foldl f s).lic.get m).appliedTag = (s.lic.get m).appliedTag := by
  induction l generalizing s with
  | nil => rfl
  | cons x l ih => rw [List.foldl_cons, ih, h]
@[simp] theorem when_cc_estimate {f : State → State} {m : Lane}
    (h : ∀ s, ((f s).cc.get m).estimate = (s.cc.get m).estimate) (c : Bool) (s : State) :
    ((when c f s).cc.get m).estimate = (s.cc.get m).estimate := by cases c <;> simp [when, h]
theorem foldl_cc_estimate {α : Type} {f : State → α → State} {m : Lane}
    (h : ∀ s x, ((f s x).cc.get m).estimate = (s.cc.get m).estimate) (l : List α)
    (s : State) : ((l.foldl f s).cc.get m).estimate = (s.cc.get m).estimate := by
  induction l generalizing s with
  | nil => rfl
  | cons x l ih => rw [List.foldl_cons, ih, h]
@[simp] theorem when_cc_lastLevel {f : State → State} {m : Lane}
    (h : ∀ s, ((f s).cc.get m).lastLevel = (s.cc.get m).lastLevel) (c : Bool) (s : State) :
    ((when c f s).cc.get m).lastLevel = (s.cc.get m).lastLevel := by cases c <;> simp [when, h]
theorem foldl_cc_lastLevel {α : Type} {f : State → α → State} {m : Lane}
    (h : ∀ s x, ((f s x).cc.get m).lastLevel = (s.cc.get m).lastLevel) (l : List α)
    (s : State) : ((l.foldl f s).cc.get m).lastLevel = (s.cc.get m).lastLevel := by
  induction l generalizing s with
  | nil => rfl
  | cons x l ih => rw [List.foldl_cons, ih, h]
@[simp] theorem when_cc_levelSince {f : State → State} {m : Lane}
    (h : ∀ s, ((f s).cc.get m).levelSince = (s.cc.get m).levelSince) (c : Bool) (s : State) :
    ((when c f s).cc.get m).levelSince = (s.cc.get m).levelSince := by cases c <;> simp [when, h]
theorem foldl_cc_levelSince {α : Type} {f : State → α → State} {m : Lane}
    (h : ∀ s x, ((f s x).cc.get m).levelSince = (s.cc.get m).levelSince) (l : List α)
    (s : State) : ((l.foldl f s).cc.get m).levelSince = (s.cc.get m).levelSince := by
  induction l generalizing s with
  | nil => rfl
  | cons x l ih => rw [List.foldl_cons, ih, h]
@[simp] theorem when_cc_cycle {f : State → State} {m : Lane}
    (h : ∀ s, ((f s).cc.get m).cycle = (s.cc.get m).cycle) (c : Bool) (s : State) :
    ((when c f s).cc.get m).cycle = (s.cc.get m).cycle := by cases c <;> simp [when, h]
theorem foldl_cc_cycle {α : Type} {f : State → α → State} {m : Lane}
    (h : ∀ s x, ((f s x).cc.get m).cycle = (s.cc.get m).cycle) (l : List α)
    (s : State) : ((l.foldl f s).cc.get m).cycle = (s.cc.get m).cycle := by
  induction l generalizing s with
  | nil => rfl
  | cons x l ih => rw [List.foldl_cons, ih, h]
@[simp] theorem when_cc_cause {f : State → State} {m : Lane}
    (h : ∀ s, ((f s).cc.get m).cause = (s.cc.get m).cause) (c : Bool) (s : State) :
    ((when c f s).cc.get m).cause = (s.cc.get m).cause := by cases c <;> simp [when, h]
theorem foldl_cc_cause {α : Type} {f : State → α → State} {m : Lane}
    (h : ∀ s x, ((f s x).cc.get m).cause = (s.cc.get m).cause) (l : List α)
    (s : State) : ((l.foldl f s).cc.get m).cause = (s.cc.get m).cause := by
  induction l generalizing s with
  | nil => rfl
  | cons x l ih => rw [List.foldl_cons, ih, h]
@[simp] theorem when_cc_shakerOnly {f : State → State} {m : Lane}
    (h : ∀ s, ((f s).cc.get m).shakerOnly = (s.cc.get m).shakerOnly) (c : Bool) (s : State) :
    ((when c f s).cc.get m).shakerOnly = (s.cc.get m).shakerOnly := by cases c <;> simp [when, h]
theorem foldl_cc_shakerOnly {α : Type} {f : State → α → State} {m : Lane}
    (h : ∀ s x, ((f s x).cc.get m).shakerOnly = (s.cc.get m).shakerOnly) (l : List α)
    (s : State) : ((l.foldl f s).cc.get m).shakerOnly = (s.cc.get m).shakerOnly := by
  induction l generalizing s with
  | nil => rfl
  | cons x l ih => rw [List.foldl_cons, ih, h]
@[simp] theorem when_cc_airWait {f : State → State} {m : Lane}
    (h : ∀ s, ((f s).cc.get m).airWait = (s.cc.get m).airWait) (c : Bool) (s : State) :
    ((when c f s).cc.get m).airWait = (s.cc.get m).airWait := by cases c <;> simp [when, h]
theorem foldl_cc_airWait {α : Type} {f : State → α → State} {m : Lane}
    (h : ∀ s x, ((f s x).cc.get m).airWait = (s.cc.get m).airWait) (l : List α)
    (s : State) : ((l.foldl f s).cc.get m).airWait = (s.cc.get m).airWait := by
  induction l generalizing s with
  | nil => rfl
  | cons x l ih => rw [List.foldl_cons, ih, h]
@[simp] theorem when_cc_phaseTimer {f : State → State} {m : Lane}
    (h : ∀ s, ((f s).cc.get m).phaseTimer = (s.cc.get m).phaseTimer) (c : Bool) (s : State) :
    ((when c f s).cc.get m).phaseTimer = (s.cc.get m).phaseTimer := by cases c <;> simp [when, h]
theorem foldl_cc_phaseTimer {α : Type} {f : State → α → State} {m : Lane}
    (h : ∀ s x, ((f s x).cc.get m).phaseTimer = (s.cc.get m).phaseTimer) (l : List α)
    (s : State) : ((l.foldl f s).cc.get m).phaseTimer = (s.cc.get m).phaseTimer := by
  induction l generalizing s with
  | nil => rfl
  | cons x l ih => rw [List.foldl_cons, ih, h]
@[simp] theorem when_cc_backoff {f : State → State} {m : Lane}
    (h : ∀ s, ((f s).cc.get m).backoff = (s.cc.get m).backoff) (c : Bool) (s : State) :
    ((when c f s).cc.get m).backoff = (s.cc.get m).backoff := by cases c <;> simp [when, h]
theorem foldl_cc_backoff {α : Type} {f : State → α → State} {m : Lane}
    (h : ∀ s x, ((f s x).cc.get m).backoff = (s.cc.get m).backoff) (l : List α)
    (s : State) : ((l.foldl f s).cc.get m).backoff = (s.cc.get m).backoff := by
  induction l generalizing s with
  | nil => rfl
  | cons x l ih => rw [List.foldl_cons, ih, h]
@[simp] theorem when_cc_lastClear {f : State → State} {m : Lane}
    (h : ∀ s, ((f s).cc.get m).lastClear = (s.cc.get m).lastClear) (c : Bool) (s : State) :
    ((when c f s).cc.get m).lastClear = (s.cc.get m).lastClear := by cases c <;> simp [when, h]
theorem foldl_cc_lastClear {α : Type} {f : State → α → State} {m : Lane}
    (h : ∀ s x, ((f s x).cc.get m).lastClear = (s.cc.get m).lastClear) (l : List α)
    (s : State) : ((l.foldl f s).cc.get m).lastClear = (s.cc.get m).lastClear := by
  induction l generalizing s with
  | nil => rfl
  | cons x l ih => rw [List.foldl_cons, ih, h]
@[simp] theorem upd_lic_enabled {f : LaneInfeed → LaneInfeed} (h : ∀ c, (f c).enabled = c.enabled) (l m : Lane) (p : PerLane LaneInfeed) :
    ((PerLane.upd l f p).get m).enabled = (p.get m).enabled := by
  cases l <;> cases m <;> simp [PerLane.upd, PerLane.get, h]
@[simp] theorem upd_lic_blade {f : LaneInfeed → LaneInfeed} (h : ∀ c, (f c).blade = c.blade) (l m : Lane) (p : PerLane LaneInfeed) :
    ((PerLane.upd l f p).get m).blade = (p.get m).blade := by
  cases l <;> cases m <;> simp [PerLane.upd, PerLane.get, h]
@[simp] theorem upd_lic_spinWait {f : LaneInfeed → LaneInfeed} (h : ∀ c, (f c).spinWait = c.spinWait) (l m : Lane) (p : PerLane LaneInfeed) :
    ((PerLane.upd l f p).get m).spinWait = (p.get m).spinWait := by
  cases l <;> cases m <;> simp [PerLane.upd, PerLane.get, h]
@[simp] theorem upd_lic_active {f : LaneInfeed → LaneInfeed} (h : ∀ c, (f c).active = c.active) (l m : Lane) (p : PerLane LaneInfeed) :
    ((PerLane.upd l f p).get m).active = (p.get m).active := by
  cases l <;> cases m <;> simp [PerLane.upd, PerLane.get, h]
@[simp] theorem upd_lic_pendingSel {f : LaneInfeed → LaneInfeed} (h : ∀ c, (f c).pendingSel = c.pendingSel) (l m : Lane) (p : PerLane LaneInfeed) :
    ((PerLane.upd l f p).get m).pendingSel = (p.get m).pendingSel := by
  cases l <;> cases m <;> simp [PerLane.upd, PerLane.get, h]
@[simp] theorem upd_lic_feedRef {f : LaneInfeed → LaneInfeed} (h : ∀ c, (f c).feedRef = c.feedRef) (l m : Lane) (p : PerLane LaneInfeed) :
    ((PerLane.upd l f p).get m).feedRef = (p.get m).feedRef := by
  cases l <;> cases m <;> simp [PerLane.upd, PerLane.get, h]
@[simp] theorem upd_lic_appliedTag {f : LaneInfeed → LaneInfeed} (h : ∀ c, (f c).appliedTag = c.appliedTag) (l m : Lane) (p : PerLane LaneInfeed) :
    ((PerLane.upd l f p).get m).appliedTag = (p.get m).appliedTag := by
  cases l <;> cases m <;> simp [PerLane.upd, PerLane.get, h]
@[simp] theorem upd_cc_estimate {f : Crumb → Crumb} (h : ∀ c, (f c).estimate = c.estimate) (l m : Lane) (p : PerLane Crumb) :
    ((PerLane.upd l f p).get m).estimate = (p.get m).estimate := by
  cases l <;> cases m <;> simp [PerLane.upd, PerLane.get, h]
@[simp] theorem upd_cc_lastLevel {f : Crumb → Crumb} (h : ∀ c, (f c).lastLevel = c.lastLevel) (l m : Lane) (p : PerLane Crumb) :
    ((PerLane.upd l f p).get m).lastLevel = (p.get m).lastLevel := by
  cases l <;> cases m <;> simp [PerLane.upd, PerLane.get, h]
@[simp] theorem upd_cc_levelSince {f : Crumb → Crumb} (h : ∀ c, (f c).levelSince = c.levelSince) (l m : Lane) (p : PerLane Crumb) :
    ((PerLane.upd l f p).get m).levelSince = (p.get m).levelSince := by
  cases l <;> cases m <;> simp [PerLane.upd, PerLane.get, h]
@[simp] theorem upd_cc_cycle {f : Crumb → Crumb} (h : ∀ c, (f c).cycle = c.cycle) (l m : Lane) (p : PerLane Crumb) :
    ((PerLane.upd l f p).get m).cycle = (p.get m).cycle := by
  cases l <;> cases m <;> simp [PerLane.upd, PerLane.get, h]
@[simp] theorem upd_cc_cause {f : Crumb → Crumb} (h : ∀ c, (f c).cause = c.cause) (l m : Lane) (p : PerLane Crumb) :
    ((PerLane.upd l f p).get m).cause = (p.get m).cause := by
  cases l <;> cases m <;> simp [PerLane.upd, PerLane.get, h]
@[simp] theorem upd_cc_shakerOnly {f : Crumb → Crumb} (h : ∀ c, (f c).shakerOnly = c.shakerOnly) (l m : Lane) (p : PerLane Crumb) :
    ((PerLane.upd l f p).get m).shakerOnly = (p.get m).shakerOnly := by
  cases l <;> cases m <;> simp [PerLane.upd, PerLane.get, h]
@[simp] theorem upd_cc_airWait {f : Crumb → Crumb} (h : ∀ c, (f c).airWait = c.airWait) (l m : Lane) (p : PerLane Crumb) :
    ((PerLane.upd l f p).get m).airWait = (p.get m).airWait := by
  cases l <;> cases m <;> simp [PerLane.upd, PerLane.get, h]
@[simp] theorem upd_cc_phaseTimer {f : Crumb → Crumb} (h : ∀ c, (f c).phaseTimer = c.phaseTimer) (l m : Lane) (p : PerLane Crumb) :
    ((PerLane.upd l f p).get m).phaseTimer = (p.get m).phaseTimer := by
  cases l <;> cases m <;> simp [PerLane.upd, PerLane.get, h]
@[simp] theorem upd_cc_backoff {f : Crumb → Crumb} (h : ∀ c, (f c).backoff = c.backoff) (l m : Lane) (p : PerLane Crumb) :
    ((PerLane.upd l f p).get m).backoff = (p.get m).backoff := by
  cases l <;> cases m <;> simp [PerLane.upd, PerLane.get, h]
@[simp] theorem upd_cc_lastClear {f : Crumb → Crumb} (h : ∀ c, (f c).lastClear = c.lastClear) (l m : Lane) (p : PerLane Crumb) :
    ((PerLane.upd l f p).get m).lastClear = (p.get m).lastClear := by
  cases l <;> cases m <;> simp [PerLane.upd, PerLane.get, h]
@[simp] theorem syncLane_lanes (m : Lane) (l : Lane) (s : State) :
    ((syncLane l s).lic.get m).enabled = (s.lic.get m).enabled ∧
    ((syncLane l s).lic.get m).blade = (s.lic.get m).blade ∧
    ((syncLane l s).lic.get m).spinWait = (s.lic.get m).spinWait ∧
    ((syncLane l s).lic.get m).active = (s.lic.get m).active ∧
    ((syncLane l s).lic.get m).pendingSel = (s.lic.get m).pendingSel ∧
    ((syncLane l s).lic.get m).feedRef = (s.lic.get m).feedRef ∧
    ((syncLane l s).lic.get m).appliedTag = (s.lic.get m).appliedTag := by
  have h : (syncLane l s).lic = s.lic.upd l (laneFlags l s) := by
    unfold syncLane when raiseKey; dsimp only; (repeat' split) <;> (cases l <;> rfl)
  rw [h]; cases l <;> cases m <;> simp [PerLane.upd, PerLane.get, laneFlags]
@[simp] theorem syncLanes_lanes (m : Lane) (s : State) :
    ((syncLanes s).lic.get m).enabled = (s.lic.get m).enabled ∧
    ((syncLanes s).lic.get m).blade = (s.lic.get m).blade ∧
    ((syncLanes s).lic.get m).spinWait = (s.lic.get m).spinWait ∧
    ((syncLanes s).lic.get m).active = (s.lic.get m).active ∧
    ((syncLanes s).lic.get m).pendingSel = (s.lic.get m).pendingSel ∧
    ((syncLanes s).lic.get m).feedRef = (s.lic.get m).feedRef ∧
    ((syncLanes s).lic.get m).appliedTag = (s.lic.get m).appliedTag := by
  simp only [syncLanes]; (repeat' split) <;> simp
@[simp] theorem syncHold_lanes (m : Lane) (l : Lane) (s : State) :
    ((syncHold l s).lic.get m).enabled = (s.lic.get m).enabled ∧
    ((syncHold l s).lic.get m).blade = (s.lic.get m).blade ∧
    ((syncHold l s).lic.get m).spinWait = (s.lic.get m).spinWait ∧
    ((syncHold l s).lic.get m).active = (s.lic.get m).active ∧
    ((syncHold l s).lic.get m).pendingSel = (s.lic.get m).pendingSel ∧
    ((syncHold l s).lic.get m).feedRef = (s.lic.get m).feedRef ∧
    ((syncHold l s).lic.get m).appliedTag = (s.lic.get m).appliedTag := by
  have h : (syncHold l s).lic = s.lic.upd l (fun i => { i with closure := { i.closure with faultHold := faultHold l s } }) := by
    unfold syncHold when raiseKey; dsimp only; (repeat' split) <;> (cases l <;> rfl)
  rw [h]; cases l <;> cases m <;> simp [PerLane.upd, PerLane.get]
@[simp] theorem syncHolds_lanes (m : Lane) (s : State) :
    ((syncHolds s).lic.get m).enabled = (s.lic.get m).enabled ∧
    ((syncHolds s).lic.get m).blade = (s.lic.get m).blade ∧
    ((syncHolds s).lic.get m).spinWait = (s.lic.get m).spinWait ∧
    ((syncHolds s).lic.get m).active = (s.lic.get m).active ∧
    ((syncHolds s).lic.get m).pendingSel = (s.lic.get m).pendingSel ∧
    ((syncHolds s).lic.get m).feedRef = (s.lic.get m).feedRef ∧
    ((syncHolds s).lic.get m).appliedTag = (s.lic.get m).appliedTag := by
  simp only [syncHolds]; (repeat' split) <;> simp
@[simp] theorem raiseFault_lanes (m : Lane) (k : FaultKind) (subj : Subject) (detail : Option Nat) (s : State) :
    ((raiseFault k subj detail s).lic.get m).enabled = (s.lic.get m).enabled ∧
    ((raiseFault k subj detail s).lic.get m).blade = (s.lic.get m).blade ∧
    ((raiseFault k subj detail s).lic.get m).spinWait = (s.lic.get m).spinWait ∧
    ((raiseFault k subj detail s).lic.get m).active = (s.lic.get m).active ∧
    ((raiseFault k subj detail s).lic.get m).pendingSel = (s.lic.get m).pendingSel ∧
    ((raiseFault k subj detail s).lic.get m).feedRef = (s.lic.get m).feedRef ∧
    ((raiseFault k subj detail s).lic.get m).appliedTag = (s.lic.get m).appliedTag := by
  simp only [raiseFault]; (repeat' split) <;> simp
@[simp] theorem removeEntry_lanes (m : Lane) (k : FaultKind) (subj : Subject) (s : State) :
    ((removeEntry k subj s).lic.get m).enabled = (s.lic.get m).enabled ∧
    ((removeEntry k subj s).lic.get m).blade = (s.lic.get m).blade ∧
    ((removeEntry k subj s).lic.get m).spinWait = (s.lic.get m).spinWait ∧
    ((removeEntry k subj s).lic.get m).active = (s.lic.get m).active ∧
    ((removeEntry k subj s).lic.get m).pendingSel = (s.lic.get m).pendingSel ∧
    ((removeEntry k subj s).lic.get m).feedRef = (s.lic.get m).feedRef ∧
    ((removeEntry k subj s).lic.get m).appliedTag = (s.lic.get m).appliedTag := by
  simp only [removeEntry]; (repeat' split) <;> simp
@[simp] theorem noticeCause_lanes (m : Lane) (k : FaultKind) (subj : Subject) (isPresent : Bool) (s : State) :
    ((noticeCause k subj isPresent s).lic.get m).enabled = (s.lic.get m).enabled ∧
    ((noticeCause k subj isPresent s).lic.get m).blade = (s.lic.get m).blade ∧
    ((noticeCause k subj isPresent s).lic.get m).spinWait = (s.lic.get m).spinWait ∧
    ((noticeCause k subj isPresent s).lic.get m).active = (s.lic.get m).active ∧
    ((noticeCause k subj isPresent s).lic.get m).pendingSel = (s.lic.get m).pendingSel ∧
    ((noticeCause k subj isPresent s).lic.get m).feedRef = (s.lic.get m).feedRef ∧
    ((noticeCause k subj isPresent s).lic.get m).appliedTag = (s.lic.get m).appliedTag := by
  simp only [noticeCause]; (repeat' split) <;> simp
@[simp] theorem removeAll_lanes (m : Lane) (l : List FaultEntry) (s : State) :
    ((removeAll l s).lic.get m).enabled = (s.lic.get m).enabled ∧
    ((removeAll l s).lic.get m).blade = (s.lic.get m).blade ∧
    ((removeAll l s).lic.get m).spinWait = (s.lic.get m).spinWait ∧
    ((removeAll l s).lic.get m).active = (s.lic.get m).active ∧
    ((removeAll l s).lic.get m).pendingSel = (s.lic.get m).pendingSel ∧
    ((removeAll l s).lic.get m).feedRef = (s.lic.get m).feedRef ∧
    ((removeAll l s).lic.get m).appliedTag = (s.lic.get m).appliedTag := by
  and_intros
  · exact foldl_lic_enabled (by simp) _ _
  · exact foldl_lic_blade (by simp) _ _
  · exact foldl_lic_spinWait (by simp) _ _
  · exact foldl_lic_active (by simp) _ _
  · exact foldl_lic_pendingSel (by simp) _ _
  · exact foldl_lic_feedRef (by simp) _ _
  · exact foldl_lic_appliedTag (by simp) _ _
@[simp] theorem noticeRemoval_lanes (m : Lane) (hit : FaultEntry → Bool) (s : State) :
    ((noticeRemoval hit s).lic.get m).enabled = (s.lic.get m).enabled ∧
    ((noticeRemoval hit s).lic.get m).blade = (s.lic.get m).blade ∧
    ((noticeRemoval hit s).lic.get m).spinWait = (s.lic.get m).spinWait ∧
    ((noticeRemoval hit s).lic.get m).active = (s.lic.get m).active ∧
    ((noticeRemoval hit s).lic.get m).pendingSel = (s.lic.get m).pendingSel ∧
    ((noticeRemoval hit s).lic.get m).feedRef = (s.lic.get m).feedRef ∧
    ((noticeRemoval hit s).lic.get m).appliedTag = (s.lic.get m).appliedTag := by
  simp only [noticeRemoval]; (repeat' split) <;> simp
@[simp] theorem matchNotice_lanes (m : Lane) (subj : Subject) (s : State) :
    ((matchNotice subj s).lic.get m).enabled = (s.lic.get m).enabled ∧
    ((matchNotice subj s).lic.get m).blade = (s.lic.get m).blade ∧
    ((matchNotice subj s).lic.get m).spinWait = (s.lic.get m).spinWait ∧
    ((matchNotice subj s).lic.get m).active = (s.lic.get m).active ∧
    ((matchNotice subj s).lic.get m).pendingSel = (s.lic.get m).pendingSel ∧
    ((matchNotice subj s).lic.get m).feedRef = (s.lic.get m).feedRef ∧
    ((matchNotice subj s).lic.get m).appliedTag = (s.lic.get m).appliedTag := by
  simp only [matchNotice]; (repeat' split) <;> simp
@[simp] theorem bagConfirmNotice_lanes (m : Lane) (s : State) :
    ((bagConfirmNotice s).lic.get m).enabled = (s.lic.get m).enabled ∧
    ((bagConfirmNotice s).lic.get m).blade = (s.lic.get m).blade ∧
    ((bagConfirmNotice s).lic.get m).spinWait = (s.lic.get m).spinWait ∧
    ((bagConfirmNotice s).lic.get m).active = (s.lic.get m).active ∧
    ((bagConfirmNotice s).lic.get m).pendingSel = (s.lic.get m).pendingSel ∧
    ((bagConfirmNotice s).lic.get m).feedRef = (s.lic.get m).feedRef ∧
    ((bagConfirmNotice s).lic.get m).appliedTag = (s.lic.get m).appliedTag := by
  simp only [bagConfirmNotice]; (repeat' split) <;> simp
@[simp] theorem clearCompletedNotice_lanes (m : Lane) (l : Lane) (s : State) :
    ((clearCompletedNotice l s).lic.get m).enabled = (s.lic.get m).enabled ∧
    ((clearCompletedNotice l s).lic.get m).blade = (s.lic.get m).blade ∧
    ((clearCompletedNotice l s).lic.get m).spinWait = (s.lic.get m).spinWait ∧
    ((clearCompletedNotice l s).lic.get m).active = (s.lic.get m).active ∧
    ((clearCompletedNotice l s).lic.get m).pendingSel = (s.lic.get m).pendingSel ∧
    ((clearCompletedNotice l s).lic.get m).feedRef = (s.lic.get m).feedRef ∧
    ((clearCompletedNotice l s).lic.get m).appliedTag = (s.lic.get m).appliedTag := by
  simp only [clearCompletedNotice]; (repeat' split) <;> simp
@[simp] theorem eyeStuckToAuto_lanes (m : Lane) (s : State) :
    ((eyeStuckToAuto s).lic.get m).enabled = (s.lic.get m).enabled ∧
    ((eyeStuckToAuto s).lic.get m).blade = (s.lic.get m).blade ∧
    ((eyeStuckToAuto s).lic.get m).spinWait = (s.lic.get m).spinWait ∧
    ((eyeStuckToAuto s).lic.get m).active = (s.lic.get m).active ∧
    ((eyeStuckToAuto s).lic.get m).pendingSel = (s.lic.get m).pendingSel ∧
    ((eyeStuckToAuto s).lic.get m).feedRef = (s.lic.get m).feedRef ∧
    ((eyeStuckToAuto s).lic.get m).appliedTag = (s.lic.get m).appliedTag := by
  simp only [eyeStuckToAuto]; (repeat' split) <;> simp
@[simp] theorem clearPresented_lanes (m : Lane) (e : FaultEntry) (s : State) :
    ((clearPresented e s).lic.get m).enabled = (s.lic.get m).enabled ∧
    ((clearPresented e s).lic.get m).blade = (s.lic.get m).blade ∧
    ((clearPresented e s).lic.get m).spinWait = (s.lic.get m).spinWait ∧
    ((clearPresented e s).lic.get m).active = (s.lic.get m).active ∧
    ((clearPresented e s).lic.get m).pendingSel = (s.lic.get m).pendingSel ∧
    ((clearPresented e s).lic.get m).feedRef = (s.lic.get m).feedRef ∧
    ((clearPresented e s).lic.get m).appliedTag = (s.lic.get m).appliedTag := by
  simp only [clearPresented]; (repeat' split) <;> simp
@[simp] theorem inputTaken_lanes (m : Lane) (k : FaultKind) (was : Bool) (now : Bool) (s : State) :
    ((inputTaken k was now s).lic.get m).enabled = (s.lic.get m).enabled ∧
    ((inputTaken k was now s).lic.get m).blade = (s.lic.get m).blade ∧
    ((inputTaken k was now s).lic.get m).spinWait = (s.lic.get m).spinWait ∧
    ((inputTaken k was now s).lic.get m).active = (s.lic.get m).active ∧
    ((inputTaken k was now s).lic.get m).pendingSel = (s.lic.get m).pendingSel ∧
    ((inputTaken k was now s).lic.get m).feedRef = (s.lic.get m).feedRef ∧
    ((inputTaken k was now s).lic.get m).appliedTag = (s.lic.get m).appliedTag := by
  simp only [inputTaken]; (repeat' split) <;> simp
@[simp] theorem evalBagLow_lanes (m : Lane) (s : State) :
    ((evalBagLow s).lic.get m).enabled = (s.lic.get m).enabled ∧
    ((evalBagLow s).lic.get m).blade = (s.lic.get m).blade ∧
    ((evalBagLow s).lic.get m).spinWait = (s.lic.get m).spinWait ∧
    ((evalBagLow s).lic.get m).active = (s.lic.get m).active ∧
    ((evalBagLow s).lic.get m).pendingSel = (s.lic.get m).pendingSel ∧
    ((evalBagLow s).lic.get m).feedRef = (s.lic.get m).feedRef ∧
    ((evalBagLow s).lic.get m).appliedTag = (s.lic.get m).appliedTag := by
  simp only [evalBagLow]; (repeat' split) <;> simp
@[simp] theorem evalClipLow_lanes (m : Lane) (s : State) :
    ((evalClipLow s).lic.get m).enabled = (s.lic.get m).enabled ∧
    ((evalClipLow s).lic.get m).blade = (s.lic.get m).blade ∧
    ((evalClipLow s).lic.get m).spinWait = (s.lic.get m).spinWait ∧
    ((evalClipLow s).lic.get m).active = (s.lic.get m).active ∧
    ((evalClipLow s).lic.get m).pendingSel = (s.lic.get m).pendingSel ∧
    ((evalClipLow s).lic.get m).feedRef = (s.lic.get m).feedRef ∧
    ((evalClipLow s).lic.get m).appliedTag = (s.lic.get m).appliedTag := by
  simp only [evalClipLow]; (repeat' split) <;> simp
@[simp] theorem setBagCount_lanes (m : Lane) (n : Nat) (s : State) :
    ((setBagCount n s).lic.get m).enabled = (s.lic.get m).enabled ∧
    ((setBagCount n s).lic.get m).blade = (s.lic.get m).blade ∧
    ((setBagCount n s).lic.get m).spinWait = (s.lic.get m).spinWait ∧
    ((setBagCount n s).lic.get m).active = (s.lic.get m).active ∧
    ((setBagCount n s).lic.get m).pendingSel = (s.lic.get m).pendingSel ∧
    ((setBagCount n s).lic.get m).feedRef = (s.lic.get m).feedRef ∧
    ((setBagCount n s).lic.get m).appliedTag = (s.lic.get m).appliedTag := by
  simp only [setBagCount]; (repeat' split) <;> simp
@[simp] theorem setClipCount_lanes (m : Lane) (n : Nat) (s : State) :
    ((setClipCount n s).lic.get m).enabled = (s.lic.get m).enabled ∧
    ((setClipCount n s).lic.get m).blade = (s.lic.get m).blade ∧
    ((setClipCount n s).lic.get m).spinWait = (s.lic.get m).spinWait ∧
    ((setClipCount n s).lic.get m).active = (s.lic.get m).active ∧
    ((setClipCount n s).lic.get m).pendingSel = (s.lic.get m).pendingSel ∧
    ((setClipCount n s).lic.get m).feedRef = (s.lic.get m).feedRef ∧
    ((setClipCount n s).lic.get m).appliedTag = (s.lic.get m).appliedTag := by
  simp only [setClipCount]; (repeat' split) <;> simp
@[simp] theorem enterBlowing_lanes (m : Lane) (l : Lane) (shakerOnly : Bool) (s : State) :
    ((enterBlowing l shakerOnly s).cc.get m).estimate = (s.cc.get m).estimate ∧
    ((enterBlowing l shakerOnly s).cc.get m).lastLevel = (s.cc.get m).lastLevel ∧
    ((enterBlowing l shakerOnly s).cc.get m).levelSince = (s.cc.get m).levelSince ∧
    ((enterBlowing l shakerOnly s).cc.get m).cause = (s.cc.get m).cause ∧
    ((enterBlowing l shakerOnly s).cc.get m).backoff = (s.cc.get m).backoff ∧
    ((enterBlowing l shakerOnly s).cc.get m).lastClear = (s.cc.get m).lastClear := by
  simp only [enterBlowing]; (repeat' split) <;> simp
@[simp] theorem openBag_lanes (m : Lane) (s : State) :
    ((openBag s).lic.get m).enabled = (s.lic.get m).enabled ∧ ((openBag s).lic.get m).blade = (s.lic.get m).blade ∧
    ((openBag s).lic.get m).spinWait = (s.lic.get m).spinWait ∧
    ((openBag s).lic.get m).active = (s.lic.get m).active ∧
    ((openBag s).lic.get m).pendingSel = (s.lic.get m).pendingSel ∧
    ((openBag s).lic.get m).feedRef = (s.lic.get m).feedRef ∧
    ((openBag s).lic.get m).appliedTag = (s.lic.get m).appliedTag := by
  simp only [openBag]; (repeat' split) <;> simp
@[simp] theorem waitForBags_lanes (m : Lane) (s : State) :
    ((waitForBags s).lic.get m).enabled = (s.lic.get m).enabled ∧
    ((waitForBags s).lic.get m).blade = (s.lic.get m).blade ∧
    ((waitForBags s).lic.get m).spinWait = (s.lic.get m).spinWait ∧
    ((waitForBags s).lic.get m).active = (s.lic.get m).active ∧
    ((waitForBags s).lic.get m).pendingSel = (s.lic.get m).pendingSel ∧
    ((waitForBags s).lic.get m).feedRef = (s.lic.get m).feedRef ∧
    ((waitForBags s).lic.get m).appliedTag = (s.lic.get m).appliedTag := by
  simp only [waitForBags]; (repeat' split) <;> simp
@[simp] theorem grantOther_lanes (m : Lane) (r : Requester) (c : AirChannel) (s : State) :
    ((grantOther r c s).cc.get m).estimate = (s.cc.get m).estimate ∧
    ((grantOther r c s).cc.get m).lastLevel = (s.cc.get m).lastLevel ∧
    ((grantOther r c s).cc.get m).levelSince = (s.cc.get m).levelSince ∧
    ((grantOther r c s).cc.get m).cause = (s.cc.get m).cause ∧
    ((grantOther r c s).cc.get m).backoff = (s.cc.get m).backoff ∧
    ((grantOther r c s).cc.get m).lastClear = (s.cc.get m).lastClear := by
  simp only [grantOther]; (repeat' split) <;> simp
@[simp] theorem grantAfterBag_lanes (m : Lane) (c : AirChannel) (s : State) :
    ((grantAfterBag c s).cc.get m).estimate = (s.cc.get m).estimate ∧
    ((grantAfterBag c s).cc.get m).lastLevel = (s.cc.get m).lastLevel ∧
    ((grantAfterBag c s).cc.get m).levelSince = (s.cc.get m).levelSince ∧
    ((grantAfterBag c s).cc.get m).cause = (s.cc.get m).cause ∧
    ((grantAfterBag c s).cc.get m).backoff = (s.cc.get m).backoff ∧
    ((grantAfterBag c s).cc.get m).lastClear = (s.cc.get m).lastClear := by
  simp only [grantAfterBag]; (repeat' split) <;> simp
@[simp] theorem grantBag_lanes (m : Lane) (c : AirChannel) (s : State) :
    ((grantBag c s).lic.get m).enabled = (s.lic.get m).enabled ∧
    ((grantBag c s).lic.get m).blade = (s.lic.get m).blade ∧
    ((grantBag c s).lic.get m).spinWait = (s.lic.get m).spinWait ∧
    ((grantBag c s).lic.get m).active = (s.lic.get m).active ∧
    ((grantBag c s).lic.get m).pendingSel = (s.lic.get m).pendingSel ∧
    ((grantBag c s).lic.get m).feedRef = (s.lic.get m).feedRef ∧
    ((grantBag c s).lic.get m).appliedTag = (s.lic.get m).appliedTag ∧
    ((grantBag c s).cc.get m).estimate = (s.cc.get m).estimate ∧
    ((grantBag c s).cc.get m).lastLevel = (s.cc.get m).lastLevel ∧
    ((grantBag c s).cc.get m).levelSince = (s.cc.get m).levelSince ∧
    ((grantBag c s).cc.get m).cause = (s.cc.get m).cause ∧ ((grantBag c s).cc.get m).backoff = (s.cc.get m).backoff ∧
    ((grantBag c s).cc.get m).lastClear = (s.cc.get m).lastClear := by
  simp only [grantBag]; (repeat' split) <;> simp
@[simp] theorem grantNext_lanes (m : Lane) (c : AirChannel) (s : State) :
    ((grantNext c s).lic.get m).enabled = (s.lic.get m).enabled ∧
    ((grantNext c s).lic.get m).blade = (s.lic.get m).blade ∧
    ((grantNext c s).lic.get m).spinWait = (s.lic.get m).spinWait ∧
    ((grantNext c s).lic.get m).active = (s.lic.get m).active ∧
    ((grantNext c s).lic.get m).pendingSel = (s.lic.get m).pendingSel ∧
    ((grantNext c s).lic.get m).feedRef = (s.lic.get m).feedRef ∧
    ((grantNext c s).lic.get m).appliedTag = (s.lic.get m).appliedTag ∧
    ((grantNext c s).cc.get m).estimate = (s.cc.get m).estimate ∧
    ((grantNext c s).cc.get m).lastLevel = (s.cc.get m).lastLevel ∧
    ((grantNext c s).cc.get m).levelSince = (s.cc.get m).levelSince ∧
    ((grantNext c s).cc.get m).cause = (s.cc.get m).cause ∧
    ((grantNext c s).cc.get m).backoff = (s.cc.get m).backoff ∧
    ((grantNext c s).cc.get m).lastClear = (s.cc.get m).lastClear := by
  simp only [grantNext]; (repeat' split) <;> simp
@[simp] theorem grantTo_lanes (m : Lane) (r : Requester) (c : AirChannel) (s : State) :
    ((grantTo r c s).lic.get m).enabled = (s.lic.get m).enabled ∧
    ((grantTo r c s).lic.get m).blade = (s.lic.get m).blade ∧
    ((grantTo r c s).lic.get m).spinWait = (s.lic.get m).spinWait ∧
    ((grantTo r c s).lic.get m).active = (s.lic.get m).active ∧
    ((grantTo r c s).lic.get m).pendingSel = (s.lic.get m).pendingSel ∧
    ((grantTo r c s).lic.get m).feedRef = (s.lic.get m).feedRef ∧
    ((grantTo r c s).lic.get m).appliedTag = (s.lic.get m).appliedTag ∧
    ((grantTo r c s).cc.get m).estimate = (s.cc.get m).estimate ∧
    ((grantTo r c s).cc.get m).lastLevel = (s.cc.get m).lastLevel ∧
    ((grantTo r c s).cc.get m).levelSince = (s.cc.get m).levelSince ∧
    ((grantTo r c s).cc.get m).cause = (s.cc.get m).cause ∧
    ((grantTo r c s).cc.get m).backoff = (s.cc.get m).backoff ∧
    ((grantTo r c s).cc.get m).lastClear = (s.cc.get m).lastClear := by
  simp only [grantTo]; (repeat' split) <;> simp
@[simp] theorem airRequest_lanes (m : Lane) (r : Requester) (s : State) :
    ((airRequest r s).lic.get m).enabled = (s.lic.get m).enabled ∧
    ((airRequest r s).lic.get m).blade = (s.lic.get m).blade ∧
    ((airRequest r s).lic.get m).spinWait = (s.lic.get m).spinWait ∧
    ((airRequest r s).lic.get m).active = (s.lic.get m).active ∧
    ((airRequest r s).lic.get m).pendingSel = (s.lic.get m).pendingSel ∧
    ((airRequest r s).lic.get m).feedRef = (s.lic.get m).feedRef ∧
    ((airRequest r s).lic.get m).appliedTag = (s.lic.get m).appliedTag ∧
    ((airRequest r s).cc.get m).estimate = (s.cc.get m).estimate ∧
    ((airRequest r s).cc.get m).lastLevel = (s.cc.get m).lastLevel ∧
    ((airRequest r s).cc.get m).levelSince = (s.cc.get m).levelSince ∧
    ((airRequest r s).cc.get m).cause = (s.cc.get m).cause ∧
    ((airRequest r s).cc.get m).backoff = (s.cc.get m).backoff ∧
    ((airRequest r s).cc.get m).lastClear = (s.cc.get m).lastClear := by
  simp only [airRequest]; (repeat' split) <;> simp
@[simp] theorem releaseChannel_lanes (m : Lane) (c : AirChannel) (s : State) :
    ((releaseChannel c s).lic.get m).enabled = (s.lic.get m).enabled ∧
    ((releaseChannel c s).lic.get m).blade = (s.lic.get m).blade ∧
    ((releaseChannel c s).lic.get m).spinWait = (s.lic.get m).spinWait ∧
    ((releaseChannel c s).lic.get m).active = (s.lic.get m).active ∧
    ((releaseChannel c s).lic.get m).pendingSel = (s.lic.get m).pendingSel ∧
    ((releaseChannel c s).lic.get m).feedRef = (s.lic.get m).feedRef ∧
    ((releaseChannel c s).lic.get m).appliedTag = (s.lic.get m).appliedTag ∧
    ((releaseChannel c s).cc.get m).estimate = (s.cc.get m).estimate ∧
    ((releaseChannel c s).cc.get m).lastLevel = (s.cc.get m).lastLevel ∧
    ((releaseChannel c s).cc.get m).levelSince = (s.cc.get m).levelSince ∧
    ((releaseChannel c s).cc.get m).cause = (s.cc.get m).cause ∧
    ((releaseChannel c s).cc.get m).backoff = (s.cc.get m).backoff ∧
    ((releaseChannel c s).cc.get m).lastClear = (s.cc.get m).lastClear := by
  simp only [releaseChannel]; (repeat' split) <;> simp
@[simp] theorem airRelease_lanes (m : Lane) (r : Requester) (s : State) :
    ((airRelease r s).lic.get m).enabled = (s.lic.get m).enabled ∧
    ((airRelease r s).lic.get m).blade = (s.lic.get m).blade ∧
    ((airRelease r s).lic.get m).spinWait = (s.lic.get m).spinWait ∧
    ((airRelease r s).lic.get m).active = (s.lic.get m).active ∧
    ((airRelease r s).lic.get m).pendingSel = (s.lic.get m).pendingSel ∧
    ((airRelease r s).lic.get m).feedRef = (s.lic.get m).feedRef ∧
    ((airRelease r s).lic.get m).appliedTag = (s.lic.get m).appliedTag ∧
    ((airRelease r s).cc.get m).estimate = (s.cc.get m).estimate ∧
    ((airRelease r s).cc.get m).lastLevel = (s.cc.get m).lastLevel ∧
    ((airRelease r s).cc.get m).levelSince = (s.cc.get m).levelSince ∧
    ((airRelease r s).cc.get m).cause = (s.cc.get m).cause ∧
    ((airRelease r s).cc.get m).backoff = (s.cc.get m).backoff ∧
    ((airRelease r s).cc.get m).lastClear = (s.cc.get m).lastClear := by
  simp only [airRelease]; (repeat' split) <;> simp
@[simp] theorem airWithdraw_lanes (m : Lane) (r : Requester) (s : State) :
    ((airWithdraw r s).lic.get m).enabled = (s.lic.get m).enabled ∧
    ((airWithdraw r s).lic.get m).blade = (s.lic.get m).blade ∧
    ((airWithdraw r s).lic.get m).spinWait = (s.lic.get m).spinWait ∧
    ((airWithdraw r s).lic.get m).active = (s.lic.get m).active ∧
    ((airWithdraw r s).lic.get m).pendingSel = (s.lic.get m).pendingSel ∧
    ((airWithdraw r s).lic.get m).feedRef = (s.lic.get m).feedRef ∧
    ((airWithdraw r s).lic.get m).appliedTag = (s.lic.get m).appliedTag ∧
    ((airWithdraw r s).cc.get m).estimate = (s.cc.get m).estimate ∧
    ((airWithdraw r s).cc.get m).lastLevel = (s.cc.get m).lastLevel ∧
    ((airWithdraw r s).cc.get m).levelSince = (s.cc.get m).levelSince ∧
    ((airWithdraw r s).cc.get m).cause = (s.cc.get m).cause ∧
    ((airWithdraw r s).cc.get m).backoff = (s.cc.get m).backoff ∧
    ((airWithdraw r s).cc.get m).lastClear = (s.cc.get m).lastClear := by
  simp only [airWithdraw]; (repeat' split) <;> simp
@[simp] theorem steer_lanes (m : Lane) (r : Requester) (e : Steer) (s : State) :
    ((steer r e s).lic.get m).enabled = (s.lic.get m).enabled ∧
    ((steer r e s).lic.get m).blade = (s.lic.get m).blade ∧
    ((steer r e s).lic.get m).spinWait = (s.lic.get m).spinWait ∧
    ((steer r e s).lic.get m).active = (s.lic.get m).active ∧
    ((steer r e s).lic.get m).pendingSel = (s.lic.get m).pendingSel ∧
    ((steer r e s).lic.get m).feedRef = (s.lic.get m).feedRef ∧
    ((steer r e s).lic.get m).appliedTag = (s.lic.get m).appliedTag ∧
    ((steer r e s).cc.get m).estimate = (s.cc.get m).estimate ∧
    ((steer r e s).cc.get m).lastLevel = (s.cc.get m).lastLevel ∧
    ((steer r e s).cc.get m).levelSince = (s.cc.get m).levelSince ∧
    ((steer r e s).cc.get m).cause = (s.cc.get m).cause ∧ ((steer r e s).cc.get m).backoff = (s.cc.get m).backoff ∧
    ((steer r e s).cc.get m).lastClear = (s.cc.get m).lastClear := by
  simp only [steer]; (repeat' split) <;> simp
@[simp] theorem airPressure_lanes (m : Lane) (result : Nat) (s : State) :
    ((airPressure result s).lic.get m).enabled = (s.lic.get m).enabled ∧
    ((airPressure result s).lic.get m).blade = (s.lic.get m).blade ∧
    ((airPressure result s).lic.get m).spinWait = (s.lic.get m).spinWait ∧
    ((airPressure result s).lic.get m).active = (s.lic.get m).active ∧
    ((airPressure result s).lic.get m).pendingSel = (s.lic.get m).pendingSel ∧
    ((airPressure result s).lic.get m).feedRef = (s.lic.get m).feedRef ∧
    ((airPressure result s).lic.get m).appliedTag = (s.lic.get m).appliedTag ∧
    ((airPressure result s).cc.get m).estimate = (s.cc.get m).estimate ∧
    ((airPressure result s).cc.get m).lastLevel = (s.cc.get m).lastLevel ∧
    ((airPressure result s).cc.get m).levelSince = (s.cc.get m).levelSince ∧
    ((airPressure result s).cc.get m).cause = (s.cc.get m).cause ∧
    ((airPressure result s).cc.get m).backoff = (s.cc.get m).backoff ∧
    ((airPressure result s).cc.get m).lastClear = (s.cc.get m).lastClear := by
  simp only [airPressure]; (repeat' split) <;> simp
@[simp] theorem requestBag_lanes (m : Lane) (s : State) :
    ((requestBag s).lic.get m).enabled = (s.lic.get m).enabled ∧
    ((requestBag s).lic.get m).blade = (s.lic.get m).blade ∧
    ((requestBag s).lic.get m).spinWait = (s.lic.get m).spinWait ∧
    ((requestBag s).lic.get m).active = (s.lic.get m).active ∧
    ((requestBag s).lic.get m).pendingSel = (s.lic.get m).pendingSel ∧
    ((requestBag s).lic.get m).feedRef = (s.lic.get m).feedRef ∧
    ((requestBag s).lic.get m).appliedTag = (s.lic.get m).appliedTag ∧
    ((requestBag s).cc.get m).estimate = (s.cc.get m).estimate ∧
    ((requestBag s).cc.get m).lastLevel = (s.cc.get m).lastLevel ∧
    ((requestBag s).cc.get m).levelSince = (s.cc.get m).levelSince ∧
    ((requestBag s).cc.get m).cause = (s.cc.get m).cause ∧ ((requestBag s).cc.get m).backoff = (s.cc.get m).backoff ∧
    ((requestBag s).cc.get m).lastClear = (s.cc.get m).lastClear := by
  simp only [requestBag]; (repeat' split) <;> simp
@[simp] theorem requestKnife_lanes (m : Lane) (l : Lane) (s : State) :
    ((requestKnife l s).lic.get m).enabled = (s.lic.get m).enabled ∧
    ((requestKnife l s).lic.get m).blade = (s.lic.get m).blade ∧
    ((requestKnife l s).lic.get m).spinWait = (s.lic.get m).spinWait ∧
    ((requestKnife l s).lic.get m).active = (s.lic.get m).active ∧
    ((requestKnife l s).lic.get m).pendingSel = (s.lic.get m).pendingSel ∧
    ((requestKnife l s).lic.get m).feedRef = (s.lic.get m).feedRef ∧
    ((requestKnife l s).lic.get m).appliedTag = (s.lic.get m).appliedTag ∧
    ((requestKnife l s).cc.get m).estimate = (s.cc.get m).estimate ∧
    ((requestKnife l s).cc.get m).lastLevel = (s.cc.get m).lastLevel ∧
    ((requestKnife l s).cc.get m).levelSince = (s.cc.get m).levelSince ∧
    ((requestKnife l s).cc.get m).cause = (s.cc.get m).cause ∧
    ((requestKnife l s).cc.get m).backoff = (s.cc.get m).backoff ∧
    ((requestKnife l s).cc.get m).lastClear = (s.cc.get m).lastClear := by
  simp only [requestKnife]; (repeat' split) <;> simp
@[simp] theorem requestClear_lanes (m : Lane) (l : Lane) (cause : CycleCause) (s : State) :
    ((requestClear l cause s).lic.get m).enabled = (s.lic.get m).enabled ∧
    ((requestClear l cause s).lic.get m).blade = (s.lic.get m).blade ∧
    ((requestClear l cause s).lic.get m).spinWait = (s.lic.get m).spinWait ∧
    ((requestClear l cause s).lic.get m).active = (s.lic.get m).active ∧
    ((requestClear l cause s).lic.get m).pendingSel = (s.lic.get m).pendingSel ∧
    ((requestClear l cause s).lic.get m).feedRef = (s.lic.get m).feedRef ∧
    ((requestClear l cause s).lic.get m).appliedTag = (s.lic.get m).appliedTag ∧
    ((requestClear l cause s).cc.get m).estimate = (s.cc.get m).estimate ∧
    ((requestClear l cause s).cc.get m).lastLevel = (s.cc.get m).lastLevel ∧
    ((requestClear l cause s).cc.get m).levelSince = (s.cc.get m).levelSince ∧
    ((requestClear l cause s).cc.get m).shakerOnly = (s.cc.get m).shakerOnly ∧
    ((requestClear l cause s).cc.get m).airWait = (s.cc.get m).airWait ∧
    ((requestClear l cause s).cc.get m).phaseTimer = (s.cc.get m).phaseTimer ∧
    ((requestClear l cause s).cc.get m).lastClear = (s.cc.get m).lastClear := by
  simp only [requestClear]; (repeat' split) <;> simp
@[simp] theorem clearTest_lanes (m : Lane) (l : Lane) (holds : Bool) (cause : CycleCause) (s : State) :
    ((clearTest l holds cause s).lic.get m).enabled = (s.lic.get m).enabled ∧
    ((clearTest l holds cause s).lic.get m).blade = (s.lic.get m).blade ∧
    ((clearTest l holds cause s).lic.get m).spinWait = (s.lic.get m).spinWait ∧
    ((clearTest l holds cause s).lic.get m).active = (s.lic.get m).active ∧
    ((clearTest l holds cause s).lic.get m).pendingSel = (s.lic.get m).pendingSel ∧
    ((clearTest l holds cause s).lic.get m).feedRef = (s.lic.get m).feedRef ∧
    ((clearTest l holds cause s).lic.get m).appliedTag = (s.lic.get m).appliedTag ∧
    ((clearTest l holds cause s).cc.get m).estimate = (s.cc.get m).estimate ∧
    ((clearTest l holds cause s).cc.get m).lastLevel = (s.cc.get m).lastLevel ∧
    ((clearTest l holds cause s).cc.get m).levelSince = (s.cc.get m).levelSince ∧
    ((clearTest l holds cause s).cc.get m).shakerOnly = (s.cc.get m).shakerOnly ∧
    ((clearTest l holds cause s).cc.get m).airWait = (s.cc.get m).airWait ∧
    ((clearTest l holds cause s).cc.get m).phaseTimer = (s.cc.get m).phaseTimer ∧
    ((clearTest l holds cause s).cc.get m).lastClear = (s.cc.get m).lastClear := by
  simp only [clearTest]; (repeat' split) <;> simp
@[simp] theorem estimateTest_lanes (m : Lane) (l : Lane) (s : State) :
    ((estimateTest l s).lic.get m).enabled = (s.lic.get m).enabled ∧
    ((estimateTest l s).lic.get m).blade = (s.lic.get m).blade ∧
    ((estimateTest l s).lic.get m).spinWait = (s.lic.get m).spinWait ∧
    ((estimateTest l s).lic.get m).active = (s.lic.get m).active ∧
    ((estimateTest l s).lic.get m).pendingSel = (s.lic.get m).pendingSel ∧
    ((estimateTest l s).lic.get m).feedRef = (s.lic.get m).feedRef ∧
    ((estimateTest l s).lic.get m).appliedTag = (s.lic.get m).appliedTag ∧
    ((estimateTest l s).cc.get m).estimate = (s.cc.get m).estimate ∧
    ((estimateTest l s).cc.get m).lastLevel = (s.cc.get m).lastLevel ∧
    ((estimateTest l s).cc.get m).levelSince = (s.cc.get m).levelSince ∧
    ((estimateTest l s).cc.get m).shakerOnly = (s.cc.get m).shakerOnly ∧
    ((estimateTest l s).cc.get m).airWait = (s.cc.get m).airWait ∧
    ((estimateTest l s).cc.get m).phaseTimer = (s.cc.get m).phaseTimer ∧
    ((estimateTest l s).cc.get m).lastClear = (s.cc.get m).lastClear := by
  simp only [estimateTest]; (repeat' split) <;> simp
@[simp] theorem entryTest_lanes (m : Lane) (l : Lane) (s : State) :
    ((entryTest l s).lic.get m).enabled = (s.lic.get m).enabled ∧
    ((entryTest l s).lic.get m).blade = (s.lic.get m).blade ∧
    ((entryTest l s).lic.get m).spinWait = (s.lic.get m).spinWait ∧
    ((entryTest l s).lic.get m).active = (s.lic.get m).active ∧
    ((entryTest l s).lic.get m).pendingSel = (s.lic.get m).pendingSel ∧
    ((entryTest l s).lic.get m).feedRef = (s.lic.get m).feedRef ∧
    ((entryTest l s).lic.get m).appliedTag = (s.lic.get m).appliedTag ∧
    ((entryTest l s).cc.get m).estimate = (s.cc.get m).estimate ∧
    ((entryTest l s).cc.get m).lastLevel = (s.cc.get m).lastLevel ∧
    ((entryTest l s).cc.get m).levelSince = (s.cc.get m).levelSince ∧
    ((entryTest l s).cc.get m).shakerOnly = (s.cc.get m).shakerOnly ∧
    ((entryTest l s).cc.get m).airWait = (s.cc.get m).airWait ∧
    ((entryTest l s).cc.get m).phaseTimer = (s.cc.get m).phaseTimer ∧
    ((entryTest l s).cc.get m).lastClear = (s.cc.get m).lastClear := by
  simp only [entryTest]; (repeat' split) <;> simp
@[simp] theorem makeGap_lanes (m : Lane) (l : Lane) (s : State) :
    ((makeGap l s).lic.get m).enabled = (s.lic.get m).enabled ∧
    ((makeGap l s).lic.get m).blade = (s.lic.get m).blade ∧
    ((makeGap l s).lic.get m).spinWait = (s.lic.get m).spinWait ∧
    ((makeGap l s).lic.get m).active = (s.lic.get m).active ∧
    ((makeGap l s).lic.get m).pendingSel = (s.lic.get m).pendingSel ∧
    ((makeGap l s).lic.get m).feedRef = (s.lic.get m).feedRef ∧
    ((makeGap l s).lic.get m).appliedTag = (s.lic.get m).appliedTag ∧
    ((makeGap l s).cc.get m).estimate = (s.cc.get m).estimate ∧
    ((makeGap l s).cc.get m).lastLevel = (s.cc.get m).lastLevel ∧
    ((makeGap l s).cc.get m).levelSince = (s.cc.get m).levelSince ∧
    ((makeGap l s).cc.get m).cause = (s.cc.get m).cause ∧ ((makeGap l s).cc.get m).backoff = (s.cc.get m).backoff ∧
    ((makeGap l s).cc.get m).lastClear = (s.cc.get m).lastClear := by
  simp only [makeGap]; (repeat' split) <;> simp
@[simp] theorem overfullCheck_lanes (m : Lane) (l : Lane) (s : State) :
    ((overfullCheck l s).lic.get m).enabled = (s.lic.get m).enabled ∧
    ((overfullCheck l s).lic.get m).blade = (s.lic.get m).blade ∧
    ((overfullCheck l s).lic.get m).spinWait = (s.lic.get m).spinWait ∧
    ((overfullCheck l s).lic.get m).active = (s.lic.get m).active ∧
    ((overfullCheck l s).lic.get m).pendingSel = (s.lic.get m).pendingSel ∧
    ((overfullCheck l s).lic.get m).feedRef = (s.lic.get m).feedRef ∧
    ((overfullCheck l s).lic.get m).appliedTag = (s.lic.get m).appliedTag := by
  simp only [overfullCheck]; (repeat' split) <;> simp
@[simp] theorem crumbResult_lanes (m : Lane) (l : Lane) (result : Nat) (s : State) :
    ((crumbResult l result s).lic.get m).enabled = (s.lic.get m).enabled ∧
    ((crumbResult l result s).lic.get m).blade = (s.lic.get m).blade ∧
    ((crumbResult l result s).lic.get m).spinWait = (s.lic.get m).spinWait ∧
    ((crumbResult l result s).lic.get m).active = (s.lic.get m).active ∧
    ((crumbResult l result s).lic.get m).pendingSel = (s.lic.get m).pendingSel ∧
    ((crumbResult l result s).lic.get m).feedRef = (s.lic.get m).feedRef ∧
    ((crumbResult l result s).lic.get m).appliedTag = (s.lic.get m).appliedTag ∧
    ((crumbResult l result s).cc.get m).estimate = (s.cc.get m).estimate ∧
    ((crumbResult l result s).cc.get m).shakerOnly = (s.cc.get m).shakerOnly ∧
    ((crumbResult l result s).cc.get m).airWait = (s.cc.get m).airWait ∧
    ((crumbResult l result s).cc.get m).phaseTimer = (s.cc.get m).phaseTimer ∧
    ((crumbResult l result s).cc.get m).lastClear = (s.cc.get m).lastClear := by
  simp only [crumbResult]; (repeat' split) <;> simp
@[simp] theorem addCrumb_lanes (m : Lane) (l : Lane) (factor : Nat) (s : State) :
    ((addCrumb l factor s).cc.get m).lastLevel = (s.cc.get m).lastLevel ∧
    ((addCrumb l factor s).cc.get m).levelSince = (s.cc.get m).levelSince ∧
    ((addCrumb l factor s).cc.get m).cycle = (s.cc.get m).cycle ∧
    ((addCrumb l factor s).cc.get m).cause = (s.cc.get m).cause ∧
    ((addCrumb l factor s).cc.get m).shakerOnly = (s.cc.get m).shakerOnly ∧
    ((addCrumb l factor s).cc.get m).airWait = (s.cc.get m).airWait ∧
    ((addCrumb l factor s).cc.get m).phaseTimer = (s.cc.get m).phaseTimer ∧
    ((addCrumb l factor s).cc.get m).backoff = (s.cc.get m).backoff ∧
    ((addCrumb l factor s).cc.get m).lastClear = (s.cc.get m).lastClear := by
  simp only [addCrumb]; (repeat' split) <;> simp
@[simp] theorem endBlowing_lanes (m : Lane) (l : Lane) (s : State) :
    ((endBlowing l s).lic.get m).enabled = (s.lic.get m).enabled ∧
    ((endBlowing l s).cc.get m).lastLevel = (s.cc.get m).lastLevel ∧
    ((endBlowing l s).cc.get m).levelSince = (s.cc.get m).levelSince ∧
    ((endBlowing l s).cc.get m).lastClear = (s.cc.get m).lastClear := by
  simp only [endBlowing]; (repeat' split) <;> simp
@[simp] theorem completeClear_lanes (m : Lane) (l : Lane) (s : State) :
    ((completeClear l s).lic.get m).enabled = (s.lic.get m).enabled ∧
    ((completeClear l s).lic.get m).blade = (s.lic.get m).blade ∧
    ((completeClear l s).lic.get m).spinWait = (s.lic.get m).spinWait ∧
    ((completeClear l s).lic.get m).active = (s.lic.get m).active ∧
    ((completeClear l s).lic.get m).pendingSel = (s.lic.get m).pendingSel ∧
    ((completeClear l s).lic.get m).feedRef = (s.lic.get m).feedRef ∧
    ((completeClear l s).lic.get m).appliedTag = (s.lic.get m).appliedTag ∧
    ((completeClear l s).cc.get m).lastLevel = (s.cc.get m).lastLevel ∧
    ((completeClear l s).cc.get m).airWait = (s.cc.get m).airWait ∧
    ((completeClear l s).cc.get m).backoff = (s.cc.get m).backoff := by
  simp only [completeClear]; (repeat' split) <;> simp
@[simp] theorem backOff_lanes (m : Lane) (l : Lane) (s : State) :
    ((backOff l s).lic.get m).enabled = (s.lic.get m).enabled ∧
    ((backOff l s).lic.get m).blade = (s.lic.get m).blade ∧
    ((backOff l s).lic.get m).spinWait = (s.lic.get m).spinWait ∧
    ((backOff l s).lic.get m).active = (s.lic.get m).active ∧
    ((backOff l s).lic.get m).pendingSel = (s.lic.get m).pendingSel ∧
    ((backOff l s).lic.get m).feedRef = (s.lic.get m).feedRef ∧
    ((backOff l s).lic.get m).appliedTag = (s.lic.get m).appliedTag ∧
    ((backOff l s).cc.get m).estimate = (s.cc.get m).estimate ∧
    ((backOff l s).cc.get m).lastLevel = (s.cc.get m).lastLevel ∧
    ((backOff l s).cc.get m).levelSince = (s.cc.get m).levelSince ∧
    ((backOff l s).cc.get m).cause = (s.cc.get m).cause ∧
    ((backOff l s).cc.get m).lastClear = (s.cc.get m).lastClear := by
  simp only [backOff]; (repeat' split) <;> simp
@[simp] theorem endBackOff_lanes (m : Lane) (l : Lane) (s : State) :
    ((endBackOff l s).lic.get m).enabled = (s.lic.get m).enabled ∧
    ((endBackOff l s).lic.get m).blade = (s.lic.get m).blade ∧
    ((endBackOff l s).lic.get m).spinWait = (s.lic.get m).spinWait ∧
    ((endBackOff l s).lic.get m).active = (s.lic.get m).active ∧
    ((endBackOff l s).lic.get m).pendingSel = (s.lic.get m).pendingSel ∧
    ((endBackOff l s).lic.get m).feedRef = (s.lic.get m).feedRef ∧
    ((endBackOff l s).lic.get m).appliedTag = (s.lic.get m).appliedTag ∧
    ((endBackOff l s).cc.get m).estimate = (s.cc.get m).estimate ∧
    ((endBackOff l s).cc.get m).lastLevel = (s.cc.get m).lastLevel ∧
    ((endBackOff l s).cc.get m).levelSince = (s.cc.get m).levelSince ∧
    ((endBackOff l s).cc.get m).shakerOnly = (s.cc.get m).shakerOnly ∧
    ((endBackOff l s).cc.get m).airWait = (s.cc.get m).airWait ∧
    ((endBackOff l s).cc.get m).phaseTimer = (s.cc.get m).phaseTimer ∧
    ((endBackOff l s).cc.get m).lastClear = (s.cc.get m).lastClear := by
  simp only [endBackOff]; (repeat' split) <;> simp
@[simp] theorem holdCrumb_lanes (m : Lane) (l : Lane) (s : State) :
    ((holdCrumb l s).lic.get m).enabled = (s.lic.get m).enabled ∧
    ((holdCrumb l s).lic.get m).blade = (s.lic.get m).blade ∧
    ((holdCrumb l s).lic.get m).spinWait = (s.lic.get m).spinWait ∧
    ((holdCrumb l s).lic.get m).active = (s.lic.get m).active ∧
    ((holdCrumb l s).lic.get m).pendingSel = (s.lic.get m).pendingSel ∧
    ((holdCrumb l s).lic.get m).feedRef = (s.lic.get m).feedRef ∧
    ((holdCrumb l s).lic.get m).appliedTag = (s.lic.get m).appliedTag ∧
    ((holdCrumb l s).cc.get m).estimate = (s.cc.get m).estimate ∧
    ((holdCrumb l s).cc.get m).lastLevel = (s.cc.get m).lastLevel ∧
    ((holdCrumb l s).cc.get m).levelSince = (s.cc.get m).levelSince ∧
    ((holdCrumb l s).cc.get m).cause = (s.cc.get m).cause ∧
    ((holdCrumb l s).cc.get m).backoff = (s.cc.get m).backoff ∧
    ((holdCrumb l s).cc.get m).lastClear = (s.cc.get m).lastClear := by
  simp only [holdCrumb]; (repeat' split) <;> simp
@[simp] theorem abandonCrumb_lanes (m : Lane) (l : Lane) (s : State) :
    ((abandonCrumb l s).lic.get m).enabled = (s.lic.get m).enabled ∧
    ((abandonCrumb l s).lic.get m).blade = (s.lic.get m).blade ∧
    ((abandonCrumb l s).lic.get m).spinWait = (s.lic.get m).spinWait ∧
    ((abandonCrumb l s).lic.get m).active = (s.lic.get m).active ∧
    ((abandonCrumb l s).lic.get m).pendingSel = (s.lic.get m).pendingSel ∧
    ((abandonCrumb l s).lic.get m).feedRef = (s.lic.get m).feedRef ∧
    ((abandonCrumb l s).lic.get m).appliedTag = (s.lic.get m).appliedTag ∧
    ((abandonCrumb l s).cc.get m).estimate = (s.cc.get m).estimate ∧
    ((abandonCrumb l s).cc.get m).lastLevel = (s.cc.get m).lastLevel ∧
    ((abandonCrumb l s).cc.get m).levelSince = (s.cc.get m).levelSince ∧
    ((abandonCrumb l s).cc.get m).lastClear = (s.cc.get m).lastClear := by
  simp only [abandonCrumb]; (repeat' split) <;> simp
@[simp] theorem createRecord_lanes (m : Lane) (l : Lane) (x : Edge) (s : State) :
    ((createRecord l x s).lic.get m).enabled = (s.lic.get m).enabled ∧
    ((createRecord l x s).lic.get m).blade = (s.lic.get m).blade ∧
    ((createRecord l x s).lic.get m).spinWait = (s.lic.get m).spinWait ∧
    ((createRecord l x s).lic.get m).active = (s.lic.get m).active ∧
    ((createRecord l x s).lic.get m).pendingSel = (s.lic.get m).pendingSel ∧
    ((createRecord l x s).lic.get m).feedRef = (s.lic.get m).feedRef ∧
    ((createRecord l x s).lic.get m).appliedTag = (s.lic.get m).appliedTag := by
  simp only [createRecord]; (repeat' split) <;> simp
@[simp] theorem eyeCleared_lanes (m : Lane) (e : TrackedEye) (s : State) :
    ((eyeCleared e s).lic.get m).enabled = (s.lic.get m).enabled ∧
    ((eyeCleared e s).lic.get m).blade = (s.lic.get m).blade ∧
    ((eyeCleared e s).lic.get m).spinWait = (s.lic.get m).spinWait ∧
    ((eyeCleared e s).lic.get m).active = (s.lic.get m).active ∧
    ((eyeCleared e s).lic.get m).pendingSel = (s.lic.get m).pendingSel ∧
    ((eyeCleared e s).lic.get m).feedRef = (s.lic.get m).feedRef ∧
    ((eyeCleared e s).lic.get m).appliedTag = (s.lic.get m).appliedTag := by
  simp only [eyeCleared]; (repeat' split) <;> simp
@[simp] theorem raiseStuck_lanes (m : Lane) (e : TrackedEye) (s : State) :
    ((raiseStuck e s).lic.get m).enabled = (s.lic.get m).enabled ∧
    ((raiseStuck e s).lic.get m).blade = (s.lic.get m).blade ∧
    ((raiseStuck e s).lic.get m).spinWait = (s.lic.get m).spinWait ∧
    ((raiseStuck e s).lic.get m).active = (s.lic.get m).active ∧
    ((raiseStuck e s).lic.get m).pendingSel = (s.lic.get m).pendingSel ∧
    ((raiseStuck e s).lic.get m).feedRef = (s.lic.get m).feedRef ∧
    ((raiseStuck e s).lic.get m).appliedTag = (s.lic.get m).appliedTag := by
  simp only [raiseStuck]; (repeat' split) <;> simp
@[simp] theorem lose_lanes (m : Lane) (subj : Subject) (r : LoafRecord) (s : State) :
    ((lose subj r s).lic.get m).enabled = (s.lic.get m).enabled ∧
    ((lose subj r s).lic.get m).blade = (s.lic.get m).blade ∧
    ((lose subj r s).lic.get m).spinWait = (s.lic.get m).spinWait ∧
    ((lose subj r s).lic.get m).active = (s.lic.get m).active ∧
    ((lose subj r s).lic.get m).pendingSel = (s.lic.get m).pendingSel ∧
    ((lose subj r s).lic.get m).feedRef = (s.lic.get m).feedRef ∧
    ((lose subj r s).lic.get m).appliedTag = (s.lic.get m).appliedTag := by
  simp only [lose]; (repeat' split) <;> simp
@[simp] theorem bladeEmptied_lanes (m : Lane) (l : Lane) (s : State) :
    ((bladeEmptied l s).lic.get m).enabled = (s.lic.get m).enabled ∧
    ((bladeEmptied l s).lic.get m).blade = (s.lic.get m).blade ∧
    ((bladeEmptied l s).lic.get m).spinWait = (s.lic.get m).spinWait ∧
    ((bladeEmptied l s).lic.get m).active = (s.lic.get m).active ∧
    ((bladeEmptied l s).lic.get m).pendingSel = (s.lic.get m).pendingSel ∧
    ((bladeEmptied l s).lic.get m).feedRef = (s.lic.get m).feedRef ∧
    ((bladeEmptied l s).lic.get m).appliedTag = (s.lic.get m).appliedTag := by
  simp only [bladeEmptied]; (repeat' split) <;> simp
@[simp] theorem loseBlade_lanes (m : Lane) (l : Lane) (s : State) :
    ((loseBlade l s).lic.get m).enabled = (s.lic.get m).enabled ∧
    ((loseBlade l s).lic.get m).blade = (s.lic.get m).blade ∧
    ((loseBlade l s).lic.get m).spinWait = (s.lic.get m).spinWait ∧
    ((loseBlade l s).lic.get m).active = (s.lic.get m).active ∧
    ((loseBlade l s).lic.get m).pendingSel = (s.lic.get m).pendingSel ∧
    ((loseBlade l s).lic.get m).feedRef = (s.lic.get m).feedRef ∧
    ((loseBlade l s).lic.get m).appliedTag = (s.lic.get m).appliedTag := by
  simp only [loseBlade]; (repeat' split) <;> simp
@[simp] theorem slicerLeading_lanes (m : Lane) (l : Lane) (x : Edge) (s : State) :
    ((slicerLeading l x s).lic.get m).enabled = (s.lic.get m).enabled ∧
    ((slicerLeading l x s).lic.get m).blade = (s.lic.get m).blade ∧
    ((slicerLeading l x s).lic.get m).spinWait = (s.lic.get m).spinWait ∧
    ((slicerLeading l x s).lic.get m).active = (s.lic.get m).active ∧
    ((slicerLeading l x s).lic.get m).pendingSel = (s.lic.get m).pendingSel ∧
    ((slicerLeading l x s).lic.get m).feedRef = (s.lic.get m).feedRef ∧
    ((slicerLeading l x s).lic.get m).appliedTag = (s.lic.get m).appliedTag := by
  simp only [slicerLeading]; (repeat' split) <;> simp
@[simp] theorem accumHeadLeft_lanes (m : Lane) (l : Lane) (left : LoafRecord) (s : State) :
    ((accumHeadLeft l left s).lic.get m).enabled = (s.lic.get m).enabled ∧
    ((accumHeadLeft l left s).lic.get m).blade = (s.lic.get m).blade ∧
    ((accumHeadLeft l left s).lic.get m).spinWait = (s.lic.get m).spinWait ∧
    ((accumHeadLeft l left s).lic.get m).active = (s.lic.get m).active ∧
    ((accumHeadLeft l left s).lic.get m).pendingSel = (s.lic.get m).pendingSel ∧
    ((accumHeadLeft l left s).lic.get m).feedRef = (s.lic.get m).feedRef ∧
    ((accumHeadLeft l left s).lic.get m).appliedTag = (s.lic.get m).appliedTag := by
  simp only [accumHeadLeft]; (repeat' split) <;> simp
@[simp] theorem loseAccumHead_lanes (m : Lane) (l : Lane) (s : State) :
    ((loseAccumHead l s).lic.get m).enabled = (s.lic.get m).enabled ∧
    ((loseAccumHead l s).lic.get m).blade = (s.lic.get m).blade ∧
    ((loseAccumHead l s).lic.get m).spinWait = (s.lic.get m).spinWait ∧
    ((loseAccumHead l s).lic.get m).active = (s.lic.get m).active ∧
    ((loseAccumHead l s).lic.get m).pendingSel = (s.lic.get m).pendingSel ∧
    ((loseAccumHead l s).lic.get m).feedRef = (s.lic.get m).feedRef ∧
    ((loseAccumHead l s).lic.get m).appliedTag = (s.lic.get m).appliedTag := by
  simp only [loseAccumHead]; (repeat' split) <;> simp
@[simp] theorem slicerTrailing_lanes (m : Lane) (l : Lane) (s : State) :
    ((slicerTrailing l s).lic.get m).enabled = (s.lic.get m).enabled ∧
    ((slicerTrailing l s).lic.get m).blade = (s.lic.get m).blade ∧
    ((slicerTrailing l s).lic.get m).spinWait = (s.lic.get m).spinWait ∧
    ((slicerTrailing l s).lic.get m).active = (s.lic.get m).active ∧
    ((slicerTrailing l s).lic.get m).pendingSel = (s.lic.get m).pendingSel ∧
    ((slicerTrailing l s).lic.get m).feedRef = (s.lic.get m).feedRef ∧
    ((slicerTrailing l s).lic.get m).appliedTag = (s.lic.get m).appliedTag := by
  simp only [slicerTrailing]; (repeat' split) <;> simp
@[simp] theorem mergeLeading_lanes (m : Lane) (l : Lane) (x : Edge) (s : State) :
    ((mergeLeading l x s).lic.get m).enabled = (s.lic.get m).enabled ∧
    ((mergeLeading l x s).lic.get m).blade = (s.lic.get m).blade ∧
    ((mergeLeading l x s).lic.get m).spinWait = (s.lic.get m).spinWait ∧
    ((mergeLeading l x s).lic.get m).active = (s.lic.get m).active ∧
    ((mergeLeading l x s).lic.get m).pendingSel = (s.lic.get m).pendingSel ∧
    ((mergeLeading l x s).lic.get m).feedRef = (s.lic.get m).feedRef ∧
    ((mergeLeading l x s).lic.get m).appliedTag = (s.lic.get m).appliedTag := by
  simp only [mergeLeading]; (repeat' split) <;> simp
@[simp] theorem loseExitHead_lanes (m : Lane) (s : State) :
    ((loseExitHead s).lic.get m).enabled = (s.lic.get m).enabled ∧
    ((loseExitHead s).lic.get m).blade = (s.lic.get m).blade ∧
    ((loseExitHead s).lic.get m).spinWait = (s.lic.get m).spinWait ∧
    ((loseExitHead s).lic.get m).active = (s.lic.get m).active ∧
    ((loseExitHead s).lic.get m).pendingSel = (s.lic.get m).pendingSel ∧
    ((loseExitHead s).lic.get m).feedRef = (s.lic.get m).feedRef ∧
    ((loseExitHead s).lic.get m).appliedTag = (s.lic.get m).appliedTag := by
  simp only [loseExitHead]; (repeat' split) <;> simp
@[simp] theorem compareExitHead_lanes (m : Lane) (n : Nat) (s : State) :
    ((compareExitHead n s).lic.get m).enabled = (s.lic.get m).enabled ∧
    ((compareExitHead n s).lic.get m).blade = (s.lic.get m).blade ∧
    ((compareExitHead n s).lic.get m).spinWait = (s.lic.get m).spinWait ∧
    ((compareExitHead n s).lic.get m).active = (s.lic.get m).active ∧
    ((compareExitHead n s).lic.get m).pendingSel = (s.lic.get m).pendingSel ∧
    ((compareExitHead n s).lic.get m).feedRef = (s.lic.get m).feedRef ∧
    ((compareExitHead n s).lic.get m).appliedTag = (s.lic.get m).appliedTag := by
  induction n generalizing s with
  | zero => simp [compareExitHead]
  | succ n ih => rw [compareExitHead]; split <;> simp [ih]
@[simp] theorem exitHeadChanged_lanes (m : Lane) (s : State) :
    ((exitHeadChanged s).lic.get m).enabled = (s.lic.get m).enabled ∧
    ((exitHeadChanged s).lic.get m).blade = (s.lic.get m).blade ∧
    ((exitHeadChanged s).lic.get m).spinWait = (s.lic.get m).spinWait ∧
    ((exitHeadChanged s).lic.get m).active = (s.lic.get m).active ∧
    ((exitHeadChanged s).lic.get m).pendingSel = (s.lic.get m).pendingSel ∧
    ((exitHeadChanged s).lic.get m).feedRef = (s.lic.get m).feedRef ∧
    ((exitHeadChanged s).lic.get m).appliedTag = (s.lic.get m).appliedTag := by
  simp only [exitHeadChanged]; (repeat' split) <;> simp
@[simp] theorem joinExit_lanes (m : Lane) (r : LoafRecord) (s : State) :
    ((joinExit r s).lic.get m).enabled = (s.lic.get m).enabled ∧
    ((joinExit r s).lic.get m).blade = (s.lic.get m).blade ∧
    ((joinExit r s).lic.get m).spinWait = (s.lic.get m).spinWait ∧
    ((joinExit r s).lic.get m).active = (s.lic.get m).active ∧
    ((joinExit r s).lic.get m).pendingSel = (s.lic.get m).pendingSel ∧
    ((joinExit r s).lic.get m).feedRef = (s.lic.get m).feedRef ∧
    ((joinExit r s).lic.get m).appliedTag = (s.lic.get m).appliedTag := by
  simp only [joinExit]; (repeat' split) <;> simp
@[simp] theorem exitLeading_lanes (m : Lane) (x : Edge) (s : State) :
    ((exitLeading x s).lic.get m).enabled = (s.lic.get m).enabled ∧
    ((exitLeading x s).lic.get m).blade = (s.lic.get m).blade ∧
    ((exitLeading x s).lic.get m).spinWait = (s.lic.get m).spinWait ∧
    ((exitLeading x s).lic.get m).active = (s.lic.get m).active ∧
    ((exitLeading x s).lic.get m).pendingSel = (s.lic.get m).pendingSel ∧
    ((exitLeading x s).lic.get m).feedRef = (s.lic.get m).feedRef ∧
    ((exitLeading x s).lic.get m).appliedTag = (s.lic.get m).appliedTag := by
  simp only [exitLeading]; (repeat' split) <;> simp
@[simp] theorem exitTrailing_lanes (m : Lane) (s : State) :
    ((exitTrailing s).lic.get m).enabled = (s.lic.get m).enabled ∧
    ((exitTrailing s).lic.get m).blade = (s.lic.get m).blade ∧
    ((exitTrailing s).lic.get m).spinWait = (s.lic.get m).spinWait ∧
    ((exitTrailing s).lic.get m).active = (s.lic.get m).active ∧
    ((exitTrailing s).lic.get m).pendingSel = (s.lic.get m).pendingSel ∧
    ((exitTrailing s).lic.get m).feedRef = (s.lic.get m).feedRef ∧
    ((exitTrailing s).lic.get m).appliedTag = (s.lic.get m).appliedTag := by
  simp only [exitTrailing]; (repeat' split) <;> simp
@[simp] theorem discardTyer_lanes (m : Lane) (s : State) :
    ((discardTyer s).lic.get m).enabled = (s.lic.get m).enabled ∧
    ((discardTyer s).lic.get m).blade = (s.lic.get m).blade ∧
    ((discardTyer s).lic.get m).spinWait = (s.lic.get m).spinWait ∧
    ((discardTyer s).lic.get m).active = (s.lic.get m).active ∧
    ((discardTyer s).lic.get m).pendingSel = (s.lic.get m).pendingSel ∧
    ((discardTyer s).lic.get m).feedRef = (s.lic.get m).feedRef ∧
    ((discardTyer s).lic.get m).appliedTag = (s.lic.get m).appliedTag := by
  simp only [discardTyer]; (repeat' split) <;> simp
@[simp] theorem resumeDiscard_lanes (m : Lane) (s : State) :
    ((resumeDiscard s).lic.get m).enabled = (s.lic.get m).enabled ∧
    ((resumeDiscard s).lic.get m).blade = (s.lic.get m).blade ∧
    ((resumeDiscard s).lic.get m).spinWait = (s.lic.get m).spinWait ∧
    ((resumeDiscard s).lic.get m).active = (s.lic.get m).active ∧
    ((resumeDiscard s).lic.get m).pendingSel = (s.lic.get m).pendingSel ∧
    ((resumeDiscard s).lic.get m).feedRef = (s.lic.get m).feedRef ∧
    ((resumeDiscard s).lic.get m).appliedTag = (s.lic.get m).appliedTag := by
  simp only [resumeDiscard]; (repeat' split) <;> simp
@[simp] theorem purgePool_lanes (m : Lane) (s : State) :
    ((purgePool s).lic.get m).enabled = (s.lic.get m).enabled ∧
    ((purgePool s).lic.get m).blade = (s.lic.get m).blade ∧
    ((purgePool s).lic.get m).spinWait = (s.lic.get m).spinWait ∧
    ((purgePool s).lic.get m).active = (s.lic.get m).active ∧
    ((purgePool s).lic.get m).pendingSel = (s.lic.get m).pendingSel ∧
    ((purgePool s).lic.get m).feedRef = (s.lic.get m).feedRef ∧
    ((purgePool s).lic.get m).appliedTag = (s.lic.get m).appliedTag := by
  simp only [purgePool]; and_intros <;> simp [foldl_lic_enabled, foldl_lic_blade, foldl_lic_spinWait, foldl_lic_active, foldl_lic_pendingSel, foldl_lic_feedRef, foldl_lic_appliedTag]
@[simp] theorem changeBlade_lanes (m : Lane) (l : Lane) (b : BladeState) (wait : Timer) (s : State) :
    ((changeBlade l b wait s).lic.get m).enabled = (s.lic.get m).enabled ∧
    ((changeBlade l b wait s).lic.get m).active = (s.lic.get m).active ∧
    ((changeBlade l b wait s).lic.get m).pendingSel = (s.lic.get m).pendingSel ∧
    ((changeBlade l b wait s).lic.get m).feedRef = (s.lic.get m).feedRef ∧
    ((changeBlade l b wait s).lic.get m).appliedTag = (s.lic.get m).appliedTag := by
  simp only [changeBlade]; (repeat' split) <;> simp
@[simp] theorem startSpinUp_lanes (m : Lane) (l : Lane) (s : State) :
    ((startSpinUp l s).lic.get m).enabled = (s.lic.get m).enabled ∧
    ((startSpinUp l s).lic.get m).active = (s.lic.get m).active ∧
    ((startSpinUp l s).lic.get m).pendingSel = (s.lic.get m).pendingSel ∧
    ((startSpinUp l s).lic.get m).feedRef = (s.lic.get m).feedRef ∧
    ((startSpinUp l s).lic.get m).appliedTag = (s.lic.get m).appliedTag := by
  simp only [startSpinUp]; (repeat' split) <;> simp
@[simp] theorem bladeOff_lanes (m : Lane) (l : Lane) (s : State) :
    ((bladeOff l s).lic.get m).enabled = (s.lic.get m).enabled ∧
    ((bladeOff l s).lic.get m).active = (s.lic.get m).active ∧
    ((bladeOff l s).lic.get m).pendingSel = (s.lic.get m).pendingSel ∧
    ((bladeOff l s).lic.get m).feedRef = (s.lic.get m).feedRef ∧
    ((bladeOff l s).lic.get m).appliedTag = (s.lic.get m).appliedTag := by
  simp only [bladeOff]; (repeat' split) <;> simp
@[simp] theorem bladeFollow_lanes (m : Lane) (l : Lane) (s : State) :
    ((bladeFollow l s).lic.get m).enabled = (s.lic.get m).enabled ∧
    ((bladeFollow l s).lic.get m).active = (s.lic.get m).active ∧
    ((bladeFollow l s).lic.get m).pendingSel = (s.lic.get m).pendingSel ∧
    ((bladeFollow l s).lic.get m).feedRef = (s.lic.get m).feedRef ∧
    ((bladeFollow l s).lic.get m).appliedTag = (s.lic.get m).appliedTag := by
  simp only [bladeFollow]; (repeat' split) <;> simp
@[simp] theorem spinUpEnd_lanes (m : Lane) (l : Lane) (s : State) :
    ((spinUpEnd l s).lic.get m).enabled = (s.lic.get m).enabled ∧
    ((spinUpEnd l s).lic.get m).active = (s.lic.get m).active ∧
    ((spinUpEnd l s).lic.get m).pendingSel = (s.lic.get m).pendingSel ∧
    ((spinUpEnd l s).lic.get m).feedRef = (s.lic.get m).feedRef ∧
    ((spinUpEnd l s).lic.get m).appliedTag = (s.lic.get m).appliedTag := by
  simp only [spinUpEnd]; (repeat' split) <;> simp
@[simp] theorem tensionResult_lanes (m : Lane) (l : Lane) (result : Nat) (s : State) :
    ((tensionResult l result s).lic.get m).enabled = (s.lic.get m).enabled ∧
    ((tensionResult l result s).lic.get m).active = (s.lic.get m).active ∧
    ((tensionResult l result s).lic.get m).pendingSel = (s.lic.get m).pendingSel ∧
    ((tensionResult l result s).lic.get m).feedRef = (s.lic.get m).feedRef ∧
    ((tensionResult l result s).lic.get m).appliedTag = (s.lic.get m).appliedTag := by
  simp only [tensionResult]; (repeat' split) <;> simp
@[simp] theorem activate_lanes (m : Lane) (l : Lane) (slot : Nat) (s : State) :
    ((activate l slot s).lic.get m).enabled = (s.lic.get m).enabled ∧
    ((activate l slot s).lic.get m).blade = (s.lic.get m).blade ∧
    ((activate l slot s).lic.get m).spinWait = (s.lic.get m).spinWait ∧
    ((activate l slot s).lic.get m).appliedTag = (s.lic.get m).appliedTag := by
  simp only [activate]; (repeat' split) <;> simp
@[simp] theorem applyPending_lanes (m : Lane) (l : Lane) (tag : Nat) (s : State) :
    ((applyPending l tag s).lic.get m).enabled = (s.lic.get m).enabled ∧
    ((applyPending l tag s).lic.get m).blade = (s.lic.get m).blade ∧
    ((applyPending l tag s).lic.get m).spinWait = (s.lic.get m).spinWait := by
  simp only [applyPending]; (repeat' split) <;> simp
@[simp] theorem admission_lanes (m : Lane) (l : Lane) (r : LoafRecord) (s : State) :
    ((admission l r s).lic.get m).enabled = (s.lic.get m).enabled ∧
    ((admission l r s).lic.get m).blade = (s.lic.get m).blade ∧
    ((admission l r s).lic.get m).spinWait = (s.lic.get m).spinWait ∧
    ((admission l r s).cc.get m).lastLevel = (s.cc.get m).lastLevel ∧
    ((admission l r s).cc.get m).levelSince = (s.cc.get m).levelSince ∧
    ((admission l r s).cc.get m).shakerOnly = (s.cc.get m).shakerOnly ∧
    ((admission l r s).cc.get m).airWait = (s.cc.get m).airWait ∧
    ((admission l r s).cc.get m).phaseTimer = (s.cc.get m).phaseTimer ∧
    ((admission l r s).cc.get m).lastClear = (s.cc.get m).lastClear := by
  simp only [admission]; (repeat' split) <;> simp
@[simp] theorem admitIfReady_lanes (m : Lane) (l : Lane) (s : State) :
    ((admitIfReady l s).lic.get m).enabled = (s.lic.get m).enabled ∧
    ((admitIfReady l s).lic.get m).blade = (s.lic.get m).blade ∧
    ((admitIfReady l s).lic.get m).spinWait = (s.lic.get m).spinWait ∧
    ((admitIfReady l s).cc.get m).lastLevel = (s.cc.get m).lastLevel ∧
    ((admitIfReady l s).cc.get m).levelSince = (s.cc.get m).levelSince ∧
    ((admitIfReady l s).cc.get m).shakerOnly = (s.cc.get m).shakerOnly ∧
    ((admitIfReady l s).cc.get m).airWait = (s.cc.get m).airWait ∧
    ((admitIfReady l s).cc.get m).phaseTimer = (s.cc.get m).phaseTimer ∧
    ((admitIfReady l s).cc.get m).lastClear = (s.cc.get m).lastClear := by
  simp only [admitIfReady]; (repeat' split) <;> simp
@[simp] theorem enterTwist_lanes (m : Lane) (s : State) :
    ((enterTwist s).lic.get m).enabled = (s.lic.get m).enabled ∧
    ((enterTwist s).lic.get m).blade = (s.lic.get m).blade ∧
    ((enterTwist s).lic.get m).spinWait = (s.lic.get m).spinWait ∧
    ((enterTwist s).lic.get m).active = (s.lic.get m).active ∧
    ((enterTwist s).lic.get m).pendingSel = (s.lic.get m).pendingSel ∧
    ((enterTwist s).lic.get m).feedRef = (s.lic.get m).feedRef ∧
    ((enterTwist s).lic.get m).appliedTag = (s.lic.get m).appliedTag := by
  simp only [enterTwist]; (repeat' split) <;> simp
@[simp] theorem startTyer_lanes (m : Lane) (s : State) :
    ((startTyer s).lic.get m).enabled = (s.lic.get m).enabled ∧
    ((startTyer s).lic.get m).blade = (s.lic.get m).blade ∧
    ((startTyer s).lic.get m).spinWait = (s.lic.get m).spinWait ∧
    ((startTyer s).lic.get m).active = (s.lic.get m).active ∧
    ((startTyer s).lic.get m).pendingSel = (s.lic.get m).pendingSel ∧
    ((startTyer s).lic.get m).feedRef = (s.lic.get m).feedRef ∧
    ((startTyer s).lic.get m).appliedTag = (s.lic.get m).appliedTag ∧
    ((startTyer s).cc.get m).estimate = (s.cc.get m).estimate ∧
    ((startTyer s).cc.get m).lastLevel = (s.cc.get m).lastLevel ∧
    ((startTyer s).cc.get m).levelSince = (s.cc.get m).levelSince ∧
    ((startTyer s).cc.get m).cause = (s.cc.get m).cause ∧ ((startTyer s).cc.get m).backoff = (s.cc.get m).backoff ∧
    ((startTyer s).cc.get m).lastClear = (s.cc.get m).lastClear := by
  simp only [startTyer]; (repeat' split) <;> simp
@[simp] theorem endPurge_lanes (m : Lane) (s : State) :
    ((endPurge s).lic.get m).enabled = (s.lic.get m).enabled ∧ ((endPurge s).lic.get m).blade = (s.lic.get m).blade ∧
    ((endPurge s).lic.get m).spinWait = (s.lic.get m).spinWait ∧
    ((endPurge s).lic.get m).active = (s.lic.get m).active ∧
    ((endPurge s).lic.get m).pendingSel = (s.lic.get m).pendingSel ∧
    ((endPurge s).lic.get m).feedRef = (s.lic.get m).feedRef ∧
    ((endPurge s).lic.get m).appliedTag = (s.lic.get m).appliedTag ∧
    ((endPurge s).cc.get m).estimate = (s.cc.get m).estimate ∧
    ((endPurge s).cc.get m).lastLevel = (s.cc.get m).lastLevel ∧
    ((endPurge s).cc.get m).levelSince = (s.cc.get m).levelSince ∧
    ((endPurge s).cc.get m).cause = (s.cc.get m).cause ∧ ((endPurge s).cc.get m).backoff = (s.cc.get m).backoff ∧
    ((endPurge s).cc.get m).lastClear = (s.cc.get m).lastClear := by
  simp only [endPurge]; (repeat' split) <;> simp
@[simp] theorem enterClip_lanes (m : Lane) (s : State) :
    ((enterClip s).lic.get m).enabled = (s.lic.get m).enabled ∧
    ((enterClip s).lic.get m).blade = (s.lic.get m).blade ∧
    ((enterClip s).lic.get m).spinWait = (s.lic.get m).spinWait ∧
    ((enterClip s).lic.get m).active = (s.lic.get m).active ∧
    ((enterClip s).lic.get m).pendingSel = (s.lic.get m).pendingSel ∧
    ((enterClip s).lic.get m).feedRef = (s.lic.get m).feedRef ∧
    ((enterClip s).lic.get m).appliedTag = (s.lic.get m).appliedTag := by
  simp only [enterClip]; (repeat' split) <;> simp
@[simp] theorem completeTie_lanes (m : Lane) (s : State) :
    ((completeTie s).lic.get m).enabled = (s.lic.get m).enabled ∧
    ((completeTie s).lic.get m).blade = (s.lic.get m).blade ∧
    ((completeTie s).lic.get m).spinWait = (s.lic.get m).spinWait ∧
    ((completeTie s).lic.get m).active = (s.lic.get m).active ∧
    ((completeTie s).lic.get m).pendingSel = (s.lic.get m).pendingSel ∧
    ((completeTie s).lic.get m).feedRef = (s.lic.get m).feedRef ∧
    ((completeTie s).lic.get m).appliedTag = (s.lic.get m).appliedTag := by
  simp only [completeTie]; (repeat' split) <;> simp
@[simp] theorem tieIfHome_lanes (m : Lane) (s : State) :
    ((tieIfHome s).lic.get m).enabled = (s.lic.get m).enabled ∧
    ((tieIfHome s).lic.get m).blade = (s.lic.get m).blade ∧
    ((tieIfHome s).lic.get m).spinWait = (s.lic.get m).spinWait ∧
    ((tieIfHome s).lic.get m).active = (s.lic.get m).active ∧
    ((tieIfHome s).lic.get m).pendingSel = (s.lic.get m).pendingSel ∧
    ((tieIfHome s).lic.get m).feedRef = (s.lic.get m).feedRef ∧
    ((tieIfHome s).lic.get m).appliedTag = (s.lic.get m).appliedTag := by
  simp only [tieIfHome]; (repeat' split) <;> simp
@[simp] theorem enterHomeWait_lanes (m : Lane) (s : State) :
    ((enterHomeWait s).lic.get m).enabled = (s.lic.get m).enabled ∧
    ((enterHomeWait s).lic.get m).blade = (s.lic.get m).blade ∧
    ((enterHomeWait s).lic.get m).spinWait = (s.lic.get m).spinWait ∧
    ((enterHomeWait s).lic.get m).active = (s.lic.get m).active ∧
    ((enterHomeWait s).lic.get m).pendingSel = (s.lic.get m).pendingSel ∧
    ((enterHomeWait s).lic.get m).feedRef = (s.lic.get m).feedRef ∧
    ((enterHomeWait s).lic.get m).appliedTag = (s.lic.get m).appliedTag := by
  simp only [enterHomeWait]; (repeat' split) <;> simp
@[simp] theorem jamTyer_lanes (m : Lane) (s : State) :
    ((jamTyer s).lic.get m).enabled = (s.lic.get m).enabled ∧ ((jamTyer s).lic.get m).blade = (s.lic.get m).blade ∧
    ((jamTyer s).lic.get m).spinWait = (s.lic.get m).spinWait ∧
    ((jamTyer s).lic.get m).active = (s.lic.get m).active ∧
    ((jamTyer s).lic.get m).pendingSel = (s.lic.get m).pendingSel ∧
    ((jamTyer s).lic.get m).feedRef = (s.lic.get m).feedRef ∧
    ((jamTyer s).lic.get m).appliedTag = (s.lic.get m).appliedTag := by
  simp only [jamTyer]; (repeat' split) <;> simp
@[simp] theorem handoff_lanes (m : Lane) (s : State) :
    ((handoff s).lic.get m).enabled = (s.lic.get m).enabled ∧ ((handoff s).lic.get m).blade = (s.lic.get m).blade ∧
    ((handoff s).lic.get m).spinWait = (s.lic.get m).spinWait ∧
    ((handoff s).lic.get m).active = (s.lic.get m).active ∧
    ((handoff s).lic.get m).pendingSel = (s.lic.get m).pendingSel ∧
    ((handoff s).lic.get m).feedRef = (s.lic.get m).feedRef ∧
    ((handoff s).lic.get m).appliedTag = (s.lic.get m).appliedTag ∧
    ((handoff s).cc.get m).estimate = (s.cc.get m).estimate ∧
    ((handoff s).cc.get m).lastLevel = (s.cc.get m).lastLevel ∧
    ((handoff s).cc.get m).levelSince = (s.cc.get m).levelSince ∧ ((handoff s).cc.get m).cause = (s.cc.get m).cause ∧
    ((handoff s).cc.get m).backoff = (s.cc.get m).backoff ∧
    ((handoff s).cc.get m).lastClear = (s.cc.get m).lastClear := by
  simp only [handoff]; (repeat' split) <;> simp
@[simp] theorem bagCheck_lanes (m : Lane) (s : State) :
    ((bagCheck s).lic.get m).enabled = (s.lic.get m).enabled ∧ ((bagCheck s).lic.get m).blade = (s.lic.get m).blade ∧
    ((bagCheck s).lic.get m).spinWait = (s.lic.get m).spinWait ∧
    ((bagCheck s).lic.get m).active = (s.lic.get m).active ∧
    ((bagCheck s).lic.get m).pendingSel = (s.lic.get m).pendingSel ∧
    ((bagCheck s).lic.get m).feedRef = (s.lic.get m).feedRef ∧
    ((bagCheck s).lic.get m).appliedTag = (s.lic.get m).appliedTag ∧
    ((bagCheck s).cc.get m).estimate = (s.cc.get m).estimate ∧
    ((bagCheck s).cc.get m).lastLevel = (s.cc.get m).lastLevel ∧
    ((bagCheck s).cc.get m).levelSince = (s.cc.get m).levelSince ∧
    ((bagCheck s).cc.get m).cause = (s.cc.get m).cause ∧ ((bagCheck s).cc.get m).backoff = (s.cc.get m).backoff ∧
    ((bagCheck s).cc.get m).lastClear = (s.cc.get m).lastClear := by
  simp only [bagCheck]; (repeat' split) <;> simp
@[simp] theorem startRoute_lanes (m : Lane) (s : State) :
    ((startRoute s).lic.get m).enabled = (s.lic.get m).enabled ∧
    ((startRoute s).lic.get m).blade = (s.lic.get m).blade ∧
    ((startRoute s).lic.get m).spinWait = (s.lic.get m).spinWait ∧
    ((startRoute s).lic.get m).active = (s.lic.get m).active ∧
    ((startRoute s).lic.get m).pendingSel = (s.lic.get m).pendingSel ∧
    ((startRoute s).lic.get m).feedRef = (s.lic.get m).feedRef ∧
    ((startRoute s).lic.get m).appliedTag = (s.lic.get m).appliedTag ∧
    ((startRoute s).cc.get m).estimate = (s.cc.get m).estimate ∧
    ((startRoute s).cc.get m).lastLevel = (s.cc.get m).lastLevel ∧
    ((startRoute s).cc.get m).levelSince = (s.cc.get m).levelSince ∧
    ((startRoute s).cc.get m).cause = (s.cc.get m).cause ∧ ((startRoute s).cc.get m).backoff = (s.cc.get m).backoff ∧
    ((startRoute s).cc.get m).lastClear = (s.cc.get m).lastClear := by
  simp only [startRoute]; (repeat' split) <;> simp
@[simp] theorem selectLane_lanes (m : Lane) (l : Lane) (r : LoafRecord) (s : State) :
    ((selectLane l r s).lic.get m).enabled = (s.lic.get m).enabled ∧
    ((selectLane l r s).lic.get m).blade = (s.lic.get m).blade ∧
    ((selectLane l r s).lic.get m).spinWait = (s.lic.get m).spinWait ∧
    ((selectLane l r s).lic.get m).active = (s.lic.get m).active ∧
    ((selectLane l r s).lic.get m).pendingSel = (s.lic.get m).pendingSel ∧
    ((selectLane l r s).lic.get m).feedRef = (s.lic.get m).feedRef ∧
    ((selectLane l r s).lic.get m).appliedTag = (s.lic.get m).appliedTag ∧
    ((selectLane l r s).cc.get m).estimate = (s.cc.get m).estimate ∧
    ((selectLane l r s).cc.get m).lastLevel = (s.cc.get m).lastLevel ∧
    ((selectLane l r s).cc.get m).levelSince = (s.cc.get m).levelSince ∧
    ((selectLane l r s).cc.get m).cause = (s.cc.get m).cause ∧
    ((selectLane l r s).cc.get m).backoff = (s.cc.get m).backoff ∧
    ((selectLane l r s).cc.get m).lastClear = (s.cc.get m).lastClear := by
  simp only [selectLane]; (repeat' split) <;> simp
@[simp] theorem selectIfReady_lanes (m : Lane) (s : State) :
    ((selectIfReady s).lic.get m).enabled = (s.lic.get m).enabled ∧
    ((selectIfReady s).lic.get m).blade = (s.lic.get m).blade ∧
    ((selectIfReady s).lic.get m).spinWait = (s.lic.get m).spinWait ∧
    ((selectIfReady s).lic.get m).active = (s.lic.get m).active ∧
    ((selectIfReady s).lic.get m).pendingSel = (s.lic.get m).pendingSel ∧
    ((selectIfReady s).lic.get m).feedRef = (s.lic.get m).feedRef ∧
    ((selectIfReady s).lic.get m).appliedTag = (s.lic.get m).appliedTag ∧
    ((selectIfReady s).cc.get m).estimate = (s.cc.get m).estimate ∧
    ((selectIfReady s).cc.get m).lastLevel = (s.cc.get m).lastLevel ∧
    ((selectIfReady s).cc.get m).levelSince = (s.cc.get m).levelSince ∧
    ((selectIfReady s).cc.get m).cause = (s.cc.get m).cause ∧
    ((selectIfReady s).cc.get m).backoff = (s.cc.get m).backoff ∧
    ((selectIfReady s).cc.get m).lastClear = (s.cc.get m).lastClear := by
  simp only [selectIfReady]; (repeat' split) <;> simp
@[simp] theorem openingOver_lanes (m : Lane) (s : State) :
    ((openingOver s).lic.get m).enabled = (s.lic.get m).enabled ∧
    ((openingOver s).lic.get m).blade = (s.lic.get m).blade ∧
    ((openingOver s).lic.get m).spinWait = (s.lic.get m).spinWait ∧
    ((openingOver s).lic.get m).active = (s.lic.get m).active ∧
    ((openingOver s).lic.get m).pendingSel = (s.lic.get m).pendingSel ∧
    ((openingOver s).lic.get m).feedRef = (s.lic.get m).feedRef ∧
    ((openingOver s).lic.get m).appliedTag = (s.lic.get m).appliedTag := by
  simp only [openingOver]; (repeat' split) <;> simp
@[simp] theorem freeRejected_lanes (m : Lane) (s : State) :
    ((freeRejected s).lic.get m).enabled = (s.lic.get m).enabled ∧
    ((freeRejected s).lic.get m).blade = (s.lic.get m).blade ∧
    ((freeRejected s).lic.get m).spinWait = (s.lic.get m).spinWait ∧
    ((freeRejected s).lic.get m).active = (s.lic.get m).active ∧
    ((freeRejected s).lic.get m).pendingSel = (s.lic.get m).pendingSel ∧
    ((freeRejected s).lic.get m).feedRef = (s.lic.get m).feedRef ∧
    ((freeRejected s).lic.get m).appliedTag = (s.lic.get m).appliedTag := by
  simp only [freeRejected]; (repeat' split) <;> simp
@[simp] theorem strokeDone_lanes (m : Lane) (s : State) :
    ((strokeDone s).lic.get m).enabled = (s.lic.get m).enabled ∧
    ((strokeDone s).lic.get m).blade = (s.lic.get m).blade ∧
    ((strokeDone s).lic.get m).spinWait = (s.lic.get m).spinWait ∧
    ((strokeDone s).lic.get m).active = (s.lic.get m).active ∧
    ((strokeDone s).lic.get m).pendingSel = (s.lic.get m).pendingSel ∧
    ((strokeDone s).lic.get m).feedRef = (s.lic.get m).feedRef ∧
    ((strokeDone s).lic.get m).appliedTag = (s.lic.get m).appliedTag ∧
    ((strokeDone s).cc.get m).estimate = (s.cc.get m).estimate ∧
    ((strokeDone s).cc.get m).lastLevel = (s.cc.get m).lastLevel ∧
    ((strokeDone s).cc.get m).levelSince = (s.cc.get m).levelSince ∧
    ((strokeDone s).cc.get m).cause = (s.cc.get m).cause ∧ ((strokeDone s).cc.get m).backoff = (s.cc.get m).backoff ∧
    ((strokeDone s).cc.get m).lastClear = (s.cc.get m).lastClear := by
  simp only [strokeDone]; (repeat' split) <;> simp
@[simp] theorem pusherHome_lanes (m : Lane) (l : Lane) (s : State) :
    ((pusherHome l s).lic.get m).enabled = (s.lic.get m).enabled ∧
    ((pusherHome l s).lic.get m).blade = (s.lic.get m).blade ∧
    ((pusherHome l s).lic.get m).spinWait = (s.lic.get m).spinWait ∧
    ((pusherHome l s).lic.get m).active = (s.lic.get m).active ∧
    ((pusherHome l s).lic.get m).pendingSel = (s.lic.get m).pendingSel ∧
    ((pusherHome l s).lic.get m).feedRef = (s.lic.get m).feedRef ∧
    ((pusherHome l s).lic.get m).appliedTag = (s.lic.get m).appliedTag ∧
    ((pusherHome l s).cc.get m).estimate = (s.cc.get m).estimate ∧
    ((pusherHome l s).cc.get m).lastLevel = (s.cc.get m).lastLevel ∧
    ((pusherHome l s).cc.get m).levelSince = (s.cc.get m).levelSince ∧
    ((pusherHome l s).cc.get m).cause = (s.cc.get m).cause ∧
    ((pusherHome l s).cc.get m).backoff = (s.cc.get m).backoff ∧
    ((pusherHome l s).cc.get m).lastClear = (s.cc.get m).lastClear := by
  simp only [pusherHome]; (repeat' split) <;> simp
@[simp] theorem strokeStopped_lanes (m : Lane) (s : State) :
    ((strokeStopped s).lic.get m).enabled = (s.lic.get m).enabled ∧
    ((strokeStopped s).lic.get m).blade = (s.lic.get m).blade ∧
    ((strokeStopped s).lic.get m).spinWait = (s.lic.get m).spinWait ∧
    ((strokeStopped s).lic.get m).active = (s.lic.get m).active ∧
    ((strokeStopped s).lic.get m).pendingSel = (s.lic.get m).pendingSel ∧
    ((strokeStopped s).lic.get m).feedRef = (s.lic.get m).feedRef ∧
    ((strokeStopped s).lic.get m).appliedTag = (s.lic.get m).appliedTag := by
  simp only [strokeStopped]; (repeat' split) <;> simp
@[simp] theorem homingFailed_lanes (m : Lane) (s : State) :
    ((homingFailed s).lic.get m).enabled = (s.lic.get m).enabled ∧
    ((homingFailed s).lic.get m).blade = (s.lic.get m).blade ∧
    ((homingFailed s).lic.get m).spinWait = (s.lic.get m).spinWait ∧
    ((homingFailed s).lic.get m).active = (s.lic.get m).active ∧
    ((homingFailed s).lic.get m).pendingSel = (s.lic.get m).pendingSel ∧
    ((homingFailed s).lic.get m).feedRef = (s.lic.get m).feedRef ∧
    ((homingFailed s).lic.get m).appliedTag = (s.lic.get m).appliedTag := by
  simp only [homingFailed]; (repeat' split) <;> simp
@[simp] theorem endStopped_lanes (m : Lane) (s : State) :
    ((endStopped s).lic.get m).enabled = (s.lic.get m).enabled ∧
    ((endStopped s).lic.get m).blade = (s.lic.get m).blade ∧
    ((endStopped s).lic.get m).spinWait = (s.lic.get m).spinWait ∧
    ((endStopped s).lic.get m).active = (s.lic.get m).active ∧
    ((endStopped s).lic.get m).pendingSel = (s.lic.get m).pendingSel ∧
    ((endStopped s).lic.get m).feedRef = (s.lic.get m).feedRef ∧
    ((endStopped s).lic.get m).appliedTag = (s.lic.get m).appliedTag ∧
    ((endStopped s).cc.get m).estimate = (s.cc.get m).estimate ∧
    ((endStopped s).cc.get m).lastLevel = (s.cc.get m).lastLevel ∧
    ((endStopped s).cc.get m).levelSince = (s.cc.get m).levelSince ∧
    ((endStopped s).cc.get m).cause = (s.cc.get m).cause ∧ ((endStopped s).cc.get m).backoff = (s.cc.get m).backoff ∧
    ((endStopped s).cc.get m).lastClear = (s.cc.get m).lastClear := by
  simp only [endStopped]; (repeat' split) <;> simp
@[simp] theorem bagConfirmed_lanes (m : Lane) (s : State) :
    ((bagConfirmed s).lic.get m).enabled = (s.lic.get m).enabled ∧
    ((bagConfirmed s).lic.get m).blade = (s.lic.get m).blade ∧
    ((bagConfirmed s).lic.get m).spinWait = (s.lic.get m).spinWait ∧
    ((bagConfirmed s).lic.get m).active = (s.lic.get m).active ∧
    ((bagConfirmed s).lic.get m).pendingSel = (s.lic.get m).pendingSel ∧
    ((bagConfirmed s).lic.get m).feedRef = (s.lic.get m).feedRef ∧
    ((bagConfirmed s).lic.get m).appliedTag = (s.lic.get m).appliedTag ∧
    ((bagConfirmed s).cc.get m).estimate = (s.cc.get m).estimate ∧
    ((bagConfirmed s).cc.get m).lastLevel = (s.cc.get m).lastLevel ∧
    ((bagConfirmed s).cc.get m).levelSince = (s.cc.get m).levelSince ∧
    ((bagConfirmed s).cc.get m).cause = (s.cc.get m).cause ∧
    ((bagConfirmed s).cc.get m).backoff = (s.cc.get m).backoff ∧
    ((bagConfirmed s).cc.get m).lastClear = (s.cc.get m).lastClear := by
  have h : ∀ c (f : MergeBag → MergeBag) (t : State), when c (State.onMbc f) t = t.onMbc (if c then f else id) := by
    intro c f t; cases c <;> rfl
  simp only [bagConfirmed, h]; and_intros <;> (try split) <;> simp
@[simp] theorem bagMissed_lanes (m : Lane) (s : State) :
    ((bagMissed s).lic.get m).enabled = (s.lic.get m).enabled ∧
    ((bagMissed s).lic.get m).blade = (s.lic.get m).blade ∧
    ((bagMissed s).lic.get m).spinWait = (s.lic.get m).spinWait ∧
    ((bagMissed s).lic.get m).active = (s.lic.get m).active ∧
    ((bagMissed s).lic.get m).pendingSel = (s.lic.get m).pendingSel ∧
    ((bagMissed s).lic.get m).feedRef = (s.lic.get m).feedRef ∧
    ((bagMissed s).lic.get m).appliedTag = (s.lic.get m).appliedTag := by
  simp only [bagMissed]; (repeat' split) <;> simp
@[simp] theorem endBlast_lanes (m : Lane) (s : State) :
    ((endBlast s).lic.get m).enabled = (s.lic.get m).enabled ∧ ((endBlast s).lic.get m).blade = (s.lic.get m).blade ∧
    ((endBlast s).lic.get m).spinWait = (s.lic.get m).spinWait ∧
    ((endBlast s).lic.get m).active = (s.lic.get m).active ∧
    ((endBlast s).lic.get m).pendingSel = (s.lic.get m).pendingSel ∧
    ((endBlast s).lic.get m).feedRef = (s.lic.get m).feedRef ∧
    ((endBlast s).lic.get m).appliedTag = (s.lic.get m).appliedTag ∧
    ((endBlast s).cc.get m).estimate = (s.cc.get m).estimate ∧
    ((endBlast s).cc.get m).lastLevel = (s.cc.get m).lastLevel ∧
    ((endBlast s).cc.get m).levelSince = (s.cc.get m).levelSince ∧
    ((endBlast s).cc.get m).cause = (s.cc.get m).cause ∧ ((endBlast s).cc.get m).backoff = (s.cc.get m).backoff ∧
    ((endBlast s).cc.get m).lastClear = (s.cc.get m).lastClear := by
  simp only [endBlast]; (repeat' split) <;> simp
@[simp] theorem abandonBagger_lanes (m : Lane) (s : State) :
    ((abandonBagger s).lic.get m).enabled = (s.lic.get m).enabled ∧
    ((abandonBagger s).lic.get m).blade = (s.lic.get m).blade ∧
    ((abandonBagger s).lic.get m).spinWait = (s.lic.get m).spinWait ∧
    ((abandonBagger s).lic.get m).active = (s.lic.get m).active ∧
    ((abandonBagger s).lic.get m).pendingSel = (s.lic.get m).pendingSel ∧
    ((abandonBagger s).lic.get m).feedRef = (s.lic.get m).feedRef ∧
    ((abandonBagger s).lic.get m).appliedTag = (s.lic.get m).appliedTag ∧
    ((abandonBagger s).cc.get m).estimate = (s.cc.get m).estimate ∧
    ((abandonBagger s).cc.get m).lastLevel = (s.cc.get m).lastLevel ∧
    ((abandonBagger s).cc.get m).levelSince = (s.cc.get m).levelSince ∧
    ((abandonBagger s).cc.get m).cause = (s.cc.get m).cause ∧
    ((abandonBagger s).cc.get m).backoff = (s.cc.get m).backoff ∧
    ((abandonBagger s).cc.get m).lastClear = (s.cc.get m).lastClear := by
  simp only [abandonBagger]; (repeat' split) <;> simp
@[simp] theorem abandonTyer_lanes (m : Lane) (s : State) :
    ((abandonTyer s).lic.get m).enabled = (s.lic.get m).enabled ∧
    ((abandonTyer s).lic.get m).blade = (s.lic.get m).blade ∧
    ((abandonTyer s).lic.get m).spinWait = (s.lic.get m).spinWait ∧
    ((abandonTyer s).lic.get m).active = (s.lic.get m).active ∧
    ((abandonTyer s).lic.get m).pendingSel = (s.lic.get m).pendingSel ∧
    ((abandonTyer s).lic.get m).feedRef = (s.lic.get m).feedRef ∧
    ((abandonTyer s).lic.get m).appliedTag = (s.lic.get m).appliedTag ∧
    ((abandonTyer s).cc.get m).estimate = (s.cc.get m).estimate ∧
    ((abandonTyer s).cc.get m).lastLevel = (s.cc.get m).lastLevel ∧
    ((abandonTyer s).cc.get m).levelSince = (s.cc.get m).levelSince ∧
    ((abandonTyer s).cc.get m).cause = (s.cc.get m).cause ∧
    ((abandonTyer s).cc.get m).backoff = (s.cc.get m).backoff ∧
    ((abandonTyer s).cc.get m).lastClear = (s.cc.get m).lastClear := by
  simp only [abandonTyer]; (repeat' split) <;> simp
@[simp] theorem failureFault_lanes (m : Lane) (k : JobKind) (done : Bool) (s : State) :
    ((failureFault k done s).lic.get m).enabled = (s.lic.get m).enabled ∧
    ((failureFault k done s).lic.get m).blade = (s.lic.get m).blade ∧
    ((failureFault k done s).lic.get m).spinWait = (s.lic.get m).spinWait ∧
    ((failureFault k done s).lic.get m).active = (s.lic.get m).active ∧
    ((failureFault k done s).lic.get m).pendingSel = (s.lic.get m).pendingSel ∧
    ((failureFault k done s).lic.get m).feedRef = (s.lic.get m).feedRef ∧
    ((failureFault k done s).lic.get m).appliedTag = (s.lic.get m).appliedTag := by
  simp only [failureFault]; (repeat' split) <;> simp
@[simp] theorem restoreSelection_lanes (m : Lane) (l : Lane) (slot : Option Nat) (s : State) :
    ((restoreSelection l slot s).lic.get m).enabled = (s.lic.get m).enabled ∧
    ((restoreSelection l slot s).lic.get m).blade = (s.lic.get m).blade ∧
    ((restoreSelection l slot s).lic.get m).spinWait = (s.lic.get m).spinWait ∧
    ((restoreSelection l slot s).lic.get m).appliedTag = (s.lic.get m).appliedTag := by
  simp only [restoreSelection]; (repeat' split) <;> simp
@[simp] theorem crumbEntry_lanes (m : Lane) (was : LineState) (s : State) :
    ((crumbEntry was s).lic.get m).enabled = (s.lic.get m).enabled ∧
    ((crumbEntry was s).lic.get m).blade = (s.lic.get m).blade ∧
    ((crumbEntry was s).lic.get m).spinWait = (s.lic.get m).spinWait ∧
    ((crumbEntry was s).lic.get m).active = (s.lic.get m).active ∧
    ((crumbEntry was s).lic.get m).pendingSel = (s.lic.get m).pendingSel ∧
    ((crumbEntry was s).lic.get m).feedRef = (s.lic.get m).feedRef ∧
    ((crumbEntry was s).lic.get m).appliedTag = (s.lic.get m).appliedTag ∧
    ((crumbEntry was s).cc.get m).estimate = (s.cc.get m).estimate ∧
    ((crumbEntry was s).cc.get m).lastLevel = (s.cc.get m).lastLevel ∧
    ((crumbEntry was s).cc.get m).levelSince = (s.cc.get m).levelSince ∧
    ((crumbEntry was s).cc.get m).shakerOnly = (s.cc.get m).shakerOnly ∧
    ((crumbEntry was s).cc.get m).airWait = (s.cc.get m).airWait ∧
    ((crumbEntry was s).cc.get m).phaseTimer = (s.cc.get m).phaseTimer ∧
    ((crumbEntry was s).cc.get m).lastClear = (s.cc.get m).lastClear := by
  simp only [crumbEntry]; (repeat' split) <;> simp
@[simp] theorem enterStop_lanes (m : Lane) (s : State) :
    ((enterStop s).lic.get m).enabled = (s.lic.get m).enabled ∧
    ((enterStop s).lic.get m).active = (s.lic.get m).active ∧
    ((enterStop s).lic.get m).pendingSel = (s.lic.get m).pendingSel ∧
    ((enterStop s).lic.get m).feedRef = (s.lic.get m).feedRef ∧
    ((enterStop s).lic.get m).appliedTag = (s.lic.get m).appliedTag ∧
    ((enterStop s).cc.get m).estimate = (s.cc.get m).estimate ∧
    ((enterStop s).cc.get m).lastLevel = (s.cc.get m).lastLevel ∧
    ((enterStop s).cc.get m).levelSince = (s.cc.get m).levelSince ∧
    ((enterStop s).cc.get m).lastClear = (s.cc.get m).lastClear := by
  simp only [enterStop]; (repeat' split) <;> simp
@[simp] theorem enterStandby_lanes (m : Lane) (s : State) :
    ((enterStandby s).lic.get m).enabled = (s.lic.get m).enabled ∧
    ((enterStandby s).lic.get m).active = (s.lic.get m).active ∧
    ((enterStandby s).lic.get m).pendingSel = (s.lic.get m).pendingSel ∧
    ((enterStandby s).lic.get m).feedRef = (s.lic.get m).feedRef ∧
    ((enterStandby s).lic.get m).appliedTag = (s.lic.get m).appliedTag ∧
    ((enterStandby s).cc.get m).estimate = (s.cc.get m).estimate ∧
    ((enterStandby s).cc.get m).lastLevel = (s.cc.get m).lastLevel ∧
    ((enterStandby s).cc.get m).levelSince = (s.cc.get m).levelSince ∧
    ((enterStandby s).cc.get m).lastClear = (s.cc.get m).lastClear := by
  simp only [enterStandby]; (repeat' split) <;> simp
@[simp] theorem enterSpinUp_lanes (m : Lane) (s : State) :
    ((enterSpinUp s).lic.get m).enabled = (s.lic.get m).enabled ∧
    ((enterSpinUp s).lic.get m).blade = (s.lic.get m).blade ∧
    ((enterSpinUp s).lic.get m).spinWait = (s.lic.get m).spinWait ∧
    ((enterSpinUp s).lic.get m).active = (s.lic.get m).active ∧
    ((enterSpinUp s).lic.get m).pendingSel = (s.lic.get m).pendingSel ∧
    ((enterSpinUp s).lic.get m).feedRef = (s.lic.get m).feedRef ∧
    ((enterSpinUp s).lic.get m).appliedTag = (s.lic.get m).appliedTag := by
  simp only [enterSpinUp]; (repeat' split) <;> simp
@[simp] theorem enterRun_lanes (m : Lane) (s : State) :
    ((enterRun s).lic.get m).enabled = (s.lic.get m).enabled ∧ ((enterRun s).lic.get m).blade = (s.lic.get m).blade ∧
    ((enterRun s).lic.get m).spinWait = (s.lic.get m).spinWait ∧
    ((enterRun s).lic.get m).active = (s.lic.get m).active ∧
    ((enterRun s).lic.get m).pendingSel = (s.lic.get m).pendingSel ∧
    ((enterRun s).lic.get m).feedRef = (s.lic.get m).feedRef ∧
    ((enterRun s).lic.get m).appliedTag = (s.lic.get m).appliedTag ∧
    ((enterRun s).cc.get m).estimate = (s.cc.get m).estimate ∧
    ((enterRun s).cc.get m).lastLevel = (s.cc.get m).lastLevel ∧
    ((enterRun s).cc.get m).levelSince = (s.cc.get m).levelSince ∧
    ((enterRun s).cc.get m).shakerOnly = (s.cc.get m).shakerOnly ∧
    ((enterRun s).cc.get m).airWait = (s.cc.get m).airWait ∧
    ((enterRun s).cc.get m).phaseTimer = (s.cc.get m).phaseTimer ∧
    ((enterRun s).cc.get m).lastClear = (s.cc.get m).lastClear := by
  simp only [enterRun]; (repeat' split) <;> simp
@[simp] theorem enterDrain_lanes (m : Lane) (s : State) :
    ((enterDrain s).lic.get m).enabled = (s.lic.get m).enabled ∧
    ((enterDrain s).lic.get m).blade = (s.lic.get m).blade ∧
    ((enterDrain s).lic.get m).spinWait = (s.lic.get m).spinWait ∧
    ((enterDrain s).lic.get m).active = (s.lic.get m).active ∧
    ((enterDrain s).lic.get m).pendingSel = (s.lic.get m).pendingSel ∧
    ((enterDrain s).lic.get m).feedRef = (s.lic.get m).feedRef ∧
    ((enterDrain s).lic.get m).appliedTag = (s.lic.get m).appliedTag := by
  simp only [enterDrain]; (repeat' split) <;> simp
@[simp] theorem enterHold_lanes (m : Lane) (back : LineState) (s : State) :
    ((enterHold back s).lic.get m).enabled = (s.lic.get m).enabled ∧
    ((enterHold back s).lic.get m).blade = (s.lic.get m).blade ∧
    ((enterHold back s).lic.get m).spinWait = (s.lic.get m).spinWait ∧
    ((enterHold back s).lic.get m).active = (s.lic.get m).active ∧
    ((enterHold back s).lic.get m).pendingSel = (s.lic.get m).pendingSel ∧
    ((enterHold back s).lic.get m).feedRef = (s.lic.get m).feedRef ∧
    ((enterHold back s).lic.get m).appliedTag = (s.lic.get m).appliedTag ∧
    ((enterHold back s).cc.get m).estimate = (s.cc.get m).estimate ∧
    ((enterHold back s).cc.get m).lastLevel = (s.cc.get m).lastLevel ∧
    ((enterHold back s).cc.get m).levelSince = (s.cc.get m).levelSince ∧
    ((enterHold back s).cc.get m).cause = (s.cc.get m).cause ∧
    ((enterHold back s).cc.get m).backoff = (s.cc.get m).backoff ∧
    ((enterHold back s).cc.get m).lastClear = (s.cc.get m).lastClear := by
  simp only [enterHold]; (repeat' split) <;> simp
@[simp] theorem stopIfFaulted_lanes (m : Lane) (s : State) :
    ((stopIfFaulted s).lic.get m).enabled = (s.lic.get m).enabled ∧
    ((stopIfFaulted s).lic.get m).active = (s.lic.get m).active ∧
    ((stopIfFaulted s).lic.get m).pendingSel = (s.lic.get m).pendingSel ∧
    ((stopIfFaulted s).lic.get m).feedRef = (s.lic.get m).feedRef ∧
    ((stopIfFaulted s).lic.get m).appliedTag = (s.lic.get m).appliedTag ∧
    ((stopIfFaulted s).cc.get m).estimate = (s.cc.get m).estimate ∧
    ((stopIfFaulted s).cc.get m).lastLevel = (s.cc.get m).lastLevel ∧
    ((stopIfFaulted s).cc.get m).levelSince = (s.cc.get m).levelSince ∧
    ((stopIfFaulted s).cc.get m).lastClear = (s.cc.get m).lastClear := by
  simp only [stopIfFaulted]; (repeat' split) <;> simp
@[simp] theorem runIfSpun_lanes (m : Lane) (s : State) :
    ((runIfSpun s).lic.get m).enabled = (s.lic.get m).enabled ∧
    ((runIfSpun s).lic.get m).blade = (s.lic.get m).blade ∧
    ((runIfSpun s).lic.get m).spinWait = (s.lic.get m).spinWait ∧
    ((runIfSpun s).lic.get m).active = (s.lic.get m).active ∧
    ((runIfSpun s).lic.get m).pendingSel = (s.lic.get m).pendingSel ∧
    ((runIfSpun s).lic.get m).feedRef = (s.lic.get m).feedRef ∧
    ((runIfSpun s).lic.get m).appliedTag = (s.lic.get m).appliedTag ∧
    ((runIfSpun s).cc.get m).estimate = (s.cc.get m).estimate ∧
    ((runIfSpun s).cc.get m).lastLevel = (s.cc.get m).lastLevel ∧
    ((runIfSpun s).cc.get m).levelSince = (s.cc.get m).levelSince ∧
    ((runIfSpun s).cc.get m).shakerOnly = (s.cc.get m).shakerOnly ∧
    ((runIfSpun s).cc.get m).airWait = (s.cc.get m).airWait ∧
    ((runIfSpun s).cc.get m).phaseTimer = (s.cc.get m).phaseTimer ∧
    ((runIfSpun s).cc.get m).lastClear = (s.cc.get m).lastClear := by
  simp only [runIfSpun]; (repeat' split) <;> simp
@[simp] theorem standbyIfDrained_lanes (m : Lane) (s : State) :
    ((standbyIfDrained s).lic.get m).enabled = (s.lic.get m).enabled ∧
    ((standbyIfDrained s).lic.get m).active = (s.lic.get m).active ∧
    ((standbyIfDrained s).lic.get m).pendingSel = (s.lic.get m).pendingSel ∧
    ((standbyIfDrained s).lic.get m).feedRef = (s.lic.get m).feedRef ∧
    ((standbyIfDrained s).lic.get m).appliedTag = (s.lic.get m).appliedTag ∧
    ((standbyIfDrained s).cc.get m).estimate = (s.cc.get m).estimate ∧
    ((standbyIfDrained s).cc.get m).lastLevel = (s.cc.get m).lastLevel ∧
    ((standbyIfDrained s).cc.get m).levelSince = (s.cc.get m).levelSince ∧
    ((standbyIfDrained s).cc.get m).lastClear = (s.cc.get m).lastClear := by
  simp only [standbyIfDrained]; (repeat' split) <;> simp
@[simp] theorem advanceLine_lanes (m : Lane) (s : State) :
    ((advanceLine s).lic.get m).enabled = (s.lic.get m).enabled ∧
    ((advanceLine s).lic.get m).active = (s.lic.get m).active ∧
    ((advanceLine s).lic.get m).pendingSel = (s.lic.get m).pendingSel ∧
    ((advanceLine s).lic.get m).feedRef = (s.lic.get m).feedRef ∧
    ((advanceLine s).lic.get m).appliedTag = (s.lic.get m).appliedTag ∧
    ((advanceLine s).cc.get m).estimate = (s.cc.get m).estimate ∧
    ((advanceLine s).cc.get m).lastLevel = (s.cc.get m).lastLevel ∧
    ((advanceLine s).cc.get m).levelSince = (s.cc.get m).levelSince ∧
    ((advanceLine s).cc.get m).lastClear = (s.cc.get m).lastClear := by
  simp only [advanceLine]; (repeat' split) <;> simp
@[simp] theorem flow_lanes (m : Lane) (s : State) :
    ((flow s).lic.get m).enabled = (s.lic.get m).enabled ∧ ((flow s).lic.get m).blade = (s.lic.get m).blade ∧
    ((flow s).lic.get m).spinWait = (s.lic.get m).spinWait ∧ ((flow s).cc.get m).lastLevel = (s.cc.get m).lastLevel ∧
    ((flow s).cc.get m).levelSince = (s.cc.get m).levelSince ∧
    ((flow s).cc.get m).lastClear = (s.cc.get m).lastClear := by
  simp only [flow]; (repeat' split) <;> simp
@[simp] theorem settle_lanes (m : Lane) (s : State) :
    ((settle s).lic.get m).enabled = (s.lic.get m).enabled ∧
    ((settle s).cc.get m).lastLevel = (s.cc.get m).lastLevel ∧
    ((settle s).cc.get m).levelSince = (s.cc.get m).levelSince ∧
    ((settle s).cc.get m).lastClear = (s.cc.get m).lastClear := by
  simp only [settle]; (repeat' split) <;> simp
@[simp] theorem endOfInitCheck_lanes (m : Lane) (l : Lane) (s : State) :
    ((endOfInitCheck l s).lic.get m).enabled = (s.lic.get m).enabled ∧
    ((endOfInitCheck l s).lic.get m).blade = (s.lic.get m).blade ∧
    ((endOfInitCheck l s).lic.get m).spinWait = (s.lic.get m).spinWait ∧
    ((endOfInitCheck l s).lic.get m).active = (s.lic.get m).active ∧
    ((endOfInitCheck l s).lic.get m).pendingSel = (s.lic.get m).pendingSel ∧
    ((endOfInitCheck l s).lic.get m).feedRef = (s.lic.get m).feedRef ∧
    ((endOfInitCheck l s).lic.get m).appliedTag = (s.lic.get m).appliedTag := by
  simp only [endOfInitCheck]; (repeat' split) <;> simp
@[simp] theorem handResult_lanes (m : Lane) (c : Channel) (result : Nat) (s : State) :
    ((handResult c result s).lic.get m).enabled = (s.lic.get m).enabled ∧
    ((handResult c result s).lic.get m).active = (s.lic.get m).active ∧
    ((handResult c result s).lic.get m).pendingSel = (s.lic.get m).pendingSel ∧
    ((handResult c result s).lic.get m).feedRef = (s.lic.get m).feedRef ∧
    ((handResult c result s).lic.get m).appliedTag = (s.lic.get m).appliedTag ∧
    ((handResult c result s).cc.get m).estimate = (s.cc.get m).estimate ∧
    ((handResult c result s).cc.get m).lastClear = (s.cc.get m).lastClear := by
  simp only [handResult]; (repeat' split) <;> simp
@[simp] theorem completeConversion_lanes (m : Lane) (c : Channel) (result : Nat) (s : State) :
    ((completeConversion c result s).lic.get m).enabled = (s.lic.get m).enabled ∧
    ((completeConversion c result s).lic.get m).active = (s.lic.get m).active ∧
    ((completeConversion c result s).lic.get m).pendingSel = (s.lic.get m).pendingSel ∧
    ((completeConversion c result s).lic.get m).feedRef = (s.lic.get m).feedRef ∧
    ((completeConversion c result s).lic.get m).appliedTag = (s.lic.get m).appliedTag ∧
    ((completeConversion c result s).cc.get m).estimate = (s.cc.get m).estimate ∧
    ((completeConversion c result s).cc.get m).lastClear = (s.cc.get m).lastClear := by
  simp only [completeConversion]; (repeat' split) <;> simp
@[simp] theorem strokeRunOut_lanes (m : Lane) (s : State) :
    ((strokeRunOut s).lic.get m).enabled = (s.lic.get m).enabled ∧
    ((strokeRunOut s).lic.get m).blade = (s.lic.get m).blade ∧
    ((strokeRunOut s).lic.get m).spinWait = (s.lic.get m).spinWait ∧
    ((strokeRunOut s).lic.get m).active = (s.lic.get m).active ∧
    ((strokeRunOut s).lic.get m).pendingSel = (s.lic.get m).pendingSel ∧
    ((strokeRunOut s).lic.get m).feedRef = (s.lic.get m).feedRef ∧
    ((strokeRunOut s).lic.get m).appliedTag = (s.lic.get m).appliedTag := by
  simp only [strokeRunOut]; (repeat' split) <;> simp

end Sys2Proof.Machine
end

