-- ==== Sys2Proof/Laws/Memory.lean ====
section
/-! SUPPORT. The array's memory operations: every write keeps the canonical form, and what a read gives after a write. -/

namespace Sys2Proof.Machine

set_option Elab.async false

/-- The canonical form of a listing with a first cell: the cell is listed rightly, and every later address is above it. -/
theorem Memory.wf_cons (c : Host.Cell) (m : List Host.Cell) :
    Memory.wf (c :: m) = true ↔
      c.2 ≠ Memory.unlisted ∧ (∀ d ∈ m.head?, c.1 < d.1) ∧ Memory.wf m = true := by
  cases m <;> simp [Memory.wf, and_assoc]

/-- The first address of a listing after a write is the first one before it, or the written one. -/
theorem Memory.head_write (m : List Host.Cell) (a : Nat) (b : Byte) (d : Host.Cell)
    (h : d ∈ (Memory.write m a b).head?) (hw : Memory.wf m = true) :
    d.1 = a ∨ (∃ e ∈ m.head?, e.1 ≤ d.1) := by
  cases m with
  | nil =>
    simp only [Memory.write] at h
    split at h
    · simp at h
    · left; simp at h; rw [← h]
  | cons c rest =>
    rw [Memory.wf_cons] at hw
    simp only [Memory.write] at h
    split at h
    · right; refine ⟨c, by simp, ?_⟩; simp at h; rw [← h]
    · split at h
      · split at h
        · right; exact ⟨c, by simp, le_of_lt (hw.2.1 d h)⟩
        · left; simp at h; rw [← h]
      · split at h
        · right; refine ⟨c, by simp, ?_⟩; simp at h; rw [← h]
        · left; simp at h; rw [← h]

theorem Memory.wf_write (m : List Host.Cell) (a : Nat) (b : Byte) (h : Memory.wf m = true) :
    Memory.wf (Memory.write m a b) = true := by
  induction m with
  | nil =>
    simp only [Memory.write]; split
    · rfl
    · rename_i hb; simpa [Memory.wf] using hb
  | cons c rest ih =>
    have hc := (Memory.wf_cons c rest).mp h
    simp only [Memory.write]
    split
    · rename_i hlt
      refine (Memory.wf_cons _ _).mpr ⟨hc.1, ?_, ih hc.2.2⟩
      intro d hd
      rcases Memory.head_write rest a b d hd hc.2.2 with rfl | ⟨e, he, hle⟩
      · exact hlt
      · exact lt_of_lt_of_le (hc.2.1 e he) hle
    · split
      · rename_i heq
        have heq : c.1 = a := by simpa using heq
        split
        · exact hc.2.2
        · refine (Memory.wf_cons _ _).mpr ⟨by simpa using ‹¬ (b == Memory.unlisted) = true›, ?_, hc.2.2⟩
          intro d hd; exact heq ▸ hc.2.1 d hd
      · rename_i hlt hne
        have hgt : a < c.1 := by
          have : c.1 ≠ a := by simpa using hne
          omega
        split
        · exact h
        · exact (Memory.wf_cons _ _).mpr ⟨by simpa using ‹¬ (b == Memory.unlisted) = true›, by simpa using hgt, h⟩

theorem Memory.wf_writeAll (m : List Host.Cell) (a : Nat) (l : List Byte) (h : Memory.wf m = true) :
    Memory.wf (Memory.writeAll m a l) = true := by
  induction l generalizing m a with
  | nil => exact h
  | cons b bs ih => exact ih _ _ (Memory.wf_write m a b h)

/-- Below the first listed address every byte is unlisted. -/
theorem Memory.read_below (m : List Host.Cell) (a : Nat) (h : Memory.wf m = true) (hb : ∀ d ∈ m.head?, a < d.1) :
    Memory.read m a = Memory.unlisted := by
  induction m with
  | nil => rfl
  | cons c rest ih =>
    have hc := (Memory.wf_cons c rest).mp h
    have hlt : a < c.1 := hb c (by simp)
    simp only [Memory.read]
    rw [if_neg (by simp; omega)]
    exact ih hc.2.2 (fun d hd => lt_trans hlt (hc.2.1 d hd))

/-- A read after a write, over a listing in canonical form. -/
theorem Memory.read_write (m : List Host.Cell) (a : Nat) (b : Byte) (x : Nat) (h : Memory.wf m = true) :
    Memory.read (Memory.write m a b) x = if x = a then b else Memory.read m x := by
  induction m with
  | nil =>
    simp only [Memory.write]
    by_cases hb : b = Memory.unlisted
    · simp [hb, Memory.read]
    · by_cases hx : x = a
      · simp [hb, hx, Memory.read]
      · simp [hb, hx, Memory.read, Ne.symm hx]
  | cons c rest ih =>
    have hc := (Memory.wf_cons c rest).mp h
    simp only [Memory.write]
    split
    · rename_i hlt
      simp only [Memory.read, ih hc.2.2]
      by_cases hx : x = a
      · subst hx; simp; intro h'; omega
      · simp [hx]
    · split
      · rename_i heq
        have heq : c.1 = a := by simpa using heq
        split
        · rename_i hb
          have hb : b = Memory.unlisted := by simpa using hb
          by_cases hx : x = a
          · subst hx; rw [if_pos rfl, hb]
            exact Memory.read_below rest x hc.2.2 (fun d hd => heq ▸ hc.2.1 d hd)
          · rw [if_neg hx]; simp only [Memory.read]
            rw [if_neg (by simp; omega)]
        · by_cases hx : x = a
          · subst hx; simp [Memory.read]
          · simp [Memory.read, hx, heq, Ne.symm hx]
      · rename_i hlt hne
        have hgt : a < c.1 := by
          have : c.1 ≠ a := by simpa using hne
          omega
        split
        · rename_i hb
          have hb : b = Memory.unlisted := by simpa using hb
          by_cases hx : x = a
          · subst hx; rw [if_pos rfl, hb]
            exact Memory.read_below _ _ h (by simpa using hgt)
          · rw [if_neg hx]
        · by_cases hx : x = a
          · subst hx; simp [Memory.read]
          · simp [Memory.read, hx, Ne.symm hx]

/-- A read after a run of bytes has been written. -/
theorem Memory.read_writeAll (m : List Host.Cell) (a : Nat) (l : List Byte) (x : Nat) (h : Memory.wf m = true) :
    Memory.read (Memory.writeAll m a l) x =
      if a ≤ x ∧ x < a + l.length then l.getD (x - a) 0 else Memory.read m x := by
  induction l generalizing m a with
  | nil => rw [if_neg (by simp)]; rfl
  | cons b bs ih =>
    rw [Memory.writeAll, ih _ _ (Memory.wf_write m a b h), Memory.read_write m a b x h]
    by_cases hx : x = a
    · subst hx; simp
    · by_cases hin : a + 1 ≤ x ∧ x < a + 1 + bs.length
      · have : x - a = (x - (a + 1)) + 1 := by omega
        rw [if_pos hin, if_pos (by simp; omega), this]; simp
      · rw [if_neg hin, if_neg hx, if_neg (by simp; omega)]

/-- A write elsewhere leaves a read as it was, whatever the form of the listing below it. -/
theorem Memory.read_writeAll_outside (m : List Host.Cell) (a : Nat) (l : List Byte) (x : Nat) (h : Memory.wf m = true)
    (hx : x < a ∨ a + l.length ≤ x) : Memory.read (Memory.writeAll m a l) x = Memory.read m x := by
  rw [Memory.read_writeAll m a l x h, if_neg (by omega)]

end Sys2Proof.Machine
end

