-- ==== Sys2Proof/Laws/Ordered.lean ====
section
/-! SUPPORT. The shared operations keep the service order of the Fault Table (R146), the exclusion of the pushers' valves
(R140) and the single place of each report key (R182): one lemma for each operation. -/

namespace Sys2Proof.Machine

set_option Elab.async false
set_option linter.unusedTactic false
set_option linter.unnecessarySeqFocus false

/-- Which of the three orders is spoken of: each is kept by itself. -/
structure Orders where
  pushers : Bool
  faults : Bool
  reports : Bool

/-- What every shared operation keeps, of the orders spoken of. -/
structure Ordered (K : Orders) (s : State) : Prop where
  pushers : K.pushers = true → pushersSafe s = true
  faults : K.faults = true → Served s.ft.stack s.ft.waiting
  reports : K.reports = true → s.ml.reports.Nodup

variable {K : Orders}

/-! ## Blocks that none of it is in -/

@[simp] theorem ordered_onPins (f : Pins → Pins) {s : State} (h : Ordered K s) : Ordered K (s.onPins f) :=
  ⟨h.pushers, h.faults, h.reports⟩
@[simp] theorem ordered_onParams (f : Params → Params) {s : State} (h : Ordered K s) : Ordered K (s.onParams f) :=
  ⟨h.pushers, h.faults, h.reports⟩
@[simp] theorem ordered_onEu (f : EyeUnit → EyeUnit) {s : State} (h : Ordered K s) : Ordered K (s.onEu f) :=
  ⟨h.pushers, h.faults, h.reports⟩
@[simp] theorem ordered_onBeu (f : BeltUnit → BeltUnit) {s : State} (h : Ordered K s) : Ordered K (s.onBeu f) :=
  ⟨h.pushers, h.faults, h.reports⟩
@[simp] theorem ordered_onRt (f : List Recipe → List Recipe) {s : State} (h : Ordered K s) : Ordered K (s.onRt f) :=
  ⟨h.pushers, h.faults, h.reports⟩
@[simp] theorem ordered_onCal (f : Calendar → Calendar) {s : State} (h : Ordered K s) : Ordered K (s.onCal f) :=
  ⟨h.pushers, h.faults, h.reports⟩
@[simp] theorem ordered_onRs (f : RecordStore → RecordStore) {s : State} (h : Ordered K s) : Ordered K (s.onRs f) :=
  ⟨h.pushers, h.faults, h.reports⟩
@[simp] theorem ordered_onTt (f : Tracking → Tracking) {s : State} (h : Ordered K s) : Ordered K (s.onTt f) :=
  ⟨h.pushers, h.faults, h.reports⟩
@[simp] theorem ordered_onSc (f : ScanConverter → ScanConverter) {s : State} (h : Ordered K s) : Ordered K (s.onSc f) :=
  ⟨h.pushers, h.faults, h.reports⟩
@[simp] theorem ordered_onLic (f : PerLane LaneInfeed → PerLane LaneInfeed) {s : State} (h : Ordered K s) : Ordered K (s.onLic f) :=
  ⟨h.pushers, h.faults, h.reports⟩
@[simp] theorem ordered_onMbc (f : MergeBag → MergeBag) {s : State} (h : Ordered K s) : Ordered K (s.onMbc f) :=
  ⟨h.pushers, h.faults, h.reports⟩
@[simp] theorem ordered_onTsc (f : TieStation → TieStation) {s : State} (h : Ordered K s) : Ordered K (s.onTsc f) :=
  ⟨h.pushers, h.faults, h.reports⟩
@[simp] theorem ordered_onCc (f : PerLane Crumb → PerLane Crumb) {s : State} (h : Ordered K s) : Ordered K (s.onCc f) :=
  ⟨h.pushers, h.faults, h.reports⟩
@[simp] theorem ordered_onAma (f : AirArbiter → AirArbiter) {s : State} (h : Ordered K s) : Ordered K (s.onAma f) :=
  ⟨h.pushers, h.faults, h.reports⟩
@[simp] theorem ordered_onLsc (f : LineControl → LineControl) {s : State} (h : Ordered K s) : Ordered K (s.onLsc f) :=
  ⟨h.pushers, h.faults, h.reports⟩
@[simp] theorem ordered_onTu (f : TotalsUnit → TotalsUnit) {s : State} (h : Ordered K s) : Ordered K (s.onTu f) :=
  ⟨h.pushers, h.faults, h.reports⟩

@[simp] theorem ordered_onMl {f : MessageLink → MessageLink} (hf : ∀ m, (f m).reports = m.reports) {s : State}
    (h : Ordered K s) : Ordered K (s.onMl f) :=
  ⟨h.pushers, h.faults, fun k => by rw [State.onMl, hf]; exact h.reports k⟩

@[simp] theorem ordered_onDou {f : DriveUnit → DriveUnit} (hf : ∀ d, (f d).pusher = d.pusher) {s : State}
    (h : Ordered K s) : Ordered K (s.onDou f) :=
  ⟨fun k => by have := h.pushers k; simp only [pushersSafe, State.onDou, hf] at this ⊢; exact this, h.faults, h.reports⟩

@[simp] theorem ordered_when {f : State → State} (hf : ∀ s, Ordered K s → Ordered K (f s)) (c : Bool) {s : State}
    (h : Ordered K s) : Ordered K (when c f s) := by
  unfold when; split
  · exact hf s h
  · exact h

theorem ordered_foldl {α : Type} {f : State → α → State} (hf : ∀ s x, Ordered K s → Ordered K (f s x)) (l : List α)
    {s : State} (h : Ordered K s) : Ordered K (l.foldl f s) := by
  induction l generalizing s with
  | nil => exact h
  | cons x l ih => exact ih (hf s x h)

@[simp] theorem ordered_raiseKey (k : ReportKey) {s : State} (h : Ordered K s) : Ordered K (raiseKey k s) := by
  unfold raiseKey; split
  · exact h
  · rename_i hk
    refine ⟨h.pushers, h.faults, fun hr => ?_⟩
    show (s.ml.reports ++ [k]).Nodup
    rw [List.nodup_append]
    refine ⟨h.reports hr, by simp, fun a ha b hb hab => ?_⟩
    simp only [List.mem_singleton] at hb
    subst hb; subst hab; exact hk ha

@[simp] theorem ordered_requestJob (j : Job) {s : State} (h : Ordered K s) : Ordered K (requestJob j s) :=
  ordered_onRs _ h

/-! ## Pushers (R140) -/

theorem pusher_off_safe {p : Pusher} (h : p.safe = true) (d : Nat) (v : Valve) : (p.off d v).safe = true := by
  obtain ⟨e, r, w, l, t⟩ := p
  cases e <;> cases r <;> cases v <;> rcases w with _ | (_ | _) <;> simp_all [Pusher.off, Pusher.safe, Pusher.isOn, Pusher.put]

theorem pusher_on_safe {p : Pusher} (h : p.safe = true) (d : Nat) (v : Valve) : (p.on d v).safe = true := by
  obtain ⟨e, r, w, l, t⟩ := p
  cases e <;> cases r <;> cases v <;> rcases w with _ | (_ | _) <;>
    simp_all [Pusher.on, Pusher.off, Pusher.safe, Pusher.isOn, Pusher.put, otherValve] <;> split <;> simp_all

theorem pusher_deadEnd_safe {p : Pusher} (h : p.safe = true) : p.deadEnd.safe = true := by
  obtain ⟨e, r, w, l, t⟩ := p
  cases e <;> cases r <;> rcases w with _ | (_ | _) <;> simp_all [Pusher.deadEnd, Pusher.safe, Pusher.put]

theorem pusher_latched_safe {p : Pusher} (h : p.safe = true) (d : Nat) : (p.latched d).safe = true := by
  obtain ⟨e, r, w, l, t⟩ := p
  cases e <;> cases r <;> simp_all [Pusher.latched, Pusher.safe]

theorem pusher_drop_safe (p : Pusher) (d : Nat) : (p.drop d).safe = true := by
  obtain ⟨e, r, w, l, t⟩ := p
  cases e <;> cases r <;> rcases w with _ | (_ | _) <;> simp [Pusher.drop, Pusher.off, Pusher.safe, Pusher.isOn, Pusher.put]

@[simp] theorem ordered_onPusher {f : Pusher → Pusher} (hf : ∀ p, p.safe = true → (f p).safe = true) (l : Lane) {s : State}
    (h : Ordered K s) : Ordered K (s.onPusher l f) := by
  refine ⟨fun k => ?_, h.faults, h.reports⟩
  have hp := h.pushers k
  simp only [pushersSafe, Bool.and_eq_true] at hp ⊢
  cases l
  · exact ⟨hf _ hp.1, hp.2⟩
  · exact ⟨hp.1, hf _ hp.2⟩

@[simp] theorem ordered_valveOn (l : Lane) (v : Valve) {s : State} (h : Ordered K s) : Ordered K (valveOn l v s) :=
  ordered_when (fun _ h => ordered_onPusher (fun _ hp => pusher_on_safe hp _ v) l h) _ h

@[simp] theorem ordered_valveOff (l : Lane) (v : Valve) {s : State} (h : Ordered K s) : Ordered K (valveOff l v s) :=
  ordered_onPusher (fun _ hp => pusher_off_safe hp _ v) l h

@[simp] theorem ordered_dropOutputs {s : State} (h : Ordered K s) : Ordered K (dropOutputs s) := by
  refine ⟨fun _ => ?_, h.faults, h.reports⟩
  simp [pushersSafe, dropOutputs, State.onDou, DriveUnit.dropped, pusher_drop_safe]

/-! ## Faults -/

@[simp] theorem ordered_onFt {f : FaultTable → FaultTable} (hs : ∀ t, (f t).stack = t.stack)
    (hw : ∀ t, (f t).waiting = t.waiting) {s : State} (h : Ordered K s) : Ordered K (s.onFt f) :=
  ⟨h.pushers, fun k => by rw [State.onFt, hs, hw]; exact h.faults k, h.reports⟩

/-- A state whose Fault Table is in order and whose other parts are those of an ordered one. -/
theorem Ordered.withFaults {s t : State} (h : Ordered K s) (hd : t.dou = s.dou) (hr : t.ml = s.ml)
    (hf : K.faults = true → Served t.ft.stack t.ft.waiting) : Ordered K t :=
  ⟨fun k => by have := h.pushers k; simp only [pushersSafe, hd] at this ⊢; exact this, hf, by rw [hr]; exact h.reports⟩

@[simp] theorem ordered_onLane (l : Lane) (f : LaneInfeed → LaneInfeed) {s : State} (h : Ordered K s) : Ordered K (s.onLane l f) := by
  simp only [State.onLane]; (repeat' split) <;> simp +contextual (maxDischargeDepth := 40) [h]
@[simp] theorem ordered_onCrumb (l : Lane) (f : Crumb → Crumb) {s : State} (h : Ordered K s) : Ordered K (s.onCrumb l f) := by
  simp only [State.onCrumb]; (repeat' split) <;> simp +contextual (maxDischargeDepth := 40) [h]
@[simp] theorem ordered_syncLane (l : Lane) {s : State} (h : Ordered K s) : Ordered K (syncLane l s) := by
  simp only [syncLane]; (repeat' split) <;> simp +contextual (maxDischargeDepth := 40) [h]
@[simp] theorem ordered_syncLanes {s : State} (h : Ordered K s) : Ordered K (syncLanes s) := by
  simp only [syncLanes]; (repeat' split) <;> simp +contextual (maxDischargeDepth := 40) [h]
@[simp] theorem ordered_syncHold (l : Lane) {s : State} (h : Ordered K s) : Ordered K (syncHold l s) := by
  simp only [syncHold]; (repeat' split) <;> simp +contextual (maxDischargeDepth := 40) [h]
@[simp] theorem ordered_syncHolds {s : State} (h : Ordered K s) : Ordered K (syncHolds s) := by
  simp only [syncHolds]; (repeat' split) <;> simp +contextual (maxDischargeDepth := 40) [h]
@[simp] theorem ordered_onLive (f : Totals → Totals) {s : State} (h : Ordered K s) : Ordered K (s.onLive f) := by
  simp only [State.onLive]; (repeat' split) <;> simp +contextual (maxDischargeDepth := 40) [h]
@[simp] theorem ordered_countLine (f : LineBlock → LineBlock) {s : State} (h : Ordered K s) : Ordered K (countLine f s) := by
  simp only [countLine]; (repeat' split) <;> simp +contextual (maxDischargeDepth := 40) [h]
@[simp] theorem ordered_countProduct (code : Nat) (f : Counters → Counters) {s : State} (h : Ordered K s) : Ordered K (countProduct code f s) := by
  simp only [countProduct]; (repeat' split) <;> simp +contextual (maxDischargeDepth := 40) [h]
@[simp] theorem ordered_countRecord (r : LoafRecord) (f : Counters → Counters) {s : State} (h : Ordered K s) : Ordered K (countRecord r f s) := by
  simp only [countRecord]; (repeat' split) <;> simp +contextual (maxDischargeDepth := 40) [h]
@[simp] theorem ordered_countLost (r : LoafRecord) {s : State} (h : Ordered K s) : Ordered K (countLost r s) := by
  simp only [countLost]; (repeat' split) <;> simp +contextual (maxDischargeDepth := 40) [h]
@[simp] theorem ordered_countBagged (r : LoafRecord) {s : State} (h : Ordered K s) : Ordered K (countBagged r s) := by
  simp only [countBagged]; (repeat' split) <;> simp +contextual (maxDischargeDepth := 40) [h]
@[simp] theorem ordered_countRejected (r : LoafRecord) (f : Counters → Counters) {s : State} (h : Ordered K s) : Ordered K (countRejected r f s) := by
  simp only [countRejected]; (repeat' split) <;> simp +contextual (maxDischargeDepth := 40) [h]
@[simp] theorem ordered_countFault {s : State} (h : Ordered K s) : Ordered K (countFault s) := by
  simp only [countFault]; (repeat' split) <;> simp +contextual (maxDischargeDepth := 40) [h]
@[simp] theorem ordered_tableChanged {s : State} (h : Ordered K s) : Ordered K (tableChanged s) := by
  simp only [tableChanged]; (repeat' split) <;> simp +contextual (maxDischargeDepth := 40) [h]
theorem ordered_placeEntry (e : FaultEntry) {s : State} (h : Ordered K s)
    (new : standing e.kind e.subject s = false) : Ordered K (placeEntry e s) := by
  have hnew : e.pair ∉ (s.ft.stack ++ s.ft.waiting).map FaultEntry.pair := by
    intro hm
    obtain ⟨x, hx, hxe⟩ := List.mem_map.1 hm
    have : standing e.kind e.subject s = true :=
      List.any_eq_true.2 ⟨x, hx, (FaultEntry.isPair_iff _ _ _).2 hxe⟩
    rw [new] at this; simp at this
  have hs := h.faults
  unfold placeEntry
  split <;> rename_i hst <;> rw [hst] at hs hnew
  · exact ordered_countFault (h.withFaults rfl rfl (fun k => served_alone (hs k) e))
  · split <;> rename_i hlt
    · exact ordered_countFault (h.withFaults rfl rfl (fun k => served_top (hs k) e hnew hlt))
    · refine h.withFaults rfl rfl (fun k => ?_)
      show Served s.ft.stack (s.ft.waiting ++ [e])
      rw [hst]; exact served_pending (hs k) e hnew hlt
@[simp] theorem ordered_raiseFault (k : FaultKind) (subj : Subject) (detail : Option Nat) {s : State} (h : Ordered K s) :
    Ordered K (raiseFault k subj detail s) := by
  simp only [raiseFault]
  apply ordered_tableChanged
  split
  · exact h.withFaults rfl rfl (fun hf => served_refresh (h.faults hf) (stampEntry k subj detail s))
  · rename_i hold
    apply ordered_syncHolds
    apply ordered_placeEntry
    · exact h.withFaults rfl rfl h.faults
    · exact Bool.eq_false_iff.2 hold
/-- The lanes' FAULT_HOLD flags are brought up to date without touching the Fault Table. -/
theorem syncHolds_table (s : State) : (syncHolds s).ft = s.ft := by
  have one : ∀ l t, (syncHold l t).ft = t.ft := by
    intro l t; unfold syncHold when raiseKey; (repeat' split) <;> rfl
  rw [syncHolds, one, one]
/-- A state whose Fault Table is in order and whose other parts are those of one in order but for its Fault Table. -/
theorem Ordered.newFaults {s t : State} (h : Ordered { K with faults := false } s) (hd : t.dou = s.dou) (hr : t.ml = s.ml)
    (hf : K.faults = true → Served t.ft.stack t.ft.waiting) : Ordered K t :=
  ⟨fun k => by have := h.pushers k; simp only [pushersSafe, hd] at this ⊢; exact this, hf, by rw [hr]; exact h.reports⟩
/-- The next presentation puts a table in order whose top has gone (R149). -/
theorem ordered_presentNext {s : State} (h : Ordered { K with faults := false } s)
    (once : K.faults = true → ((s.ft.stack ++ s.ft.waiting).map FaultEntry.pair).Nodup)
    (ascending : K.faults = true → s.ft.stack.Pairwise (fun e f => e.priority < f.priority)) :
    Ordered K (presentNext s) := by
  unfold presentNext
  split
  · rename_i e hb hs
    apply ordered_countFault
    refine h.newFaults rfl rfl (fun on => ?_)
    exact served_present (once on) (ascending on) hb (fun p hp => by rw [hs] at hp; simp at hp)
  · rename_i e top rest hb hs
    split <;> rename_i hlt
    · apply ordered_countFault
      refine h.newFaults rfl rfl (fun on => ?_)
      exact served_present (once on) (ascending on) hb (fun p hp => by
        rw [hs] at hp
        simp only [List.head?_cons, Option.some.injEq] at hp
        rw [← hp]; exact hlt)
    · refine h.newFaults rfl rfl (fun on => ⟨once on, ascending on, fun f hf' => ?_⟩)
      refine ⟨top, by rw [hs]; rfl, ?_⟩
      have := (bestPending_spec hb).2 f hf'; omega
  · rename_i hb
    refine h.newFaults rfl rfl (fun on => ⟨once on, ascending on, fun f hf' => ?_⟩)
    rw [bestPending_none hb] at hf'; simp at hf'
@[simp] theorem ordered_removeEntry (k : FaultKind) (subj : Subject) {s : State} (h : Ordered K s) :
    Ordered K (removeEntry k subj s) := by
  have hfk := fun on => served_filter (h.faults on) (fun e => !e.isPair k subj)
  simp only [removeEntry]
  generalize hv : s.onFt _ = v
  have hvs : v.ft.stack = s.ft.stack.filter (fun e => !e.isPair k subj) := by subst hv; rfl
  have hvw : v.ft.waiting = s.ft.waiting.filter (fun e => !e.isPair k subj) := by subst hv; rfl
  have hu : Ordered { K with faults := false } (syncHolds v) := by
    apply ordered_syncHolds
    subst hv
    exact ⟨h.pushers, fun k => by simp at k, h.reports⟩
  unfold when
  split
  · refine ordered_presentNext hu (fun on => ?_) (fun on => ?_)
    · rw [syncHolds_table v, hvs, hvw]; exact (hfk on).1
    · rw [syncHolds_table v, hvs]; exact (hfk on).2
  · rename_i htop
    refine hu.newFaults rfl rfl (fun on => ?_)
    rw [syncHolds_table v, hvs, hvw]
    refine ⟨(hfk on).1, (hfk on).2, fun f hf' => ?_⟩
    obtain ⟨p, hp, hle⟩ := (h.faults on).headed f (List.mem_filter.1 hf').1
    refine ⟨p, ?_, hle⟩
    cases hst : s.ft.stack with
    | nil => rw [hst] at hp; simp at hp
    | cons q rest =>
      rw [hst] at hp htop
      simp only [List.head?_cons, Option.some.injEq, Option.any_some] at hp htop
      rw [List.filter_cons_of_pos (by simpa using htop)]
      simp [hp]
@[simp] theorem ordered_noticeCause (k : FaultKind) (subj : Subject) (isPresent : Bool) {s : State} (h : Ordered K s) : Ordered K (noticeCause k subj isPresent s) := by
  simp only [noticeCause]; (repeat' split) <;> simp +contextual (maxDischargeDepth := 40) [h]
@[simp] theorem ordered_removeAll (l : List FaultEntry) {s : State} (h : Ordered K s) : Ordered K (removeAll l s) :=
  ordered_foldl (fun _ _ h => ordered_removeEntry _ _ h) l h
@[simp] theorem ordered_noticeRemoval (hit : FaultEntry → Bool) {s : State} (h : Ordered K s) : Ordered K (noticeRemoval hit s) := by
  simp only [noticeRemoval]; (repeat' split) <;> simp +contextual (maxDischargeDepth := 40) [h]
@[simp] theorem ordered_matchNotice (subj : Subject) {s : State} (h : Ordered K s) : Ordered K (matchNotice subj s) := by
  simp only [matchNotice]; (repeat' split) <;> simp +contextual (maxDischargeDepth := 40) [h]
@[simp] theorem ordered_bagConfirmNotice {s : State} (h : Ordered K s) : Ordered K (bagConfirmNotice s) := by
  simp only [bagConfirmNotice]; (repeat' split) <;> simp +contextual (maxDischargeDepth := 40) [h]
@[simp] theorem ordered_clearCompletedNotice (l : Lane) {s : State} (h : Ordered K s) : Ordered K (clearCompletedNotice l s) := by
  simp only [clearCompletedNotice]; (repeat' split) <;> simp +contextual (maxDischargeDepth := 40) [h]
@[simp] theorem ordered_eyeStuckToAuto {s : State} (h : Ordered K s) : Ordered K (eyeStuckToAuto s) := by
  simp only [eyeStuckToAuto]; (repeat' split) <;> simp +contextual (maxDischargeDepth := 40) [h]
@[simp] theorem ordered_clearPresented (e : FaultEntry) {s : State} (h : Ordered K s) : Ordered K (clearPresented e s) := by
  simp only [clearPresented]; (repeat' split) <;> simp +contextual (maxDischargeDepth := 40) [h]
@[simp] theorem ordered_driveOn {f : DriveUnit → DriveUnit} (hf : ∀ d, (f d).pusher = d.pusher) {s : State}
    (h : Ordered K s) : Ordered K (driveOn f s) := by
  unfold driveOn; split
  · exact h
  · exact ordered_onDou hf h
@[simp] theorem ordered_armGate (l : Lane) {s : State} (h : Ordered K s) : Ordered K (armGate l s) := by
  simp only [armGate]; (repeat' split) <;> simp +contextual (maxDischargeDepth := 40) [h]
@[simp] theorem ordered_disarmGate (l : Lane) {s : State} (h : Ordered K s) : Ordered K (disarmGate l s) := by
  simp only [disarmGate]; (repeat' split) <;> simp +contextual (maxDischargeDepth := 40) [h]
@[simp] theorem ordered_setBlade (l : Lane) (b : Bool) {s : State} (h : Ordered K s) : Ordered K (setBlade l b s) := by
  simp only [setBlade]; (repeat' split) <;> simp +contextual (maxDischargeDepth := 40) [h]
@[simp] theorem ordered_setKnife (l : Lane) (b : Bool) {s : State} (h : Ordered K s) : Ordered K (setKnife l b s) := by
  simp only [setKnife]; (repeat' split) <;> simp +contextual (maxDischargeDepth := 40) [h]
@[simp] theorem ordered_setShaker (l : Lane) (b : Bool) {s : State} (h : Ordered K s) : Ordered K (setShaker l b s) := by
  simp only [setShaker]; (repeat' split) <;> simp +contextual (maxDischargeDepth := 40) [h]
@[simp] theorem ordered_setInfeed (l : Lane) (b : Bool) {s : State} (h : Ordered K s) : Ordered K (setInfeed l b s) := by
  simp only [setInfeed]; (repeat' split) <;> simp +contextual (maxDischargeDepth := 40) [h]
@[simp] theorem ordered_setFlap (b : Bool) {s : State} (h : Ordered K s) : Ordered K (setFlap b s) := by
  simp only [setFlap]; (repeat' split) <;> simp +contextual (maxDischargeDepth := 40) [h]
@[simp] theorem ordered_setTyer (b : Bool) {s : State} (h : Ordered K s) : Ordered K (setTyer b s) := by
  simp only [setTyer]; (repeat' split) <;> simp +contextual (maxDischargeDepth := 40) [h]
@[simp] theorem ordered_setBagBlast (b : Bool) {s : State} (h : Ordered K s) : Ordered K (setBagBlast b s) := by
  simp only [setBagBlast]; (repeat' split) <;> simp +contextual (maxDischargeDepth := 40) [h]
@[simp] theorem ordered_setPurge (b : Bool) {s : State} (h : Ordered K s) : Ordered K (setPurge b s) := by
  simp only [setPurge]; (repeat' split) <;> simp +contextual (maxDischargeDepth := 40) [h]
@[simp] theorem ordered_setPrinter (code : Option (List Byte)) {s : State} (h : Ordered K s) : Ordered K (setPrinter code s) := by
  simp only [setPrinter]; (repeat' split) <;> simp +contextual (maxDischargeDepth := 40) [h]
@[simp] theorem ordered_setConveyors (b : Bool) {s : State} (h : Ordered K s) : Ordered K (setConveyors b s) := by
  simp only [setConveyors]; (repeat' split) <;> simp +contextual (maxDischargeDepth := 40) [h]
@[simp] theorem ordered_inputTaken (k : FaultKind) (was : Bool) (now : Bool) {s : State} (h : Ordered K s) : Ordered K (inputTaken k was now s) := by
  simp only [inputTaken]; (repeat' split) <;> simp +contextual (maxDischargeDepth := 40) [h]
@[simp] theorem ordered_evalBagLow {s : State} (h : Ordered K s) : Ordered K (evalBagLow s) := by
  simp only [evalBagLow]; (repeat' split) <;> simp +contextual (maxDischargeDepth := 40) [h]
@[simp] theorem ordered_evalClipLow {s : State} (h : Ordered K s) : Ordered K (evalClipLow s) := by
  simp only [evalClipLow]; (repeat' split) <;> simp +contextual (maxDischargeDepth := 40) [h]
@[simp] theorem ordered_setBagCount (n : Nat) {s : State} (h : Ordered K s) : Ordered K (setBagCount n s) := by
  simp only [setBagCount]; (repeat' split) <;> simp +contextual (maxDischargeDepth := 40) [h]
@[simp] theorem ordered_setClipCount (n : Nat) {s : State} (h : Ordered K s) : Ordered K (setClipCount n s) := by
  simp only [setClipCount]; (repeat' split) <;> simp +contextual (maxDischargeDepth := 40) [h]
@[simp] theorem ordered_setWaiting (r : Requester) (c : Option AirChannel) {s : State} (h : Ordered K s) : Ordered K (setWaiting r c s) := by
  simp only [setWaiting]; (repeat' split) <;> simp +contextual (maxDischargeDepth := 40) [h]
@[simp] theorem ordered_setHolder (c : AirChannel) (r : Option Requester) {s : State} (h : Ordered K s) : Ordered K (setHolder c r s) := by
  simp only [setHolder]; (repeat' split) <;> simp +contextual (maxDischargeDepth := 40) [h]
@[simp] theorem ordered_enterBlowing (l : Lane) (shakerOnly : Bool) {s : State} (h : Ordered K s) : Ordered K (enterBlowing l shakerOnly s) := by
  simp only [enterBlowing]; (repeat' split) <;> simp +contextual (maxDischargeDepth := 40) [h]
@[simp] theorem ordered_openBag {s : State} (h : Ordered K s) : Ordered K (openBag s) := by
  simp only [openBag]; (repeat' split) <;> simp +contextual (maxDischargeDepth := 40) [h]
@[simp] theorem ordered_waitForBags {s : State} (h : Ordered K s) : Ordered K (waitForBags s) := by
  simp only [waitForBags]; (repeat' split) <;> simp +contextual (maxDischargeDepth := 40) [h]
@[simp] theorem ordered_startPurge {s : State} (h : Ordered K s) : Ordered K (startPurge s) := by
  simp only [startPurge]; (repeat' split) <;> simp +contextual (maxDischargeDepth := 40) [h]
@[simp] theorem ordered_becomeHolder (r : Requester) (c : AirChannel) {s : State} (h : Ordered K s) : Ordered K (becomeHolder r c s) := by
  simp only [becomeHolder]; (repeat' split) <;> simp +contextual (maxDischargeDepth := 40) [h]
@[simp] theorem ordered_grantOther (r : Requester) (c : AirChannel) {s : State} (h : Ordered K s) : Ordered K (grantOther r c s) := by
  simp only [grantOther]; (repeat' split) <;> simp +contextual (maxDischargeDepth := 40) [h]
@[simp] theorem ordered_grantAfterBag (c : AirChannel) {s : State} (h : Ordered K s) : Ordered K (grantAfterBag c s) := by
  simp only [grantAfterBag]; (repeat' split) <;> simp +contextual (maxDischargeDepth := 40) [h]
@[simp] theorem ordered_grantBag (c : AirChannel) {s : State} (h : Ordered K s) : Ordered K (grantBag c s) := by
  simp only [grantBag]; (repeat' split) <;> simp +contextual (maxDischargeDepth := 40) [h]
@[simp] theorem ordered_grantNext (c : AirChannel) {s : State} (h : Ordered K s) : Ordered K (grantNext c s) := by
  simp only [grantNext]; (repeat' split) <;> simp +contextual (maxDischargeDepth := 40) [h]
@[simp] theorem ordered_grantTo (r : Requester) (c : AirChannel) {s : State} (h : Ordered K s) : Ordered K (grantTo r c s) := by
  simp only [grantTo]; (repeat' split) <;> simp +contextual (maxDischargeDepth := 40) [h]
@[simp] theorem ordered_airRequest (r : Requester) {s : State} (h : Ordered K s) : Ordered K (airRequest r s) := by
  simp only [airRequest]; (repeat' split) <;> simp +contextual (maxDischargeDepth := 40) [h]
@[simp] theorem ordered_releaseChannel (c : AirChannel) {s : State} (h : Ordered K s) : Ordered K (releaseChannel c s) := by
  simp only [releaseChannel]; (repeat' split) <;> simp +contextual (maxDischargeDepth := 40) [h]
@[simp] theorem ordered_airRelease (r : Requester) {s : State} (h : Ordered K s) : Ordered K (airRelease r s) := by
  simp only [airRelease]; (repeat' split) <;> simp +contextual (maxDischargeDepth := 40) [h]
@[simp] theorem ordered_airWithdraw (r : Requester) {s : State} (h : Ordered K s) : Ordered K (airWithdraw r s) := by
  simp only [airWithdraw]; (repeat' split) <;> simp +contextual (maxDischargeDepth := 40) [h]
@[simp] theorem ordered_steer (r : Requester) (e : Steer) {s : State} (h : Ordered K s) : Ordered K (steer r e s) := by
  simp only [steer]; (repeat' split) <;> simp +contextual (maxDischargeDepth := 40) [h]
@[simp] theorem ordered_airPressure (result : Nat) {s : State} (h : Ordered K s) : Ordered K (airPressure result s) := by
  simp only [airPressure]; (repeat' split) <;> simp +contextual (maxDischargeDepth := 40) [h]
@[simp] theorem ordered_requestBag {s : State} (h : Ordered K s) : Ordered K (requestBag s) := by
  simp only [requestBag]; (repeat' split) <;> simp +contextual (maxDischargeDepth := 40) [h]
@[simp] theorem ordered_requestKnife (l : Lane) {s : State} (h : Ordered K s) : Ordered K (requestKnife l s) := by
  simp only [requestKnife]; (repeat' split) <;> simp +contextual (maxDischargeDepth := 40) [h]
@[simp] theorem ordered_requestClear (l : Lane) (cause : CycleCause) {s : State} (h : Ordered K s) : Ordered K (requestClear l cause s) := by
  simp only [requestClear]; (repeat' split) <;> simp +contextual (maxDischargeDepth := 40) [h]
@[simp] theorem ordered_clearTest (l : Lane) (holds : Bool) (cause : CycleCause) {s : State} (h : Ordered K s) : Ordered K (clearTest l holds cause s) := by
  simp only [clearTest]; (repeat' split) <;> simp +contextual (maxDischargeDepth := 40) [h]
@[simp] theorem ordered_estimateTest (l : Lane) {s : State} (h : Ordered K s) : Ordered K (estimateTest l s) := by
  simp only [estimateTest]; (repeat' split) <;> simp +contextual (maxDischargeDepth := 40) [h]
@[simp] theorem ordered_entryTest (l : Lane) {s : State} (h : Ordered K s) : Ordered K (entryTest l s) := by
  simp only [entryTest]; (repeat' split) <;> simp +contextual (maxDischargeDepth := 40) [h]
@[simp] theorem ordered_makeGap (l : Lane) {s : State} (h : Ordered K s) : Ordered K (makeGap l s) := by
  simp only [makeGap]; (repeat' split) <;> simp +contextual (maxDischargeDepth := 40) [h]
@[simp] theorem ordered_overfullCheck (l : Lane) {s : State} (h : Ordered K s) : Ordered K (overfullCheck l s) := by
  simp only [overfullCheck]; (repeat' split) <;> simp +contextual (maxDischargeDepth := 40) [h]
@[simp] theorem ordered_crumbResult (l : Lane) (result : Nat) {s : State} (h : Ordered K s) : Ordered K (crumbResult l result s) := by
  simp only [crumbResult]; (repeat' split) <;> simp +contextual (maxDischargeDepth := 40) [h]
@[simp] theorem ordered_addCrumb (l : Lane) (factor : Nat) {s : State} (h : Ordered K s) : Ordered K (addCrumb l factor s) := by
  simp only [addCrumb]; (repeat' split) <;> simp +contextual (maxDischargeDepth := 40) [h]
@[simp] theorem ordered_endBlowing (l : Lane) {s : State} (h : Ordered K s) : Ordered K (endBlowing l s) := by
  simp only [endBlowing]; (repeat' split) <;> simp +contextual (maxDischargeDepth := 40) [h]
@[simp] theorem ordered_completeClear (l : Lane) {s : State} (h : Ordered K s) : Ordered K (completeClear l s) := by
  simp only [completeClear]; (repeat' split) <;> simp +contextual (maxDischargeDepth := 40) [h]
@[simp] theorem ordered_backOff (l : Lane) {s : State} (h : Ordered K s) : Ordered K (backOff l s) := by
  simp only [backOff]; (repeat' split) <;> simp +contextual (maxDischargeDepth := 40) [h]
@[simp] theorem ordered_endBackOff (l : Lane) {s : State} (h : Ordered K s) : Ordered K (endBackOff l s) := by
  simp only [endBackOff]; (repeat' split) <;> simp +contextual (maxDischargeDepth := 40) [h]
@[simp] theorem ordered_holdCrumb (l : Lane) {s : State} (h : Ordered K s) : Ordered K (holdCrumb l s) := by
  simp only [holdCrumb]; (repeat' split) <;> simp +contextual (maxDischargeDepth := 40) [h]
@[simp] theorem ordered_abandonCrumb (l : Lane) {s : State} (h : Ordered K s) : Ordered K (abandonCrumb l s) := by
  simp only [abandonCrumb]; (repeat' split) <;> simp +contextual (maxDischargeDepth := 40) [h]
@[simp] theorem ordered_onEye (e : Eye) (f : EyeChannel → EyeChannel) {s : State} (h : Ordered K s) : Ordered K (s.onEye e f) := by
  simp only [State.onEye]; (repeat' split) <;> simp +contextual (maxDischargeDepth := 40) [h]
@[simp] theorem ordered_sampleEye (e : Eye) (level : Nat) {s : State} (h : Ordered K s) : Ordered K (sampleEye e level s) := by
  simp only [sampleEye]; (repeat' split) <;> simp +contextual (maxDischargeDepth := 40) [h]
@[simp] theorem ordered_confirmChange (e : Eye) {s : State} (h : Ordered K s) : Ordered K (confirmChange e s) := by
  simp only [confirmChange]; (repeat' split) <;> simp +contextual (maxDischargeDepth := 40) [h]
@[simp] theorem ordered_takeEdge (e : Eye) {s : State} (h : Ordered K s) : Ordered K (takeEdge e s) := by
  simp only [takeEdge]; (repeat' split) <;> simp +contextual (maxDischargeDepth := 40) [h]
@[simp] theorem ordered_sampleEncoder (b : Belt) (phaseA : Bool) (phaseB : Bool) {s : State} (h : Ordered K s) : Ordered K (sampleEncoder b phaseA phaseB s) := by
  simp only [sampleEncoder]; (repeat' split) <;> simp +contextual (maxDischargeDepth := 40) [h]
@[simp] theorem ordered_trigger (x : Channel) {s : State} (h : Ordered K s) : Ordered K (trigger x s) := by
  simp only [trigger]; (repeat' split) <;> simp +contextual (maxDischargeDepth := 40) [h]
@[simp] theorem ordered_scanTriggers {s : State} (h : Ordered K s) : Ordered K (scanTriggers s) := by
  simp only [scanTriggers]; (repeat' split) <;> simp +contextual (maxDischargeDepth := 40) [h]
@[simp] theorem ordered_quietPoint (l : Lane) {s : State} (h : Ordered K s) : Ordered K (quietPoint l s) := by
  simp only [quietPoint]; (repeat' split) <;> simp +contextual (maxDischargeDepth := 40) [h]
@[simp] theorem ordered_onApproach (l : Lane) (f : List LoafRecord → List LoafRecord) {s : State} (h : Ordered K s) : Ordered K (s.onApproach l f) := by
  simp only [State.onApproach]; (repeat' split) <;> simp +contextual (maxDischargeDepth := 40) [h]
@[simp] theorem ordered_onBladeZone (l : Lane) (f : Option LoafRecord → Option LoafRecord) {s : State} (h : Ordered K s) : Ordered K (s.onBladeZone l f) := by
  simp only [State.onBladeZone]; (repeat' split) <;> simp +contextual (maxDischargeDepth := 40) [h]
@[simp] theorem ordered_onAccum (l : Lane) (f : List LoafRecord → List LoafRecord) {s : State} (h : Ordered K s) : Ordered K (s.onAccum l f) := by
  simp only [State.onAccum]; (repeat' split) <;> simp +contextual (maxDischargeDepth := 40) [h]
@[simp] theorem ordered_onExit (f : List LoafRecord → List LoafRecord) {s : State} (h : Ordered K s) : Ordered K (s.onExit f) := by
  simp only [State.onExit]; (repeat' split) <;> simp +contextual (maxDischargeDepth := 40) [h]
@[simp] theorem ordered_createRecord (l : Lane) (x : Edge) {s : State} (h : Ordered K s) : Ordered K (createRecord l x s) := by
  simp only [createRecord]; (repeat' split) <;> simp +contextual (maxDischargeDepth := 40) [h]
@[simp] theorem ordered_startWatch (e : TrackedEye) (at_ : Pos) {s : State} (h : Ordered K s) : Ordered K (startWatch e at_ s) := by
  simp only [startWatch]; (repeat' split) <;> simp +contextual (maxDischargeDepth := 40) [h]
@[simp] theorem ordered_eyeCleared (e : TrackedEye) {s : State} (h : Ordered K s) : Ordered K (eyeCleared e s) := by
  simp only [eyeCleared]; (repeat' split) <;> simp +contextual (maxDischargeDepth := 40) [h]
@[simp] theorem ordered_raiseStuck (e : TrackedEye) {s : State} (h : Ordered K s) : Ordered K (raiseStuck e s) := by
  simp only [raiseStuck]; (repeat' split) <;> simp +contextual (maxDischargeDepth := 40) [h]
@[simp] theorem ordered_startWatches {s : State} (h : Ordered K s) : Ordered K (startWatches s) :=
  ordered_foldl (fun _ _ h => ordered_when (fun _ h => ordered_startWatch _ _ h) _ h) _ h
@[simp] theorem ordered_removeWatches {s : State} (h : Ordered K s) : Ordered K (removeWatches s) := by
  simp only [removeWatches]; (repeat' split) <;> simp +contextual (maxDischargeDepth := 40) [h]
@[simp] theorem ordered_lose (subj : Subject) (r : LoafRecord) {s : State} (h : Ordered K s) : Ordered K (lose subj r s) := by
  simp only [lose]; (repeat' split) <;> simp +contextual (maxDischargeDepth := 40) [h]
@[simp] theorem ordered_bladeEmptied (l : Lane) {s : State} (h : Ordered K s) : Ordered K (bladeEmptied l s) := by
  simp only [bladeEmptied]; (repeat' split) <;> simp +contextual (maxDischargeDepth := 40) [h]
@[simp] theorem ordered_loseBlade (l : Lane) {s : State} (h : Ordered K s) : Ordered K (loseBlade l s) := by
  simp only [loseBlade]; (repeat' split) <;> simp +contextual (maxDischargeDepth := 40) [h]
@[simp] theorem ordered_slicerLeading (l : Lane) (x : Edge) {s : State} (h : Ordered K s) : Ordered K (slicerLeading l x s) := by
  simp only [slicerLeading]; (repeat' split) <;> simp +contextual (maxDischargeDepth := 40) [h]
@[simp] theorem ordered_startMergeWindow (l : Lane) {s : State} (h : Ordered K s) : Ordered K (startMergeWindow l s) := by
  simp only [startMergeWindow]; (repeat' split) <;> simp +contextual (maxDischargeDepth := 40) [h]
@[simp] theorem ordered_accumHeadLeft (l : Lane) (left : LoafRecord) {s : State} (h : Ordered K s) : Ordered K (accumHeadLeft l left s) := by
  simp only [accumHeadLeft]; (repeat' split) <;> simp +contextual (maxDischargeDepth := 40) [h]
@[simp] theorem ordered_removeAccumHead (l : Lane) {s : State} (h : Ordered K s) : Ordered K (removeAccumHead l s) := by
  simp only [removeAccumHead]; (repeat' split) <;> simp +contextual (maxDischargeDepth := 40) [h]
@[simp] theorem ordered_loseAccumHead (l : Lane) {s : State} (h : Ordered K s) : Ordered K (loseAccumHead l s) := by
  simp only [loseAccumHead]; (repeat' split) <;> simp +contextual (maxDischargeDepth := 40) [h]
@[simp] theorem ordered_slicerTrailing (l : Lane) {s : State} (h : Ordered K s) : Ordered K (slicerTrailing l s) := by
  simp only [slicerTrailing]; (repeat' split) <;> simp +contextual (maxDischargeDepth := 40) [h]
@[simp] theorem ordered_mergeLeading (l : Lane) (x : Edge) {s : State} (h : Ordered K s) : Ordered K (mergeLeading l x s) := by
  simp only [mergeLeading]; (repeat' split) <;> simp +contextual (maxDischargeDepth := 40) [h]
@[simp] theorem ordered_loseExitHead {s : State} (h : Ordered K s) : Ordered K (loseExitHead s) := by
  simp only [loseExitHead]; (repeat' split) <;> simp +contextual (maxDischargeDepth := 40) [h]
@[simp] theorem ordered_compareExitHead (n : Nat) {s : State} (h : Ordered K s) : Ordered K (compareExitHead n s) := by
  induction n generalizing s with
  | zero => exact h
  | succ n ih =>
    rw [compareExitHead]; split
    · exact ih (ordered_loseExitHead h)
    · exact h
@[simp] theorem ordered_exitHeadChanged {s : State} (h : Ordered K s) : Ordered K (exitHeadChanged s) := by
  simp only [exitHeadChanged]; (repeat' split) <;> simp +contextual (maxDischargeDepth := 40) [h]
@[simp] theorem ordered_joinExit (r : LoafRecord) {s : State} (h : Ordered K s) : Ordered K (joinExit r s) := by
  simp only [joinExit]; (repeat' split) <;> simp +contextual (maxDischargeDepth := 40) [h]
@[simp] theorem ordered_exitLeading (x : Edge) {s : State} (h : Ordered K s) : Ordered K (exitLeading x s) := by
  simp only [exitLeading]; (repeat' split) <;> simp +contextual (maxDischargeDepth := 40) [h]
@[simp] theorem ordered_exitTrailing {s : State} (h : Ordered K s) : Ordered K (exitTrailing s) := by
  simp only [exitTrailing]; (repeat' split) <;> simp +contextual (maxDischargeDepth := 40) [h]
@[simp] theorem ordered_stopMarking {s : State} (h : Ordered K s) : Ordered K (stopMarking s) := by
  simp only [stopMarking]; (repeat' split) <;> simp +contextual (maxDischargeDepth := 40) [h]
@[simp] theorem ordered_countStopDiscard (r : LoafRecord) {s : State} (h : Ordered K s) : Ordered K (countStopDiscard r s) := by
  simp only [countStopDiscard]; (repeat' split) <;> simp +contextual (maxDischargeDepth := 40) [h]
@[simp] theorem ordered_discardBagger {s : State} (h : Ordered K s) : Ordered K (discardBagger s) := by
  simp only [discardBagger]; (repeat' split) <;> simp +contextual (maxDischargeDepth := 40) [h]
@[simp] theorem ordered_discardTyer {s : State} (h : Ordered K s) : Ordered K (discardTyer s) := by
  simp only [discardTyer]; (repeat' split) <;> simp +contextual (maxDischargeDepth := 40) [h]
@[simp] theorem ordered_resumeDiscard {s : State} (h : Ordered K s) : Ordered K (resumeDiscard s) := by
  simp only [resumeDiscard]; (repeat' split) <;> simp +contextual (maxDischargeDepth := 40) [h]
@[simp] theorem ordered_purgePool {s : State} (h : Ordered K s) : Ordered K (purgePool s) := by
  simp only [purgePool]
  exact ordered_syncLanes (ordered_noticeCause _ _ _ (ordered_when (fun _ h => ordered_quietPoint _ h) _
    (ordered_when (fun _ h => ordered_quietPoint _ h) _
      (ordered_foldl (fun _ r h => ordered_when (fun _ h => ordered_countLost r h) _ h) _ (ordered_onTt _ h)))))
@[simp] theorem ordered_changeBlade (l : Lane) (b : BladeState) (wait : Timer) {s : State} (h : Ordered K s) : Ordered K (changeBlade l b wait s) := by
  simp only [changeBlade]; (repeat' split) <;> simp +contextual (maxDischargeDepth := 40) [h]
@[simp] theorem ordered_startSpinUp (l : Lane) {s : State} (h : Ordered K s) : Ordered K (startSpinUp l s) := by
  simp only [startSpinUp]; (repeat' split) <;> simp +contextual (maxDischargeDepth := 40) [h]
@[simp] theorem ordered_bladeOff (l : Lane) {s : State} (h : Ordered K s) : Ordered K (bladeOff l s) := by
  simp only [bladeOff]; (repeat' split) <;> simp +contextual (maxDischargeDepth := 40) [h]
@[simp] theorem ordered_bladeFollow (l : Lane) {s : State} (h : Ordered K s) : Ordered K (bladeFollow l s) := by
  simp only [bladeFollow]; (repeat' split) <;> simp +contextual (maxDischargeDepth := 40) [h]
@[simp] theorem ordered_spinUpEnd (l : Lane) {s : State} (h : Ordered K s) : Ordered K (spinUpEnd l s) := by
  simp only [spinUpEnd]; (repeat' split) <;> simp +contextual (maxDischargeDepth := 40) [h]
@[simp] theorem ordered_tensionResult (l : Lane) (result : Nat) {s : State} (h : Ordered K s) : Ordered K (tensionResult l result s) := by
  simp only [tensionResult]; (repeat' split) <;> simp +contextual (maxDischargeDepth := 40) [h]
@[simp] theorem ordered_activate (l : Lane) (slot : Nat) {s : State} (h : Ordered K s) : Ordered K (activate l slot s) := by
  simp only [activate]; (repeat' split) <;> simp +contextual (maxDischargeDepth := 40) [h]
@[simp] theorem ordered_applyPending (l : Lane) (tag : Nat) {s : State} (h : Ordered K s) : Ordered K (applyPending l tag s) := by
  simp only [applyPending]; (repeat' split) <;> simp +contextual (maxDischargeDepth := 40) [h]
@[simp] theorem ordered_admission (l : Lane) (r : LoafRecord) {s : State} (h : Ordered K s) : Ordered K (admission l r s) := by
  simp only [admission]; (repeat' split) <;> simp +contextual (maxDischargeDepth := 40) [h]
@[simp] theorem ordered_admitIfReady (l : Lane) {s : State} (h : Ordered K s) : Ordered K (admitIfReady l s) := by
  simp only [admitIfReady]; (repeat' split) <;> simp +contextual (maxDischargeDepth := 40) [h]
@[simp] theorem ordered_infeedFollow (l : Lane) {s : State} (h : Ordered K s) : Ordered K (infeedFollow l s) := by
  simp only [infeedFollow]; (repeat' split) <;> simp +contextual (maxDischargeDepth := 40) [h]
@[simp] theorem ordered_endCycle {s : State} (h : Ordered K s) : Ordered K (endCycle s) := by
  simp only [endCycle]; (repeat' split) <;> simp +contextual (maxDischargeDepth := 40) [h]
@[simp] theorem ordered_startTwist {s : State} (h : Ordered K s) : Ordered K (startTwist s) := by
  simp only [startTwist]; (repeat' split) <;> simp +contextual (maxDischargeDepth := 40) [h]
@[simp] theorem ordered_enterTwist {s : State} (h : Ordered K s) : Ordered K (enterTwist s) := by
  simp only [enterTwist]; (repeat' split) <;> simp +contextual (maxDischargeDepth := 40) [h]
@[simp] theorem ordered_startTyer {s : State} (h : Ordered K s) : Ordered K (startTyer s) := by
  simp only [startTyer]; (repeat' split) <;> simp +contextual (maxDischargeDepth := 40) [h]
@[simp] theorem ordered_endPurge {s : State} (h : Ordered K s) : Ordered K (endPurge s) := by
  simp only [endPurge]; (repeat' split) <;> simp +contextual (maxDischargeDepth := 40) [h]
@[simp] theorem ordered_enterClip {s : State} (h : Ordered K s) : Ordered K (enterClip s) := by
  simp only [enterClip]; (repeat' split) <;> simp +contextual (maxDischargeDepth := 40) [h]
@[simp] theorem ordered_completeTie {s : State} (h : Ordered K s) : Ordered K (completeTie s) := by
  simp only [completeTie]; (repeat' split) <;> simp +contextual (maxDischargeDepth := 40) [h]
@[simp] theorem ordered_tieIfHome {s : State} (h : Ordered K s) : Ordered K (tieIfHome s) := by
  simp only [tieIfHome]; (repeat' split) <;> simp +contextual (maxDischargeDepth := 40) [h]
@[simp] theorem ordered_enterHomeWait {s : State} (h : Ordered K s) : Ordered K (enterHomeWait s) := by
  simp only [enterHomeWait]; (repeat' split) <;> simp +contextual (maxDischargeDepth := 40) [h]
@[simp] theorem ordered_jamTyer {s : State} (h : Ordered K s) : Ordered K (jamTyer s) := by
  simp only [jamTyer]; (repeat' split) <;> simp +contextual (maxDischargeDepth := 40) [h]
@[simp] theorem ordered_handoff {s : State} (h : Ordered K s) : Ordered K (handoff s) := by
  simp only [handoff]; (repeat' split) <;> simp +contextual (maxDischargeDepth := 40) [h]
@[simp] theorem ordered_bagCheck {s : State} (h : Ordered K s) : Ordered K (bagCheck s) := by
  simp only [bagCheck]; (repeat' split) <;> simp +contextual (maxDischargeDepth := 40) [h]
@[simp] theorem ordered_startRoute {s : State} (h : Ordered K s) : Ordered K (startRoute s) := by
  simp only [startRoute]; (repeat' split) <;> simp +contextual (maxDischargeDepth := 40) [h]
@[simp] theorem ordered_startHoming (l : Lane) {s : State} (h : Ordered K s) : Ordered K (startHoming l s) := by
  simp only [startHoming]; (repeat' split) <;> simp +contextual (maxDischargeDepth := 40) [h]
@[simp] theorem ordered_selectLane (l : Lane) (r : LoafRecord) {s : State} (h : Ordered K s) : Ordered K (selectLane l r s) := by
  simp only [selectLane]; (repeat' split) <;> simp +contextual (maxDischargeDepth := 40) [h]
@[simp] theorem ordered_selectIfReady {s : State} (h : Ordered K s) : Ordered K (selectIfReady s) := by
  simp only [selectIfReady]; (repeat' split) <;> simp +contextual (maxDischargeDepth := 40) [h]
@[simp] theorem ordered_startStroke {s : State} (h : Ordered K s) : Ordered K (startStroke s) := by
  simp only [startStroke]; (repeat' split) <;> simp +contextual (maxDischargeDepth := 40) [h]
@[simp] theorem ordered_flapSettled {s : State} (h : Ordered K s) : Ordered K (flapSettled s) := by
  simp only [flapSettled]; (repeat' split) <;> simp +contextual (maxDischargeDepth := 40) [h]
@[simp] theorem ordered_openingOver {s : State} (h : Ordered K s) : Ordered K (openingOver s) := by
  simp only [openingOver]; (repeat' split) <;> simp +contextual (maxDischargeDepth := 40) [h]
@[simp] theorem ordered_startRetract {s : State} (h : Ordered K s) : Ordered K (startRetract s) := by
  simp only [startRetract]; (repeat' split) <;> simp +contextual (maxDischargeDepth := 40) [h]
@[simp] theorem ordered_endExtend (l : Lane) {s : State} (h : Ordered K s) : Ordered K (endExtend l s) := by
  simp only [endExtend]; (repeat' split) <;> simp +contextual (maxDischargeDepth := 40) [h]
@[simp] theorem ordered_freeRejected {s : State} (h : Ordered K s) : Ordered K (freeRejected s) := by
  simp only [freeRejected]; (repeat' split) <;> simp +contextual (maxDischargeDepth := 40) [h]
@[simp] theorem ordered_strokeDone {s : State} (h : Ordered K s) : Ordered K (strokeDone s) := by
  simp only [strokeDone]; (repeat' split) <;> simp +contextual (maxDischargeDepth := 40) [h]
@[simp] theorem ordered_motionHome (l : Lane) {s : State} (h : Ordered K s) : Ordered K (motionHome l s) := by
  simp only [motionHome]; (repeat' split) <;> simp +contextual (maxDischargeDepth := 40) [h]
@[simp] theorem ordered_pusherHome (l : Lane) {s : State} (h : Ordered K s) : Ordered K (pusherHome l s) := by
  simp only [pusherHome]; (repeat' split) <;> simp +contextual (maxDischargeDepth := 40) [h]
@[simp] theorem ordered_strokeStopped {s : State} (h : Ordered K s) : Ordered K (strokeStopped s) := by
  simp only [strokeStopped]; (repeat' split) <;> simp +contextual (maxDischargeDepth := 40) [h]
@[simp] theorem ordered_homingFailed {s : State} (h : Ordered K s) : Ordered K (homingFailed s) := by
  simp only [homingFailed]; (repeat' split) <;> simp +contextual (maxDischargeDepth := 40) [h]
@[simp] theorem ordered_endStopped {s : State} (h : Ordered K s) : Ordered K (endStopped s) := by
  simp only [endStopped]; (repeat' split) <;> simp +contextual (maxDischargeDepth := 40) [h]
@[simp] theorem ordered_bagConfirmed {s : State} (h : Ordered K s) : Ordered K (bagConfirmed s) := by
  simp only [bagConfirmed]; (repeat' split) <;> simp +contextual (maxDischargeDepth := 40) [h]
@[simp] theorem ordered_bagMissed {s : State} (h : Ordered K s) : Ordered K (bagMissed s) := by
  simp only [bagMissed]; (repeat' split) <;> simp +contextual (maxDischargeDepth := 40) [h]
@[simp] theorem ordered_endBlast {s : State} (h : Ordered K s) : Ordered K (endBlast s) := by
  simp only [endBlast]; (repeat' split) <;> simp +contextual (maxDischargeDepth := 40) [h]
@[simp] theorem ordered_abandonBagger {s : State} (h : Ordered K s) : Ordered K (abandonBagger s) := by
  simp only [abandonBagger]; (repeat' split) <;> simp +contextual (maxDischargeDepth := 40) [h]
@[simp] theorem ordered_abandonTyer {s : State} (h : Ordered K s) : Ordered K (abandonTyer s) := by
  simp only [abandonTyer]; (repeat' split) <;> simp +contextual (maxDischargeDepth := 40) [h]
@[simp] theorem ordered_failureFault (k : JobKind) (done : Bool) {s : State} (h : Ordered K s) : Ordered K (failureFault k done s) := by
  simp only [failureFault]; (repeat' split) <;> simp +contextual (maxDischargeDepth := 40) [h]
@[simp] theorem ordered_endJob (w : JobInProgress) (e : LogEntry) {s : State} (h : Ordered K s) : Ordered K (endJob w e s) := by
  simp only [endJob]; (repeat' split) <;> simp +contextual (maxDischargeDepth := 40) [h]
@[simp] theorem ordered_programVerified (w : JobInProgress) {s : State} (h : Ordered K s) : Ordered K (programVerified w s) := by
  simp only [programVerified]; (repeat' split) <;> simp +contextual (maxDischargeDepth := 40) [h]
theorem ordered_freeCount (n : Nat) {s : State} (h : Ordered K s) : Ordered K { s with freeCount := n } :=
  ⟨h.pushers, h.faults, h.reports⟩
@[simp] theorem ordered_programFailed (w : JobInProgress) {s : State} (h : Ordered K s) : Ordered K (programFailed w s) := by
  simp only [programFailed]; split
  · exact ordered_endJob _ _ (ordered_onRs _ h)
  · exact ordered_endJob _ _ (ordered_onRs _ (ordered_freeCount _ h))
@[simp] theorem ordered_requestCheckpoint {s : State} (h : Ordered K s) : Ordered K (requestCheckpoint s) := by
  simp only [requestCheckpoint]; (repeat' split) <;> simp +contextual (maxDischargeDepth := 40) [h]
@[simp] theorem ordered_scanSets {s : State} (h : Ordered K s) : Ordered K (scanSets s) := by
  simp only [scanSets]; (repeat' split) <;> simp +contextual (maxDischargeDepth := 40) [h]
@[simp] theorem ordered_restoreSelection (l : Lane) (slot : Option Nat) {s : State} (h : Ordered K s) : Ordered K (restoreSelection l slot s) := by
  simp only [restoreSelection]; (repeat' split) <;> simp +contextual (maxDischargeDepth := 40) [h]
@[simp] theorem ordered_scanRestores {s : State} (h : Ordered K s) : Ordered K (scanRestores s) := by
  simp only [scanRestores]; (repeat' split) <;> simp +contextual (maxDischargeDepth := 40) [h]
@[simp] theorem ordered_changeLine (new : LineState) {s : State} (h : Ordered K s) : Ordered K (changeLine new s) := by
  simp only [changeLine]; (repeat' split) <;> simp +contextual (maxDischargeDepth := 40) [h]
@[simp] theorem ordered_leaveHold {s : State} (h : Ordered K s) : Ordered K (leaveHold s) := by
  simp only [leaveHold]; (repeat' split) <;> simp +contextual (maxDischargeDepth := 40) [h]
@[simp] theorem ordered_crumbEntry (was : LineState) {s : State} (h : Ordered K s) : Ordered K (crumbEntry was s) := by
  simp only [crumbEntry]; (repeat' split) <;> simp +contextual (maxDischargeDepth := 40) [h]
@[simp] theorem ordered_enterStop {s : State} (h : Ordered K s) : Ordered K (enterStop s) := by
  simp only [enterStop]; (repeat' split) <;> simp +contextual (maxDischargeDepth := 40) [h]
@[simp] theorem ordered_enterStandby {s : State} (h : Ordered K s) : Ordered K (enterStandby s) := by
  simp only [enterStandby]; (repeat' split) <;> simp +contextual (maxDischargeDepth := 40) [h]
@[simp] theorem ordered_enterSpinUp {s : State} (h : Ordered K s) : Ordered K (enterSpinUp s) := by
  simp only [enterSpinUp]; (repeat' split) <;> simp +contextual (maxDischargeDepth := 40) [h]
@[simp] theorem ordered_enterRun {s : State} (h : Ordered K s) : Ordered K (enterRun s) := by
  simp only [enterRun]; (repeat' split) <;> simp +contextual (maxDischargeDepth := 40) [h]
@[simp] theorem ordered_enterDrain {s : State} (h : Ordered K s) : Ordered K (enterDrain s) := by
  simp only [enterDrain]; (repeat' split) <;> simp +contextual (maxDischargeDepth := 40) [h]
@[simp] theorem ordered_enterHold (back : LineState) {s : State} (h : Ordered K s) : Ordered K (enterHold back s) := by
  simp only [enterHold]; (repeat' split) <;> simp +contextual (maxDischargeDepth := 40) [h]
@[simp] theorem ordered_stopIfFaulted {s : State} (h : Ordered K s) : Ordered K (stopIfFaulted s) := by
  simp only [stopIfFaulted]; (repeat' split) <;> simp +contextual (maxDischargeDepth := 40) [h]
@[simp] theorem ordered_runIfSpun {s : State} (h : Ordered K s) : Ordered K (runIfSpun s) := by
  simp only [runIfSpun]; (repeat' split) <;> simp +contextual (maxDischargeDepth := 40) [h]
@[simp] theorem ordered_standbyIfDrained {s : State} (h : Ordered K s) : Ordered K (standbyIfDrained s) := by
  simp only [standbyIfDrained]; (repeat' split) <;> simp +contextual (maxDischargeDepth := 40) [h]
@[simp] theorem ordered_advanceLine {s : State} (h : Ordered K s) : Ordered K (advanceLine s) := by
  simp only [advanceLine]; (repeat' split) <;> simp +contextual (maxDischargeDepth := 40) [h]
@[simp] theorem ordered_flow {s : State} (h : Ordered K s) : Ordered K (flow s) := by
  simp only [flow]; (repeat' split) <;> simp +contextual (maxDischargeDepth := 40) [h]
@[simp] theorem ordered_settle {s : State} (h : Ordered K s) : Ordered K (settle s) := by
  simp only [settle]; (repeat' split) <;> simp +contextual (maxDischargeDepth := 40) [h]
theorem setNotice_reports (n : Notice) (c : Nat) (m : MessageLink) : (m.setNotice n c).reports = m.reports := by
  cases n <;> rfl
@[simp] theorem ordered_linkNotice (n : Notice) {s : State} (h : Ordered K s) : Ordered K (linkNotice n s) :=
  ordered_raiseKey _ (ordered_onMl (setNotice_reports n _) h)
@[simp] theorem ordered_receiveByte (b : Byte) {s : State} (h : Ordered K s) : Ordered K (receiveByte b s) := by
  simp only [receiveByte]; (repeat' split) <;> simp +contextual (maxDischargeDepth := 40) [h]
@[simp] theorem ordered_assemble (b : Byte) {s : State} (h : Ordered K s) : Ordered K (assemble b s) := by
  simp only [assemble]; (repeat' split) <;> simp +contextual (maxDischargeDepth := 40) [h]
@[simp] theorem ordered_takeByte {s : State} (h : Ordered K s) : Ordered K (takeByte s) := by
  simp only [takeByte]; (repeat' split) <;> simp +contextual (maxDischargeDepth := 40) [h]
@[simp] theorem ordered_startFrame {s : State} (h : Ordered K s) : Ordered K (startFrame s) := by
  unfold startFrame
  split
  · exact ⟨h.pushers, h.faults, h.reports⟩
  · rename_i k rest _ hk
    have hr : K.reports = true → rest.Nodup := by
      intro on
      have := h.reports on; rw [hk] at this; exact (List.nodup_cons.1 this).2
    have ht : ∀ x : TxFrame, Ordered K (s.onMl (fun m => { m with reports := rest, tx := some x })) :=
      fun _ => ⟨h.pushers, h.faults, hr⟩
    dsimp only
    split
    · exact ordered_onMl (setNotice_reports _ _) (ht _)
    · exact ht _
  · exact h
@[simp] theorem ordered_queueReply (type : Byte) (tok : Byte) (a : Answer) {s : State} (h : Ordered K s) : Ordered K (queueReply type tok a s) := by
  simp only [queueReply]; (repeat' split) <;> simp +contextual (maxDischargeDepth := 40) [h]
@[simp] theorem ordered_paramActs (id : Nat) (index : Nat) (v : Nat) {s : State} (h : Ordered K s) : Ordered K (paramActs id index v s) := by
  simp only [paramActs]; (repeat' split) <;> simp +contextual (maxDischargeDepth := 40) [h]
@[simp] theorem ordered_setRecipe (slot : Nat) (r : Recipe) {s : State} (h : Ordered K s) : Ordered K (setRecipe slot r s) := by
  simp only [setRecipe]; (repeat' split) <;> simp +contextual (maxDischargeDepth := 40) [h]
@[simp] theorem ordered_bagsLoaded {s : State} (h : Ordered K s) : Ordered K (bagsLoaded s) := by
  simp only [bagsLoaded]; (repeat' split) <;> simp +contextual (maxDischargeDepth := 40) [h]
@[simp] theorem ordered_clipsLoaded {s : State} (h : Ordered K s) : Ordered K (clipsLoaded s) := by
  simp only [clipsLoaded]; (repeat' split) <;> simp +contextual (maxDischargeDepth := 40) [h]
@[simp] theorem ordered_retie {s : State} (h : Ordered K s) : Ordered K (retie s) := by
  simp only [retie]; (repeat' split) <;> simp +contextual (maxDischargeDepth := 40) [h]
@[simp] theorem ordered_discardJammed (r : LoafRecord) {s : State} (h : Ordered K s) : Ordered K (discardJammed r s) := by
  simp only [discardJammed]; (repeat' split) <;> simp +contextual (maxDischargeDepth := 40) [h]
@[simp] theorem ordered_closeShift {s : State} (h : Ordered K s) : Ordered K (closeShift s) := by
  simp only [closeShift]; (repeat' split) <;> simp +contextual (maxDischargeDepth := 40) [h]
@[simp] theorem ordered_resetMachine (baud1 baud0 : Bool) (tear : Tear) (s : State) :
    Ordered K (resetMachine baud1 baud0 tear s) :=
  ⟨fun _ => by simp [pushersSafe, resetMachine, State.reset, DriveUnit.reset, Pusher.reset, Pusher.safe],
   fun _ => ⟨by simp [resetMachine, FaultTable.reset], by simp [resetMachine, FaultTable.reset],
    by simp [resetMachine, FaultTable.reset]⟩, fun _ => by simp [resetMachine, MessageLink.reset]⟩
@[simp] theorem ordered_endOfInitCheck (l : Lane) {s : State} (h : Ordered K s) : Ordered K (endOfInitCheck l s) := by
  simp only [endOfInitCheck]; (repeat' split) <;> simp +contextual (maxDischargeDepth := 40) [h]
@[simp] theorem ordered_dropFrame {s : State} (h : Ordered K s) : Ordered K (dropFrame s) := by
  simp only [dropFrame]; (repeat' split) <;> simp +contextual (maxDischargeDepth := 40) [h]
@[simp] theorem ordered_frameOut (f : TxFrame) {s : State} (h : Ordered K s) : Ordered K (frameOut f s) := by
  simp only [frameOut]; (repeat' split) <;> simp +contextual (maxDischargeDepth := 40) [h]
theorem ordered_withEdge {f : Edge → State → State} (hf : ∀ x s, Ordered K s → Ordered K (f x s)) (e : Eye) (leading : Bool)
    {s : State} (h : Ordered K s) : Ordered K (withEdge e leading f s) := by
  unfold withEdge; split
  · split
    · exact hf _ _ (ordered_takeEdge _ h)
    · exact h
  · exact h
theorem ordered_onEdge {f : Edge → State → State} (hf : ∀ x s, Ordered K s → Ordered K (f x s)) (e : Eye) (leading : Bool)
    {s : State} (h : Ordered K s) : Ordered K (onEdge e leading f s) :=
  ordered_withEdge (fun x _ h => ordered_settle (ordered_when (hf x) _ h)) e leading h
theorem ordered_onTrailing {f : State → State} (hf : ∀ s, Ordered K s → Ordered K (f s)) (e : TrackedEye)
    {s : State} (h : Ordered K s) : Ordered K (onTrailing e f s) :=
  ordered_withEdge (fun _ _ h => ordered_settle (ordered_when hf _ (ordered_eyeCleared e h))) _ _ h
@[simp] theorem ordered_handResult (c : Channel) (result : Nat) {s : State} (h : Ordered K s) : Ordered K (handResult c result s) := by
  simp only [handResult]; (repeat' split) <;> simp +contextual (maxDischargeDepth := 40) [h]
@[simp] theorem ordered_completeConversion (c : Channel) (result : Nat) {s : State} (h : Ordered K s) : Ordered K (completeConversion c result s) := by
  simp only [completeConversion]; (repeat' split) <;> simp +contextual (maxDischargeDepth := 40) [h]
@[simp] theorem ordered_strokeRunOut {s : State} (h : Ordered K s) : Ordered K (strokeRunOut s) := by
  simp only [strokeRunOut]; (repeat' split) <;> simp +contextual (maxDischargeDepth := 40) [h]
@[simp] theorem ordered_deadTimeOver (l : Lane) {s : State} (h : Ordered K s) : Ordered K (deadTimeOver l s) :=
  ordered_when (fun _ h => ordered_startRetract h) _ (ordered_onPusher (fun _ hp => pusher_deadEnd_safe hp) l h)
@[simp] theorem ordered_takeSafety (estopOpen guardOpen : Bool) {s : State} (h : Ordered K s) :
    Ordered K (takeSafety estopOpen guardOpen s) := by
  have hp : K.pushers = true → _ := h.pushers
  simp only [pushersSafe, Bool.and_eq_true] at hp
  have hd : Ordered K (s.onDou (fun d => { d with estop := d.estop.sample estopOpen, guardIn := d.guardIn.sample guardOpen })) :=
    ⟨h.pushers, h.faults, h.reports⟩
  simp only [takeSafety, when]
  split
  · exact ⟨fun on => by simp [pushersSafe, State.onDou, pusher_latched_safe (hp on).1, pusher_latched_safe (hp on).2], h.faults,
      h.reports⟩
  · exact hd
@[simp] theorem ordered_tick {s : State} (h : Ordered K s) : Ordered K (tick s) :=
  ⟨fun on => by have := h.pushers on; simp only [pushersSafe, Bool.and_eq_true] at this ⊢; exact this, h.faults, h.reports⟩
@[simp] theorem ordered_choiceUsed {s : State} (h : Ordered K s) : Ordered K (choiceUsed s) := ordered_freeCount _ h

end Sys2Proof.Machine
end

