-- ==== Sys2Proof/Laws/Outer.lean ====
section
/-! SUPPORT. The frame of the shared operations: everything but the blocks that the operations of one step work on. -/

namespace Sys2Proof.Machine

set_option Elab.async false
set_option linter.unusedTactic false
set_option linter.unnecessarySeqFocus false

@[simp] theorem outer_onTt (f : Tracking → Tracking) (s : State) : (s.onTt f).outer = s.outer := rfl
@[simp] theorem outer_onSc (f : ScanConverter → ScanConverter) (s : State) : (s.onSc f).outer = s.outer := rfl
@[simp] theorem outer_onLic (f : PerLane LaneInfeed → PerLane LaneInfeed) (s : State) : (s.onLic f).outer = s.outer := rfl
@[simp] theorem outer_onMbc (f : MergeBag → MergeBag) (s : State) : (s.onMbc f).outer = s.outer := rfl
@[simp] theorem outer_onTsc (f : TieStation → TieStation) (s : State) : (s.onTsc f).outer = s.outer := rfl
@[simp] theorem outer_onCc (f : PerLane Crumb → PerLane Crumb) (s : State) : (s.onCc f).outer = s.outer := rfl
@[simp] theorem outer_onAma (f : AirArbiter → AirArbiter) (s : State) : (s.onAma f).outer = s.outer := rfl
@[simp] theorem outer_onLsc (f : LineControl → LineControl) (s : State) : (s.onLsc f).outer = s.outer := rfl
@[simp] theorem outer_onDou (f : DriveUnit → DriveUnit) (s : State) : (s.onDou f).outer = s.outer := rfl
@[simp] theorem outer_onFt (f : FaultTable → FaultTable) (s : State) : (s.onFt f).outer = s.outer := rfl
@[simp] theorem outer_onTu (f : TotalsUnit → TotalsUnit) (s : State) : (s.onTu f).outer = s.outer := rfl

@[simp] theorem outer_when {f : State → State} (h : ∀ s, (f s).outer = s.outer) (c : Bool) (s : State) :
    (when c f s).outer = s.outer := by
  unfold when; split
  · exact h s
  · rfl

theorem outer_foldl {α : Type} {f : State → α → State} (h : ∀ s x, (f s x).outer = s.outer) (l : List α) (s : State) :
    (l.foldl f s).outer = s.outer := by
  induction l generalizing s with
  | nil => rfl
  | cons x l ih => rw [List.foldl_cons, ih, h]

@[simp] theorem outer_onLane (l : Lane) (f : LaneInfeed → LaneInfeed) (s : State) : (s.onLane l f).outer = s.outer := by
  simp only [State.onLane]; (repeat' split) <;> simp
@[simp] theorem outer_onCrumb (l : Lane) (f : Crumb → Crumb) (s : State) : (s.onCrumb l f).outer = s.outer := by
  simp only [State.onCrumb]; (repeat' split) <;> simp
@[simp] theorem outer_raiseKey (k : ReportKey) (s : State) : (raiseKey k s).outer = s.outer := by
  unfold raiseKey; split <;> rfl
@[simp] theorem outer_syncLane (l : Lane) (s : State) : (syncLane l s).outer = s.outer := by
  simp only [syncLane]; (repeat' split) <;> simp
@[simp] theorem outer_syncLanes (s : State) : (syncLanes s).outer = s.outer := by
  simp only [syncLanes]; (repeat' split) <;> simp
@[simp] theorem outer_syncHold (l : Lane) (s : State) : (syncHold l s).outer = s.outer := by
  simp only [syncHold]; (repeat' split) <;> simp
@[simp] theorem outer_syncHolds (s : State) : (syncHolds s).outer = s.outer := by
  simp only [syncHolds]; (repeat' split) <;> simp
@[simp] theorem outer_onLive (f : Totals → Totals) (s : State) : (s.onLive f).outer = s.outer := by
  simp only [State.onLive]; (repeat' split) <;> simp
@[simp] theorem outer_countLine (f : LineBlock → LineBlock) (s : State) : (countLine f s).outer = s.outer := by
  simp only [countLine]; (repeat' split) <;> simp
@[simp] theorem outer_countProduct (code : Nat) (f : Counters → Counters) (s : State) : (countProduct code f s).outer = s.outer := by
  simp only [countProduct]; (repeat' split) <;> simp
@[simp] theorem outer_countRecord (r : LoafRecord) (f : Counters → Counters) (s : State) : (countRecord r f s).outer = s.outer := by
  simp only [countRecord]; (repeat' split) <;> simp
@[simp] theorem outer_countLost (r : LoafRecord) (s : State) : (countLost r s).outer = s.outer := by
  simp only [countLost]; (repeat' split) <;> simp
@[simp] theorem outer_countBagged (r : LoafRecord) (s : State) : (countBagged r s).outer = s.outer := by
  simp only [countBagged]; (repeat' split) <;> simp
@[simp] theorem outer_countRejected (r : LoafRecord) (f : Counters → Counters) (s : State) : (countRejected r f s).outer = s.outer := by
  simp only [countRejected]; (repeat' split) <;> simp
@[simp] theorem outer_countFault (s : State) : (countFault s).outer = s.outer := by
  simp only [countFault]; (repeat' split) <;> simp
@[simp] theorem outer_tableChanged (s : State) : (tableChanged s).outer = s.outer := by
  simp only [tableChanged]; (repeat' split) <;> simp
@[simp] theorem outer_placeEntry (e : FaultEntry) (s : State) : (placeEntry e s).outer = s.outer := by
  simp only [placeEntry]; (repeat' split) <;> simp
@[simp] theorem outer_raiseFault (k : FaultKind) (subj : Subject) (detail : Option Nat) (s : State) : (raiseFault k subj detail s).outer = s.outer := by
  simp only [raiseFault]; (repeat' split) <;> simp
@[simp] theorem outer_present (e : FaultEntry) (s : State) : (present e s).outer = s.outer := by
  simp only [present]; (repeat' split) <;> simp
@[simp] theorem outer_presentNext (s : State) : (presentNext s).outer = s.outer := by
  simp only [presentNext]; (repeat' split) <;> simp
@[simp] theorem outer_removeEntry (k : FaultKind) (subj : Subject) (s : State) : (removeEntry k subj s).outer = s.outer := by
  simp only [removeEntry]; (repeat' split) <;> simp
@[simp] theorem outer_noticeCause (k : FaultKind) (subj : Subject) (isPresent : Bool) (s : State) : (noticeCause k subj isPresent s).outer = s.outer := by
  simp only [noticeCause]; (repeat' split) <;> simp
@[simp] theorem outer_removeAll (l : List FaultEntry) (s : State) : (removeAll l s).outer = s.outer :=
  outer_foldl (by simp) l s
@[simp] theorem outer_noticeRemoval (hit : FaultEntry → Bool) (s : State) : (noticeRemoval hit s).outer = s.outer := by
  simp only [noticeRemoval]; (repeat' split) <;> simp
@[simp] theorem outer_matchNotice (subj : Subject) (s : State) : (matchNotice subj s).outer = s.outer := by
  simp only [matchNotice]; (repeat' split) <;> simp
@[simp] theorem outer_bagConfirmNotice (s : State) : (bagConfirmNotice s).outer = s.outer := by
  simp only [bagConfirmNotice]; (repeat' split) <;> simp
@[simp] theorem outer_clearCompletedNotice (l : Lane) (s : State) : (clearCompletedNotice l s).outer = s.outer := by
  simp only [clearCompletedNotice]; (repeat' split) <;> simp
@[simp] theorem outer_eyeStuckToAuto (s : State) : (eyeStuckToAuto s).outer = s.outer := by
  simp only [eyeStuckToAuto]; (repeat' split) <;> simp
@[simp] theorem outer_clearPresented (e : FaultEntry) (s : State) : (clearPresented e s).outer = s.outer := by
  simp only [clearPresented]; (repeat' split) <;> simp
@[simp] theorem outer_driveOn (f : DriveUnit → DriveUnit) (s : State) : (driveOn f s).outer = s.outer := by
  simp only [driveOn]; (repeat' split) <;> simp
@[simp] theorem outer_onPusher (l : Lane) (f : Pusher → Pusher) (s : State) : (s.onPusher l f).outer = s.outer := by
  simp only [State.onPusher]; (repeat' split) <;> simp
@[simp] theorem outer_valveOn (l : Lane) (v : Valve) (s : State) : (valveOn l v s).outer = s.outer := by
  simp only [valveOn]; (repeat' split) <;> simp
@[simp] theorem outer_valveOff (l : Lane) (v : Valve) (s : State) : (valveOff l v s).outer = s.outer := by
  simp only [valveOff]; (repeat' split) <;> simp
@[simp] theorem outer_armGate (l : Lane) (s : State) : (armGate l s).outer = s.outer := by
  simp only [armGate]; (repeat' split) <;> simp
@[simp] theorem outer_disarmGate (l : Lane) (s : State) : (disarmGate l s).outer = s.outer := by
  simp only [disarmGate]; (repeat' split) <;> simp
@[simp] theorem outer_setBlade (l : Lane) (b : Bool) (s : State) : (setBlade l b s).outer = s.outer := by
  simp only [setBlade]; (repeat' split) <;> simp
@[simp] theorem outer_setKnife (l : Lane) (b : Bool) (s : State) : (setKnife l b s).outer = s.outer := by
  simp only [setKnife]; (repeat' split) <;> simp
@[simp] theorem outer_setShaker (l : Lane) (b : Bool) (s : State) : (setShaker l b s).outer = s.outer := by
  simp only [setShaker]; (repeat' split) <;> simp
@[simp] theorem outer_setInfeed (l : Lane) (b : Bool) (s : State) : (setInfeed l b s).outer = s.outer := by
  simp only [setInfeed]; (repeat' split) <;> simp
@[simp] theorem outer_setFlap (b : Bool) (s : State) : (setFlap b s).outer = s.outer := by
  simp only [setFlap]; (repeat' split) <;> simp
@[simp] theorem outer_setTyer (b : Bool) (s : State) : (setTyer b s).outer = s.outer := by
  simp only [setTyer]; (repeat' split) <;> simp
@[simp] theorem outer_setBagBlast (b : Bool) (s : State) : (setBagBlast b s).outer = s.outer := by
  simp only [setBagBlast]; (repeat' split) <;> simp
@[simp] theorem outer_setPurge (b : Bool) (s : State) : (setPurge b s).outer = s.outer := by
  simp only [setPurge]; (repeat' split) <;> simp
@[simp] theorem outer_setPrinter (code : Option (List Byte)) (s : State) : (setPrinter code s).outer = s.outer := by
  simp only [setPrinter]; (repeat' split) <;> simp
@[simp] theorem outer_setConveyors (b : Bool) (s : State) : (setConveyors b s).outer = s.outer := by
  simp only [setConveyors]; (repeat' split) <;> simp
@[simp] theorem outer_dropOutputs (s : State) : (dropOutputs s).outer = s.outer := by
  simp only [dropOutputs]; (repeat' split) <;> simp
@[simp] theorem outer_inputTaken (k : FaultKind) (was : Bool) (now : Bool) (s : State) : (inputTaken k was now s).outer = s.outer := by
  simp only [inputTaken]; (repeat' split) <;> simp
@[simp] theorem outer_evalBagLow (s : State) : (evalBagLow s).outer = s.outer := by
  simp only [evalBagLow]; (repeat' split) <;> simp
@[simp] theorem outer_evalClipLow (s : State) : (evalClipLow s).outer = s.outer := by
  simp only [evalClipLow]; (repeat' split) <;> simp
@[simp] theorem outer_setBagCount (n : Nat) (s : State) : (setBagCount n s).outer = s.outer := by
  simp only [setBagCount]; (repeat' split) <;> simp
@[simp] theorem outer_setClipCount (n : Nat) (s : State) : (setClipCount n s).outer = s.outer := by
  simp only [setClipCount]; (repeat' split) <;> simp
@[simp] theorem outer_setWaiting (r : Requester) (c : Option AirChannel) (s : State) : (setWaiting r c s).outer = s.outer := by
  simp only [setWaiting]; (repeat' split) <;> simp
@[simp] theorem outer_setHolder (c : AirChannel) (r : Option Requester) (s : State) : (setHolder c r s).outer = s.outer := by
  simp only [setHolder]; (repeat' split) <;> simp
@[simp] theorem outer_enterBlowing (l : Lane) (shakerOnly : Bool) (s : State) : (enterBlowing l shakerOnly s).outer = s.outer := by
  simp only [enterBlowing]; (repeat' split) <;> simp
@[simp] theorem outer_openBag (s : State) : (openBag s).outer = s.outer := by
  simp only [openBag]; (repeat' split) <;> simp
@[simp] theorem outer_waitForBags (s : State) : (waitForBags s).outer = s.outer := by
  simp only [waitForBags]; (repeat' split) <;> simp
@[simp] theorem outer_startPurge (s : State) : (startPurge s).outer = s.outer := by
  simp only [startPurge]; (repeat' split) <;> simp
@[simp] theorem outer_becomeHolder (r : Requester) (c : AirChannel) (s : State) : (becomeHolder r c s).outer = s.outer := by
  simp only [becomeHolder]; (repeat' split) <;> simp
@[simp] theorem outer_grantOther (r : Requester) (c : AirChannel) (s : State) : (grantOther r c s).outer = s.outer := by
  simp only [grantOther]; (repeat' split) <;> simp
@[simp] theorem outer_grantAfterBag (c : AirChannel) (s : State) : (grantAfterBag c s).outer = s.outer := by
  simp only [grantAfterBag]; (repeat' split) <;> simp
@[simp] theorem outer_grantBag (c : AirChannel) (s : State) : (grantBag c s).outer = s.outer := by
  simp only [grantBag]; (repeat' split) <;> simp
@[simp] theorem outer_grantNext (c : AirChannel) (s : State) : (grantNext c s).outer = s.outer := by
  simp only [grantNext]; (repeat' split) <;> simp
@[simp] theorem outer_grantTo (r : Requester) (c : AirChannel) (s : State) : (grantTo r c s).outer = s.outer := by
  simp only [grantTo]; (repeat' split) <;> simp
@[simp] theorem outer_airRequest (r : Requester) (s : State) : (airRequest r s).outer = s.outer := by
  simp only [airRequest]; (repeat' split) <;> simp
@[simp] theorem outer_releaseChannel (c : AirChannel) (s : State) : (releaseChannel c s).outer = s.outer := by
  simp only [releaseChannel]; (repeat' split) <;> simp
@[simp] theorem outer_airRelease (r : Requester) (s : State) : (airRelease r s).outer = s.outer := by
  simp only [airRelease]; (repeat' split) <;> simp
@[simp] theorem outer_airWithdraw (r : Requester) (s : State) : (airWithdraw r s).outer = s.outer := by
  simp only [airWithdraw]; (repeat' split) <;> simp
@[simp] theorem outer_airPressure (result : Nat) (s : State) : (airPressure result s).outer = s.outer := by
  simp only [airPressure]; (repeat' split) <;> simp
@[simp] theorem outer_requestBag (s : State) : (requestBag s).outer = s.outer := by
  simp only [requestBag]; (repeat' split) <;> simp
@[simp] theorem outer_requestKnife (l : Lane) (s : State) : (requestKnife l s).outer = s.outer := by
  simp only [requestKnife]; (repeat' split) <;> simp
@[simp] theorem outer_requestClear (l : Lane) (cause : CycleCause) (s : State) : (requestClear l cause s).outer = s.outer := by
  simp only [requestClear]; (repeat' split) <;> simp
@[simp] theorem outer_clearTest (l : Lane) (holds : Bool) (cause : CycleCause) (s : State) : (clearTest l holds cause s).outer = s.outer := by
  simp only [clearTest]; (repeat' split) <;> simp
@[simp] theorem outer_estimateTest (l : Lane) (s : State) : (estimateTest l s).outer = s.outer := by
  simp only [estimateTest]; (repeat' split) <;> simp
@[simp] theorem outer_entryTest (l : Lane) (s : State) : (entryTest l s).outer = s.outer := by
  simp only [entryTest]; (repeat' split) <;> simp
@[simp] theorem outer_makeGap (l : Lane) (s : State) : (makeGap l s).outer = s.outer := by
  simp only [makeGap]; (repeat' split) <;> simp
@[simp] theorem outer_overfullCheck (l : Lane) (s : State) : (overfullCheck l s).outer = s.outer := by
  simp only [overfullCheck]; (repeat' split) <;> simp
@[simp] theorem outer_crumbResult (l : Lane) (result : Nat) (s : State) : (crumbResult l result s).outer = s.outer := by
  simp only [crumbResult]; (repeat' split) <;> simp
@[simp] theorem outer_addCrumb (l : Lane) (factor : Nat) (s : State) : (addCrumb l factor s).outer = s.outer := by
  simp only [addCrumb]; (repeat' split) <;> simp
@[simp] theorem outer_endBlowing (l : Lane) (s : State) : (endBlowing l s).outer = s.outer := by
  simp only [endBlowing]; (repeat' split) <;> simp
@[simp] theorem outer_completeClear (l : Lane) (s : State) : (completeClear l s).outer = s.outer := by
  simp only [completeClear]; (repeat' split) <;> simp
@[simp] theorem outer_backOff (l : Lane) (s : State) : (backOff l s).outer = s.outer := by
  simp only [backOff]; (repeat' split) <;> simp
@[simp] theorem outer_endBackOff (l : Lane) (s : State) : (endBackOff l s).outer = s.outer := by
  simp only [endBackOff]; (repeat' split) <;> simp
@[simp] theorem outer_holdCrumb (l : Lane) (s : State) : (holdCrumb l s).outer = s.outer := by
  simp only [holdCrumb]; (repeat' split) <;> simp
@[simp] theorem outer_abandonCrumb (l : Lane) (s : State) : (abandonCrumb l s).outer = s.outer := by
  simp only [abandonCrumb]; (repeat' split) <;> simp
@[simp] theorem outer_trigger (x : Channel) (s : State) : (trigger x s).outer = s.outer := by
  simp only [trigger]; (repeat' split) <;> simp
@[simp] theorem outer_scanTriggers (s : State) : (scanTriggers s).outer = s.outer := by
  simp only [scanTriggers]; (repeat' split) <;> simp
@[simp] theorem outer_quietPoint (l : Lane) (s : State) : (quietPoint l s).outer = s.outer := by
  simp only [quietPoint]; (repeat' split) <;> simp
@[simp] theorem outer_onApproach (l : Lane) (f : List LoafRecord → List LoafRecord) (s : State) : (s.onApproach l f).outer = s.outer := by
  simp only [State.onApproach]; (repeat' split) <;> simp
@[simp] theorem outer_onBladeZone (l : Lane) (f : Option LoafRecord → Option LoafRecord) (s : State) : (s.onBladeZone l f).outer = s.outer := by
  simp only [State.onBladeZone]; (repeat' split) <;> simp
@[simp] theorem outer_onAccum (l : Lane) (f : List LoafRecord → List LoafRecord) (s : State) : (s.onAccum l f).outer = s.outer := by
  simp only [State.onAccum]; (repeat' split) <;> simp
@[simp] theorem outer_onExit (f : List LoafRecord → List LoafRecord) (s : State) : (s.onExit f).outer = s.outer := by
  simp only [State.onExit]; (repeat' split) <;> simp
@[simp] theorem outer_createRecord (l : Lane) (x : Edge) (s : State) : (createRecord l x s).outer = s.outer := by
  simp only [createRecord]; (repeat' split) <;> simp
@[simp] theorem outer_startWatch (e : TrackedEye) (at_ : Pos) (s : State) : (startWatch e at_ s).outer = s.outer := by
  simp only [startWatch]; (repeat' split) <;> simp
@[simp] theorem outer_eyeCleared (e : TrackedEye) (s : State) : (eyeCleared e s).outer = s.outer := by
  simp only [eyeCleared]; (repeat' split) <;> simp
@[simp] theorem outer_raiseStuck (e : TrackedEye) (s : State) : (raiseStuck e s).outer = s.outer := by
  simp only [raiseStuck]; (repeat' split) <;> simp
@[simp] theorem outer_startWatches (s : State) : (startWatches s).outer = s.outer := outer_foldl (by simp) _ _
@[simp] theorem outer_removeWatches (s : State) : (removeWatches s).outer = s.outer := by
  simp only [removeWatches]; (repeat' split) <;> simp
@[simp] theorem outer_lose (subj : Subject) (r : LoafRecord) (s : State) : (lose subj r s).outer = s.outer := by
  simp only [lose]; (repeat' split) <;> simp
@[simp] theorem outer_bladeEmptied (l : Lane) (s : State) : (bladeEmptied l s).outer = s.outer := by
  simp only [bladeEmptied]; (repeat' split) <;> simp
@[simp] theorem outer_loseBlade (l : Lane) (s : State) : (loseBlade l s).outer = s.outer := by
  simp only [loseBlade]; (repeat' split) <;> simp
@[simp] theorem outer_slicerLeading (l : Lane) (x : Edge) (s : State) : (slicerLeading l x s).outer = s.outer := by
  simp only [slicerLeading]; (repeat' split) <;> simp
@[simp] theorem outer_startMergeWindow (l : Lane) (s : State) : (startMergeWindow l s).outer = s.outer := by
  simp only [startMergeWindow]; (repeat' split) <;> simp
@[simp] theorem outer_accumHeadLeft (l : Lane) (left : LoafRecord) (s : State) : (accumHeadLeft l left s).outer = s.outer := by
  simp only [accumHeadLeft]; (repeat' split) <;> simp
@[simp] theorem outer_removeAccumHead (l : Lane) (s : State) : (removeAccumHead l s).outer = s.outer := by
  simp only [removeAccumHead]; (repeat' split) <;> simp
@[simp] theorem outer_loseAccumHead (l : Lane) (s : State) : (loseAccumHead l s).outer = s.outer := by
  simp only [loseAccumHead]; (repeat' split) <;> simp
@[simp] theorem outer_slicerTrailing (l : Lane) (s : State) : (slicerTrailing l s).outer = s.outer := by
  simp only [slicerTrailing]; (repeat' split) <;> simp
@[simp] theorem outer_mergeLeading (l : Lane) (x : Edge) (s : State) : (mergeLeading l x s).outer = s.outer := by
  simp only [mergeLeading]; (repeat' split) <;> simp
@[simp] theorem outer_loseExitHead (s : State) : (loseExitHead s).outer = s.outer := by
  simp only [loseExitHead]; (repeat' split) <;> simp
@[simp] theorem outer_compareExitHead (n : Nat) (s : State) : (compareExitHead n s).outer = s.outer := by
  induction n generalizing s with
  | zero => rfl
  | succ n ih =>
    rw [compareExitHead]; split
    · rw [ih, outer_loseExitHead]
    · rfl
@[simp] theorem outer_exitHeadChanged (s : State) : (exitHeadChanged s).outer = s.outer := by
  simp only [exitHeadChanged]; (repeat' split) <;> simp
@[simp] theorem outer_joinExit (r : LoafRecord) (s : State) : (joinExit r s).outer = s.outer := by
  simp only [joinExit]; (repeat' split) <;> simp
@[simp] theorem outer_exitLeading (x : Edge) (s : State) : (exitLeading x s).outer = s.outer := by
  simp only [exitLeading]; (repeat' split) <;> simp
@[simp] theorem outer_exitTrailing (s : State) : (exitTrailing s).outer = s.outer := by
  simp only [exitTrailing]; (repeat' split) <;> simp
@[simp] theorem outer_stopMarking (s : State) : (stopMarking s).outer = s.outer := by
  simp only [stopMarking]; (repeat' split) <;> simp
@[simp] theorem outer_countStopDiscard (r : LoafRecord) (s : State) : (countStopDiscard r s).outer = s.outer := by
  simp only [countStopDiscard]; (repeat' split) <;> simp
@[simp] theorem outer_discardBagger (s : State) : (discardBagger s).outer = s.outer := by
  simp only [discardBagger]; (repeat' split) <;> simp
@[simp] theorem outer_discardTyer (s : State) : (discardTyer s).outer = s.outer := by
  simp only [discardTyer]; (repeat' split) <;> simp
@[simp] theorem outer_resumeDiscard (s : State) : (resumeDiscard s).outer = s.outer := by
  simp only [resumeDiscard]; (repeat' split) <;> simp
@[simp] theorem outer_purgePool (s : State) : (purgePool s).outer = s.outer := by
  simp only [purgePool]
  rw [outer_syncLanes, outer_noticeCause, outer_when (by simp), outer_when (by simp), outer_foldl (by simp)]
  rfl
@[simp] theorem outer_changeBlade (l : Lane) (b : BladeState) (wait : Timer) (s : State) : (changeBlade l b wait s).outer = s.outer := by
  simp only [changeBlade]; (repeat' split) <;> simp
@[simp] theorem outer_startSpinUp (l : Lane) (s : State) : (startSpinUp l s).outer = s.outer := by
  simp only [startSpinUp]; (repeat' split) <;> simp
@[simp] theorem outer_bladeOff (l : Lane) (s : State) : (bladeOff l s).outer = s.outer := by
  simp only [bladeOff]; (repeat' split) <;> simp
@[simp] theorem outer_bladeFollow (l : Lane) (s : State) : (bladeFollow l s).outer = s.outer := by
  simp only [bladeFollow]; (repeat' split) <;> simp
@[simp] theorem outer_spinUpEnd (l : Lane) (s : State) : (spinUpEnd l s).outer = s.outer := by
  simp only [spinUpEnd]; (repeat' split) <;> simp
@[simp] theorem outer_tensionResult (l : Lane) (result : Nat) (s : State) : (tensionResult l result s).outer = s.outer := by
  simp only [tensionResult]; (repeat' split) <;> simp
@[simp] theorem outer_activate (l : Lane) (slot : Nat) (s : State) : (activate l slot s).outer = s.outer := by
  simp only [activate]; (repeat' split) <;> simp
@[simp] theorem outer_applyPending (l : Lane) (tag : Nat) (s : State) : (applyPending l tag s).outer = s.outer := by
  simp only [applyPending]; (repeat' split) <;> simp
@[simp] theorem outer_admission (l : Lane) (r : LoafRecord) (s : State) : (admission l r s).outer = s.outer := by
  simp only [admission]; (repeat' split) <;> simp
@[simp] theorem outer_admitIfReady (l : Lane) (s : State) : (admitIfReady l s).outer = s.outer := by
  simp only [admitIfReady]; (repeat' split) <;> simp
@[simp] theorem outer_infeedFollow (l : Lane) (s : State) : (infeedFollow l s).outer = s.outer := by
  simp only [infeedFollow]; (repeat' split) <;> simp
@[simp] theorem outer_endCycle (s : State) : (endCycle s).outer = s.outer := by
  simp only [endCycle]; (repeat' split) <;> simp
@[simp] theorem outer_startTwist (s : State) : (startTwist s).outer = s.outer := by
  simp only [startTwist]; (repeat' split) <;> simp
@[simp] theorem outer_enterTwist (s : State) : (enterTwist s).outer = s.outer := by
  simp only [enterTwist]; (repeat' split) <;> simp
@[simp] theorem outer_startTyer (s : State) : (startTyer s).outer = s.outer := by
  simp only [startTyer]; (repeat' split) <;> simp
@[simp] theorem outer_endPurge (s : State) : (endPurge s).outer = s.outer := by
  simp only [endPurge]; (repeat' split) <;> simp
@[simp] theorem outer_enterClip (s : State) : (enterClip s).outer = s.outer := by
  simp only [enterClip]; (repeat' split) <;> simp
@[simp] theorem outer_completeTie (s : State) : (completeTie s).outer = s.outer := by
  simp only [completeTie]; (repeat' split) <;> simp
@[simp] theorem outer_tieIfHome (s : State) : (tieIfHome s).outer = s.outer := by
  simp only [tieIfHome]; (repeat' split) <;> simp
@[simp] theorem outer_enterHomeWait (s : State) : (enterHomeWait s).outer = s.outer := by
  simp only [enterHomeWait]; (repeat' split) <;> simp
@[simp] theorem outer_jamTyer (s : State) : (jamTyer s).outer = s.outer := by
  simp only [jamTyer]; (repeat' split) <;> simp
@[simp] theorem outer_handoff (s : State) : (handoff s).outer = s.outer := by
  simp only [handoff]; (repeat' split) <;> simp
@[simp] theorem outer_bagCheck (s : State) : (bagCheck s).outer = s.outer := by
  simp only [bagCheck]; (repeat' split) <;> simp
@[simp] theorem outer_startRoute (s : State) : (startRoute s).outer = s.outer := by
  simp only [startRoute]; (repeat' split) <;> simp
@[simp] theorem outer_startHoming (l : Lane) (s : State) : (startHoming l s).outer = s.outer := by
  simp only [startHoming]; (repeat' split) <;> simp
@[simp] theorem outer_selectLane (l : Lane) (r : LoafRecord) (s : State) : (selectLane l r s).outer = s.outer := by
  simp only [selectLane]; (repeat' split) <;> simp
@[simp] theorem outer_selectIfReady (s : State) : (selectIfReady s).outer = s.outer := by
  simp only [selectIfReady]; (repeat' split) <;> simp
@[simp] theorem outer_startStroke (s : State) : (startStroke s).outer = s.outer := by
  simp only [startStroke]; (repeat' split) <;> simp
@[simp] theorem outer_flapSettled (s : State) : (flapSettled s).outer = s.outer := by
  simp only [flapSettled]; (repeat' split) <;> simp
@[simp] theorem outer_openingOver (s : State) : (openingOver s).outer = s.outer := by
  simp only [openingOver]; (repeat' split) <;> simp
@[simp] theorem outer_startRetract (s : State) : (startRetract s).outer = s.outer := by
  simp only [startRetract]; (repeat' split) <;> simp
@[simp] theorem outer_endExtend (l : Lane) (s : State) : (endExtend l s).outer = s.outer := by
  simp only [endExtend]; (repeat' split) <;> simp
@[simp] theorem outer_freeRejected (s : State) : (freeRejected s).outer = s.outer := by
  simp only [freeRejected]; (repeat' split) <;> simp
@[simp] theorem outer_strokeDone (s : State) : (strokeDone s).outer = s.outer := by
  simp only [strokeDone]; (repeat' split) <;> simp
@[simp] theorem outer_motionHome (l : Lane) (s : State) : (motionHome l s).outer = s.outer := by
  simp only [motionHome]; (repeat' split) <;> simp
@[simp] theorem outer_pusherHome (l : Lane) (s : State) : (pusherHome l s).outer = s.outer := by
  simp only [pusherHome]; (repeat' split) <;> simp
@[simp] theorem outer_strokeStopped (s : State) : (strokeStopped s).outer = s.outer := by
  simp only [strokeStopped]; (repeat' split) <;> simp
@[simp] theorem outer_homingFailed (s : State) : (homingFailed s).outer = s.outer := by
  simp only [homingFailed]; (repeat' split) <;> simp
@[simp] theorem outer_endStopped (s : State) : (endStopped s).outer = s.outer := by
  simp only [endStopped]; (repeat' split) <;> simp
@[simp] theorem outer_bagConfirmed (s : State) : (bagConfirmed s).outer = s.outer := by
  have h : ∀ c (f : MergeBag → MergeBag) (t : State), (when c (State.onMbc f) t).outer = t.outer := by
    intro c f t; cases c <;> rfl
  simp [bagConfirmed, h]
@[simp] theorem outer_bagMissed (s : State) : (bagMissed s).outer = s.outer := by
  simp only [bagMissed]; (repeat' split) <;> simp
@[simp] theorem outer_endBlast (s : State) : (endBlast s).outer = s.outer := by
  simp only [endBlast]; (repeat' split) <;> simp
@[simp] theorem outer_abandonBagger (s : State) : (abandonBagger s).outer = s.outer := by
  simp only [abandonBagger]; (repeat' split) <;> simp
@[simp] theorem outer_abandonTyer (s : State) : (abandonTyer s).outer = s.outer := by
  simp only [abandonTyer]; (repeat' split) <;> simp
@[simp] theorem outer_requestJob (j : Job) (s : State) : (requestJob j s).outer = s.outer := by
  cases h : s.rs.writer <;> simp [requestJob, State.onRs, State.outer, RecordStore.begin, h]
@[simp] theorem outer_failureFault (k : JobKind) (done : Bool) (s : State) : (failureFault k done s).outer = s.outer := by
  simp only [failureFault]; (repeat' split) <;> simp
@[simp] theorem outer_requestCheckpoint (s : State) : (requestCheckpoint s).outer = s.outer := by
  simp only [requestCheckpoint]; (repeat' split) <;> simp
@[simp] theorem outer_restoreSelection (l : Lane) (slot : Option Nat) (s : State) : (restoreSelection l slot s).outer = s.outer := by
  simp only [restoreSelection]; (repeat' split) <;> simp
@[simp] theorem outer_scanRestores (s : State) : (scanRestores s).outer = s.outer := by
  simp only [scanRestores]; (repeat' split) <;> simp
@[simp] theorem outer_changeLine (new : LineState) (s : State) : (changeLine new s).outer = s.outer := by
  simp only [changeLine]; (repeat' split) <;> simp
@[simp] theorem outer_leaveHold (s : State) : (leaveHold s).outer = s.outer := by
  simp only [leaveHold]; (repeat' split) <;> simp
@[simp] theorem outer_crumbEntry (was : LineState) (s : State) : (crumbEntry was s).outer = s.outer := by
  simp only [crumbEntry]; (repeat' split) <;> simp
@[simp] theorem outer_enterStop (s : State) : (enterStop s).outer = s.outer := by
  simp only [enterStop]; (repeat' split) <;> simp
@[simp] theorem outer_enterStandby (s : State) : (enterStandby s).outer = s.outer := by
  simp only [enterStandby]; (repeat' split) <;> simp
@[simp] theorem outer_enterSpinUp (s : State) : (enterSpinUp s).outer = s.outer := by
  simp only [enterSpinUp]; (repeat' split) <;> simp
@[simp] theorem outer_enterRun (s : State) : (enterRun s).outer = s.outer := by
  simp only [enterRun]; (repeat' split) <;> simp
@[simp] theorem outer_enterDrain (s : State) : (enterDrain s).outer = s.outer := by
  simp only [enterDrain]; (repeat' split) <;> simp
@[simp] theorem outer_enterHold (back : LineState) (s : State) : (enterHold back s).outer = s.outer := by
  simp only [enterHold]; (repeat' split) <;> simp
@[simp] theorem outer_stopIfFaulted (s : State) : (stopIfFaulted s).outer = s.outer := by
  simp only [stopIfFaulted]; (repeat' split) <;> simp
@[simp] theorem outer_runIfSpun (s : State) : (runIfSpun s).outer = s.outer := by
  simp only [runIfSpun]; (repeat' split) <;> simp
@[simp] theorem outer_standbyIfDrained (s : State) : (standbyIfDrained s).outer = s.outer := by
  simp only [standbyIfDrained]; (repeat' split) <;> simp
@[simp] theorem outer_advanceLine (s : State) : (advanceLine s).outer = s.outer := by
  simp only [advanceLine]; (repeat' split) <;> simp
@[simp] theorem outer_flow (s : State) : (flow s).outer = s.outer := by
  simp only [flow]; (repeat' split) <;> simp
@[simp] theorem outer_settle (s : State) : (settle s).outer = s.outer := by
  simp only [settle]; (repeat' split) <;> simp

end Sys2Proof.Machine
end

