-- ==== Sys2Proof/Tests/Slice0.lean ====
section
/-! SUPPORT. Tests: the well-formedness check, one step of each kind of command on small states, and for each statement of
Certificates/Slice0/Obligations.lean that has hypotheses a state and operands that meet them. -/

namespace Sys2Proof.Tests

open Sys2Proof Sys2Proof.Machine

set_option maxRecDepth 4000

/-! ## Small states -/

/-- Reset values, in a line state. -/
def on (l : LineState) : State := State.reset.onLsc (fun c => { c with line := l })

/-- A recipe, and the fields that write it. -/
def fields : RecipeFields where
  code := 4120
  name := [0x52, 0x59, 0x45]
  nominal := 420
  tolerance := 20
  feed := 180
  crumb := 60
  blast := 400
  shelf := 5
  reject := 1

/-- A record as it stands in a zone. -/
def loaf (tag : Nat) (l : Lane) (arrived : Bool) (departure : Option Departure) : LoafRecord :=
  { newRecord tag l 420 0 with admitted := true, recipeSlot := some 0, arrived := arrived, departure := departure }

/-- A departure at position 0. -/
def gone (b : Belt) : Option Departure := some { belt := b, pos := 0 }

/-- Every belt at a position. -/
def beltsAt (p : Pos) (s : State) : State := s.onBeu (fun u => { u with position := ⟨p, p, p, p, p⟩ })

/-- An edge in flight. -/
def edge (e : Eye) (leading : Bool) (stamp : Pos) (s : State) : State :=
  s.onEu (fun u => { u with edges := [{ eye := e, leading := leading, stamp := stamp, length := 420 }] })

def entry (k : FaultKind) (subj : Subject) : FaultEntry where
  kind := k
  subject := subj
  day := 0
  second := 0
  clockValid := false
  seq := 0
  detail := none

/-- One entry presented. -/
def faulted (k : FaultKind) (subj : Subject) (s : State) : State := s.onFt (fun t => { t with stack := [entry k subj] })

/-- A number of queued replies. -/
def repliesIn (n : Nat) (s : State) : State := s.onMl (fun m => { m with replies := List.replicate n ⟨2, 0, 0, []⟩ })

/-- The next state of an outcome. -/
def after (o : Host.Outcome State Fault Refusal) : State :=
  match o with
  | .next t => t
  | _ => State.reset

/-- Whether an outcome is a next state. -/
def goesOn (o : Host.Outcome State Fault Refusal) : Bool :=
  match o with
  | .next _ => true
  | _ => false

/-- A lane that admits: its head at the gate, its closure set empty, slot 0 active. -/
def admitting (l : Lane) : State :=
  beltsAt 300 ((((on .run).onRt (fun rt => rt.set 0 (recipeOf fields))).onLane l (fun i => { i with
    enabled := true, blade := .ready, active := some 0
    closure := ⟨false, false, false, false, false, false, false, false⟩ })).onApproach l (fun _ =>
      [{ newRecord 1 l 420 0 with departure := gone (infeedBelt l) }]))

/-! ## Well-formedness -/

/-- A name of twelve bytes is carried. -/
theorem test_wellFormed_name_twelve :
    (Instr.recipeWrite 0 0 { fields with name := List.replicate 12 0x41 }).WellFormed = true := by decide

/-- A name of thirteen bytes is refused. -/
theorem test_wellFormed_refuses_long_name :
    (Instr.recipeWrite 0 0 { fields with name := List.replicate 13 0x41 }).WellFormed = false := by decide

/-- No row of the table gives bits, so no word spells a command. -/
theorem test_withFetchWord_keeps : State.withFetchWord State.reset 16 0x1234 = State.reset := by decide +kernel

/-! ## Values the spec writes out -/

/-- The CRC that R187 writes out. -/
theorem test_crc_identify : crc16 [2, 1, 7] = 0xE12A := by decide +kernel

/-- The frame that R187 writes out. -/
theorem test_frame_identify : frameOf 1 7 [] = [0xC5, 0x02, 0x01, 0x07, 0xE1, 0x2A] := by decide +kernel

/-- The two clip codes that R94 writes out. -/
theorem test_clip_codes :
    clipCode 45210 5 .a 1307 = [0x34, 0x35, 0x32, 0x31, 0x35, 0x41, 0x30, 0x37]
      ∧ clipCode 798 3 .b 40 = [0x30, 0x30, 0x38, 0x30, 0x31, 0x42, 0x34, 0x30] := by decide +kernel

/-- The ring of shift numbers: 1 follows 65535, and a number is not later than itself. -/
theorem test_ring : nextShift 65535 = 1 ∧ later 1 65535 = true ∧ later 65535 1 = false ∧ later 7 7 = false := by decide +kernel

/-- The verdicts at the four boundaries of 420 ± 20. -/
theorem test_verdicts :
    verdictOf 399 420 20 = .short ∧ verdictOf 400 420 20 = .ok ∧ verdictOf 440 420 20 = .ok ∧ verdictOf 441 420 20 = .long := by
  decide

/-- The eye with the default settings: BLOCKED below 128, CLEAR again at 140 (R31). -/
theorem test_eye_defaults :
    rawNext 128 12 127 false = true ∧ rawNext 128 12 128 false = false ∧ rawNext 128 12 139 true = true
      ∧ rawNext 128 12 140 true = false ∧ rawNext 250 31 254 true = true ∧ rawNext 250 31 255 true = false := by decide

/-- Distances wrap (section 1.5). -/
theorem test_distance : Machine.dist 0xFFFFFFFE 3 = 5 ∧ Machine.dist 3 0xFFFFFFFE = -5 := by decide +kernel

/-! ## One step -/

/-- The start-up scan of a never written array opens shift 1 in STANDBY (R171, R190). -/
theorem test_startUpScanComplete :
    (after (exec .startUpScanComplete State.reset)).lsc.line = .standby
      ∧ (after (exec .startUpScanComplete State.reset)).tu.live.shift = 1
      ∧ ReportKey.startup ∈ (after (exec .startUpScanComplete State.reset)).ml.reports := by decide +kernel

/-- A request before the end of the start-up scan is refused with STARTING (R179). -/
theorem test_starting :
    (after (exec (.status 5) State.reset)).ml.replies = [⟨2, 5, 11, []⟩] := by decide +kernel

/-- SENSOR_READ before any result (R45). -/
theorem test_sensorRead :
    (after (exec (.sensorRead 5 4) (on .standby))).ml.replies = [⟨0x48, 5, 0, [0, 0, 0xFF, 0xFF]⟩] := by decide +kernel

/-- CLOCK_SET at the last second of a day, and the tick that ends the day (R163, R164). -/
theorem test_clock :
    (after (exec (.clockSet 5 65535 86399) (on .standby))).cal = ⟨65535, 86399, 0, true⟩
      ∧ (after (exec .calendarTick (after (exec (.clockSet 5 65535 86399) (on .standby))))).cal = ⟨0, 0, 0, true⟩ := by
  decide +kernel

/-- An unset Calendar refuses LINE_START (R125). -/
theorem test_lineStart_clock_unset :
    (after (exec (.lineStart 5) (on .standby))).ml.replies = [⟨0x20, 5, 9, [1, 0]⟩] := by decide +kernel

/-- Both lanes disabled count as spun: LINE_START passes through SPIN_UP to RUN (R124 to R126). -/
theorem test_lineStart_runs :
    (after (exec (.lineStart 5) ((on .standby).onCal (fun c => { c with valid := true })))).lsc.line = .run := by decide +kernel

/-- CONFIG_SET keeps the pairing of U and L (R186). -/
theorem test_configSet_pairing :
    ((after (exec (.configSet 5 10 0 9) (on .standby))).ml.replies.map Reply.status) = [3]
      ∧ ((after (exec (.configSet 5 9 0 9) (on .standby))).ml.replies.map Reply.status) = [0] := by decide +kernel

/-- RECIPE_WRITE names its first bad field (R49). -/
theorem test_recipeWrite_bad_field :
    (after (exec (.recipeWrite 5 3 { fields with nominal := 149 }) (on .standby))).ml.replies = [⟨0x18, 5, 3, [3]⟩] := by
  decide +kernel

/-- The admission of a loaf of 420 mm (R69). -/
theorem test_headAtGate :
    (after (exec (.headAtGate .a) (admitting .a))).tu.live.line.admitted = 1
      ∧ (after (exec (.headAtGate .a) (admitting .a))).dou.gate.a = true
      ∧ (after (exec (.headAtGate .a) (admitting .a))).cc.a.estimate = 60
      ∧ ((after (exec (.headAtGate .a) (admitting .a))).tt.blade.a.map LoafRecord.verdict) = some (some .ok) := by decide +kernel

/-- A forward count of the encoder, and an illegal transition (R36, R37). -/
theorem test_encoderCount :
    let s := ((on .run).onParams (fun p => { p with scale := p.scale.upd .outfeed (fun _ => 100) })).onBeu
      (fun u => { u with pair := u.pair.upd .outfeed (fun _ => some (false, false)) })
    (after (exec (.encoderCount .outfeed true false) s)).beu.position.outfeed = 1
      ∧ (after (exec (.encoderCount .outfeed false true) s)).beu.position.outfeed = 0xFFFFFFFF
      ∧ (after (exec (.encoderCount .outfeed true true) s)).beu.position.outfeed = 0 := by decide +kernel

/-- A tension below T_break with the blade READY stops the line (R46, R130). -/
theorem test_bladeBreak :
    let s := ((on .run).onLane .a (fun i => { i with enabled := true, blade := .ready })).onSc (fun c => { c with inFlight := some .tna })
    (after (exec (.conversionComplete 100) s)).lsc.line = .stop
      ∧ ((after (exec (.conversionComplete 100) s)).ft.stack.map FaultEntry.kind) = [.bladeBreak] := by decide +kernel

/-- An open guard in RUN stops the line (R130, R137). -/
theorem test_safetySample :
    (after (exec (.safetySample false true) (on .run))).lsc.line = .stop
      ∧ level .outfeed (after (exec (.safetySample false true) (on .run))) = false := by decide +kernel

/-- A bag miss loses the record (R89). -/
theorem test_bagMiss :
    let s := ((on .run).onMbc (fun m => { m with bagger := .confirm, confirmWatch := some 0, selected := some (.a, 7), route := some .bag })).onTt
      (fun t => { t with bagger := some (loaf 7 .a false none) })
    (after (exec .bagConfirmWatchRunOut s)).records = []
      ∧ (after (exec .bagConfirmWatchRunOut s)).tu.live.line.lost = 1
      ∧ ((after (exec .bagConfirmWatchRunOut s)).ft.stack.map FaultEntry.detail) = [some 7] := by decide +kernel

/-- A tie: the record goes to EXIT with its clip code (R95). -/
theorem test_tie :
    let s := ((on .run).onTsc (fun t => { t with tyer := .homeWait, leftHome := true, code := some [1], tieTimer := some 100 })).onTt
      (fun t => { t with tyer := some (loaf 7 .a false none) })
    ((after (exec (.tyerHomeSwitchChange true) s)).tt.exit.map LoafRecord.clipCode) = [some [1]]
      ∧ (after (exec (.tyerHomeSwitchChange true) s)).tsc.tiesSincePurge = 1 := by decide +kernel

/-- A close at shift 65535 opens shift 1 and starts the writer (R161, R167). -/
theorem test_shiftClose :
    let s := ((on .hold).onCal (fun c => { c with valid := true })).onTu (fun t => { t with live := { t.live with shift := 65535 } })
    (after (exec (.shiftClose 5) s)).ml.replies = [⟨0x41, 5, 0, [0xFF, 0xFF, 0, 1, 0]⟩]
      ∧ ((after (exec (.shiftClose 5) s)).rs.writer.map JobInProgress.area) = some 0 := by decide +kernel

/-- An erased page program writes nothing that is listed, and a written byte is (R165). -/
theorem test_page :
    let s := (on .standby).onRs (fun r => { r with writer := some { job := { kind := .recipes, number := none, content := [9] }, area := 25, programs := 1 } })
    (after (exec (.pageProgramComplete true) s)).rs.cells = [(401 * 64, 9)] := by decide +kernel

/-- A frame's bytes make the assembler whole and the dispatcher answer (R176, R179). -/
theorem test_identify_by_bytes :
    (((after (exec .dispatchFrame ([0xC5, 0x02, 0x01, 0x07, 0xE1, 0x2A].foldl (fun s b =>
        after (exec .assemblerTakesByte (after (exec (.byteReceived b true) s)))) State.reset))).ml.replies).map
          (fun r => (r.type, r.token, r.status))) = [(1, 7, 0)] := by decide +kernel

/-- Of two faults the more urgent is presented and the other is interrupted (R146). -/
theorem test_faults :
    ((raiseFault .tyerJam .out none (raiseFault .bagsLow .out none (on .run))).ft.stack.map FaultEntry.kind) = [.tyerJam, .bagsLow]
      ∧ ((raiseFault .bagsLow .out none (raiseFault .tyerJam .out none (on .run))).ft.waiting.map FaultEntry.kind) = [.bagsLow] := by
  decide +kernel

/-- A crumb level at L_clear in RUN requests a clear, which takes its gap at once and finds its channel free (R106 to R110). -/
theorem test_crumbClear :
    let s := (on .run).onSc (fun c => { c with inFlight := some .cra })
    (after (exec (.conversionComplete 700) s)).cc.a.cycle = .blowing
      ∧ (after (exec (.conversionComplete 700) s)).dou.knife.a = true
      ∧ (after (exec (.conversionComplete 700) s)).ama.holder.air1 = some .kna := by decide +kernel

/-! ## States that meet the hypotheses of the statements -/

/-- Serves requests. -/
def ready : State := on .standby

theorem test_meets_IdleBlock :
    (State.reset.pending = [] ∧ dueEvents State.reset = [])
      ∧ (State.reset.onSc (fun c => { c with timer := 0 })).pending = []
      ∧ dueEvents (State.reset.onSc (fun c => { c with timer := 0 })) ≠ [] := by decide +kernel

/-- A state with the array's writer at work. -/
def writing (kind : JobKind) (area programs : Nat) (content : List Byte) : State :=
  ready.onRs (fun r => { r with writer := some { job := { kind := kind, number := some 1, content := content }, area := area, programs := programs } })

theorem test_meets_ResetLeavesTheResetValues :
    (on .run).rs.writer = none ∧ (writing .checkpoint 24 0 []).rs.writer ≠ none
      ∧ arraySafe (writing .checkpoint 24 0 []) = true ∧ (writing .checkpoint 24 16 []).rs.writer ≠ none
      ∧ arraySafe (writing .checkpoint 24 16 []) = true := by decide +kernel

/-- Every zone, queue and pusher at a bound: nine in ACCUM of A, eight and one in BLADE in B, four in APPROACH, three in EXIT,
four replies, a full FIFO, a valve that waits. -/
def atBounds : State :=
  let s := { on .hold with pending := [.lineTimeSecond .hold] }
  let s := s.onTt (fun t => { t with
    approach := ⟨List.replicate 4 (loaf 1 .a false none), []⟩, accum := ⟨List.replicate 9 (loaf 2 .a false none), List.replicate 8 (loaf 3 .b false none)⟩
    blade := ⟨none, some (loaf 4 .b false none)⟩, exit := List.replicate 3 (loaf 5 .a false none) })
  let s := s.onLic (fun _ => ⟨{ LaneInfeed.reset with accFull := true, closure := { LaneInfeed.reset.closure with accFull := true } },
    { LaneInfeed.reset with accFull := true, closure := { LaneInfeed.reset.closure with accFull := true, bladeOccupied := true } }⟩)
  let s := s.onMl (fun m => { m with fifo := List.replicate 256 0, replies := List.replicate 4 ⟨2, 0, 0, []⟩, reports := [.lineState, .faultChange] })
  let s := (s.onPusher .a (fun p => { p with waiting := some .retract })).onPusher .b (fun p => { p with extendOn := true })
  let s := (s.onCrumb .a (fun c => { c with cycle := .blowing })).onDou (fun d => { d with knife := ⟨true, false⟩, shaker := ⟨true, false⟩ })
  let s := (s.onCrumb .b (fun c => { c with cycle := .airWait })).onAma (fun a => { a with waiting := { a.waiting with knb := some .air0 } })
  (s.onFt (fun t => { t with stack := [entry .tyerJam .out, entry .bagsLow .out], waiting := [entry .airLow .line] })).onRs
    (fun r => { r with cells := [(64, 0), (65, 1)] })

theorem test_meets_Invariants :
    goesOn (step atBounds) = true ∧ arraySafe atBounds = true ∧ linkSafe atBounds = true ∧ faultsSafe atBounds = true
      ∧ pushersSafe atBounds = true ∧ zonesSafe atBounds = true ∧ knivesSafe atBounds = true ∧ recipesSafe atBounds = true := by
  decide +kernel

/-- A closed shift of full counters. -/
def fullShift (entries : Nat) : ClosedShift where
  totals := { Totals.fresh 65535 with
    openTime := some ⟨65535, 86399⟩, carriedIn := 35, products := List.replicate entries { code := 65535, counters := { Counters.zero with lost := 4294967295 } },
    other := some Counters.zero }
  closeTime := ⟨65535, 86399⟩
  carriedOut := 35

theorem test_meets_StoredContentsReadBack :
    (List.replicate 16 (recipeOf fields)).length = 16 ∧ (List.replicate 16 (recipeOf fields)).all Recipe.stored = true
      ∧ (List.replicate 16 Recipe.empty).all Recipe.stored = true ∧ (fullShift 0).fits = true ∧ (fullShift 24).fits = true := by
  decide +kernel

theorem test_meets_AssemblerMakesAFrameWhole :
    (List.replicate 248 (0 : Byte)).length ≤ 248 ∧ State.reset.ml.assembler = .hunt := by decide +kernel

/-- A state whose assembler holds a frame. -/
def holding (kept : List Byte) (len : Byte) (s : State) : State := s.onMl (fun m => { m with assembler := .complete len kept })

theorem test_meets_FramesDispatchTheirRequests :
    (Instr.sensorRead 7 4).WellFormed = true ∧ requestFrame (.sensorRead 7 4) = some (0x48, 7, [4])
      ∧ (holding [0x48, 7, 4, 0, 0] 3 (repliesIn 3 ready)).ml.assembler = .complete 3 [0x48, 7, 4, 0, 0]
      ∧ (3 : Byte).toNat = [(4 : Byte)].length + 2 ∧ [0x48, 7, 4, (0 : Byte), 0].take (3 : Byte).toNat = [0x48, 7] ++ [4]
      ∧ (holding [0x48, 7, 4, 0, 0] 3 (repliesIn 3 ready)).ml.replies.length < 4 := by decide +kernel

/-- In the last clause the request is refused: a status that is not 0, of a request that is no SHIFT_READ. -/
theorem test_meets_EveryRequestIsAnswered :
    requestFrame (.lineHold 7) = some (0x21, 7, []) ∧ 4 ≤ (repliesIn 4 ready).ml.replies.length
      ∧ (repliesIn 3 ready).ml.replies.length < 4
      ∧ ((after (exec (.lineHold 7) ready)).ml.replies.map Reply.status) = [4]
      ∧ ((after (exec (.lineHold 7) (on .run))).ml.replies.map Reply.status) = [0] := by decide +kernel

theorem test_meets_DispatcherRefusesInOrder :
    requestFrame (.status 7) = some (2, 7, []) ∧ ready.ml.replies.length < 4
      ∧ (ready.onMl (fun m => { m with restartPending := true })).ml.restartPending = true
      ∧ (State.reset.ml.restartPending = false ∧ State.reset.lsc.line = .init ∧ (2 : Byte) ≠ 0x01)
      ∧ (holding [2, 7, 1, 0, 0] 3 ready).ml.assembler = .complete 3 ((2 : Byte) :: 7 :: [1] ++ [0, 0])
      ∧ (3 : Byte).toNat = [(1 : Byte)].length + 2 ∧ requestLengths.lookup 0x04 = none ∧ requestLengths.lookup 0x02 = some 0
      ∧ 4 ≤ (holding [2, 7, 1, 0, 0] 3 (repliesIn 4 ready)).ml.replies.length
      ∧ (holding [2, 7, 1, 0, 0] 3 ready).ml.replies.length < 4
      ∧ (holding [2, 7, 1, 0, 0] 3 ready).lsc.line ≠ .init ∧ [(1 : Byte)].length ≠ 0 := by decide +kernel

theorem test_meets_IdentifyAndSensorRead :
    (repliesIn 3 State.reset).ml.replies.length < 4 ∧ (repliesIn 3 State.reset).ml.restartPending = false
      ∧ State.reset.lsc.line = .init ∧ ready.lsc.line ≠ .init ∧ 4 < (5 : Byte).toNat
      ∧ [Channel.tna, .tnb, .airp, .cra, .crb][(4 : Byte).toNat]? = some .crb
      ∧ [Channel.tna, .tnb, .airp, .cra, .crb][(0 : Byte).toNat]? = some .tna
      ∧ goesOn (exec (.reset false true .beforeProgram) State.reset) = true := by decide +kernel

/-- A state for the queries: a record in EXIT, a product entry and the other entry, an empty stored record of shift 1 in slot 0
and one of shift 2 in slot 1 whose check value disagrees. -/
def queried : State :=
  let header : Header := { marker := .valid, number := some 1, length := 0, check := checkValue (some 1) [] }
  let s := (ready.onTt (fun t => { t with exit := [loaf 9 .a false none] })).onTu (fun t => { t with
    live := { t.live with products := [{ code := 1, counters := .zero }], other := some .zero } })
  s.onRs (fun r => { r with
    headers := (r.headers.set 0 header).set 1 { header with number := some 2, check := 0 }
    index := (r.index.set 0 { state := .valid, number := some 1 }).set 1 { state := .valid, number := some 2 } })

theorem test_meets_QueriesAnswerTheirTables :
    serves queried = true ∧ paramGet 30 3 queried.params = some 1 ∧ paramGet 30 4 queried.params = none
      ∧ (15 : Byte).toNat ≤ 15 ∧ 15 < (16 : Byte).toNat ∧ 1 ≤ (32 : Byte).toNat ∧ (32 : Byte).toNat ≤ 32 ∧ (0 : Byte).toNat = 0
      ∧ 32 < (33 : Byte).toNat ∧ zoneQueue 5 0 queried = some [loaf 9 .a false none] ∧ 5 < (6 : Byte).toNat
      ∧ ((2 : Byte).toNat ≤ 2 ∧ 1 < (2 : Byte).toNat) ∧ (9 : BitVec 16) ≠ 0
      ∧ queried.tt.locate (9 : BitVec 16).toNat = some (.exit, 1, loaf 9 .a false none)
      ∧ allocatedTag (8 : BitVec 16).toNat queried = false
      ∧ queried.tu.live.products[(1 : Byte).toNat - 1]? = some { code := 1, counters := .zero } ∧ queried.tu.live.other = some .zero
      ∧ 25 < (26 : Byte).toNat ∧ queried.tu.live.products.length < (2 : Byte).toNat
      ∧ (validSlot (1 : BitVec 16).toNat queried.rs.index = some 0 ∧ queried.rs.agrees 0 = true
        ∧ (shiftPart (0 : Byte).toNat (readShift 1 (queried.rs.content 0))).isSome = true)
      ∧ validSlot (3 : BitVec 16).toNat queried.rs.index = none
      ∧ (validSlot (2 : BitVec 16).toNat queried.rs.index = some 1 ∧ queried.rs.agrees 1 = false) := by decide +kernel

theorem test_meets_ClockSet :
    ready.ml.replies.length < 4 ∧ ready.ml.restartPending = false ∧ State.reset.lsc.line = .init ∧ ready.lsc.line ≠ .init
      ∧ 86399 < (86400 : BitVec 32).toNat ∧ (86399 : BitVec 32).toNat ≤ 86399 := by decide +kernel

theorem test_meets_RecipeWriteAndSave :
    serves ready = true ∧ 15 < (16 : Byte).toNat ∧ (15 : Byte).toNat ≤ 15 ∧ slotInUse 15 ready = false
      ∧ slotInUse 3 (ready.onLane .a (fun i => { i with active := some 3 })) = true ∧ fields.code ≠ 0
      ∧ (fields.name.length ≤ 12 ∧ (∀ c ∈ fields.name, 0x20 ≤ c.toNat ∧ c.toNat ≤ 0x7E))
      ∧ (150 ≤ fields.nominal.toNat ∧ fields.nominal.toNat ≤ 600 ∧ 5 ≤ fields.tolerance.toNat ∧ fields.tolerance.toNat ≤ 60
        ∧ 50 ≤ fields.feed.toNat ∧ fields.feed.toNat ≤ 400 ∧ 100 ≤ fields.blast.toNat ∧ fields.blast.toNat ≤ 1500
        ∧ 1 ≤ fields.shelf.toNat ∧ fields.shelf.toNat ≤ 30 ∧ fields.reject.toNat ≤ 1)
      ∧ firstBadField { fields with shelf := 31 } = some 8 := by decide +kernel

theorem test_meets_ShiftClose :
    (ready.ml.replies.length < 4 ∧ ready.ml.restartPending = false ∧ ready.cal.valid = false ∧ ready.lsc.line ≠ .init)
      ∧ ready.tu.closeBuffer = none ∧ (ready.onTu (fun t => { t with closeBuffer := some (fullShift 0) })).tu.closeBuffer ≠ none
      ∧ (ready.onCal (fun c => { c with valid := true })).cal.valid = true
      ∧ goesOn (exec (.shiftClose 7) ready) = true
      ∧ ready.tu.live.carriedIn + ready.tu.live.line.admitted
        = ready.tu.live.line.bagged + ready.tu.live.line.rejected + ready.tu.live.line.lost + admittedCount ready := by decide +kernel

theorem test_meets_ConfigSet :
    serves ready = true ∧ paramGet 31 0 ready.params = none
      ∧ (paramGet 12 0 (on .run).params ≠ none ∧ standbyOnly 12 = true ∧ (on .run).lsc.line ≠ .standby)
      ∧ (paramGet 12 0 ready.params ≠ none ∧ ready.lsc.line = .standby)
      ∧ paramOk 12 0 19 ready.params = false ∧ paramOk 12 0 20 ready.params = true ∧ paramOk 12 0 400 ready.params = true
      ∧ paramOk 12 0 401 ready.params = false ∧ paramOk 30 1 2 ready.params = false ∧ paramOk 30 2 2 ready.params = true := by
  decide +kernel

/-- Slot 0 holds a recipe and lane A runs it. -/
def selecting : State := (ready.onRt (fun rt => rt.set 0 (recipeOf fields))).onLane .a (fun i => { i with active := some 0 })

theorem test_meets_LaneSelect :
    serves selecting = true ∧ 1 < (2 : Byte).toNat ∧ 15 < (16 : Byte).toNat ∧ laneOf 0 = some .a ∧ laneOf 1 = some .b
      ∧ (recipeAt 1 selecting).code = 0 ∧ (recipeAt 0 selecting).code ≠ 0
      ∧ ((selecting.lic.get .a).active = some (0 : Byte).toNat ∧ (selecting.lic.get .a).pendingSel = none)
      ∧ (selecting.lic.get .b).active ≠ some (0 : Byte).toNat := by decide +kernel

theorem test_meets_TheLine :
    (serves (on .standby) = true ∧ serves (on .spinUp) = true ∧ serves (on .run) = true ∧ serves (on .hold) = true
      ∧ serves (on .drain) = true ∧ serves (on .stop) = true)
      ∧ stopFault (faulted .guardOpen .line (on .standby)) = true ∧ stopFault (faulted .guardOpen .line (on .stop)) = true
      ∧ stopFault (on .standby) = false ∧ stopFault (on .run) = false ∧ stopFault (on .drain) = false ∧ stopFault (on .hold) = false
      ∧ stopFault (on .stop) = false ∧ (on .standby).cal.valid = false
      ∧ ((on .standby).onCal (fun c => { c with valid := true })).cal.valid = true
      ∧ (((on .standby).onLane .a (fun i => { i with enabled := true })).lic.get .a).enabled = true
      ∧ ((on .standby).lic.get .a).blade = .off
      ∧ (on .stop).lsc.returnState = none ∧ (on .stop).lsc.holdHost = false ∧ (on .stop).tu.live.line.rejected + 2 < 4294967296
      ∧ (on .stop).tu.live.line.lost ≤ 4294967295 ∧ (on .stop).rs.writer = none
      ∧ ((on .hold).onRs (fun r => { r with writer := (writing .recipes 25 0 []).rs.writer })).rs.writer ≠ none := by decide +kernel

theorem test_meets_LaneEnable :
    serves (on .run) = true ∧ 1 < (2 : Byte).toNat ∧ laneOf 1 = some .b ∧ (1 : Byte).toNat ≤ 1
      ∧ ((on .run).lic.get .b).enabled = ((0 : Byte) == 1) ∧ ((on .run).lic.get .b).enabled ≠ ((1 : Byte) == 1)
      ∧ (on .run).lsc.line = .run ∧ stopFault (on .run) = false ∧ ((on .run).lic.get .b).blade = .off := by decide +kernel

/-- The bagger waits for bags, the tyer for clips. -/
def waiting : State :=
  let s := (on .run).onMbc (fun m => { m with bagger := .select, route := some .bag, selected := some (.a, 1) })
  s.onTsc (fun t => { t with tyer := .twist })

theorem test_meets_MagazineLoad :
    serves waiting = true ∧ 1 < (2 : Byte).toNat ∧ 9999 < (10000 : BitVec 16).toNat ∧ (9999 : BitVec 16).toNat ≤ 9999
      ∧ (on .run).mbc.bagger ≠ .select ∧ (waiting.mbc.bagger = .select ∧ waiting.mbc.route = some .bag ∧ waiting.mbc.phase = .none)
      ∧ (9999 : BitVec 16) ≠ 0 ∧ standing .bagsOut .out (raiseFault .bagsOut .out none (on .run)) = true
      ∧ (raiseFault .bagsOut .out none (on .run)).ft.causes.bagsOut = true
      ∧ (raiseFault .bagsOut .out none (on .run)).mbc.bagger ≠ .select
      ∧ (on .run).tsc.tyer ≠ .twist ∧ (waiting.tsc.tyer = .twist ∧ waiting.tsc.phaseTimer = none ∧ waiting.lsc.line ≠ .stop) := by
  decide +kernel

/-- A jammed record in TYER. -/
def jammed (l : LineState) (clips : Nat) : State :=
  ((on l).onTt (fun t => { t with tyer := some { loaf 6 .a false none with jammed := true } })).onTsc (fun t => { t with clipCount := clips })

theorem test_meets_TyerResolve :
    serves (jammed .run 1) = true ∧ 1 < (2 : Byte).toNat ∧ (1 : Byte).toNat ≤ 1 ∧ (on .run).tt.tyer.any LoafRecord.jammed = false
      ∧ (jammed .hold 1).tt.tyer.any LoafRecord.jammed = true ∧ producing (jammed .hold 1) = false ∧ serves (jammed .hold 1) = true
      ∧ ((jammed .run 1).tt.tyer = some { loaf 6 .a false none with jammed := true } ∧ producing (jammed .run 1) = true
        ∧ (jammed .run 1).pins.tyerHome = true)
      ∧ 0 < (jammed .run 1).tsc.clipCount ∧ (jammed .run 0).tsc.clipCount = 0 := by decide +kernel

theorem test_meets_FaultClear :
    serves ready = true ∧ ready.ft.stack = [] ∧ (faulted .baggerJam .out ready).ft.stack = [entry .baggerJam .out]
      ∧ (raiseFault .airLow .line none ready).ft.stack = [entry .airLow .line]
      ∧ (raiseFault .airLow .line none ready).ft.causes.get .airLow .line = true
      ∧ (faulted .lostLoaf .a ready).ft.stack = [entry .lostLoaf .a]
      ∧ (faulted .lostLoaf .a ready).ft.causes.get .lostLoaf .a = false
      ∧ (faulted .baggerJam .out ready).ft.causes.get .baggerJam .out = false := by decide +kernel

/-- The receiver with a FIFO and an assembler. -/
def receiving (fifo : List Byte) (a : Assembler) (gap : Machine.Timer) : State :=
  State.reset.onMl (fun m => { m with fifo := fifo, assembler := a, gap := gap })

theorem test_meets_ReceiverFollowsItsTables :
    (receiving (List.replicate 255 0) .hunt none).ml.fifo.length < 256 ∧ 256 ≤ (receiving (List.replicate 256 0) .hunt none).ml.fifo.length
      ∧ (receiving [] .hunt none).ml.fifo = [] ∧ (receiving [0xC5] .hunt none).ml.fifo = [0xC5] ∧ (0xC4 : Byte) ≠ 0xC5
      ∧ (2 ≤ (2 : Byte).toNat ∧ (250 : Byte).toNat ≤ 250 ∧ (1 : Byte).toNat < 2 ∧ 250 < (251 : Byte).toNat)
      ∧ (receiving [2] .length (some 20)).ml.assembler = .length
      ∧ [(1 : Byte), 7].length + 1 < (2 : Byte).toNat + 2 ∧ [(1 : Byte), 7, 0xE1].length + 1 = (2 : Byte).toNat + 2
      ∧ ([(1 : Byte), 7, 0xE1] ++ [0x2A]).drop 2 = u16 (crc16 ((2 : Byte) :: [(1 : Byte), 7, 0xE1].take 2)).toNat
      ∧ ([(1 : Byte), 7, 0xE1] ++ [0x2B]).drop 2 ≠ u16 (crc16 ((2 : Byte) :: [(1 : Byte), 7, 0xE1].take 2)).toNat
      ∧ ((receiving [] (.body 2 [1]) (some 0)).ml.gap ≠ none ∧ (receiving [] (.body 2 [1]) (some 0)).ml.fifo = [])
      ∧ (receiving [] .length none).ml.gap = none := by decide +kernel

/-- The transmitter's three cases, with a reply of an accepted RESTART and one of another request. -/
def sending (tx : Option TxFrame) (replies : List Reply) (reports : List ReportKey) : State :=
  ready.onMl (fun m => { m with tx := tx, replies := replies, reports := reports })

theorem test_meets_TransmitterSendsInOrder :
    (ready.ml.tx = none ∧ ready.ml.replies = [] ∧ ready.ml.reports = [])
      ∧ (sending none [⟨2, 0, 0, []⟩] [.lineState]).ml.replies = [⟨2, 0, 0, []⟩]
      ∧ ((sending none [] [.linkNotice .crc]).ml.tx = none ∧ (sending none [] [.linkNotice .crc]).ml.replies = []
        ∧ (sending none [] [.linkNotice .crc]).ml.reports = [.linkNotice .crc])
      ∧ (sending (some ⟨false, []⟩) [] []).ml.tx = some ⟨false, []⟩
      ∧ ((sending (some ⟨true, []⟩) [⟨3, 0, 0, []⟩] []).ml.tx = some ⟨true, []⟩
        ∧ (sending (some ⟨true, []⟩) [⟨3, 0, 0, []⟩] []).ml.replies = [⟨3, 0, 0, []⟩])
      ∧ (sending (some ⟨true, []⟩) [⟨3, 0, 4, []⟩] []).ml.replies = [⟨3, 0, 4, []⟩]
      ∧ (serves (on .run) = true ∧ (on .run).lsc.line ≠ .standby) ∧ (ready.rs.busy = false ∧ serves ready = true)
      ∧ ((writing .recipes 25 0 []).rs.busy = true ∧ (writing .recipes 25 0 []).lsc.line = .standby) := by decide +kernel

/-- An eye channel that has been sampled, with a pending change. -/
def changing (e : Eye) (raw : Bool) : State :=
  beltsAt 4 (ready.onEye e (fun c => { c with sampled := true, raw := raw, debounced := !raw, change := some ⟨0, 0⟩ }))

theorem test_meets_EyesAndBelts :
    (ready.eu.channels.get .ca).sampled = false ∧ ((changing .ca true).eu.channels.get .ca).sampled = true
      ∧ (ready.eu.channels.get .ca).change = none ∧ ((changing .ca true).eu.channels.get .ca).change = some ⟨0, 0⟩
      ∧ ((changing .ca true).eu.channels.get .ca).raw ≠ ((changing .ca true).eu.channels.get .ca).debounced
      ∧ (changing .ca true).params.debounce.get .ca ≤ (Machine.dist 0 (position (eyeBelt .ca) (changing .ca true))).natAbs
      ∧ ¬((beltsAt 3 (changing .ca true)).params.debounce.get .ca
        ≤ (Machine.dist 0 (position (eyeBelt .ca) (beltsAt 3 (changing .ca true)))).natAbs)
      ∧ ready.beu.pair.get .accumA = none
      ∧ (ready.params.scale.get .accumA ≤ 900 + 100 ∧ 899 + 100 < ready.params.scale.get .accumA ∧ 99 < 100 ∧ 100 ≤ 100) := by
  decide +kernel

/-- A conversion in flight, with the blades READY. -/
def converting (c : Channel) (l : LineState) : State :=
  ((on l).onSc (fun x => { x with inFlight := some c })).onLic (fun p => ⟨{ p.a with blade := .ready }, { p.b with blade := .ready }⟩)

theorem test_meets_ScanConverter :
    ready.sc.inFlight = none ∧ (converting .airp .run).sc.inFlight = some .airp
      ∧ ((399 : BitVec 10).toNat < (converting .airp .run).params.pMin ∧ ¬(400 : BitVec 10).toNat < (converting .airp .run).params.pMin)
      ∧ (Channel.cra = crumbChannel .a ∧ (converting .cra .run).lsc.line ≠ .init
        ∧ (converting .cra .run).params.lOver ≤ (900 : BitVec 10).toNat)
      ∧ Channel.tnb = tensionChannel .b ∧ ((converting .tnb .run).lic.get .b).blade = .ready
      ∧ (149 : BitVec 10).toNat < (converting .tnb .run).params.tBreak ∧ (converting .tnb .run).params.tBreak ≤ (150 : BitVec 10).toNat
      ∧ (299 : BitVec 10).toNat < (converting .tnb .run).params.tLow := by decide +kernel

/-- An edge of an infeed eye. -/
def arriving (l : LineState) (n : Nat) : State :=
  edge .ia false 7 ((on l).onApproach .a (fun _ => List.replicate n (loaf 1 .a false none)))

theorem test_meets_InfeedTrailingEdge :
    nextEdge (infeedEye .a) (arriving .run 3) = some ⟨.ia, false, 7, 420⟩ ∧ takesEdges (arriving .standby 3) = false
      ∧ takesEdges (arriving .run 3) = true ∧ ((arriving .run 3).tt.approach.get .a).length < 4 ∧ (arriving .run 3).records.length ≤ 35
      ∧ (1 ≤ (arriving .run 3).tt.nextTag ∧ (arriving .run 3).tt.nextTag ≤ 65535)
      ∧ allocatedTag (arriving .run 0).tt.nextTag (arriving .run 0) = false
      ∧ nextEdge (infeedEye .a) (arriving .run 4) = some ⟨.ia, false, 7, 420⟩ ∧ 4 ≤ ((arriving .run 4).tt.approach.get .a).length := by
  decide +kernel

/-- An edge at the slicer eye of lane A, with what stands in BLADE. -/
def slicing (leading : Bool) (stamp : Pos) (blade : Option LoafRecord) : State :=
  edge .ca leading stamp ((on .run).onBladeZone .a (fun _ => blade))

/-- The early limit is 900 − 120 mm. -/
theorem test_meets_SlicerEdges :
    nextEdge (eyeOf (slicerEye .a)) (slicing true 780 none) = some ⟨.ca, true, 780, 420⟩ ∧ takesEdges (slicing true 780 none) = true
      ∧ ((slicing true 780 (some (loaf 1 .a false (gone .infeedA)))).tt.blade.get .a = some (loaf 1 .a false (gone .infeedA))
        ∧ ((900 : Nat) : Int) - (120 : Nat) ≤ Machine.dist 0 780 ∧ ¬(((900 : Nat) : Int) - (120 : Nat) ≤ Machine.dist 0 779))
      ∧ (slicing true 780 none).tt.blade.get .a = none
      ∧ nextEdge (eyeOf (slicerEye .a)) (slicing false 5 none) = some ⟨.ca, false, 5, 420⟩
      ∧ ((slicing false 5 (some (loaf 1 .a true none))).tt.blade.get .a = some (loaf 1 .a true none)
        ∧ takesEdges (slicing false 5 (some (loaf 1 .a true none))) = true
        ∧ (slicing false 5 (some (loaf 1 .a true none))).tt.accum.get .a = [])
      ∧ (((slicing false 5 (some (loaf 1 .a true none))).onAccum .a (fun _ => [loaf 2 .a false none])).tt.accum.get .a) ≠ [] := by
  decide +kernel

/-- An edge at the merge eye of lane A, with what stands in ACCUM. -/
def merging (leading : Bool) (stamp : Pos) (accum : List LoafRecord) : State :=
  edge .ma leading stamp ((on .run).onAccum .a (fun _ => accum))

theorem test_meets_MergeEdges :
    nextEdge (eyeOf (mergeEye .a)) (merging true 0 []) = some ⟨.ma, true, 0, 420⟩ ∧ takesEdges (merging true 0 []) = true
      ∧ (merging true 0 [loaf 1 .a false (gone .accumA)]).tt.accum.get .a = [loaf 1 .a false (gone .accumA)]
      ∧ 0 ≤ Machine.dist 0 0 ∧ Machine.dist 0 0xFFFFFFFF < 0 ∧ (merging true 0 []).tt.accum.get .a = []
      ∧ nextEdge (eyeOf (mergeEye .a)) (merging false 5 []) = some ⟨.ma, false, 5, 420⟩
      ∧ ((merging false 5 [loaf 1 .a false none]).tt.accum.get .a = [loaf 1 .a false none]
        ∧ eyeBlocked (eyeOf (mergeEye .a)) ((merging false 5 [loaf 1 .a false none]).onEu (fun u => { u with edges := [] })) = false)
      ∧ (merging false 5 [loaf 1 .a true none]).tt.accum.get .a = [loaf 1 .a true none] := by decide +kernel

/-- An edge at the exit eye, with what stands in EXIT. -/
def exiting (leading : Bool) (stamp : Pos) (exit : List LoafRecord) : State := edge .ex leading stamp ((on .run).onExit (fun _ => exit))

/-- The early limit is 1500 − 150 mm. -/
theorem test_meets_ExitEdges :
    nextEdge .ex (exiting true 1350 []) = some ⟨.ex, true, 1350, 420⟩ ∧ takesEdges (exiting true 1350 []) = true
      ∧ (exiting true 1350 [loaf 1 .a false (gone .outfeed)]).tt.exit = [loaf 1 .a false (gone .outfeed)]
      ∧ (((1500 : Nat) : Int) - (150 : Nat) ≤ Machine.dist 0 1350 ∧ Machine.dist 0 1349 < ((1500 : Nat) : Int) - (150 : Nat))
      ∧ (exiting true 1350 []).tt.exit = [] ∧ nextEdge .ex (exiting false 5 []) = some ⟨.ex, false, 5, 420⟩
      ∧ (exiting false 5 [loaf 1 .a false none]).tt.exit = [loaf 1 .a false none]
      ∧ (exiting false 5 [loaf 1 .a true none, loaf 2 .a false none, loaf 3 .a false none]).tt.exit
        = loaf 1 .a true none :: [loaf 2 .a false none, loaf 3 .a false none]
      ∧ exitWindowDue (exiting false 5 [loaf 2 .a false none, loaf 3 .a false none]) = false := by decide +kernel

/-- Records whose windows are measured on belts that stand at a position. -/
def windows (p : Pos) : State :=
  beltsAt p (((((on .run).onBladeZone .a (fun _ => some (loaf 1 .a false (gone .infeedA)))).onAccum .a (fun _ =>
    [loaf 2 .a false (gone .accumA), loaf 3 .a false none])).onExit (fun _ => [loaf 4 .a false (gone .outfeed)])).onTt
      (fun t => { t with watch := ⟨none, none, none, none, some 0⟩ }))

/-- The late limits: 1020 mm, 1200 mm, 1650 mm, and 1500 mm for the watch at EX. -/
theorem test_meets_Windows :
    bladeWindowDue .a (windows 1020) = false ∧ ((900 + 120 : Nat) : Int) < Machine.dist 0 (position .infeedA (windows 1021))
      ∧ (windows 1021).tt.blade.get .a = some (loaf 1 .a false (gone .infeedA))
      ∧ mergeWindowDue .a (windows 1200) = false ∧ ((1200 : Nat) : Int) < Machine.dist 0 (position .accumA (windows 1201))
      ∧ (windows 1201).tt.accum.get .a = [loaf 2 .a false (gone .accumA), loaf 3 .a false none]
      ∧ eyeBlocked (eyeOf (mergeEye .a)) (windows 1201) = false
      ∧ exitWindowDue (windows 1650) = false ∧ ((1500 + 150 : Nat) : Int) < Machine.dist 0 (position .outfeed (windows 1651))
      ∧ (windows 1651).tt.exit = [loaf 4 .a false (gone .outfeed)]
      ∧ exitWindowDue ((windows 1651).onExit (fun _ => [])) = false
      ∧ stuckDue .ex (windows 1500) = false ∧ (windows 1501).tt.watch.get .ex = some 0
      ∧ (stuckLimit .ex (windows 1501) : Int) < Machine.dist 0 (position (eyeBelt (eyeOf .ex)) (windows 1501)) := by decide +kernel

theorem test_meets_HeadAtGate :
    headAtGate .a (beltsAt 249 (admitting .a)) = false ∧ headAtGate .a (beltsAt 250 (admitting .a)) = true
      ∧ (admitting .a).tt.approach.get .a = [{ newRecord 1 .a 420 0 with departure := gone .infeedA }]
      ∧ admits .a (admitting .a) = true ∧ producing (admitting .a) = true
      ∧ ((admitting .a).lic.get .a).pendingSel.or ((admitting .a).lic.get .a).active = some 0
      ∧ (((admitting .a).onLane .a (fun i => { i with pendingSel := some 0 })).lic.get .a).pendingSel ≠ none
      ∧ (recipeAt 0 (admitting .a)).tolerance < (recipeAt 0 (admitting .a)).nominal
      ∧ (399 < 420 - 20 ∧ 420 - 20 ≤ 400 ∧ 440 ≤ 420 + 20 ∧ 420 + 20 < 441) := by decide +kernel

/-- A spin-up wait that runs, with the last tension result; a stroke in flight. -/
def spinning (result : Nat) : State :=
  (((on .spinUp).onLane .a (fun i => { i with enabled := true, blade := .spinning, spinWait := some 0 })).onSc (fun c =>
    { c with result := { c.result with tna := result } })).onDou (fun d => { d with gateTimer := ⟨some 0, none⟩, armed := ⟨true, false⟩ })

theorem test_meets_SpinUpAndGateStroke :
    ((ready.lic.get .a).blade ≠ .spinning) ∧ (((spinning 300).lic.get .a).blade = .spinning ∧ ((spinning 300).lic.get .a).spinWait ≠ none)
      ∧ (spinning 300).params.tLow ≤ (spinning 300).sc.result.get (tensionChannel .a)
      ∧ (spinning 299).sc.result.get (tensionChannel .a) < (spinning 299).params.tLow
      ∧ ready.dou.gateTimer.get .a = none ∧ (spinning 300).dou.gateTimer.get .a ≠ none := by decide +kernel

/-- The bagger at work on lane A's head, every timer of it running; the record is the one selected, in ACCUM and in BAGGER. -/
def pushing (phase : StrokePhase) (route : Route) : State :=
  let s := (on .run).onMbc (fun m => { m with
    bagger := .pushing, route := some route, selected := some (.a, 1), phase := phase, strokeTimer := some 0, flapTimer := some 0
    openTimer := some 0, confirmWatch := some 0, blast := some 0, bagCount := 1 })
  let s := s.onTt (fun t => { t with accum := ⟨[loaf 1 .a true none], []⟩, bagger := some (loaf 1 .a false none) })
  (s.onPusher .a (fun p => { p with extendOn := true })).onPusher .b (fun p => { p with dead := some 0, waiting := some .retract })

theorem test_meets_PushStroke :
    ready.mbc.strokeTimer = none ∧ ready.mbc.flapTimer = none
      ∧ ((pushing .extend .bag).mbc.strokeTimer ≠ none ∧ (pushing .extend .bag).mbc.selected = some (.a, 1)
        ∧ (pushing .extend .bag).mbc.phase = .extend)
      ∧ (pushing .homing .bag).mbc.phase = .homing
      ∧ ((pushing .flapSettle .reject).mbc.flapTimer ≠ none ∧ (pushing .flapSettle .reject).lsc.line ≠ .stop)
      ∧ ready.mbc.phase ≠ .extend ∧ (pushing .extend .bag).mbc.lane = some .a ∧ 0 < (pushing .extend .bag).params.deadTime
      ∧ ((pushing .extend .bag).dou.pusher.get .a).extendOn = true ∧ ((pushing .extend .bag).dou.pusher.get .a).retractOn = false := by
  decide +kernel

theorem test_meets_HomeSwitch :
    ready.mbc.lane ≠ some .a ∧ ((pushing .homing .reject).mbc.lane = some .a ∧ (pushing .homing .reject).mbc.phase = .homing
        ∧ (pushing .homing .reject).mbc.route = some .reject ∧ (pushing .homing .reject).lsc.line ≠ .stop)
      ∧ ((pushing .homing .bag).mbc.route = some .bag ∧ 0 < (pushing .homing .bag).mbc.bagCount)
      ∧ ((pushing .homing .bag).onMbc (fun m => { m with bagCount := 0 })).mbc.bagCount = 0
      ∧ ((pushing .retract .bag).mbc.phase = .retract ∧ (pushing .retract .bag).mbc.route = some .bag)
      ∧ ((pushing .retract .reject).mbc.route = some .reject ∧ selectedHead (pushing .retract .reject) = some (.a, loaf 1 .a true none))
      ∧ (ready.dou.pusher.get .a).dead = some 40 ∧ ((pushing .retract .bag).dou.pusher.get .b).dead ≠ none
      ∧ ((ready.onPusher .a (fun p => { p with dead := none })).dou.pusher.get .a).dead = none := by decide +kernel

theorem test_meets_BagCycle :
    ready.mbc.openTimer = none ∧ ((pushing .none .bag).mbc.openTimer ≠ none
        ∧ selectedHead (pushing .none .bag) = some (.a, loaf 1 .a true none) ∧ (pushing .none .bag).lsc.line ≠ .stop)
      ∧ nextEdge .bg (edge .bg true 5 ready) = some ⟨.bg, true, 5, 420⟩ ∧ (edge .bg true 5 ready).mbc.confirmWatch = none
      ∧ ((edge .bg true 5 (pushing .none .bag)).mbc.confirmWatch ≠ none
        ∧ nextEdge .bg (edge .bg true 5 (pushing .none .bag)) = some ⟨.bg, true, 5, 420⟩)
      ∧ ((pushing .none .bag).onParams (fun p => { p with mask := { p.mask with bagMiss := true } })).params.mask.bagMiss = true
      ∧ selectedInBagger (pushing .none .bag) = some (loaf 1 .a false none) ∧ ready.mbc.blast = none
      ∧ ((pushing .none .bag).mbc.blast ≠ none ∧ (pushing .none .bag).mbc.bagger ≠ .airWait ∧ (pushing .none .bag).ama.waiting.bag = none
        ∧ ¬((pushing .none .bag).ama.holder.air0 = some .bag ∧ (pushing .none .bag).ama.holder.air1 = some .bag)) := by decide +kernel

/-- The tyer at work on a record. -/
def tying (state : TyerState) (clips : Nat) (left : Bool) (home : Bool) : State :=
  (((on .run).onTsc (fun t => { t with tyer := state, purge := some 0, phaseTimer := some 0, tieTimer := some 0, clipCount := clips, leftHome := left })).onTt
    (fun t => { t with tyer := some (loaf 6 .a false none), exit := List.replicate 2 (loaf 5 .a false none) })).onPins (fun p => { p with tyerHome := home })

theorem test_meets_TyerCycle :
    ready.tsc.purge = none ∧ ((tying .purgeWait 1 false true).tsc.purge ≠ none ∧ (tying .purgeWait 1 false true).ama.waiting.purge = none
        ∧ (tying .purgeWait 1 false true).lsc.line ≠ .stop
        ∧ ¬((tying .purgeWait 1 false true).ama.holder.air0 = some .purge ∧ (tying .purgeWait 1 false true).ama.holder.air1 = some .purge))
      ∧ 0 < (tying .purgeWait 1 false true).tsc.clipCount ∧ (tying .purgeWait 0 false true).tsc.clipCount = 0
      ∧ ready.tsc.tyer ≠ .twist ∧ ((tying .twist 1 false true).tsc.tyer = .twist ∧ (tying .twist 1 false true).tsc.phaseTimer ≠ none
        ∧ (tying .twist 1 false true).tt.tyer = some (loaf 6 .a false none))
      ∧ ready.tsc.tyer ≠ .clip ∧ ((tying .clip 1 true false).tsc.tyer = .clip ∧ (tying .clip 1 true false).pins.tyerHome = false)
      ∧ ((tying .clip 1 true true).pins.tyerHome = true ∧ (tying .clip 1 true true).tsc.leftHome = true
        ∧ (tying .clip 1 true true).tt.exit.length ≤ 2)
      ∧ ready.tsc.tyer ≠ .homeWait ∧ ((tying .homeWait 1 true false).tsc.tyer = .homeWait ∧ (tying .homeWait 1 true false).tsc.leftHome = true)
      ∧ ready.tsc.tieTimer = none ∧ (tying .twist 1 false true).tsc.tieTimer ≠ none := by decide +kernel

/-- A clear cycle of lane A in a state. -/
def clearing (c : CycleState) (estimate : Nat) : State :=
  (on .run).onCrumb .a (fun k => { k with cycle := c, estimate := estimate, cause := some .host, airWait := some 0, phaseTimer := some 0, backoff := some 0 })

theorem test_meets_CrumbCycle :
    (serves ready = true ∧ laneOf 0 = some .a) ∧ (serves (on .spinUp) = true ∧ serves (on .stop) = true)
      ∧ ((clearing .settle 0).cc.get .a).cycle.needsGap = true ∧ serves (clearing .settle 0) = true
      ∧ ((clearing .backoff 0).cc.get .a).cycle.needsGap = false ∧ 1 < (2 : Byte).toNat
      ∧ (ready.cc.get .a).cycle ≠ .airWait ∧ ((clearing .airWait 0).cc.get .a).airWait ≠ none
      ∧ (ready.cc.get .a).cycle ≠ .blowing ∧ (((clearing .blowing 0).cc.get .a).phaseTimer ≠ none
        ∧ (clearing .blowing 0).ama.waiting.get (knife .a) = none
        ∧ ¬((clearing .blowing 0).ama.holder.air0 = some (knife .a) ∧ (clearing .blowing 0).ama.holder.air1 = some (knife .a)))
      ∧ ((clearing .settle 0).cc.get .a).phaseTimer ≠ none ∧ ((clearing .backoff 6000).cc.get .a).backoff ≠ none
      ∧ (clearing .backoff 6000).params.eClear ≤ ((clearing .backoff 6000).cc.get .a).estimate
      ∧ ¬((clearing .backoff 5999).params.eClear ≤ ((clearing .backoff 5999).cc.get .a).estimate) := by decide +kernel

/-- The emergency stop open, found closed for so many samples. -/
def stopped (n : Nat) : State := (on .stop).onDou (fun d => { d with estop := ⟨true, some n⟩, pusher := ⟨{ d.pusher.a with extendOn := true }, d.pusher.b⟩ })

theorem test_meets_SafetySample :
    ((stopped 38).dou.estop.isOpen && !(stopped 38).dou.estop.closedFor.any (fun n => decide (39 ≤ n))) = true
      ∧ ((stopped 39).dou.estop.isOpen && !(stopped 39).dou.estop.closedFor.any (fun n => decide (39 ≤ n))) = false
      ∧ (on .run).dou.estop.isOpen = false ∧ (on .run).dou.guardIn.isOpen = false ∧ latch (on .run) = false
      ∧ (((on .run).onPusher .a (fun p => { p with extendOn := true })).dou.pusher.get .a).extendOn = true := by decide +kernel

theorem test_meets_ClocksCountSeconds :
    (ready.cal.second ≤ 86399 ∧ ready.cal.day ≤ 65535) ∧ (on .drain).lsc.line = .drain
      ∧ 1000 ≤ (ready.onLsc (fun c => { c with runMs := 1000, holdMs := 1000, stopMs := 1000 })).lsc.runMs
      ∧ (on .hold).lsc.line = .hold ∧ (on .stop).lsc.line = .stop
      ∧ (ready.lsc.line ≠ .run ∧ ready.lsc.line ≠ .drain ∧ ready.lsc.runMs < 1000)
      ∧ (ready.onLsc (fun c => { c with holdMs := 999 })).lsc.holdMs < 1000 := by decide +kernel

theorem test_meets_PagePrograms :
    ready.rs.writer = none ∧ arraySafe (writing .shiftRecord 23 0 [1]) = true
      ∧ (23 < (writing .shiftRecord 23 0 [1]).rs.headers.length ∧ 23 < (writing .shiftRecord 23 0 [1]).rs.index.length)
      ∧ 25 < (writing .recipes 25 7 [1]).rs.headers.length ∧ (1 ≤ 7 ∧ 7 ≤ contentPages 25) ∧ contentPages 25 < 8
      ∧ (1 ≤ 15 ∧ 15 ≤ contentPages 24) ∧ contentPages 24 < 16
      ∧ ((writing .checkpoint 24 16 [1]).rs.queue = ⟨none, none, none⟩) := by decide +kernel

/-- The bytes of a stored checkpoint with nothing counted and lane A's selection of slot 0. -/
def checkpointBytes : List Byte := List.replicate 104 0 ++ [1, 0, 0, 0]

/-- Bytes as the cells of an area's content. -/
def cellsAt (area : Nat) (l : List Byte) : List Host.Cell := (List.range l.length).map (fun i => (contentAddress area + i, l.getD i 0))

/-- A stored checkpoint of shift 7, and a stored recipe in slot 0. -/
def stored : State :=
  let r := recipeBytes (recipeOf fields)
  (on .init).onRs (fun x => { x with
    cells := cellsAt 24 checkpointBytes ++ cellsAt 25 r
    headers := (x.headers.set 24 { marker := .valid, number := some 7, length := 108, check := checkValue (some 7) checkpointBytes }).set 25
      { marker := .valid, number := none, length := 24, check := checkValue none r } })

theorem test_meets_StartUpScan :
    ready.lsc.line ≠ .init ∧ stored.lsc.line = .init
      ∧ acceptsCheckpoint ((List.range 24).map (fun k => (on .init).rs.classify k)) ((on .init).rs.classify 24) = false
      ∧ acceptsCheckpoint ((List.range 24).map (fun k => stored.rs.classify k)) (stored.rs.classify 24) = true
      ∧ (storedSelections stored.rs true).get .a = some 0
      ∧ ((scanRecipes stored.rs).getD 0 Recipe.empty).code ≠ 0 := by decide +kernel

theorem test_meets_SharedOperations :
    knivesSafe (on .run) = true ∧ FaultKind.raiseSetsCause .airLow = true ∧ FaultKind.raiseSetsCause .lostLoaf = false
      ∧ standing .airLow .line ready = false ∧ ready.ft.stack = [] ∧ standing .airLow .line (faulted .airLow .line ready) = true
      ∧ (faulted .bagsLow .out ready).ft.stack = [entry .bagsLow .out] ∧ FaultKind.priority .airLow < (entry .bagsLow .out).priority
      ∧ (entry .bagsOut .out).priority ≤ FaultKind.priority .airLow
      ∧ maySelect ((on .run).onAccum .a (fun _ => [loaf 1 .a true none])) = true
      ∧ candidate .a ((on .run).onAccum .a (fun _ => [loaf 1 .a true none])) = some (loaf 1 .a true none)
      ∧ candidate (otherLane .a) ((on .run).onAccum .a (fun _ => [loaf 1 .a true none])) = none
      ∧ (maySelect (on .run) = true ∧ candidate .a (on .run) = none ∧ candidate .b (on .run) = none) := by decide +kernel

/-- Every requester waits on AIR0. -/
def allWait (bags : Nat) (low : Bool) : State :=
  ((on .run).onMbc (fun m => { m with bagCount := bags })).onAma (fun a => { a with waiting := ⟨some .air0, some .air0, some .air0, some .air0⟩, pressureLow := low })

theorem test_meets_ReleaseGrants :
    (allWait 1 true).ama.pressureLow = true ∧ (allWait 1 false).ama.pressureLow = false
      ∧ ((allWait 1 false).ama.waiting.get .bag = some .air0 ∧ 0 < (allWait 1 false).mbc.bagCount)
      ∧ (setWaiting .bag none (allWait 1 false)).ama.waiting.get .bag ≠ some .air0
      ∧ (setWaiting .bag none (allWait 1 false)).ama.waiting.get .purge = some .air0
      ∧ ((setWaiting .purge none (setWaiting .bag none (allWait 1 false))).ama.waiting.get .kna = some .air0
        ∧ (allWait 1 false).ama.lastKnife ≠ some .kna)
      ∧ ((setWaiting .kna none (setWaiting .purge none (setWaiting .bag none (allWait 1 false)))).ama.waiting.get .knb = some .air0
        ∧ (setWaiting .kna none (allWait 1 false)).ama.waiting.get .kna ≠ some .air0)
      ∧ (on .run).ama.waiting.get .knb ≠ some .air0 := by decide +kernel

theorem test_meets_CommandsKeep :
    isLineEvent .openingEnd = true ∧ isLineEvent (.lineTimeSecond .run) = true ∧ isEdge .bagConfirm = true
      ∧ isEdge (.infeedTrailingEdge .a) = true ∧ mayWriteArray (.status 0) = false ∧ goesOn (exec (.status 0) ready) = true := by
  decide +kernel

/-! ## Further clauses, each at its own case -/

/-- Records in every zone, a knife that blows and one that waits, with the counts in balance. -/
def live : State :=
  let s := { on .run with pending := [.lineTimeSecond .run] }
  let s := s.onTt (fun t => { t with
    approach := ⟨[newRecord 1 .a 420 0], []⟩, accum := ⟨[loaf 2 .a true none], []⟩, blade := ⟨none, some (loaf 3 .b false none)⟩
    exit := [loaf 4 .a false (gone .outfeed)] })
  let s := (s.onCrumb .a (fun c => { c with cycle := .blowing })).onCrumb .b (fun c => { c with cycle := .airWait })
  let s := s.onLane .b (fun i => { i with closure := { i.closure with bladeOccupied := true } })
  let s := s.onAma (fun a => { a with holder := ⟨some .kna, none⟩, waiting := { a.waiting with knb := some .air0 } })
  s.onLive (fun t => { t with carriedIn := 1, line := { t.line with admitted := 3, lost := 1 } })

/-- The knives' and the arbiter's invariants, the admitted marks and the balance, before and after a step. -/
theorem test_meets_StepKeepsAirAndBalance :
    airSafe atBounds = true ∧ airSafe live = true ∧ liveSafe live = true ∧ live.lsc.line ≠ .init
      ∧ live.tu.live.carriedIn + live.tu.live.line.admitted
        = live.tu.live.line.bagged + live.tu.live.line.rejected + live.tu.live.line.lost + admittedCount live
      ∧ (∀ n ∈ [live.tu.live.line.admitted, live.tu.live.line.bagged, live.tu.live.line.rejected, live.tu.live.line.lost],
        n + live.records.length + 2 ≤ 4294967295)
      ∧ goesOn (step live) = true ∧ (after (step live)).lsc.line ≠ .init := by decide +kernel

/-- An emptying write of a slot in use, and of one that is not. -/
theorem test_meets_EmptyingWrite :
    (selecting.lic.get .a).active = some (0 : Byte).toNat ∧ (0 : Byte).toNat ≤ 15 ∧ ({ fields with code := 0 }).code = 0
      ∧ (after (exec (.recipeWrite 7 0 { fields with code := 0 }) selecting)).ml.replies = [⟨0x18, 7, 6, []⟩]
      ∧ slotInUse 1 selecting = false := by decide +kernel

/-- The rows of each parameter that acts at once, the value at a bound of its range, and its pairing. -/
theorem test_meets_ParametersThatAct :
    ([(1, 5, 100, 20000, true), (9, 2, 2, 9, false), (10, 2, 0, 8, false), (18, 1, 500, 60000, false), (28, 2, 0, 9999, false),
        (29, 4, 0, 1, false), (30, 4, 0, 2, false), (16, 1, 0, 1000, false), (2, 8, 0, 255, false)].all (paramTable.contains ·)) = true
      ∧ (beltAt 4 = some .outfeed ∧ ready.lsc.line = .standby)
      ∧ (laneAt 1 = some .b ∧ (on .run).params.lower.get .b < 9 ∧ 0 < (on .run).params.upper.get .b)
      ∧ (500 ≤ ((clearing .idle 500).cc.get .a).estimate ∧ ((clearing .idle 500).cc.get .a).cycle = .idle
        ∧ (clearing .idle 500).lsc.line = .run)
      ∧ (requesterAt 3 = some .knb ∧ steerAt 2 = some .none) ∧ (paramTable.any (fun r => r.1 == 31)) = false := by decide +kernel

/-- Stock that arrives for a waiting bagger: free air, and air that is taken. -/
theorem test_meets_WaitingStations :
    (waiting.mbc.blast = none ∧ waiting.ama.pressureLow = false ∧ (waiting.params.steering.get .bag).channel = some .air0
        ∧ waiting.ama.holder.get .air0 = none)
      ∧ (waiting.onAma (fun a => { a with pressureLow := true })).ama.pressureLow = true
      ∧ (raiseFault .clipsOut .out none waiting).ft.causes.clipsOut = true
      ∧ (raiseFault .bagsOut .out none waiting).ft.causes.bagsOut = true
      ∧ (after (exec (.magazineLoad 7 0 5) waiting)).ml.replies = [⟨0x2C, 7, 0, [0, 4, 1]⟩] := by decide +kernel

/-- The presented entry goes with nothing, a less urgent and two more urgent ones pending. -/
theorem test_meets_NextPresented :
    let covered : State := (faulted .tyerJam .out ready).onFt (fun t => { t with
      stack := [entry .tyerJam .out, entry .bagsLow .out], raiseCounter := 9 })
    let quiet := covered.onFt (fun t => { t with waiting := [entry .clipsLow .out] })
    let busy := covered.onFt (fun t => { t with waiting := [{ entry .clipsOut .out with seq := 5 }, { entry .bagsOut .out with seq := 3 }] })
    faultsSafe quiet = true ∧ faultsSafe busy = true ∧ (entry .bagsLow .out).priority ≤ (entry .clipsLow .out).priority
      ∧ (entry .clipsOut .out).priority < (entry .bagsLow .out).priority ∧ busy.ft.causes.get .tyerJam .out = false
      ∧ (∀ f ∈ busy.ft.waiting, 0 < Machine.dist f.seq busy.ft.raiseCounter)
      ∧ (after (exec (.faultClear 7) busy)).ft.stack.head? = some { entry .bagsOut .out with seq := 3 } := by decide +kernel

/-- A raise in a lane that is held already tells the change of the table before the change of the queue (R5, R6). -/
theorem test_lostLoaf_tells_fault_first :
    let s := (faulted .eyeStuck .a ((windows 1021).onLane .a (fun i => { i with
      closure := { i.closure with faultHold := true, bladeOccupied := true } }))).onMl (fun m => { m with reports := [] })
    (after (exec (.bladeWindowRunOut .a) s)).ml.reports.take 2 = [.faultChange, .laneState .a] := by decide +kernel

/-- The blast ends with the bagger in AIR_WAIT: free air with a bag and without, and air that a knife has. -/
theorem test_meets_BlastEndsInAirWait :
    let s := (pushing .none .bag).onMbc (fun m => { m with bagger := .airWait })
    let taken := s.onAma (fun a => { a with holder := ⟨some .kna, some .bag⟩ })
    (s.mbc.blast ≠ none ∧ s.mbc.bagger = .airWait ∧ s.ama.waiting.bag = none
        ∧ ¬(s.ama.holder.air0 = some .bag ∧ s.ama.holder.air1 = some .bag) ∧ (s.params.steering.get .bag).channel = some .air0
        ∧ s.ama.pressureLow = false ∧ s.ama.holder.get .air0 = none ∧ (∀ r ∈ [Requester.bag, .purge, .kna, .knb], s.ama.waiting.get r ≠ some .air0)
        ∧ 0 < s.mbc.bagCount)
      ∧ (s.onMbc (fun m => { m with bagCount := 0 })).mbc.bagCount = 0
      ∧ (taken.ama.holder.get .air0 = some .kna ∧ taken.mbc.blast ≠ none) := by decide +kernel

/-- The handoff, with an idle tyer whose purge is due and not due, and one that must wait. -/
theorem test_meets_Handoff :
    let s := (((on .run).onMbc (fun m => { m with bagger := .handoff })).onTt (fun t => { t with bagger := some (loaf 1 .a false none) })).onTsc
      (fun t => { t with clipCount := 3 })
    let due := s.onTsc (fun t => { t with tiesSincePurge := s.params.purgeInterval })
    (s.mbc.bagger = .handoff ∧ s.tt.bagger = some (loaf 1 .a false none) ∧ s.tt.tyer = none ∧ s.lsc.line ≠ .hold ∧ s.tsc.tyer = .idle)
      ∧ (due.params.purgeInterval ≠ 0 ∧ due.params.purgeInterval ≤ due.tsc.tiesSincePurge
        ∧ (due.params.steering.get .purge).channel = some .air0)
      ∧ (¬(s.params.purgeInterval ≤ s.tsc.tiesSincePurge) ∧ 0 < s.tsc.clipCount)
      ∧ (s.onTsc (fun t => { t with clipCount := 0 })).tsc.clipCount = 0
      ∧ (s.onTt (fun t => { t with tyer := some (loaf 2 .a false none) })).tt.tyer ≠ none
      ∧ ({ s with lsc := { s.lsc with line := .hold } }).lsc.line = .hold := by decide +kernel

/-- A tie into a full EXIT, whose next head's window has not run out. -/
theorem test_meets_ExitOverrun :
    let s := (tying .clip 1 true true).onExit (fun q => loaf 7 .a false none :: q)
    (s.tt.exit = loaf 7 .a false none :: List.replicate 2 (loaf 5 .a false none) ∧ (List.replicate 2 (loaf 5 .a false none)).length = 2)
      ∧ s.tt.exit.length ≤ 3 ∧ exitWindowDue (s.onExit (fun q => q.tail)) = false := by decide +kernel

/-- A requested clear with BLADE empty: the shaker alone, a free channel, a taken one; and one whose BLADE is taken. -/
theorem test_meets_Gap :
    let s := clearing .requested 0
    let alone := s.onParams (fun p => { p with steering := { p.steering with kna := .none } })
    ((s.cc.get .a).cycle = .requested ∧ s.tt.blade.get .a = none ∧ s.lsc.line ≠ .hold)
      ∧ (alone.params.steering.get (knife .a) = .none ∧ (s.params.steering.get (knife .a)).channel = some .air1)
      ∧ (s.ama.pressureLow = false ∧ s.ama.holder.get .air1 = none)
      ∧ (s.onAma (fun a => { a with holder := ⟨none, some .purge⟩ })).ama.holder.get .air1 ≠ none
      ∧ (flow (s.onBladeZone .a (fun _ => some (loaf 1 .a false none)))).cc.a.cycle = .requested := by decide +kernel

/-- A line that a stop fault takes to STOP, and one without. -/
theorem test_meets_StopFault :
    (∀ l ∈ [LineState.spinUp, .run, .hold, .drain], stopFault (faulted .estop .line (on l)) = true ∧ (faulted .estop .line (on l)).lsc.line = l)
      ∧ (stopFault (on .run) = false ∧ (on .run).lsc.line ≠ .stop) := by decide +kernel

/-- Requests, withdrawals and steering moves: a free and a taken channel, a waiter and none. -/
theorem test_meets_Requests :
    let s := allWait 1 false
    let none' := on .run
    let taken := s.onAma (fun a => { a with holder := ⟨none, some .purge⟩ })
    ((none'.params.steering.get .bag).channel = some .air0 ∧ none'.ama.holder.get .air0 = none ∧ none'.ama.pressureLow = false)
      ∧ taken.ama.holder.get .air1 ≠ none ∧ taken.ama.held .purge = some .air1 ∧ s.ama.held .kna = none ∧ none'.ama.waiting.get .kna = none
      ∧ (s.ama.waiting.get .kna = some .air0 ∧ Steer.air0.channel = some .air0 ∧ Steer.air1.channel = some .air1)
      ∧ (s.ama.holder.get .air1 = none ∧ 0 < s.mbc.bagCount) := by decide +kernel

/-- The stored checkpoint is the content of a state that fits. -/
theorem test_meets_AcceptedCheckpoint :
    let q := State.reset.onLane .a (fun i => { i with active := some 0 })
    checkpointFits q = true ∧ stored.rs.content 24 = checkpointContent q ∧ (q.lic.get .a).active = some 0
      ∧ (recipeAt 0 (after (exec .startUpScanComplete stored))).code ≠ 0
      ∧ (∀ n ∈ (q.lic.get .b).active.toList, (recipeAt n (after (exec .startUpScanComplete stored))).code = 0)
      ∧ ((stored.onCrumb .b (fun c => { c with levelSince := true, lastLevel := 900 })).params.lOver ≤ 900) := by decide +kernel

end Sys2Proof.Tests
end

section
/-! SUPPORT. What the operations of the line move of a lane beside its FAULT_HOLD flag: one equation for each operation that
moves that flag alone (R144 step 5, R147, R149). -/

namespace Sys2Proof.Machine

set_option Elab.async false

/-- What holds of a state and of what a conditional operation makes of it when its condition holds, holds after it. -/
theorem when_elim {P : State → Prop} {c : Bool} {f : State → State} {s : State} (no : P s) (yes : c = true → P (f s)) :
    P (when c f s) := by
  cases c
  · exact no
  · exact yes rfl

/-- A lane's record with its FAULT_HOLD flag put aside. -/
def LaneInfeed.holdAside (i : LaneInfeed) : LaneInfeed := { i with closure := { i.closure with faultHold := false } }

@[simp] theorem holdAside_faultHold (i : LaneInfeed) (b : Bool) :
    LaneInfeed.holdAside { i with closure := { i.closure with faultHold := b } } = i.holdAside := rfl

@[simp] theorem when_holdAside {f : State → State} {m : Lane}
    (h : ∀ s, ((f s).lic.get m).holdAside = (s.lic.get m).holdAside) (c : Bool) (s : State) :
    ((when c f s).lic.get m).holdAside = (s.lic.get m).holdAside :=
  when_elim (P := fun t => (t.lic.get m).holdAside = (s.lic.get m).holdAside) rfl (fun _ => h s)

@[simp] theorem upd_holdAside {f : LaneInfeed → LaneInfeed} (h : ∀ i, (f i).holdAside = i.holdAside) (l m : Lane)
    (p : PerLane LaneInfeed) : ((PerLane.upd l f p).get m).holdAside = (p.get m).holdAside := by
  cases l <;> cases m <;> simp [PerLane.upd, PerLane.get, h]

theorem foldl_holdAside {α : Type} {f : State → α → State} {m : Lane}
    (h : ∀ s x, ((f s x).lic.get m).holdAside = (s.lic.get m).holdAside) (l : List α) (s : State) :
    ((l.foldl f s).lic.get m).holdAside = (s.lic.get m).holdAside := by
  induction l generalizing s with
  | nil => rfl
  | cons x l ih => rw [List.foldl_cons, ih, h]

variable (m : Lane) (s : State)

/-! ## The Fault Table -/

@[simp] theorem syncHold_holdAside (l : Lane) : ((syncHold l s).lic.get m).holdAside = (s.lic.get m).holdAside := by
  cases l <;> cases m <;> simp [syncHold, State.onLane, PerLane.upd, PerLane.get]
@[simp] theorem syncHolds_holdAside : ((syncHolds s).lic.get m).holdAside = (s.lic.get m).holdAside := by
  simp [syncHolds]
@[simp] theorem raiseFault_holdAside (k : FaultKind) (subj : Subject) (detail : Option Nat) :
    ((raiseFault k subj detail s).lic.get m).holdAside = (s.lic.get m).holdAside := by
  simp only [raiseFault]; (repeat' split) <;> simp
@[simp] theorem removeEntry_holdAside (k : FaultKind) (subj : Subject) :
    ((removeEntry k subj s).lic.get m).holdAside = (s.lic.get m).holdAside := by
  simp [removeEntry]
@[simp] theorem noticeCause_holdAside (k : FaultKind) (subj : Subject) (isPresent : Bool) :
    ((noticeCause k subj isPresent s).lic.get m).holdAside = (s.lic.get m).holdAside := by
  simp only [noticeCause]; (repeat' split) <;> simp
@[simp] theorem removeAll_holdAside (l : List FaultEntry) :
    ((removeAll l s).lic.get m).holdAside = (s.lic.get m).holdAside :=
  foldl_holdAside (by simp) l s
@[simp] theorem noticeRemoval_holdAside (hit : FaultEntry → Bool) :
    ((noticeRemoval hit s).lic.get m).holdAside = (s.lic.get m).holdAside := by
  simp only [noticeRemoval]; (repeat' split) <;> simp
@[simp] theorem matchNotice_holdAside (subj : Subject) :
    ((matchNotice subj s).lic.get m).holdAside = (s.lic.get m).holdAside := by
  simp [matchNotice]
@[simp] theorem bagConfirmNotice_holdAside :
    ((bagConfirmNotice s).lic.get m).holdAside = (s.lic.get m).holdAside := by
  simp [bagConfirmNotice]
@[simp] theorem clearCompletedNotice_holdAside (l : Lane) :
    ((clearCompletedNotice l s).lic.get m).holdAside = (s.lic.get m).holdAside := by
  simp [clearCompletedNotice]
@[simp] theorem eyeStuckToAuto_holdAside : ((eyeStuckToAuto s).lic.get m).holdAside = (s.lic.get m).holdAside := by
  simp [eyeStuckToAuto]
@[simp] theorem clearPresented_holdAside (e : FaultEntry) :
    ((clearPresented e s).lic.get m).holdAside = (s.lic.get m).holdAside := by
  simp [clearPresented]
@[simp] theorem inputTaken_holdAside (k : FaultKind) (was : Bool) (now : Bool) :
    ((inputTaken k was now s).lic.get m).holdAside = (s.lic.get m).holdAside := by
  simp [inputTaken]

/-! ## The magazines and the air manifold -/

@[simp] theorem evalBagLow_holdAside : ((evalBagLow s).lic.get m).holdAside = (s.lic.get m).holdAside := by
  simp only [evalBagLow]; (repeat' split) <;> simp
@[simp] theorem evalClipLow_holdAside : ((evalClipLow s).lic.get m).holdAside = (s.lic.get m).holdAside := by
  simp only [evalClipLow]; (repeat' split) <;> simp
@[simp] theorem setBagCount_holdAside (n : Nat) :
    ((setBagCount n s).lic.get m).holdAside = (s.lic.get m).holdAside := by
  simp [setBagCount]
@[simp] theorem setClipCount_holdAside (n : Nat) :
    ((setClipCount n s).lic.get m).holdAside = (s.lic.get m).holdAside := by
  simp [setClipCount]
@[simp] theorem openBag_holdAside : ((openBag s).lic.get m).holdAside = (s.lic.get m).holdAside := by
  simp only [openBag]; (repeat' split) <;> simp
@[simp] theorem waitForBags_holdAside : ((waitForBags s).lic.get m).holdAside = (s.lic.get m).holdAside := by
  simp [waitForBags]
@[simp] theorem grantBag_holdAside (c : AirChannel) :
    ((grantBag c s).lic.get m).holdAside = (s.lic.get m).holdAside := by
  simp only [grantBag]; (repeat' split) <;> simp
@[simp] theorem grantNext_holdAside (c : AirChannel) :
    ((grantNext c s).lic.get m).holdAside = (s.lic.get m).holdAside := by
  simp only [grantNext]; (repeat' split) <;> simp
@[simp] theorem grantTo_holdAside (r : Requester) (c : AirChannel) :
    ((grantTo r c s).lic.get m).holdAside = (s.lic.get m).holdAside := by
  simp only [grantTo]; (repeat' split) <;> simp
@[simp] theorem airRequest_holdAside (r : Requester) :
    ((airRequest r s).lic.get m).holdAside = (s.lic.get m).holdAside := by
  simp only [airRequest]; (repeat' split) <;> simp
@[simp] theorem releaseChannel_holdAside (c : AirChannel) :
    ((releaseChannel c s).lic.get m).holdAside = (s.lic.get m).holdAside := by
  simp [releaseChannel]
@[simp] theorem airRelease_holdAside (r : Requester) :
    ((airRelease r s).lic.get m).holdAside = (s.lic.get m).holdAside := by
  simp only [airRelease]; (repeat' split) <;> simp
@[simp] theorem airWithdraw_holdAside (r : Requester) :
    ((airWithdraw r s).lic.get m).holdAside = (s.lic.get m).holdAside := by
  simp [airWithdraw]
@[simp] theorem steer_holdAside (r : Requester) (e : Steer) :
    ((steer r e s).lic.get m).holdAside = (s.lic.get m).holdAside := by
  simp only [steer]; (repeat' split) <;> simp
@[simp] theorem airPressure_holdAside (result : Nat) :
    ((airPressure result s).lic.get m).holdAside = (s.lic.get m).holdAside := by
  simp only [airPressure]; (repeat' split) <;> simp
@[simp] theorem requestBag_holdAside : ((requestBag s).lic.get m).holdAside = (s.lic.get m).holdAside := by
  simp only [requestBag]; (repeat' split) <;> simp
@[simp] theorem requestKnife_holdAside (l : Lane) :
    ((requestKnife l s).lic.get m).holdAside = (s.lic.get m).holdAside := by
  simp only [requestKnife]; (repeat' split) <;> simp

/-! ## Crumb clearing -/

@[simp] theorem makeGap_holdAside (l : Lane) : ((makeGap l s).lic.get m).holdAside = (s.lic.get m).holdAside := by
  simp [makeGap]
@[simp] theorem overfullCheck_holdAside (l : Lane) :
    ((overfullCheck l s).lic.get m).holdAside = (s.lic.get m).holdAside := by
  simp only [overfullCheck]; (repeat' split) <;> simp
@[simp] theorem endBlowing_holdAside (l : Lane) :
    ((endBlowing l s).lic.get m).holdAside = (s.lic.get m).holdAside := by
  simp [endBlowing]
@[simp] theorem holdCrumb_holdAside (l : Lane) : ((holdCrumb l s).lic.get m).holdAside = (s.lic.get m).holdAside := by
  simp [holdCrumb]
@[simp] theorem endOfInitCheck_holdAside (l : Lane) :
    ((endOfInitCheck l s).lic.get m).holdAside = (s.lic.get m).holdAside := by
  simp [endOfInitCheck]

/-! ## The Tracking Table -/

@[simp] theorem eyeCleared_holdAside (e : TrackedEye) :
    ((eyeCleared e s).lic.get m).holdAside = (s.lic.get m).holdAside := by
  simp [eyeCleared]
@[simp] theorem raiseStuck_holdAside (e : TrackedEye) :
    ((raiseStuck e s).lic.get m).holdAside = (s.lic.get m).holdAside := by
  simp [raiseStuck]
@[simp] theorem lose_holdAside (subj : Subject) (r : LoafRecord) :
    ((lose subj r s).lic.get m).holdAside = (s.lic.get m).holdAside := by
  simp [lose]
@[simp] theorem slicerLeading_holdAside (l : Lane) (x : Edge) :
    ((slicerLeading l x s).lic.get m).holdAside = (s.lic.get m).holdAside := by
  simp only [slicerLeading]; (repeat' split) <;> simp
@[simp] theorem mergeLeading_holdAside (l : Lane) (x : Edge) :
    ((mergeLeading l x s).lic.get m).holdAside = (s.lic.get m).holdAside := by
  simp only [mergeLeading]; (repeat' split) <;> simp
@[simp] theorem loseExitHead_holdAside : ((loseExitHead s).lic.get m).holdAside = (s.lic.get m).holdAside := by
  simp only [loseExitHead]; (repeat' split) <;> simp
@[simp] theorem compareExitHead_holdAside (n : Nat) :
    ((compareExitHead n s).lic.get m).holdAside = (s.lic.get m).holdAside := by
  induction n generalizing s with
  | zero => rfl
  | succ n ih => rw [compareExitHead]; split <;> simp [ih]
@[simp] theorem exitHeadChanged_holdAside : ((exitHeadChanged s).lic.get m).holdAside = (s.lic.get m).holdAside := by
  simp [exitHeadChanged]
@[simp] theorem joinExit_holdAside (r : LoafRecord) :
    ((joinExit r s).lic.get m).holdAside = (s.lic.get m).holdAside := by
  simp [joinExit]
@[simp] theorem exitLeading_holdAside (x : Edge) :
    ((exitLeading x s).lic.get m).holdAside = (s.lic.get m).holdAside := by
  simp only [exitLeading]; (repeat' split) <;> simp
@[simp] theorem exitTrailing_holdAside : ((exitTrailing s).lic.get m).holdAside = (s.lic.get m).holdAside := by
  simp only [exitTrailing]; (repeat' split) <;> simp
@[simp] theorem discardTyer_holdAside : ((discardTyer s).lic.get m).holdAside = (s.lic.get m).holdAside := by
  simp only [discardTyer]; (repeat' split) <;> simp
@[simp] theorem resumeDiscard_holdAside : ((resumeDiscard s).lic.get m).holdAside = (s.lic.get m).holdAside := by
  simp [resumeDiscard]

/-! ## The stations -/

@[simp] theorem enterTwist_holdAside : ((enterTwist s).lic.get m).holdAside = (s.lic.get m).holdAside := by
  simp only [enterTwist]; (repeat' split) <;> simp
@[simp] theorem startTyer_holdAside : ((startTyer s).lic.get m).holdAside = (s.lic.get m).holdAside := by
  simp only [startTyer]; (repeat' split) <;> simp
@[simp] theorem endPurge_holdAside : ((endPurge s).lic.get m).holdAside = (s.lic.get m).holdAside := by
  simp [endPurge]
@[simp] theorem enterClip_holdAside : ((enterClip s).lic.get m).holdAside = (s.lic.get m).holdAside := by
  simp only [enterClip]; (repeat' split) <;> simp
@[simp] theorem completeTie_holdAside : ((completeTie s).lic.get m).holdAside = (s.lic.get m).holdAside := by
  simp only [completeTie]; (repeat' split) <;> simp
@[simp] theorem tieIfHome_holdAside : ((tieIfHome s).lic.get m).holdAside = (s.lic.get m).holdAside := by
  simp [tieIfHome]
@[simp] theorem enterHomeWait_holdAside : ((enterHomeWait s).lic.get m).holdAside = (s.lic.get m).holdAside := by
  simp [enterHomeWait]
@[simp] theorem jamTyer_holdAside : ((jamTyer s).lic.get m).holdAside = (s.lic.get m).holdAside := by
  simp [jamTyer]
@[simp] theorem handoff_holdAside : ((handoff s).lic.get m).holdAside = (s.lic.get m).holdAside := by
  simp only [handoff]; (repeat' split) <;> simp
@[simp] theorem bagCheck_holdAside : ((bagCheck s).lic.get m).holdAside = (s.lic.get m).holdAside := by
  simp only [bagCheck]; (repeat' split) <;> simp
@[simp] theorem startRoute_holdAside : ((startRoute s).lic.get m).holdAside = (s.lic.get m).holdAside := by
  simp only [startRoute]; (repeat' split) <;> simp
@[simp] theorem selectLane_holdAside (l : Lane) (r : LoafRecord) :
    ((selectLane l r s).lic.get m).holdAside = (s.lic.get m).holdAside := by
  simp only [selectLane]; (repeat' split) <;> simp
@[simp] theorem selectIfReady_holdAside : ((selectIfReady s).lic.get m).holdAside = (s.lic.get m).holdAside := by
  simp only [selectIfReady]; (repeat' split) <;> simp
@[simp] theorem strokeStopped_holdAside : ((strokeStopped s).lic.get m).holdAside = (s.lic.get m).holdAside := by
  simp only [strokeStopped]; (repeat' split) <;> simp
@[simp] theorem homingFailed_holdAside : ((homingFailed s).lic.get m).holdAside = (s.lic.get m).holdAside := by
  simp only [homingFailed]; (repeat' split) <;> simp
@[simp] theorem strokeRunOut_holdAside : ((strokeRunOut s).lic.get m).holdAside = (s.lic.get m).holdAside := by
  simp only [strokeRunOut]; (repeat' split) <;> simp
@[simp] theorem bagConfirmed_holdAside : ((bagConfirmed s).lic.get m).holdAside = (s.lic.get m).holdAside := by
  simp only [bagConfirmed, when]; split <;> simp
@[simp] theorem bagMissed_holdAside : ((bagMissed s).lic.get m).holdAside = (s.lic.get m).holdAside := by
  simp only [bagMissed]; (repeat' split) <;> simp
@[simp] theorem endBlast_holdAside : ((endBlast s).lic.get m).holdAside = (s.lic.get m).holdAside := by
  simp [endBlast]
@[simp] theorem abandonBagger_holdAside : ((abandonBagger s).lic.get m).holdAside = (s.lic.get m).holdAside := by
  simp [abandonBagger]
@[simp] theorem abandonTyer_holdAside : ((abandonTyer s).lic.get m).holdAside = (s.lic.get m).holdAside := by
  simp [abandonTyer]
@[simp] theorem bagsLoaded_holdAside : ((bagsLoaded s).lic.get m).holdAside = (s.lic.get m).holdAside := by
  simp [bagsLoaded]
@[simp] theorem clipsLoaded_holdAside : ((clipsLoaded s).lic.get m).holdAside = (s.lic.get m).holdAside := by
  simp [clipsLoaded]
@[simp] theorem retie_holdAside : ((retie s).lic.get m).holdAside = (s.lic.get m).holdAside := by
  simp [retie]
@[simp] theorem discardJammed_holdAside (r : LoafRecord) :
    ((discardJammed r s).lic.get m).holdAside = (s.lic.get m).holdAside := by
  simp [discardJammed]

/-! ## The writer of the Record Store -/

@[simp] theorem failureFault_holdAside (k : JobKind) (done : Bool) :
    ((failureFault k done s).lic.get m).holdAside = (s.lic.get m).holdAside := by
  simp only [failureFault]; (repeat' split) <;> simp
@[simp] theorem endJob_holdAside (w : JobInProgress) (e : LogEntry) :
    ((endJob w e s).lic.get m).holdAside = (s.lic.get m).holdAside := by
  simp only [endJob]; (repeat' split) <;> simp
@[simp] theorem programVerified_holdAside (w : JobInProgress) :
    ((programVerified w s).lic.get m).holdAside = (s.lic.get m).holdAside := by
  simp only [programVerified, when]; (repeat' split) <;> simp
@[simp] theorem programFailed_holdAside (w : JobInProgress) :
    ((programFailed w s).lic.get m).holdAside = (s.lic.get m).holdAside := by
  simp only [programFailed]; (repeat' split) <;> simp

end Sys2Proof.Machine
end

section
/-! SUPPORT. The capacities of the zones (R3, R13, R65, R72) as a proposition, what keeps them, and what restores them: a lane
that still fits has its flags told again by `syncLane`. -/

namespace Sys2Proof.Machine

set_option Elab.async false

/-- A lane's zones are within their capacities, and ACCUM has room for the record in BLADE. -/
structure LaneFits (l : Lane) (s : State) : Prop where
  approach : (s.tt.approach.get l).length ≤ 4
  accum : (s.tt.accum.get l).length ≤ 9
  room : (s.tt.blade.get l).isSome = true → (s.tt.accum.get l).length ≤ 8
  upper : s.params.upper.get l ≤ 9
  lower : s.params.lower.get l < s.params.upper.get l

/-- The flags that hold an admission back are set while its reasons stand. -/
structure LaneTold (l : Lane) (s : State) : Prop where
  full : (s.lic.get l).accFull = true ∨ (s.tt.accum.get l).length < s.params.upper.get l
  closed : (s.lic.get l).closure.accFull = (s.lic.get l).accFull
  occupied : (s.tt.blade.get l).isSome = true → (s.lic.get l).closure.bladeOccupied = true

/-- `zonesSafe`, clause by clause. -/
structure Zones (s : State) : Prop where
  fits : ∀ l, LaneFits l s
  told : ∀ l, LaneTold l s
  exit : s.tt.exit.length ≤ 3

theorem laneRoom_iff (l : Lane) (s : State) : laneRoom l s = true ↔ LaneFits l s ∧ LaneTold l s := by
  constructor
  · intro h
    simp only [laneRoom, Bool.and_eq_true, Bool.or_eq_true, Bool.not_eq_true', decide_eq_true_eq, beq_iff_eq,
      Option.isNone_iff_eq_none] at h
    obtain ⟨⟨⟨⟨⟨⟨⟨approach, accum⟩, room⟩, upper⟩, lower⟩, full⟩, closed⟩, occupied⟩ := h
    refine ⟨⟨approach, accum, fun some => room.resolve_left (fun none => ?_), upper, lower⟩,
      ⟨full, closed, fun some => occupied.resolve_left (fun none => ?_)⟩⟩
    · simp [none] at some
    · simp [none] at some
  · rintro ⟨⟨approach, accum, room, upper, lower⟩, ⟨full, closed, occupied⟩⟩
    cases hb : s.tt.blade.get l <;> simp_all [laneRoom]

theorem zonesSafe_iff (s : State) : zonesSafe s = true ↔ Zones s := by
  simp only [zonesSafe, Bool.and_eq_true, laneRoom_iff, decide_eq_true_eq]
  constructor
  · rintro ⟨⟨⟨fitsA, toldA⟩, fitsB, toldB⟩, exit⟩
    exact ⟨fun l => by cases l <;> assumption, fun l => by cases l <;> assumption, exit⟩
  · intro h
    exact ⟨⟨⟨h.fits .a, h.told .a⟩, h.fits .b, h.told .b⟩, h.exit⟩

/-! ## What keeps the capacities -/

theorem LaneFits.mono {l : Lane} {s t : State} (h : LaneFits l s)
    (approach : (t.tt.approach.get l).length ≤ (s.tt.approach.get l).length)
    (accum : (t.tt.accum.get l).length ≤ (s.tt.accum.get l).length)
    (blade : (t.tt.blade.get l).isSome = true → (s.tt.blade.get l).isSome = true)
    (upper : t.params.upper.get l = s.params.upper.get l) (lower : t.params.lower.get l = s.params.lower.get l) :
    LaneFits l t :=
  ⟨approach.trans h.approach, accum.trans h.accum, fun some => accum.trans (h.room (blade some)), upper ▸ h.upper,
   upper ▸ lower ▸ h.lower⟩

theorem LaneTold.mono {l : Lane} {s t : State} (h : LaneTold l s)
    (accum : (t.tt.accum.get l).length ≤ (s.tt.accum.get l).length)
    (blade : (t.tt.blade.get l).isSome = true → (s.tt.blade.get l).isSome = true)
    (upper : t.params.upper.get l = s.params.upper.get l)
    (flags : (t.lic.get l).holdAside = (s.lic.get l).holdAside) : LaneTold l t := by
  have full : (t.lic.get l).accFull = (s.lic.get l).accFull := by
    show (t.lic.get l).holdAside.accFull = (s.lic.get l).holdAside.accFull
    rw [flags]
  have closed : (t.lic.get l).closure.accFull = (s.lic.get l).closure.accFull := by
    show (t.lic.get l).holdAside.closure.accFull = (s.lic.get l).holdAside.closure.accFull
    rw [flags]
  have occupied : (t.lic.get l).closure.bladeOccupied = (s.lic.get l).closure.bladeOccupied := by
    show (t.lic.get l).holdAside.closure.bladeOccupied = (s.lic.get l).holdAside.closure.bladeOccupied
    rw [flags]
  refine ⟨?_, ?_, fun some => ?_⟩
  · rw [full, upper]
    exact h.full.imp_right accum.trans_lt
  · rw [closed, full]; exact h.closed
  · rw [occupied]; exact h.occupied (blade some)

/-- A zone that loses records, or keeps them, stays within its capacity. -/
theorem Zones.mono {s t : State} (h : Zones s)
    (approach : ∀ l, (t.tt.approach.get l).length ≤ (s.tt.approach.get l).length)
    (accum : ∀ l, (t.tt.accum.get l).length ≤ (s.tt.accum.get l).length)
    (blade : ∀ l, (t.tt.blade.get l).isSome = true → (s.tt.blade.get l).isSome = true)
    (exit : t.tt.exit.length ≤ 3) (upper : t.params.upper = s.params.upper) (lower : t.params.lower = s.params.lower)
    (flags : ∀ l, (t.lic.get l).holdAside = (s.lic.get l).holdAside) : Zones t :=
  ⟨fun l => (h.fits l).mono (approach l) (accum l) (blade l) (by rw [upper]) (by rw [lower]),
   fun l => (h.told l).mono (accum l) (blade l) (by rw [upper]) (flags l), exit⟩

/-- An operation that keeps the zones, the bounds of ACC_FULL and the lanes but for FAULT_HOLD keeps the capacities. -/
theorem Zones.of_frames {s t : State} (h : Zones s) (approach : t.tt.approach = s.tt.approach := by simp)
    (accum : t.tt.accum = s.tt.accum := by simp) (blade : t.tt.blade = s.tt.blade := by simp)
    (exit : t.tt.exit = s.tt.exit := by simp) (upper : t.params.upper = s.params.upper := by simp)
    (lower : t.params.lower = s.params.lower := by simp)
    (flags : ∀ l, (t.lic.get l).holdAside = (s.lic.get l).holdAside := by simp) : Zones t :=
  h.mono (by simp [approach]) (by simp [accum]) (by simp [blade]) (exit ▸ h.exit) upper lower flags

/-- A lane's controller changed in nothing but what the capacities do not speak of. -/
theorem Zones.onLane {s : State} (h : Zones s) (l : Lane) {f : LaneInfeed → LaneInfeed}
    (full : ∀ i, (f i).accFull = i.accFull) (closure : ∀ i, (f i).closure = i.closure) : Zones (s.onLane l f) := by
  refine ⟨fun m => ?_, fun m => ?_, h.exit⟩
  · exact (h.fits m).mono le_rfl le_rfl id rfl rfl
  · obtain ⟨hfull, hclosed, hoccupied⟩ := h.told m
    have same : ((s.onLane l f).lic.get m).accFull = (s.lic.get m).accFull
        ∧ ((s.onLane l f).lic.get m).closure = (s.lic.get m).closure := by
      cases l <;> cases m <;> simp [State.onLane, PerLane.upd, PerLane.get, full, closure]
    exact ⟨same.1 ▸ hfull, by rw [same.1, same.2]; exact hclosed, by rw [same.2]; exact hoccupied⟩

/-! ## What restores them -/

theorem syncLane_lic_same (l : Lane) (s : State) : (syncLane l s).lic.get l = laneFlags l s (s.lic.get l) := by
  simp [syncLane, State.onLane]

theorem syncLane_lic_other {l m : Lane} (h : m ≠ l) (s : State) : (syncLane l s).lic.get m = s.lic.get m := by
  simp [syncLane, State.onLane, PerLane.get_upd_other _ h]

/-- A flag that is not set after an occupancy notice says that ACCUM is below its upper bound (R72). -/
theorem accFullNext_or_below {was : Bool} {n upper lower : Nat} (h : lower < upper) :
    accFullNext was n upper lower = true ∨ n < upper := by
  cases was <;> simp [accFullNext] <;> omega

theorem laneTold_syncLane (l : Lane) {s : State} (fits : LaneFits l s) : LaneTold l (syncLane l s) := by
  refine ⟨?_, ?_, fun some => ?_⟩ <;> rw [syncLane_lic_same]
  · simpa [laneFlags] using accFullNext_or_below fits.lower
  · rfl
  · simpa [laneFlags, closureOf] using some

theorem eq_otherLane {l m : Lane} (h : m ≠ l) : otherLane l = m := by revert h; cases l <;> cases m <;> decide

/-- A lane that fits is told of it; the other keeps its flags. -/
theorem zones_syncLane_of_fits (l : Lane) {s : State} (fits : ∀ m, LaneFits m s) (other : LaneTold (otherLane l) s)
    (exit : s.tt.exit.length ≤ 3) : Zones (syncLane l s) := by
  refine ⟨fun m => (fits m).mono (by simp) (by simp) (by simp) (by simp) (by simp), fun m => ?_, by simpa using exit⟩
  by_cases h : m = l
  · subst h; exact laneTold_syncLane m (fits m)
  · have hm : otherLane l = m := eq_otherLane h
    subst hm
    exact other.mono (by simp) (by simp) (by simp) (by rw [syncLane_lic_other h])

theorem zones_syncLane (l : Lane) {s : State} (h : Zones s) : Zones (syncLane l s) :=
  zones_syncLane_of_fits l h.fits (h.told _) h.exit

theorem zones_syncLanes {s : State} (h : Zones s) : Zones (syncLanes s) :=
  zones_syncLane .b (zones_syncLane .a h)

end Sys2Proof.Machine
end

section
/-! SUPPORT. Every command keeps the zones within their capacities: one lemma for each operation that brings a lane's flags up
to date or moves a record, then the commands. -/

namespace Sys2Proof.Machine

set_option Elab.async false

variable {s : State}

/-! ## Crumb clearing -/

theorem zones_requestClear (l : Lane) (cause : CycleCause) (h : Zones s) : Zones (requestClear l cause s) :=
  zones_syncLane l h.of_frames

theorem zones_clearTest (l : Lane) (holds : Bool) (cause : CycleCause) (h : Zones s) : Zones (clearTest l holds cause s) :=
  when_elim h (fun _ => zones_requestClear l cause h)

theorem zones_estimateTest (l : Lane) (h : Zones s) : Zones (estimateTest l s) := zones_clearTest l _ _ h

theorem zones_entryTest (l : Lane) (h : Zones s) : Zones (entryTest l s) := by
  unfold entryTest; dsimp only; split
  · exact zones_clearTest l _ _ h
  · exact zones_clearTest l _ _ h

theorem zones_crumbResult (l : Lane) (result : Nat) (h : Zones s) : Zones (crumbResult l result s) := by
  unfold crumbResult; dsimp only; split
  · exact h.of_frames
  · exact zones_clearTest l _ _ h.of_frames

theorem zones_completeClear (l : Lane) (h : Zones s) : Zones (completeClear l s) := zones_syncLane l h.of_frames

theorem zones_backOff (l : Lane) (h : Zones s) : Zones (backOff l s) := zones_syncLane l h.of_frames

theorem zones_endBackOff (l : Lane) (h : Zones s) : Zones (endBackOff l s) := zones_entryTest l h.of_frames

theorem zones_abandonCrumb (l : Lane) (h : Zones s) : Zones (abandonCrumb l s) :=
  when_elim h (fun _ => zones_syncLane l h.of_frames)

/-! ## The blades -/

theorem zones_changeBlade (l : Lane) (b : BladeState) (wait : Timer) (h : Zones s) : Zones (changeBlade l b wait s) := by
  have told : Zones (syncLane l (s.onLane l (fun i => { i with blade := b, spinWait := wait }))) :=
    zones_syncLane l (h.onLane l (fun _ => rfl) (fun _ => rfl))
  unfold changeBlade
  exact told.of_frames

theorem zones_startSpinUp (l : Lane) (h : Zones s) : Zones (startSpinUp l s) := by
  have changed := zones_changeBlade l .spinning (some (spinUpMs (s.params.spinCode.get l))) h
  unfold startSpinUp
  exact changed.of_frames

theorem zones_bladeOff (l : Lane) (h : Zones s) : Zones (bladeOff l s) := by
  have changed : Zones (when ((s.lic.get l).blade != .off) (changeBlade l .off none) s) :=
    when_elim h (fun _ => zones_changeBlade l .off none h)
  unfold bladeOff
  exact changed.of_frames

theorem zones_bladeFollow (l : Lane) (h : Zones s) : Zones (bladeFollow l s) := by
  unfold bladeFollow; dsimp only
  cases (s.lic.get l).blade with
  | off => exact when_elim h (fun _ => zones_startSpinUp l h)
  | spinning => exact when_elim h (fun _ => zones_bladeOff l h)
  | ready => exact h

theorem zones_spinUpEnd (l : Lane) (h : Zones s) : Zones (spinUpEnd l s) := by
  unfold spinUpEnd; dsimp only; split
  · exact zones_changeBlade l .ready none h
  · exact (zones_bladeOff l h).of_frames

theorem zones_tensionResult (l : Lane) (result : Nat) (h : Zones s) : Zones (tensionResult l result s) := by
  have noticed : Zones (noticeCause .bladeTension (laneSubject l) (decide (result < s.params.tLow)) s) := h.of_frames
  unfold tensionResult; dsimp only; split
  · exact noticed
  · split
    · exact (zones_bladeOff l noticed).of_frames
    · split
      · exact noticed.of_frames
      · exact noticed

/-! ## Records that leave a zone -/

@[simp] theorem length_mapHead (f : LoafRecord → LoafRecord) (q : List LoafRecord) : (mapHead f q).length = q.length := by
  cases q <;> rfl

/-- A relation between a place's old and new value holds at every place when it holds of equal values and of the change. -/
theorem PerLane.upd_related {α : Type} {P : α → α → Prop} {f : α → α} {l : Lane} {p : PerLane α} (same : ∀ x, P x x)
    (changed : P (f (p.get l)) (p.get l)) (m : Lane) : P ((PerLane.upd l f p).get m) (p.get m) := by
  by_cases h : m = l
  · subst h; rw [PerLane.get_upd_same]; exact changed
  · rw [PerLane.get_upd_other _ h]; exact same _

/-- An ACCUM that loses records, or changes them where they are, stays within its capacity. -/
theorem Zones.onAccum (h : Zones s) (l : Lane) {f : List LoafRecord → List LoafRecord}
    (fewer : (f (s.tt.accum.get l)).length ≤ (s.tt.accum.get l).length) : Zones (s.onAccum l f) :=
  h.mono (fun _ => le_rfl)
    (PerLane.upd_related (P := fun q r : List LoafRecord => q.length ≤ r.length) (fun _ => le_rfl) fewer)
    (fun _ => id) h.exit rfl rfl (fun _ => rfl)

/-- BLADE emptied, or its record changed where it is. -/
theorem Zones.onBladeZone (h : Zones s) (l : Lane) {f : Option LoafRecord → Option LoafRecord}
    (fewer : (f (s.tt.blade.get l)).isSome = true → (s.tt.blade.get l).isSome = true) : Zones (s.onBladeZone l f) :=
  h.mono (fun _ => le_rfl) (fun _ => le_rfl)
    (PerLane.upd_related (P := fun q r : Option LoafRecord => q.isSome = true → r.isSome = true) (fun _ => id) fewer)
    h.exit rfl rfl (fun _ => rfl)

/-- An EXIT that stays within its capacity. -/
theorem Zones.onExit (h : Zones s) {f : List LoafRecord → List LoafRecord} (few : (f s.tt.exit).length ≤ 3) :
    Zones (s.onExit f) :=
  h.mono (fun _ => le_rfl) (fun _ => le_rfl) (fun _ => id) few rfl rfl (fun _ => rfl)

theorem zones_removeAccumHead (l : Lane) (h : Zones s) : Zones (removeAccumHead l s) := h.onAccum l (by simp)

theorem zones_startMergeWindow (l : Lane) (h : Zones s) : Zones (startMergeWindow l s) := by
  unfold startMergeWindow; split
  · exact when_elim h (fun _ => h.onAccum l (by simp))
  · exact h

theorem zones_accumHeadLeft (l : Lane) (left : LoafRecord) (h : Zones s) : Zones (accumHeadLeft l left s) := by
  have told := zones_syncLane l h
  unfold accumHeadLeft; dsimp only; split
  · exact told.of_frames
  · exact zones_startMergeWindow l told

theorem zones_loseAccumHead (l : Lane) (h : Zones s) : Zones (loseAccumHead l s) := by
  have removed := zones_removeAccumHead l h
  unfold loseAccumHead; split
  · exact zones_accumHeadLeft l _ removed.of_frames
  · exact h

theorem zones_bladeEmptied (l : Lane) (h : Zones s) : Zones (bladeEmptied l s) := zones_syncLane l h.of_frames

theorem zones_loseBlade (l : Lane) (h : Zones s) : Zones (loseBlade l s) := by
  have removed : Zones (s.onBladeZone l (fun _ => none)) := h.onBladeZone l (by simp)
  unfold loseBlade; split
  · exact zones_bladeEmptied l removed.of_frames
  · exact h

theorem loseExitHead_exit (s : State) : (loseExitHead s).tt.exit = s.tt.exit.tail := by
  unfold loseExitHead; split
  · simp [State.onExit]
  next none => rw [none]; rfl

/-- The comparisons of EXIT heads lose some of them, from the front. -/
theorem compareExitHead_exit (n : Nat) (s : State) : ∃ k, (compareExitHead n s).tt.exit = s.tt.exit.drop k := by
  induction n generalizing s with
  | zero => exact ⟨0, rfl⟩
  | succ n ih =>
    rw [compareExitHead]; split
    · obtain ⟨k, hk⟩ := ih (loseExitHead s)
      exact ⟨k + 1, by rw [hk, loseExitHead_exit, ← List.drop_one, List.drop_drop, Nat.add_comm]⟩
    · exact ⟨0, rfl⟩

theorem zones_loseExitHead (h : Zones s) : Zones (loseExitHead s) := by
  have removed : Zones (s.onExit List.tail) := h.onExit (by have := h.exit; simp; omega)
  unfold loseExitHead; split
  · exact removed.of_frames
  · exact h

theorem zones_compareExitHead (n : Nat) (h : Zones s) : Zones (compareExitHead n s) := by
  induction n generalizing s with
  | zero => exact h
  | succ n ih =>
    rw [compareExitHead]; split
    · exact ih (zones_loseExitHead h)
    · exact h

theorem zones_exitTrailing (h : Zones s) : Zones (exitTrailing s) := by
  have removed : Zones (s.onExit List.tail) := h.onExit (by have := h.exit; simp; omega)
  unfold exitTrailing; split
  · split
    · exact zones_compareExitHead 3 removed.of_frames
    · exact h
  · exact h

/-- The purge empties every zone (R27). -/
theorem zones_purgePool (h : Zones s) : Zones (purgePool s) := by
  have empty : Zones (s.onTt (fun t => { t with approach := ⟨[], []⟩, blade := ⟨none, none⟩, accum := ⟨[], []⟩, bagger := none,
                                                tyer := none, exit := [] })) :=
    h.mono (fun l => by cases l <;> simp [PerLane.get]) (fun l => by cases l <;> simp [PerLane.get])
      (fun l => by cases l <;> simp [PerLane.get]) (by simp) rfl rfl (fun _ => rfl)
  unfold purgePool; dsimp only
  generalize s.onTt _ = t at empty
  have counted : ∀ (gone : List LoafRecord) {t : State}, Zones t →
      Zones (gone.foldl (fun s r => when r.admitted (countLost r) s) t) := by
    intro gone
    induction gone with
    | nil => exact fun ht => ht
    | cons r gone ih => exact fun ht => ih ht.of_frames
  exact zones_syncLanes (counted s.records empty).of_frames

/-- STOP marking changes records where they are (R25). -/
theorem zones_stopMarking (h : Zones s) : Zones (stopMarking s) :=
  h.mono (fun _ => le_rfl) (fun l => by cases l <;> simp [stopMarking, PerLane.get])
    (fun l => by cases l <;> simp [stopMarking, PerLane.get]) h.exit rfl rfl (fun _ => rfl)

/-! ## Records that join a zone -/

/-- A record joins APPROACH while it holds fewer than 4 (R9). -/
theorem zones_createRecord (l : Lane) (x : Edge) (h : Zones s) : Zones (createRecord l x s) := by
  unfold createRecord; split
  next few =>
    refine zones_syncLane_of_fits l (fun m => ⟨?_, (h.fits m).accum, (h.fits m).room, (h.fits m).upper, (h.fits m).lower⟩) ?_ ?_
    · by_cases hm : m = l
      · subst hm; simpa [State.onApproach] using few
      · simpa [State.onApproach, PerLane.get_upd_other _ hm] using (h.fits m).approach
    · exact (h.told _).mono le_rfl id rfl rfl
    · exact h.exit
  · exact h.of_frames

/-- The BLADE record joins ACCUM, which has room for it (R13). -/
theorem zones_slicerTrailing (l : Lane) (h : Zones s) : Zones (slicerTrailing l s) := by
  unfold slicerTrailing; split
  next r blade =>
    split
    · have room : (s.tt.accum.get l).length < 9 := Nat.lt_succ_of_le ((h.fits l).room (by rw [blade]; rfl))
      have told := h.told (otherLane l)
      have other : otherLane l ≠ l := by cases l <;> simp [otherLane]
      refine zones_startMergeWindow l (zones_syncLane_of_fits l (fun m => ?_) (told.mono ?_ ?_ rfl rfl) h.exit)
      · by_cases hm : m = l
        · subst hm
          refine ⟨(h.fits m).approach, ?_, fun some => ?_, (h.fits m).upper, (h.fits m).lower⟩
          · simpa [State.onAccum, State.onBladeZone] using room
          · simp [State.onAccum, State.onBladeZone] at some
        · exact (h.fits m).mono le_rfl (by simp [State.onAccum, State.onBladeZone, PerLane.get_upd_other _ hm])
            (by simp [State.onAccum, State.onBladeZone, PerLane.get_upd_other _ hm]) rfl rfl
      · simp [State.onAccum, State.onBladeZone, PerLane.get_upd_other _ other]
      · simp [State.onAccum, State.onBladeZone, PerLane.get_upd_other _ other]
    · exact h
  · exact h

/-- EXIT has lost its head before a fourth record would join it (R4). -/
theorem zones_joinExit (r : LoafRecord) (h : Zones s) : Zones (joinExit r s) := by
  have freed : Zones (when (decide (3 ≤ s.tt.exit.length)) (fun s => exitHeadChanged (loseExitHead s)) s) :=
    when_elim h (fun _ => zones_compareExitHead 3 (zones_loseExitHead h))
  have room : (when (decide (3 ≤ s.tt.exit.length)) (fun s => exitHeadChanged (loseExitHead s)) s).tt.exit.length ≤ 2 := by
    have full := h.exit
    unfold when; split
    · obtain ⟨n, hn⟩ := compareExitHead_exit 3 (loseExitHead s)
      simp only [exitHeadChanged, hn, loseExitHead_exit, List.length_drop, List.length_tail]
      omega
    next few =>
      have := of_decide_eq_false (Bool.eq_false_iff.2 few)
      omega
  unfold joinExit; dsimp only
  exact freed.onExit (by rw [List.length_append]; exact Nat.succ_le_succ room)

theorem zones_completeTie (h : Zones s) : Zones (completeTie s) := by
  unfold completeTie; dsimp only; split
  next r _ =>
    have joined : Zones (joinExit { r with clipCode := s.tsc.code } (s.onTt (fun t => { t with tyer := none }))) :=
      zones_joinExit _ h.of_frames
    exact joined.of_frames
  · exact h.of_frames

theorem zones_tieIfHome (h : Zones s) : Zones (tieIfHome s) := when_elim h (fun _ => zones_completeTie h)

theorem zones_enterHomeWait (h : Zones s) : Zones (enterHomeWait s) := zones_tieIfHome h.of_frames

/-- A lane that admits has no reason in its closure set (R67). -/
theorem admits_closure {l : Lane} (admitted : admits l s = true) : (s.lic.get l).closure.isEmpty = true := by
  simp only [admits, Bool.and_eq_true] at admitted
  exact admitted.1.2

/-- A lane that admits has BLADE empty and ACCUM below its upper bound (R13, R65). -/
theorem admits_room {l : Lane} (h : Zones s) (admitted : admits l s = true) :
    s.tt.blade.get l = none ∧ (s.tt.accum.get l).length ≤ 8 := by
  obtain ⟨full, closed, occupied⟩ := h.told l
  have open_ := admits_closure admitted
  have below := (h.fits l).upper
  simp only [ClosureSet.isEmpty, ClosureSet.toList, Bool.not_eq_true'] at open_
  simp only [List.any_cons, List.any_nil, id, Bool.or_eq_false_iff] at open_
  obtain ⟨_, _, _, bladeOccupied, accFull, _⟩ := open_
  constructor
  · cases blade : s.tt.blade.get l with
    | none => rfl
    | some r => rw [blade] at occupied; rw [occupied rfl] at bladeOccupied; cases bladeOccupied
  · rw [closed] at accFull
    rw [accFull] at full
    have := full.resolve_left (by simp)
    omega

theorem zones_activate (l : Lane) (slot : Nat) (h : Zones s) : Zones (activate l slot s) :=
  h.onLane l (fun _ => rfl) (fun _ => rfl)

theorem zones_applyPending (l : Lane) (tag : Nat) (h : Zones s) : Zones (applyPending l tag s) := by
  unfold applyPending; split
  next slot _ =>
    have active : Zones ((activate l slot s).onLane l (fun i => { i with appliedTag := tag })) :=
      (zones_activate l slot h).onLane l (fun _ => rfl) (fun _ => rfl)
    exact active.of_frames
  · exact h

/-- The head passes into an empty BLADE whose record ACCUM can take. -/
theorem zones_admission (l : Lane) (r : LoafRecord) (h : Zones s) (blade : s.tt.blade.get l = none)
    (room : (s.tt.accum.get l).length ≤ 8) : Zones (admission l r s) := by
  have applied := zones_applyPending l r.tag h
  have hblade : (applyPending l r.tag s).tt.blade.get l = none := by simpa using blade
  have hroom : ((applyPending l r.tag s).tt.accum.get l).length ≤ 8 := by simpa using room
  unfold admission
  dsimp only
  generalize applyPending l r.tag s = t at *
  apply zones_estimateTest
  have other : otherLane l ≠ l := by cases l <;> simp [otherLane]
  refine zones_syncLane_of_fits l (fun m => ?_) ((applied.told (otherLane l)).mono ?_ ?_ ?_ ?_) ?_
  · by_cases hm : m = l
    · subst hm
      have fits := applied.fits m
      refine ⟨?_, ?_, fun _ => ?_, ?_, ?_⟩
      · have := fits.approach
        simp [State.onApproach, State.onBladeZone]; omega
      · simpa [State.onApproach, State.onBladeZone] using fits.accum
      · simpa [State.onApproach, State.onBladeZone] using hroom
      · simpa [State.onApproach, State.onBladeZone] using fits.upper
      · simpa [State.onApproach, State.onBladeZone] using fits.lower
    · apply (applied.fits m).mono <;> simp [State.onApproach, State.onBladeZone, PerLane.get_upd_other _ hm]
  · simp [State.onApproach, State.onBladeZone]
  · simp [State.onApproach, State.onBladeZone, PerLane.get_upd_other _ other]
  · simp [State.onApproach, State.onBladeZone]
  · simp [State.onApproach, State.onBladeZone]
  · simpa [State.onApproach, State.onBladeZone] using applied.exit

theorem zones_admitIfReady (l : Lane) (h : Zones s) : Zones (admitIfReady l s) := by
  unfold admitIfReady; split
  · refine when_elim h (fun admitted => ?_)
    obtain ⟨blade, room⟩ := admits_room h admitted
    exact zones_admission l _ h blade room
  · exact h

/-! ## The bagger -/

theorem zones_selectLane (l : Lane) (r : LoafRecord) (h : Zones s) : Zones (selectLane l r s) := by
  have selected : Zones (s.onAccum l (mapHead .selected)) := h.onAccum l (by simp)
  unfold selectLane; dsimp only; split
  · exact selected.of_frames
  · exact selected.of_frames

theorem zones_selectIfReady (h : Zones s) : Zones (selectIfReady s) := by
  unfold selectIfReady; split
  · exact when_elim h (fun _ => zones_selectLane _ _ h)
  · exact h

theorem zones_openingOver (h : Zones s) : Zones (openingOver s) := by
  unfold openingOver; dsimp only; split
  next l r _ =>
    have moved : Zones ((removeAccumHead l (s.onMbc (fun m => { m with openTimer := none }))).onTt
        (fun t => { t with bagger := some { r with arrived := false, departure := none } })) := by
      have removed : Zones (removeAccumHead l (s.onMbc (fun m => { m with openTimer := none }))) :=
        zones_removeAccumHead l h.of_frames
      exact removed.of_frames
    have left := zones_accumHeadLeft l r moved
    exact left.of_frames
  · exact h.of_frames

theorem zones_freeRejected (h : Zones s) : Zones (freeRejected s) := by
  unfold freeRejected; dsimp only; split
  next l r _ =>
    have removed := zones_removeAccumHead l h
    have left : Zones (accumHeadLeft l r (countRejected r (rejectCounter r) (removeAccumHead l s))) :=
      zones_accumHeadLeft l r removed.of_frames
    exact left.of_frames
  · exact h.of_frames

theorem zones_strokeDone (h : Zones s) : Zones (strokeDone s) := by
  unfold strokeDone; split
  · exact zones_freeRejected h
  · split
    · exact h.of_frames
    · split
      · exact h.of_frames
      · exact h.of_frames

theorem zones_pusherHome (l : Lane) (h : Zones s) : Zones (pusherHome l s) := by
  unfold pusherHome; split
  · exact h
  · split
    · exact h.of_frames
    · exact zones_strokeDone h.of_frames
    · exact h

theorem zones_endStopped (h : Zones s) : Zones (endStopped s) := when_elim h (fun _ => zones_strokeDone h.of_frames)

/-! ## The line states -/

theorem zones_crumbEntry (was : LineState) (h : Zones s) : Zones (crumbEntry was s) := by
  have tested : Zones (entryTest .b (entryTest .a s)) := zones_entryTest .b (zones_entryTest .a h)
  cases was with
  | init | spinUp | stop => exact tested
  | standby | run | hold | drain => exact h

theorem zones_enterStop (h : Zones s) : Zones (enterStop s) := by
  have marked : Zones (stopMarking (dropOutputs (leaveHold (changeLine .stop s)))) := zones_stopMarking h.of_frames
  have off := zones_syncLanes (zones_bladeOff .b (zones_bladeOff .a marked))
  exact zones_abandonCrumb .b (zones_abandonCrumb .a off.of_frames)

theorem zones_enterStandby (h : Zones s) : Zones (enterStandby s) := by
  have entered : Zones (removeWatches (setConveyors false (leaveHold (changeLine .standby s)))) := h.of_frames
  have off := zones_syncLanes (zones_bladeOff .b (zones_bladeOff .a entered))
  exact zones_crumbEntry _ off.of_frames

theorem zones_enterSpinUp (h : Zones s) : Zones (enterSpinUp s) := zones_syncLanes h.of_frames

theorem zones_enterRun (h : Zones s) : Zones (enterRun s) := zones_crumbEntry _ (zones_syncLanes h.of_frames)

theorem zones_enterDrain (h : Zones s) : Zones (enterDrain s) := zones_syncLanes h.of_frames

theorem zones_enterHold (back : LineState) (h : Zones s) : Zones (enterHold back s) := by
  have synced : Zones (syncLanes (setConveyors false ((changeLine .hold s).onLsc
      (fun c => { c with returnState := some back, holdHost := true })))) := zones_syncLanes h.of_frames
  unfold enterHold
  exact synced.of_frames

theorem zones_advanceLine (h : Zones s) : Zones (advanceLine s) := by
  have stopped : Zones (stopIfFaulted s) := by
    unfold stopIfFaulted
    cases s.lsc.line with
    | init | standby | stop => exact h
    | spinUp | run | hold | drain => exact when_elim h (fun _ => zones_enterStop h)
  have followed := zones_bladeFollow .b (zones_bladeFollow .a stopped)
  have running : Zones (runIfSpun (bladeFollow .b (bladeFollow .a (stopIfFaulted s)))) :=
    when_elim followed (fun _ => zones_enterRun followed)
  exact when_elim running (fun _ => zones_enterStandby running)

theorem zones_flow (h : Zones s) : Zones (flow s) := by
  have gaps : Zones (handoff (makeGap .b (makeGap .a s))) := h.of_frames
  have admitted := zones_admitIfReady .b (zones_admitIfReady .a (zones_selectIfReady gaps))
  unfold flow
  exact admitted.of_frames

theorem zones_settle (h : Zones s) : Zones (settle s) := zones_flow (zones_advanceLine h)

end Sys2Proof.Machine
end

section
/-! SUPPORT. The commands keep the zones within their capacities. -/

namespace Sys2Proof.Machine

set_option Elab.async false

variable {s : State}

/-! ## Requests -/

/-- What an owner makes of a state within its capacities is within them. -/
def KeepsZones (own : State → Answer × State) : Prop := ∀ s, Zones s → Zones (own s).2

theorem zones_takeRequest (type tok : Byte) {own : State → Answer × State} {after : State → State} (hown : KeepsZones own)
    (hafter : ∀ {s}, Zones s → Zones (after s)) (h : Zones s) : Zones (takeRequest type tok own after s) := by
  have replied : ∀ a : Answer, ∀ {t}, Zones t → Zones (queueReply type tok a t) := fun _ _ ht => ht.of_frames
  unfold takeRequest serveRequest answerRequest
  split
  · split
    · exact replied _ h
    · split
      · exact replied _ h
      · exact when_elim (replied _ (hown s h)) (fun _ => hafter (replied _ (hown s h)))
  · exact h

/-- A query changes nothing. -/
theorem keepsZones_of_same {own : State → Answer × State} (same : ∀ s, (own s).2 = s) : KeepsZones own :=
  fun s h => (same s).symm ▸ h

theorem zones_identify : KeepsZones identifyOwn := keepsZones_of_same fun _ => rfl
theorem zones_status : KeepsZones statusOwn := keepsZones_of_same fun _ => rfl
theorem zones_configGet (id index : Byte) : KeepsZones (configGetOwn id index) :=
  keepsZones_of_same fun _ => by unfold configGetOwn; split <;> rfl
theorem zones_recipeRead (slot : Byte) : KeepsZones (recipeReadOwn slot) :=
  keepsZones_of_same fun _ => by unfold recipeReadOwn; dsimp only; split <;> rfl
theorem zones_faultList (first : Byte) : KeepsZones (faultListOwn first) :=
  keepsZones_of_same fun _ => by unfold faultListOwn; dsimp only; split <;> rfl
theorem zones_trackList (zone lane : Byte) : KeepsZones (trackListOwn zone lane) :=
  keepsZones_of_same fun _ => by unfold trackListOwn; split <;> rfl
theorem zones_loafQuery (tag : BitVec 16) : KeepsZones (loafQueryOwn tag) :=
  keepsZones_of_same fun _ => by unfold loafQueryOwn; (repeat' split) <;> rfl
theorem zones_totalsRead (part : Byte) : KeepsZones (totalsReadOwn part) :=
  keepsZones_of_same fun _ => by unfold totalsReadOwn; dsimp only; (repeat' split) <;> rfl
theorem zones_logIndex : KeepsZones logIndexOwn := keepsZones_of_same fun _ => rfl
theorem zones_sensorRead (channel : Byte) : KeepsZones (sensorReadOwn channel) :=
  keepsZones_of_same fun _ => by unfold sensorReadOwn; split <;> rfl

theorem zones_shiftRead (number : BitVec 16) (part : Byte) : KeepsZones (shiftReadOwn number part) := by
  intro s h
  unfold shiftReadOwn
  (repeat' split) <;> exact h.of_frames

theorem zones_restart : KeepsZones restartOwn := by
  intro s h
  unfold restartOwn
  (repeat' split) <;> exact h.of_frames

theorem zones_clockSet (day : BitVec 16) (second : BitVec 32) : KeepsZones (clockSetOwn day second) := by
  intro s h
  unfold clockSetOwn; dsimp only
  split
  · exact h
  · have dated : Zones (s.onCal (fun _ => { day := day.toNat, second := second.toNat, phase := 0, valid := true })) := h.of_frames
    exact when_elim (P := Zones) dated (fun _ => dated.of_frames)

theorem zones_recipeWrite (slot : Byte) (f : RecipeFields) : KeepsZones (recipeWriteOwn slot f) := by
  intro s h
  unfold recipeWriteOwn; dsimp only
  (repeat' split) <;> exact h.of_frames

theorem zones_recipeSave : KeepsZones recipeSaveOwn :=
  fun s h => show Zones (requestJob _ s) from h.of_frames

theorem zones_shiftClose : KeepsZones shiftCloseOwn := by
  intro s h
  unfold shiftCloseOwn
  (repeat' split) <;> exact h.of_frames

theorem zones_laneSelect (lane slot : Byte) : KeepsZones (laneSelectOwn lane slot) := by
  intro s h
  unfold laneSelectOwn
  split
  · exact h
  · dsimp only; split
    · exact h
    · split
      · exact h
      · split
        · exact h
        · exact zones_syncLane _ (h.onLane _ (fun _ => rfl) (fun _ => rfl))

theorem zones_lineStart : KeepsZones lineStartOwn := by
  intro s h
  unfold lineStartOwn; dsimp only
  split
  · exact h
  · split
    · exact h
    · exact zones_advanceLine (zones_enterSpinUp h)

theorem zones_lineHold : KeepsZones lineHoldOwn := by
  intro s h
  have held := zones_advanceLine (zones_enterHold s.lsc.line h)
  unfold lineHoldOwn
  split
  · dsimp only; exact held
  · dsimp only; exact held
  · exact h
  · exact h

theorem zones_resumeDiscard (h : Zones s) : Zones (resumeDiscard s) := h.of_frames

theorem zones_lineResume : KeepsZones lineResumeOwn := by
  intro s h
  unfold lineResumeOwn; dsimp only
  split
  · apply zones_advanceLine
    split
    · exact zones_enterDrain h
    · exact zones_enterRun h
  · split
    · exact h
    · exact zones_advanceLine (zones_enterSpinUp (zones_resumeDiscard h))
  · exact h

theorem zones_lineDrain : KeepsZones lineDrainOwn := by
  intro s h
  unfold lineDrainOwn; dsimp only
  split
  · exact zones_advanceLine (zones_enterDrain h)
  · exact h
  · exact h

theorem zones_lineStandby : KeepsZones lineStandbyOwn := by
  intro s h
  unfold lineStandbyOwn; dsimp only
  split
  · exact zones_enterStandby (zones_purgePool h)
  · exact zones_enterStandby (zones_purgePool h)
  · exact h

theorem zones_laneEnable (lane on : Byte) : KeepsZones (laneEnableOwn lane on) := by
  intro s h
  unfold laneEnableOwn; dsimp only
  split
  · exact h
  next l _ =>
    split
    · exact h
    · split
      · exact h
      · have synced : Zones (syncLane l (s.onLane l (fun i => { i with enabled := on == 1 }))) :=
          zones_syncLane l (h.onLane l (fun _ => rfl) (fun _ => rfl))
        exact zones_advanceLine synced.of_frames

theorem zones_crumbClear (lane : Byte) : KeepsZones (crumbClearOwn lane) := by
  intro s h
  unfold crumbClearOwn; dsimp only
  split
  · exact h
  · split
    · exact h
    · split
      · exact h
      · exact zones_requestClear _ _ h

theorem zones_magazineLoad (which : Byte) (count : BitVec 16) : KeepsZones (magazineLoadOwn which count) := by
  intro s h
  unfold magazineLoadOwn; dsimp only
  split
  · exact h
  · split
    · have loaded : Zones (setBagCount count.toNat s) := h.of_frames
      exact when_elim (P := Zones) loaded (fun _ => loaded.of_frames)
    · have loaded : Zones (setClipCount count.toNat s) := h.of_frames
      exact when_elim (P := Zones) loaded (fun _ => loaded.of_frames)

theorem zones_tyerResolve (action : Byte) : KeepsZones (tyerResolveOwn action) := by
  intro s h
  unfold tyerResolveOwn
  split
  · exact h
  · split
    next r _ =>
      split
      · exact h
      · split
        · have discarded : Zones (discardJammed r s) := by unfold discardJammed; exact h.of_frames
          exact zones_advanceLine discarded
        · split
          · exact h
          · have retied : Zones (retie s) := by unfold retie; exact h.of_frames
            exact zones_advanceLine retied
    · exact h

theorem zones_faultClear : KeepsZones faultClearOwn := by
  intro s h
  unfold faultClearOwn; dsimp only
  split
  · exact h
  next e _ =>
    split
    · exact h
    · have cleared : Zones (clearPresented e s) := h.of_frames
      exact zones_advanceLine (when_elim cleared (fun _ => zones_endStopped cleared))

/-! ## Parameters -/

theorem paramSet_upper {id : Nat} (h : id ≠ 9) (index v : Nat) (p : Params) : (paramSet id index v p).upper = p.upper := by
  unfold paramSet; split <;> first | rfl | exact absurd rfl h

theorem paramSet_lower {id : Nat} (h : id ≠ 10) (index v : Nat) (p : Params) : (paramSet id index v p).lower = p.lower := by
  unfold paramSet; split <;> first | rfl | exact absurd rfl h

theorem steer_bounds (r : Requester) (e : Steer) (s : State) :
    (steer r e s).params.upper = s.params.upper ∧ (steer r e s).params.lower = s.params.lower := by
  simp only [steer]; (repeat' split) <;> simp

theorem zones_paramActs (id index v : Nat) (h : Zones s) : Zones (paramActs id index v s) := by
  unfold paramActs; split
  · split
    · exact h.of_frames
    · exact h
  · split
    · exact zones_syncLane _ h
    · exact h
  · split
    · exact zones_syncLane _ h
    · exact h
  · exact zones_estimateTest .b (zones_estimateTest .a h)
  · split <;> exact h.of_frames
  · exact when_elim h (fun _ => h.of_frames)
  · split
    next r e _ _ => exact h.of_frames (upper := (steer_bounds r e s).1) (lower := (steer_bounds r e s).2)
    · exact h
  · exact h

/-- A new bound of ACC_FULL in its range and below or above its partner: the lane fits and is told of it (R72, R186). -/
theorem zones_boundSet (l : Lane) {id index v : Nat} (hid : id = 9 ∨ id = 10) (hl : laneAt index = some l)
    (ok : paramOk id index v s.params = true) (h : Zones s) :
    Zones (syncLane l (s.onParams (paramSet id index v))) := by
  have set : ∀ m, (setAtLane index v s.params.upper).get m = (if m = l then v else s.params.upper.get m)
      ∧ (setAtLane index v s.params.lower).get m = (if m = l then v else s.params.lower.get m) := by
    intro m
    simp only [setAtLane, hl]
    cases l <;> cases m <;> exact ⟨rfl, rfl⟩
  have other : otherLane l ≠ l := by cases l <;> simp [otherLane]
  obtain rfl | rfl := hid
  · simp only [paramOk, hl, Option.any_some, Bool.and_eq_true, decide_eq_true_eq] at ok
    refine zones_syncLane_of_fits l (fun m => ?_) ?_ h.exit
    · obtain ⟨approach, accum, room, upper, lower⟩ := h.fits m
      refine ⟨approach, accum, room, ?_, ?_⟩ <;> simp only [onParams_params, paramSet, set] <;> split
      · exact ok.1.2
      · exact upper
      next same => rw [same]; exact ok.2
      · exact lower
    · exact (h.told _).mono le_rfl id (by simp only [onParams_params, paramSet, set, if_neg other]) rfl
  · simp only [paramOk, hl, Option.any_some, Bool.and_eq_true, decide_eq_true_eq] at ok
    refine zones_syncLane_of_fits l (fun m => ?_) ((h.told _).mono le_rfl id rfl rfl) h.exit
    obtain ⟨approach, accum, room, upper, lower⟩ := h.fits m
    refine ⟨approach, accum, room, upper, ?_⟩
    simp only [onParams_params, paramSet, set]; split
    next same => rw [same]; exact ok.2
    · exact lower

theorem zones_configSet (id index : Byte) (value : BitVec 16) : KeepsZones (configSetOwn id index value) := by
  intro s h
  unfold configSetOwn; dsimp only
  split
  · exact h
  next known =>
    split
    · exact h
    · split
      · exact h
      next ok =>
        dsimp only
        have hok : paramOk id.toNat index.toNat value.toNat s.params = true := by simpa using ok
        by_cases bound : id.toNat = 9 ∨ id.toNat = 10
        · cases hl : laneAt index.toNat with
          | none => obtain hid | hid := bound <;> simp [paramGet, hid, hl] at known
          | some l =>
            have acts : paramActs id.toNat index.toNat value.toNat (s.onParams (paramSet id.toNat index.toNat value.toNat))
                = syncLane l (s.onParams (paramSet id.toNat index.toNat value.toNat)) := by
              obtain hid | hid := bound <;> simp [paramActs, hid, hl]
            rw [acts]
            exact zones_boundSet l bound hl hok h
        · rw [not_or] at bound
          refine zones_paramActs _ _ _ (h.of_frames (upper := ?_) (lower := ?_))
          · exact paramSet_upper bound.1 _ _ _
          · exact paramSet_lower bound.2 _ _ _

/-! ## The dispatcher -/

/-- What the catalogue names for a TYPE keeps the capacities. -/
theorem zones_catalogue {type : Byte} {body : List Byte} {c : Handler} (found : catalogue type body = some c) :
    KeepsZones c.own ∧ ∀ {s}, Zones s → Zones (c.after s) := by
  have queried : ∀ {s : State}, Zones s → Zones (id s) := fun h => h
  have flows : ∀ {s : State}, Zones s → Zones (flow s) := zones_flow
  have settles : ∀ {s : State}, Zones s → Zones (settle s) := zones_settle
  unfold catalogue at found
  split at found <;> first | (cases found; done) | (obtain rfl := Option.some.inj found; dsimp only)
  · exact ⟨zones_identify, queried⟩
  · exact ⟨zones_status, queried⟩
  · exact ⟨zones_restart, queried⟩
  · exact ⟨zones_clockSet _ _, queried⟩
  · exact ⟨zones_configSet _ _ _, settles⟩
  · exact ⟨zones_configGet _ _, queried⟩
  · refine ⟨fun s h => ?_, queried⟩
    show Zones (recipeWriteBody body s).2
    unfold recipeWriteBody; split
    · exact zones_recipeWrite _ _ s h
    · exact h
  · exact ⟨zones_recipeRead _, queried⟩
  · exact ⟨zones_recipeSave, queried⟩
  · exact ⟨zones_laneSelect _ _, settles⟩
  · exact ⟨zones_lineStart, flows⟩
  · exact ⟨zones_lineHold, flows⟩
  · exact ⟨zones_lineResume, flows⟩
  · exact ⟨zones_lineDrain, flows⟩
  · exact ⟨zones_lineStandby, flows⟩
  · exact ⟨zones_laneEnable _ _, flows⟩
  · exact ⟨zones_crumbClear _, flows⟩
  · exact ⟨zones_magazineLoad _ _, settles⟩
  · exact ⟨zones_tyerResolve _, flows⟩
  · exact ⟨zones_faultList _, queried⟩
  · exact ⟨zones_faultClear, flows⟩
  · exact ⟨zones_trackList _ _, queried⟩
  · exact ⟨zones_loafQuery _, queried⟩
  · exact ⟨zones_totalsRead _, queried⟩
  · exact ⟨zones_shiftClose, queried⟩
  · exact ⟨zones_shiftRead _ _, queried⟩
  · exact ⟨zones_logIndex, queried⟩
  · exact ⟨zones_sensorRead _, queried⟩

theorem zones_takeFrame (type tok : Byte) (body : List Byte) (h : Zones s) : Zones (takeFrame type tok body s) := by
  have replied : ∀ a : Answer, Zones (queueReply type tok a s) := fun _ => h.of_frames
  unfold takeFrame; split
  · exact replied _
  next c found =>
    obtain ⟨hown, hafter⟩ := zones_catalogue found
    split
    · unfold serveRequest answerRequest; split
      · exact replied _
      · split
        · exact replied _
        · have answered : Zones (queueReply type tok (c.own s).1 (c.own s).2) := (hown s h).of_frames
          exact when_elim answered (fun _ => hafter answered)
    · (repeat' split) <;> exact replied _

theorem zones_dispatch (h : Zones s) : Zones (dispatch s) := by
  unfold dispatch; split
  · split
    · exact zones_takeFrame _ _ _ h.of_frames
    · exact h
  · exact h

/-! ## Edges and the Scan Converter -/

theorem zones_withEdge (e : Eye) (leading : Bool) {f : Edge → State → State} (hf : ∀ x {s}, Zones s → Zones (f x s))
    (h : Zones s) : Zones (withEdge e leading f s) := by
  unfold withEdge; split
  · split
    · exact hf _ h.of_frames
    · exact h
  · exact h

theorem zones_onEdge (e : Eye) (leading : Bool) {f : Edge → State → State} (hf : ∀ x {s}, Zones s → Zones (f x s))
    (h : Zones s) : Zones (onEdge e leading f s) :=
  zones_withEdge e leading (fun x _ ht => zones_settle (when_elim ht (fun _ => hf x ht))) h

theorem zones_onTrailing (e : TrackedEye) {f : State → State} (hf : ∀ {s}, Zones s → Zones (f s)) (h : Zones s) :
    Zones (onTrailing e f s) := by
  refine zones_withEdge _ _ (fun x t ht => zones_settle ?_) h
  have cleared : Zones (eyeCleared e t) := ht.of_frames
  exact when_elim cleared (fun _ => hf cleared)

theorem zones_slicerLeading (l : Lane) (x : Edge) (h : Zones s) : Zones (slicerLeading l x s) := by
  have watched : Zones (startWatch (slicerEye l) x.stamp s) := h.of_frames
  have matched : Zones ((startWatch (slicerEye l) x.stamp s).onBladeZone l (Option.map LoafRecord.matched)) :=
    watched.onBladeZone l (by simp)
  unfold slicerLeading; dsimp only; split
  · exact matched.of_frames
  · exact watched.of_frames

theorem zones_mergeLeading (l : Lane) (x : Edge) (h : Zones s) : Zones (mergeLeading l x s) := by
  have matched : Zones (s.onAccum l (mapHead LoafRecord.matched)) := h.onAccum l (by simp)
  have watched : Zones (when (candidate l s).isNone (startWatch (mergeEye l) x.stamp) s) := when_elim h (fun _ => h.of_frames)
  unfold mergeLeading; split
  · exact matched.of_frames
  · exact watched.of_frames

theorem zones_exitLeading (x : Edge) (h : Zones s) : Zones (exitLeading x s) := by
  have watched : Zones (startWatch .ex x.stamp s) := h.of_frames
  have matched : Zones ((startWatch .ex x.stamp s).onExit (mapHead LoafRecord.matched)) :=
    watched.onExit (by rw [length_mapHead]; exact watched.exit)
  unfold exitLeading; dsimp only; split
  · exact matched.of_frames
  · exact watched.of_frames

theorem zones_handResult (c : Channel) (result : Nat) (h : Zones s) : Zones (handResult c result s) := by
  cases c with
  | tna => exact zones_tensionResult .a result h
  | tnb => exact zones_tensionResult .b result h
  | airp => show Zones (airPressure result s); exact h.of_frames
  | cra => exact zones_crumbResult .a result h
  | crb => exact zones_crumbResult .b result h

theorem zones_completeConversion (c : Channel) (result : Nat) (h : Zones s) : Zones (completeConversion c result s) := by
  unfold completeConversion; dsimp only
  generalize stored : s.onSc _ = t
  have ht : Zones t := by subst stored; exact h.of_frames
  have handed := zones_handResult c result ht
  exact handed.of_frames

/-! ## Start-up -/

theorem zones_restoreSelection (l : Lane) (slot : Option Nat) (h : Zones s) : Zones (restoreSelection l slot s) := by
  unfold restoreSelection; split
  · split
    · exact h
    · exact zones_activate l _ h
  · exact h

theorem zones_scanRestores (h : Zones s) : Zones (scanRestores s) := by
  unfold scanRestores; dsimp only; split
  · exact h
  · exact zones_syncLanes (zones_restoreSelection .b _ (zones_restoreSelection .a _ h.of_frames))

theorem zones_completeScan (h : Zones s) : Zones (completeScan s) := by
  have restored : Zones (scanRestores (scanSets s)) := zones_scanRestores h.of_frames
  have checked : Zones (raiseKey .startup (endOfInitCheck .b (endOfInitCheck .a (evalClipLow (evalBagLow
      (scanRestores (scanSets s))))))) := restored.of_frames
  exact zones_enterStandby checked

theorem zones_resetMachine (baud1 baud0 : Bool) (tear : Tear) (s : State) : Zones (resetMachine baud1 baud0 tear s) := by
  rw [← zonesSafe_iff]; rfl

/-! ## The commands -/

theorem zones_jamTyer (h : Zones s) : Zones (jamTyer s) := by
  unfold jamTyer
  exact h.of_frames

theorem zones_endBlowing (l : Lane) (h : Zones s) : Zones (endBlowing l s) := by
  unfold endBlowing
  exact h.of_frames

/-- A command of a moment: nothing before it, else the effect and the rest of the step. -/
theorem zones_settled {c : Bool} {f : State → State} (hf : Zones s → Zones (f s)) (h : Zones s) :
    Zones (when c (fun s => settle (f s)) s) :=
  when_elim h (fun _ => zones_settle (hf h))

theorem zones_exec (i : Instr) (s t : State) (h : Zones s) (run : exec i s = .next t) : Zones t := by
  cases i with
  | identify tok => cases run; exact zones_takeRequest _ _ zones_identify id h
  | status tok => cases run; exact zones_takeRequest _ _ zones_status id h
  | restart tok => cases run; exact zones_takeRequest _ _ zones_restart id h
  | clockSet tok day second => cases run; exact zones_takeRequest _ _ (zones_clockSet _ _) id h
  | configSet tok p index value => cases run; exact zones_takeRequest _ _ (zones_configSet _ _ _) zones_settle h
  | configGet tok p index => cases run; exact zones_takeRequest _ _ (zones_configGet _ _) id h
  | recipeWrite tok slot fields => cases run; exact zones_takeRequest _ _ (zones_recipeWrite _ _) id h
  | recipeRead tok slot => cases run; exact zones_takeRequest _ _ (zones_recipeRead _) id h
  | recipeSave tok => cases run; exact zones_takeRequest _ _ zones_recipeSave id h
  | laneSelect tok lane slot => cases run; exact zones_takeRequest _ _ (zones_laneSelect _ _) zones_settle h
  | lineStart tok => cases run; exact zones_takeRequest _ _ zones_lineStart zones_flow h
  | lineHold tok => cases run; exact zones_takeRequest _ _ zones_lineHold zones_flow h
  | lineResume tok => cases run; exact zones_takeRequest _ _ zones_lineResume zones_flow h
  | lineDrain tok => cases run; exact zones_takeRequest _ _ zones_lineDrain zones_flow h
  | lineStandby tok => cases run; exact zones_takeRequest _ _ zones_lineStandby zones_flow h
  | laneEnable tok lane on => cases run; exact zones_takeRequest _ _ (zones_laneEnable _ _) zones_flow h
  | crumbClear tok lane => cases run; exact zones_takeRequest _ _ (zones_crumbClear _) zones_flow h
  | magazineLoad tok which count => cases run; exact zones_takeRequest _ _ (zones_magazineLoad _ _) zones_settle h
  | tyerResolve tok action => cases run; exact zones_takeRequest _ _ (zones_tyerResolve _) zones_flow h
  | faultList tok first => cases run; exact zones_takeRequest _ _ (zones_faultList _) id h
  | faultClear tok => cases run; exact zones_takeRequest _ _ zones_faultClear zones_flow h
  | trackList tok zone lane => cases run; exact zones_takeRequest _ _ (zones_trackList _ _) id h
  | loafQuery tok tag => cases run; exact zones_takeRequest _ _ (zones_loafQuery _) id h
  | totalsRead tok part => cases run; exact zones_takeRequest _ _ (zones_totalsRead _) id h
  | shiftClose tok => cases run; exact zones_takeRequest _ _ zones_shiftClose id h
  | shiftRead tok number part => cases run; exact zones_takeRequest _ _ (zones_shiftRead _ _) id h
  | logIndex tok => cases run; exact zones_takeRequest _ _ zones_logIndex id h
  | sensorRead tok channel => cases run; exact zones_takeRequest _ _ (zones_sensorRead _) id h
  | reset b1 b0 tear => cases run; exact zones_resetMachine b1 b0 tear s
  | startUpScanComplete => cases run; exact zones_settled zones_completeScan h
  | byteReceived byte stopBit => cases run; exact when_elim h (fun _ => h.of_frames)
  | assemblerTakesByte => cases run; exact h.of_frames
  | gapTimerRunOut => cases run; exact when_elim h (fun _ => h.of_frames)
  | dispatchFrame => cases run; exact zones_dispatch h
  | transmitStart txHold =>
    cases run
    have held : Zones (s.onPins (fun p => { p with txHold := txHold })) := h.of_frames
    exact when_elim held (fun _ => held.of_frames)
  | frameSent b1 b0 =>
    cases run; split
    · exact h
    · split
      · exact zones_resetMachine b1 b0 _ s
      · exact h.of_frames
  | eyeSample e level => cases run; exact h.of_frames
  | debounceConfirm e => cases run; exact when_elim h (fun _ => h.of_frames)
  | encoderCount b phaseA phaseB => cases run; exact h.of_frames
  | infeedTrailingEdge l => cases run; exact zones_onEdge _ _ (fun x _ => zones_createRecord l x) h
  | slicerLeadingEdge l => cases run; exact zones_onEdge _ _ (fun x _ => zones_slicerLeading l x) h
  | slicerTrailingEdge l => cases run; exact zones_onTrailing _ (zones_slicerTrailing l) h
  | mergeLeadingEdge l => cases run; exact zones_onEdge _ _ (fun x _ => zones_mergeLeading l x) h
  | mergeTrailingEdge l => cases run; exact zones_onTrailing _ (zones_startMergeWindow l) h
  | exitLeadingEdge => cases run; exact zones_onEdge _ _ (fun x _ => zones_exitLeading x) h
  | exitTrailingEdge => cases run; exact zones_onTrailing _ zones_exitTrailing h
  | bagConfirm =>
    cases run
    exact zones_withEdge _ _ (fun _ _ ht => zones_settle (when_elim ht (fun _ => ht.of_frames))) h
  | headAtGate l =>
    cases run
    have admitted := zones_admitIfReady l h
    exact when_elim h (fun _ => admitted.of_frames)
  | bladeWindowRunOut l => cases run; exact zones_settled (zones_loseBlade l) h
  | mergeWindowRunOut l => cases run; exact zones_settled (zones_loseAccumHead l) h
  | exitWindowRunOut =>
    cases run
    exact zones_settled (f := fun s => exitHeadChanged (loseExitHead s))
      (fun h => zones_compareExitHead 3 (zones_loseExitHead h)) h
  | stuckLimitExceeded e => cases run; exact zones_settled (fun h => h.of_frames) h
  | scanTimerExpiry => cases run; exact h.of_frames
  | conversionComplete result =>
    cases run; split
    · exact zones_settle (zones_completeConversion _ _ h)
    · exact h
  | spinUpWaitEnd l => cases run; exact zones_settled (zones_spinUpEnd l) h
  | gateStrokeEnd l => cases run; exact zones_settled (fun h => h.of_frames) h
  | pushStrokeTimerRunOut => cases run; exact zones_settled (fun h => h.of_frames) h
  | flapSettleEnd => cases run; exact zones_settled (fun h => h.of_frames) h
  | openingEnd => cases run; exact zones_settled zones_openingOver h
  | bagConfirmWatchRunOut => cases run; exact zones_settled (fun h => h.of_frames) h
  | bagBlastEnd => cases run; exact zones_settled (fun h => h.of_frames) h
  | extendedSwitchCloses l => cases run; exact when_elim h (fun _ => h.of_frames)
  | pusherHomeSwitchChange l closed =>
    cases run
    have noticed : Zones (noticeCause .baggerJam .out (pusherOut { s.pins with home := s.pins.home.upd l (fun _ => closed) })
        (s.onPins (fun p => { p with home := p.home.upd l (fun _ => closed) }))) := h.of_frames
    exact zones_settle (when_elim noticed (fun _ => zones_pusherHome l noticed))
  | deadTimeEnd l => cases run; exact when_elim h (fun _ => h.of_frames)
  | purgeEnd => cases run; exact zones_settled (fun h => h.of_frames) h
  | twistEnd => cases run; exact zones_settled (fun h => h.of_frames) h
  | clipEnd => cases run; exact zones_settled zones_enterHomeWait h
  | tyerHomeSwitchChange closed =>
    cases run
    apply zones_settle; split
    · exact zones_tieIfHome h.of_frames
    · exact h.of_frames
  | tieTimerRunOut => cases run; exact zones_settled zones_jamTyer h
  | airWaitTimerRunOut l => cases run; exact zones_settled (zones_backOff l) h
  | blowingEnd l => cases run; exact zones_settled (zones_endBlowing l) h
  | settleEnd l => cases run; exact zones_settled (zones_completeClear l) h
  | backoffEnd l => cases run; exact zones_settled (zones_endBackOff l) h
  | safetySample estopOpen guardOpen =>
    cases run
    apply zones_settle
    exact h.of_frames
  | calendarTick => cases run; exact h.of_frames
  | lineTimeSecond k => cases run; exact when_elim h (fun _ => h.of_frames)
  | pageProgramComplete verified =>
    cases run; split
    · split <;> exact h.of_frames
    · exact h

theorem zones_tick (h : Zones s) : Zones (tick s) :=
  have lane : ∀ {s}, Zones s → ∀ l, Zones (s.onLane l LaneInfeed.tick) := fun h l =>
    h.onLane l (f := LaneInfeed.tick) (fun _ => rfl) (fun _ => rfl)
  have lanes : Zones ((s.onLane .a LaneInfeed.tick).onLane .b LaneInfeed.tick) := lane (lane h .a) .b
  lanes.of_frames rfl rfl rfl rfl rfl rfl (fun _ => rfl)

theorem zones_step {s t : State} (h : Zones s) (run : step s = .next t) : Zones t := by
  unfold step at run; split at run
  · exact zones_exec _ _ _ h.of_frames run
  · split at run
    · exact zones_exec _ _ _ h.of_frames run
    · cases run; exact zones_tick h

/-- Settles O9: `Zones` says clause by clause what `zonesSafe` computes, and every command keeps it; a record joins a zone only
where the flags of its lane, which follow the zones, leave room. -/
theorem everyStepKeepsTheZonesCapacities : Obligations.EveryStepKeepsTheZonesCapacities := by
  intro s t safe run
  rw [zonesSafe_iff] at safe ⊢
  exact zones_step safe run

end Sys2Proof.Machine
end

section
/-! SUPPORT. What a step does on an idle block (LOG 1, LOG 2), and the reset state. -/

namespace Sys2Proof.Machine

set_option Elab.async false

variable {s : State}

theorem Timer.tick_eq_map (t : Timer) : t.tick = t.map (fun n => n - 1) := by cases t <;> rfl

/-- A millisecond of the accumulators, by the line state: RUN and DRAIN share one (R133). -/
theorem LineControl.tick_eq (c : LineControl) : c.tick = { c with
    runMs := if c.line == .run || c.line == .drain then c.runMs + 1 else c.runMs
    holdMs := if c.line == .hold then c.holdMs + 1 else c.holdMs
    stopMs := if c.line == .stop then c.stopMs + 1 else c.stopMs } := by
  obtain ⟨line, _, _, _, _, _, _⟩ := c
  cases line <;> rfl

/-- An idle block with nothing due lets a millisecond pass. -/
theorem step_idle_tick (idle : s.pending = []) (none_due : dueEvents s = []) : step s = .next (tick s) := by
  simp [step, idle, idleEvent, none_due]

/-- An idle block takes one of the events that are due, whichever the free value names. -/
theorem step_idle_event (idle : s.pending = []) (due : dueEvents s ≠ []) :
    ∃ e ∈ dueEvents s, step s = exec e (choiceUsed s) := by
  cases h : dueEvents s with
  | nil => exact absurd h due
  | cons e rest =>
    have inside : Config.dueChoice s.freeCount % (e :: rest).length < (e :: rest).length := Nat.mod_lt _ (by simp)
    refine ⟨(e :: rest).getD (Config.dueChoice s.freeCount % (e :: rest).length) e, ?_, ?_⟩
    · rw [List.getD_eq_getElem _ _ inside]
      exact List.getElem_mem inside
    · simp only [step, idle, idleEvent, h]

/-- Settles O2: an idle step reads the events that are due; `tick` is written out timer by timer. -/
theorem idleBlockTakesADueEventOrAMillisecond : Obligations.IdleBlockTakesADueEventOrAMillisecond := by
  intro s idle
  refine ⟨step_idle_tick idle, step_idle_event idle, ?_⟩
  unfold tick
  simp only [LineControl.tick_eq, Timer.tick_eq_map, LaneInfeed.tick, MergeBag.tick, TieStation.tick, Crumb.tick,
    DriveUnit.tick, ScanConverter.tick, PerEye.upd]
  cases receiving : s.ml.assembler <;> simp only [gapRuns, receiving, Bool.and_true, Bool.and_false] <;> rfl

/-- Settles O3: the reset state is one concrete state, and each invariant is evaluated on it. -/
theorem resetStateIsSafe : Obligations.ResetStateIsSafe :=
  ⟨rfl, by decide, rfl, rfl, rfl, rfl, by decide, rfl, rfl, rfl⟩

end Sys2Proof.Machine
end

section
/-! SUPPORT. The queries of the host (R28, R29, R51, R153, R160, R173, R174, R184, R186): what each owner answers, and that a
query changes nothing but the reply queue. -/

namespace Sys2Proof.Machine

set_option Elab.async false

variable {s : State}

/-! ## The dispatcher -/

/-- The dispatcher hands a request on and queues what its owner answers, when nothing settles after it. -/
theorem takeRequest_of_serves (h : serves s = true) (type tok : Byte) (own : State → Answer × State) :
    takeRequest type tok own id s = queueReply type tok (own s).1 (own s).2 := by
  simp only [serves, Bool.and_eq_true, decide_eq_true_eq, Bool.not_eq_true', bne_iff_ne, ne_eq] at h
  obtain ⟨⟨room, quiet⟩, started⟩ := h
  simp [takeRequest, serveRequest, answerRequest, room, quiet, started, when]

/-- A query that is served: its owner's answer is queued on the state its owner leaves. -/
theorem query_answers (h : serves s = true) {i : Instr} {type tok : Byte} {own : State → Answer × State}
    (meaning : exec i s = .next (takeRequest type tok own id s)) {a : Answer} {t : State} (answer : own s = (a, t)) :
    exec i s = .next (queueReply type tok a t) := by
  rw [meaning, takeRequest_of_serves h, answer]

/-- A query that is granted, with its content written out. -/
theorem query_content (h : serves s = true) {i : Instr} {type tok : Byte} {own : State → Answer × State}
    (meaning : exec i s = .next (takeRequest type tok own id s)) {c c' : List Byte} (answer : own s = (answerOk c, s))
    (written : c = c') : exec i s = .next (queueReply type tok ⟨0, c'⟩ s) :=
  written ▸ query_answers h meaning answer

/-! ## The owners' answers -/

theorem statusContent_eq (s : State) : statusOwn s = (answerOk (statusContent s), s) := rfl

theorem configGet_found {id index : Byte} {v : Nat} (found : paramGet id.toNat index.toNat s.params = some v) :
    configGetOwn id index s = (answerOk (configContent id index v), s) := by simp only [configGetOwn, found]

theorem configGet_unknown {id index : Byte} (unknown : paramGet id.toNat index.toNat s.params = none) :
    configGetOwn id index s = (badValue, s) := by simp only [configGetOwn, unknown]

theorem recipeRead_slot {slot : Byte} (known : slot.toNat ≤ 15) : recipeReadOwn slot s = (answerOk (recipeBytes (recipeAt slot.toNat s)
    ++ u8 (s.records.countP (fun r => r.recipeSlot == some slot.toNat)) ++ u8 (useMarks slot.toNat s)), s) := by
  simp only [recipeReadOwn, if_neg (Nat.not_lt.2 known)]

theorem recipeRead_beyond {slot : Byte} (beyond : 15 < slot.toNat) : recipeReadOwn slot s = (badValue, s) := by
  simp only [recipeReadOwn, if_pos beyond]

theorem faultList_from {first : Byte} (low : 1 ≤ first.toNat) (high : first.toNat ≤ 32) :
    faultListOwn first s = (answerOk (u8 s.ft.entries.length ++ u16 s.ft.changeNumber.toNat
      ++ ((s.ft.order.drop (first.toNat - 1)).take 8).flatMap (faultBytes s.ft)), s) := by
  have inRange : ¬(first.toNat = 0 ∨ 32 < first.toNat) := by omega
  simp only [faultListOwn, if_neg inRange]

theorem faultList_beyond {first : Byte} (beyond : first.toNat = 0 ∨ 32 < first.toNat) :
    faultListOwn first s = (badValue, s) := by simp only [faultListOwn, if_pos beyond]

theorem trackList_queue {zone lane : Byte} {q : List LoafRecord} (found : zoneQueue zone lane s = some q) :
    trackListOwn zone lane s
      = (answerOk (u8 q.length ++ q.flatMap (fun r => tagBytes r.tag ++ u8 r.condition.code)), s) := by
  simp only [trackListOwn, found]

theorem laneOf_beyond {lane : Byte} (beyond : 1 < lane.toNat) : laneOf lane = none := by
  have zero : lane ≠ 0#8 := by rintro rfl; simp at beyond
  have one : lane ≠ 1#8 := by rintro rfl; simp at beyond
  simp [laneOf, zero, one]

/-- TRACK_LIST names no queue beyond the six zones, nor beyond the two lanes where the zone has one for each (R28). -/
theorem zoneQueue_beyond {zone lane : Byte} (beyond : 5 < zone.toNat ∨ zone.toNat ≤ 2 ∧ 1 < lane.toNat) :
    zoneQueue zone lane s = none := by
  obtain far | ⟨near, beyond⟩ := beyond
  · unfold zoneQueue; split <;> first | omega | rfl
  · have noLane := laneOf_beyond beyond
    unfold zoneQueue; split <;> first | omega | simp [noLane]

theorem trackList_beyond {zone lane : Byte} (beyond : 5 < zone.toNat ∨ zone.toNat ≤ 2 ∧ 1 < lane.toNat) :
    trackListOwn zone lane s = (badValue, s) := by simp only [trackListOwn, zoneQueue_beyond beyond]

theorem loafQuery_found {tag : BitVec 16} {z : Zone} {place : Nat} {r : LoafRecord} (named : tag ≠ 0)
    (found : s.tt.locate tag.toNat = some (z, place, r)) :
    loafQueryOwn tag s = (answerOk (loafContent z place r s), s) := by simp only [loafQueryOwn, if_neg named, found]

/-- A tag that no record holds is found in no zone queue. -/
theorem locate_of_free {tag : Nat} (free : allocatedTag tag s = false) : s.tt.locate tag = none := by
  have absent : ∀ q : List LoafRecord, (∀ r ∈ q, r ∈ s.records) → q.findIdx? (·.tag == tag) = none := by
    intro q within
    rw [List.findIdx?_eq_none_iff]
    exact fun r hr => List.any_eq_false.1 free r (within r hr) |> Bool.eq_false_iff.2
  simp only [State.records, Tracking.records, List.mem_append] at absent
  simp only [Tracking.locate]
  rw [absent s.tt.approach.a (by simp +contextual), absent s.tt.approach.b (by simp +contextual),
    absent s.tt.blade.a.toList (by simp +contextual), absent s.tt.blade.b.toList (by simp +contextual),
    absent s.tt.accum.a (by simp +contextual), absent s.tt.accum.b (by simp +contextual),
    absent s.tt.bagger.toList (by simp +contextual), absent s.tt.tyer.toList (by simp +contextual),
    absent s.tt.exit (by simp +contextual)]
  rfl

theorem loafQuery_free {tag : BitVec 16} (named : tag ≠ 0) (free : allocatedTag tag.toNat s = false) :
    loafQueryOwn tag s = (notFound, s) := by simp only [loafQueryOwn, if_neg named, locate_of_free free]

theorem totalsRead_head : totalsReadOwn 0 s = (answerOk (u16 s.tu.live.shift ++ totalsHead s), s) := rfl

/-- Parts 1 to 24 are the product entries, 25 the other entry (R160). -/
theorem partEntry_product {part : Nat} (h : part ≤ 24) (t : Totals) :
    partEntry part t = (t.products[part - 1]?).map (fun e => entryBytes e.code e.counters) := by
  have : part ≠ 25 := by omega
  simp only [partEntry, if_neg this]

theorem totalsRead_part {part : Byte} {b : List Byte} (low : 1 ≤ part.toNat) (high : part.toNat ≤ 25)
    (found : partEntry part.toNat s.tu.live = some b) :
    totalsReadOwn part s = (answerOk (u16 s.tu.live.shift ++ b), s) := by
  have some_ : part.toNat ≠ 0 := by omega
  simp only [totalsReadOwn, if_neg (Nat.not_lt.2 high), if_neg some_, found]

theorem totalsRead_absent {part : Byte} (low : 1 ≤ part.toNat) (high : part.toNat ≤ 24)
    (absent : s.tu.live.products.length < part.toNat) :
    totalsReadOwn part s = ({ notFound with content := u16 s.tu.live.shift }, s) := by
  have inRange : ¬25 < part.toNat := by omega
  have some_ : part.toNat ≠ 0 := by omega
  have none_ : s.tu.live.products[part.toNat - 1]? = none := List.getElem?_eq_none (by omega)
  simp only [totalsReadOwn, if_neg inRange, if_neg some_, partEntry_product high, none_, Option.map_none]

theorem totalsRead_beyond {part : Byte} (beyond : 25 < part.toNat) :
    totalsReadOwn part s = ({ badValue with content := u16 s.tu.live.shift }, s) := by
  simp only [totalsReadOwn, if_pos beyond]

section
variable {number : BitVec 16} {part : Byte} {k : Nat} (named : number ≠ 0) (known : part.toNat ≤ 25)

theorem shiftRead_beyond (beyond : number = 0 ∨ 25 < part.toNat) : shiftReadOwn number part s = (badValue, s) := by
  simp only [shiftReadOwn, if_pos beyond]

include named known

theorem shiftRead_inRange : ¬(number = 0 ∨ 25 < part.toNat) := by
  rw [not_or]; exact ⟨named, Nat.not_lt.2 known⟩

theorem shiftRead_absent (absent : validSlot number.toNat s.rs.index = none) :
    shiftReadOwn number part s = (notFound, s) := by
  simp only [shiftReadOwn, if_neg (shiftRead_inRange named known), absent]

theorem shiftRead_found {b : List Byte} (slot : validSlot number.toNat s.rs.index = some k) (agrees : s.rs.agrees k = true)
    (found : shiftPart part.toNat (readShift number.toNat (s.rs.content k)) = some b) :
    shiftReadOwn number part s = (answerOk b, s) := by
  simp only [shiftReadOwn, if_neg (shiftRead_inRange named known), slot, agrees, if_true, found]

/-- A record whose check value disagrees is marked TORN (R174). -/
theorem shiftRead_torn (slot : validSlot number.toNat s.rs.index = some k) (disagrees : s.rs.agrees k = false) :
    shiftReadOwn number part s = (notFound, s.onRs (RecordStore.setIndex k { state := .torn, number := some number.toNat })) := by
  simp only [shiftReadOwn, if_neg (shiftRead_inRange named known), slot, disagrees, Bool.false_eq_true, if_false]

end

/-! ## The obligation -/

/-- Settles O19: each query is its owner's answer, queued; the contents are the owners' own definitions written out. -/
theorem queriesAnswerTheirTables : Obligations.QueriesAnswerTheirTables := by
  refine ⟨fun tok s h => ?_, fun tok s h => ?_, by decide⟩
  · refine ⟨?_, fun p index v found => ?_, fun slot known => ?_, fun first low high => ?_, fun zone lane q found => ?_,
      fun tag z place r named found => ?_, ?_, fun part e low high found => ?_, fun c found => ?_,
      fun number part k b named known slot agrees found => ?_, ?_⟩
    · intro closures lane
      have laneA : statusLane .a s = lane .a := rfl
      have laneB : statusLane .b s = lane .b := rfl
      refine query_content h rfl (statusContent_eq s) ?_
      unfold statusContent
      rw [laneA, laneB]
      simp only [holdSources, writerByte, queuedByte, FaultTable.presented]
      cases s.ft.stack.head? <;> cases s.rs.writer <;> rfl
    · exact query_answers h rfl (configGet_found found)
    · exact query_answers h rfl (recipeRead_slot known)
    · exact query_answers h rfl (faultList_from low high)
    · exact query_answers h rfl (trackList_queue found)
    · exact query_answers h rfl (loafQuery_found named found)
    · refine query_content h rfl totalsRead_head ?_
      simp only [totalsHead, tailBytes, List.append_assoc]
    · refine query_answers h rfl (totalsRead_part low (by omega) ?_)
      rw [partEntry_product high, found]; rfl
    · refine query_answers h rfl (totalsRead_part (by decide) (by decide) ?_)
      show s.tu.live.other.map (entryBytes 0) = _
      rw [found]; rfl
    · exact query_answers h rfl (shiftRead_found named known slot agrees found)
    · exact query_answers h rfl rfl
  · refine ⟨fun p index unknown => ?_, fun slot beyond => ?_, fun first beyond => ?_, fun zone lane beyond => ?_, ?_,
      fun tag named free => ?_, fun part beyond => ?_, fun part low high absent => ?_, fun number part beyond => ?_,
      fun number part named known absent => ?_, fun number part k named known slot disagrees => ?_⟩
    · exact query_answers h rfl (configGet_unknown unknown)
    · exact query_answers h rfl (recipeRead_beyond beyond)
    · exact query_answers h rfl (faultList_beyond beyond)
    · exact query_answers h rfl (trackList_beyond beyond)
    · exact query_answers h rfl rfl
    · exact query_answers h rfl (loafQuery_free named free)
    · exact query_answers h rfl (totalsRead_beyond beyond)
    · exact query_answers h rfl (totalsRead_absent low high absent)
    · exact query_answers h rfl (shiftRead_beyond beyond)
    · exact query_answers h rfl (shiftRead_absent named known absent)
    · exact query_answers h rfl (shiftRead_torn named known slot disagrees)

end Sys2Proof.Machine
end

section
/-! SUPPORT. What a raise leaves in the Fault Table and in the lanes (R144, R145), and what `syncLane` makes of a lane (R65, R66,
R72, R74): the facts the events of the Tracking Table share. -/

namespace Sys2Proof.Machine

set_option Elab.async false

/-! ## The entry of a raise -/

theorem mem_refreshList {e f : FaultEntry} {l : List FaultEntry} (hf : f ∈ l) (pair : f.isPair e.kind e.subject = true) :
    e ∈ refreshList e l :=
  List.mem_map.2 ⟨f, hf, if_pos pair⟩

theorem mem_placeEntry (e : FaultEntry) (s : State) : e ∈ (placeEntry e s).ft.entries := by
  unfold placeEntry FaultTable.entries; split
  · simp
  · split
    · simp
    · simp

/-- The entry that a raise stamps stands after it, new or refreshed. -/
theorem stampEntry_mem_raiseFault (k : FaultKind) (subj : Subject) (detail : Option Nat) (s : State) :
    stampEntry k subj detail s ∈ (raiseFault k subj detail s).ft.entries := by
  have table : ∀ t : State, (tableChanged t).ft.entries = t.ft.entries := fun t => by
    simp [tableChanged, FaultTable.entries]
  unfold raiseFault; dsimp only
  rw [table]; split
  next old =>
    obtain ⟨f, hf, pair⟩ := List.any_eq_true.1 old
    rcases List.mem_append.1 hf with h | h
    · exact List.mem_append_left _ (mem_refreshList h pair)
    · exact List.mem_append_right _ (mem_refreshList h pair)
  · rw [syncHolds_table]
    exact mem_placeEntry _ _

/-- After a raise the pair stands with the detail of the raise. -/
theorem standsWith_raiseFault (k : FaultKind) (subj : Subject) (detail : Option Nat) (s : State) :
    standsWith k subj detail (raiseFault k subj detail s) = true :=
  List.any_eq_true.2 ⟨_, stampEntry_mem_raiseFault k subj detail s, by simp [stampEntry, FaultEntry.isPair]⟩

theorem standing_of_standsWith {k : FaultKind} {subj : Subject} {detail : Option Nat} {s : State}
    (h : standsWith k subj detail s = true) : standing k subj s = true := by
  obtain ⟨e, he, hp⟩ := List.any_eq_true.1 h
  exact List.any_eq_true.2 ⟨e, he, (Bool.and_eq_true _ _ ▸ hp).1⟩

theorem standsWith_congr {s t : State} (h : t.ft = s.ft) (k : FaultKind) (subj : Subject) (detail : Option Nat) :
    standsWith k subj detail t = standsWith k subj detail s := by unfold standsWith; rw [h]

theorem standing_congr {s t : State} (h : t.ft = s.ft) (k : FaultKind) (subj : Subject) :
    standing k subj t = standing k subj s := by unfold standing; rw [h]

/-! ## The cause of a raise -/

theorem raiseFault_causes (k : FaultKind) (subj : Subject) (detail : Option Nat) (s : State) :
    (raiseFault k subj detail s).ft.causes
      = if k.raiseSetsCause then s.ft.causes.set k subj true else s.ft.causes := by
  unfold raiseFault; dsimp only; split
  · simp
  · simp

theorem causes_stuck (e : TrackedEye) (c : CauseFlags) :
    (c.set .eyeStuck (eyeSubject e) true).get .eyeStuck (eyeSubject e) = true := by
  cases e <;> rfl

/-! ## FAULT_HOLD -/

/-- Two lanes' records that agree beside FAULT_HOLD are one when the flag is put to the same value. -/
theorem eq_of_holdAside {i j : LaneInfeed} (h : i.holdAside = j.holdAside) :
    { i with closure := { i.closure with faultHold := j.closure.faultHold } } = j :=
  calc { i with closure := { i.closure with faultHold := j.closure.faultHold } }
      = { i.holdAside with closure := { i.holdAside.closure with faultHold := j.closure.faultHold } } := rfl
    _ = j := by rw [h]; rfl

theorem bladeOccupied_of_holdAside {i j : LaneInfeed} (h : i.holdAside = j.holdAside) :
    i.closure.bladeOccupied = j.closure.bladeOccupied := by
  show i.holdAside.closure.bladeOccupied = j.holdAside.closure.bladeOccupied
  rw [h]

theorem syncHold_faultHold (l : Lane) (s : State) : ((syncHold l s).lic.get l).closure.faultHold = faultHold l s := by
  simp [syncHold, State.onLane]

theorem syncHold_lic_other {l m : Lane} (h : m ≠ l) (s : State) : (syncHold l s).lic.get m = s.lic.get m := by
  simp [syncHold, State.onLane, PerLane.get_upd_other _ h]

theorem faultHold_congr {s t : State} (h : t.ft = s.ft) (l : Lane) : faultHold l t = faultHold l s := by
  unfold faultHold holdCount; rw [h]

theorem syncHolds_faultHold (l : Lane) (s : State) : ((syncHolds s).lic.get l).closure.faultHold = faultHold l s := by
  cases l with
  | a => rw [syncHolds, syncHold_lic_other (by simp), syncHold_faultHold]
  | b => rw [syncHolds, syncHold_faultHold, faultHold_congr (s := s) (by simp)]

/-- A new entry that holds a lane sets the lane's FAULT_HOLD (R147). -/
theorem raiseFault_faultHold {k : FaultKind} {subj : Subject} {l : Lane} (holds : actionOf k subj = .laneHold l)
    (detail : Option Nat) {s : State} (new : standing k subj s = false) :
    ((raiseFault k subj detail s).lic.get l).closure.faultHold = true := by
  unfold raiseFault; dsimp only
  rw [new]
  simp only [Bool.false_eq_true, if_false]
  generalize s.onFt _ = t
  have changed : (tableChanged (syncHolds (placeEntry (stampEntry k subj detail s) t))).lic
      = (syncHolds (placeEntry (stampEntry k subj detail s) t)).lic := by simp
  rw [changed, syncHolds_faultHold, faultHold, decide_eq_true_iff]
  exact List.countP_pos_iff.2 ⟨_, mem_placeEntry _ _, by simp [stampEntry, holds]⟩

/-! ## A lane brought up to date -/

theorem syncLane_bladeOccupied (l : Lane) (s : State) :
    ((syncLane l s).lic.get l).closure.bladeOccupied = (s.tt.blade.get l).isSome := by
  rw [syncLane_lic_same]; rfl

theorem syncLane_withFlagsOf (l : Lane) (s : State) :
    (syncLane l s).lic.get l = ((syncLane l s).lic.get l).withFlagsOf (s.lic.get l) := by
  rw [syncLane_lic_same]; rfl

theorem accFullNext_set {was : Bool} {n upper lower : Nat} (h : accFullNext was n upper lower = true) :
    lower ≤ n ∨ upper ≤ n := by
  cases was
  · exact .inr (by simpa [accFullNext] using h)
  · exact .inl (by simpa [accFullNext] using h)

theorem accFullNext_clear {was : Bool} {n upper lower : Nat} (h : accFullNext was n upper lower = false) :
    n < upper ∨ n < lower := by
  cases was
  · exact .inl (by simpa [accFullNext] using h)
  · exact .inr (by simpa [accFullNext] using h)

theorem approachHighNext_bounds (was : Bool) (n : Nat) :
    (approachHighNext was n = true → 2 ≤ n) ∧ (approachHighNext was n = false → n ≤ 2) := by
  cases was <;> simp [approachHighNext] <;> omega

theorem lineNotRunning_eq (s : State) : (!producing s) = (s.lsc.line != .run && s.lsc.line != .drain) := by
  cases h : s.lsc.line <;> simp [producing, h]

theorem needsGap_eq (c : CycleState) :
    c.needsGap = [CycleState.requested, .airWait, .blowing, .settle].any (fun d => d == c) := by
  cases c <;> rfl

theorem faultHold_eq (l : Lane) (s : State) :
    faultHold l s = s.ft.entries.any (fun e => actionOf e.kind e.subject == .laneHold l) := by
  rw [faultHold, holdCount, Bool.eq_iff_iff, decide_eq_true_iff, List.countP_pos_iff, List.any_eq_true]

/-- After `syncLane` every flag of the lane is what its rule gives. -/
theorem laneInStep_syncLane (l : Lane) (s : State) : laneInStep l (syncLane l s) := by
  have high := approachHighNext_bounds (s.lic.get l).approachHigh (s.tt.approach.get l).length
  unfold laneInStep
  simp only [syncLane_lic_same, syncLane_keeps]
  refine ⟨?_, accFullNext_set, accFullNext_clear, high.1, high.2, rfl⟩
  simp only [laneFlags, closureOf, lineNotRunning_eq, needsGap_eq, faultHold_eq]

end Sys2Proof.Machine
end

section
/-! SUPPORT. The edges of the Tracking Table as their blocks take them (R11, R24, LOG 7, LOG 8), and the creation of a record
(R7 to R9). -/

namespace Sys2Proof.Machine

set_option Elab.async false

/-- The link with its report queue put back is as it was when its other fields are. -/
theorem MessageLink.eq_but_reports {m n : MessageLink} (strap : m.strap = n.strap := by simp)
    (fifo : m.fifo = n.fifo := by simp) (rdy : m.rdy = n.rdy := by simp)
    (assembler : m.assembler = n.assembler := by simp) (gap : m.gap = n.gap := by simp)
    (replies : m.replies = n.replies := by simp) (tx : m.tx = n.tx := by simp)
    (noticeCrc : m.noticeCrc = n.noticeCrc := by simp) (noticeTimeout : m.noticeTimeout = n.noticeTimeout := by simp)
    (noticeOverrun : m.noticeOverrun = n.noticeOverrun := by simp)
    (restartPending : m.restartPending = n.restartPending := by simp) : { m with reports := n.reports } = n :=
  MessageLink.eq_of_fields strap fifo rdy assembler gap replies rfl tx noticeCrc noticeTimeout noticeOverrun restartPending

/-! ## Edges in flight -/

theorem find?_dropEdge_other {e f : Eye} (h : f ≠ e) (l : List Edge) :
    (dropEdge e l).find? (fun x => x.eye == f) = l.find? (fun x => x.eye == f) := by
  induction l with
  | nil => rfl
  | cons x rest ih =>
    rw [dropEdge]; split
    next he =>
      have : x.eye ≠ f := fun hf => h (hf ▸ (beq_iff_eq.1 he))
      rw [List.find?_cons_of_neg (by simpa using this)]
    · simp only [List.find?_cons, ih]

/-- Taking an edge of one eye leaves another as the Tracking Table has taken it. -/
theorem eyeBlocked_takeEdge_other {e f : Eye} (h : f ≠ e) (s : State) : eyeBlocked f (takeEdge e s) = eyeBlocked f s := by
  unfold eyeBlocked
  simp only [takeEdge, onEu_eu, find?_dropEdge_other h]

theorem eyeBlocked_congr {s t : State} (h : t.eu = s.eu) (e : Eye) : eyeBlocked e t = eyeBlocked e s := by
  unfold eyeBlocked; rw [h]

section
variable {e : Eye} {s : State} {x : Edge} (next : nextEdge e s = some x)
include next

theorem onEdge_of_next {leading : Bool} (kind : x.leading = leading) (f : Edge → State → State) :
    onEdge e leading f s = settle (when (takesEdges s) (f x) (takeEdge e s)) := by
  simp only [onEdge, withEdge, next, kind, beq_self_eq_true, if_true]
  rfl

theorem onEdge_taken {leading : Bool} (kind : x.leading = leading) (takes : takesEdges s = true) (f : Edge → State → State) :
    onEdge e leading f s = settle (f x (takeEdge e s)) := by
  rw [onEdge_of_next next kind, takes, when_true]

end

theorem onTrailing_of_next {e : TrackedEye} {s : State} {x : Edge} (next : nextEdge (eyeOf e) s = some x)
    (kind : x.leading = false) (f : State → State) :
    onTrailing e f s = settle (when (takesEdges s) f (eyeCleared e (takeEdge (eyeOf e) s))) := by
  simp only [onTrailing, withEdge, next, kind, beq_self_eq_true, if_true]
  rfl

/-! ## Tags (R7) -/

/-- The ring of tags: after 65535 comes 1. -/
def nextInRing (n : Nat) : Nat := if n = 65535 then 1 else n + 1

theorem nextInRing_mem {n : Nat} (h : 1 ≤ n ∧ n ≤ 65535) : 1 ≤ nextInRing n ∧ nextInRing n ≤ 65535 := by
  unfold nextInRing; split <;> omega

theorem freeTag_mem (used : Nat → Bool) (fuel : Nat) {n : Nat} (h : 1 ≤ n ∧ n ≤ 65535) :
    1 ≤ freeTag used fuel n ∧ freeTag used fuel n ≤ 65535 := by
  induction fuel generalizing n with
  | zero => exact h
  | succ fuel ih =>
    rw [freeTag]; split
    · exact ih (nextInRing_mem h)
    · exact h

theorem freeTag_of_free {used : Nat → Bool} {n : Nat} (free : used n = false) (fuel : Nat) : freeTag used fuel n = n := by
  cases fuel with
  | zero => rfl
  | succ fuel => simp [freeTag, free]

/-- The search passes only values that are held: when it ends at a held one, all it has seen are held. -/
theorem freeTag_used {used : Nat → Bool} {fuel n : Nat} (held : used (freeTag used fuel n) = true) :
    ∀ i ≤ fuel, used (nextInRing^[i] n) = true := by
  induction fuel generalizing n with
  | zero =>
    intro i hi
    obtain rfl : i = 0 := by omega
    exact held
  | succ fuel ih =>
    cases first : used n with
    | false => rw [freeTag_of_free first] at held; rw [first] at held; cases held
    | true =>
      rw [freeTag, first, if_pos rfl] at held
      intro i hi
      cases i with
      | zero => exact first
      | succ i => exact ih held i (by omega)

/-- Steps in the ring, counted modulo its size. -/
theorem iterate_nextInRing (i : Nat) {n : Nat} (h : 1 ≤ n ∧ n ≤ 65535) : nextInRing^[i] n = (n - 1 + i) % 65535 + 1 := by
  induction i generalizing n with
  | zero => simp only [Function.iterate_zero, id]; omega
  | succ i ih =>
    rw [Function.iterate_succ_apply, ih (nextInRing_mem h)]
    unfold nextInRing; split <;> omega

/-- With at most 35 records the search of 36 steps ends at a tag that none of them holds. -/
theorem issuedTag_free {s : State} (few : s.records.length ≤ 35) (low : 1 ≤ s.tt.nextTag) (high : s.tt.nextTag ≤ 65535) :
    allocatedTag (issuedTag s) s = false := by
  by_contra held
  rw [Bool.not_eq_false] at held
  have seen := freeTag_used (used := fun n => allocatedTag n s) held
  have within : ((List.range 36).map (fun i => nextInRing^[i] s.tt.nextTag)) ⊆ s.records.map (·.tag) := by
    intro tag htag
    obtain ⟨i, hi, rfl⟩ := List.mem_map.1 htag
    obtain ⟨r, hr, heq⟩ := List.any_eq_true.1 (seen i (by have := List.mem_range.1 hi; omega))
    exact List.mem_map.2 ⟨r, hr, by simpa using heq⟩
  have distinct : ((List.range 36).map (fun i => nextInRing^[i] s.tt.nextTag)).Nodup := by
    refine List.Nodup.map_on (fun i hi j hj heq => ?_) List.nodup_range
    have hi := List.mem_range.1 hi
    have hj := List.mem_range.1 hj
    rw [iterate_nextInRing i ⟨low, high⟩, iterate_nextInRing j ⟨low, high⟩] at heq
    omega
  have := (distinct.subperm within).length_le
  simp at this
  omega

theorem issuedTag_mem {s : State} (low : 1 ≤ s.tt.nextTag) (high : s.tt.nextTag ≤ 65535) :
    1 ≤ issuedTag s ∧ issuedTag s ≤ 65535 := freeTag_mem _ _ ⟨low, high⟩

theorem issuedTag_of_free {s : State} (free : allocatedTag s.tt.nextTag s = false) : issuedTag s = s.tt.nextTag :=
  freeTag_of_free (used := fun n => allocatedTag n s) free 36

/-! ## Creation (R8, R9) -/

section
variable {l : Lane} {x : Edge} {s : State}

/-- The Tracking Table with a new record at the APPROACH tail, its tag issued (R7, R8). -/
def Tracking.withNewRecord (tag : Nat) (l : Lane) (x : Edge) (t : Tracking) : Tracking :=
  { t with nextTag := if tag = 65535 then 1 else tag + 1
           approach := t.approach.upd l (· ++ [newRecord tag l x.length x.stamp]) }

theorem createRecord_of_room (room : (s.tt.approach.get l).length < 4) :
    createRecord l x s = syncLane l (s.onTt (Tracking.withNewRecord (issuedTag s) l x)) := by
  rw [createRecord, if_pos room]; rfl

theorem createRecord_of_full (full : 4 ≤ (s.tt.approach.get l).length) :
    createRecord l x s = raiseFault .approachOverrun (laneSubject l) none s := by
  rw [createRecord, if_neg (Nat.not_lt.2 full)]

end

theorem action_approachOverrun (l : Lane) : actionOf .approachOverrun (laneSubject l) = .laneHold l := by
  cases l <;> rfl

theorem otherLane_ne (l : Lane) : otherLane l ≠ l := by cases l <;> simp [otherLane]

/-- Settles O39: the edge is taken, and `createRecord` is one change of the Tracking Table told by `syncLane`, or one raise. -/
theorem infeedTrailingEdgeCreatesARecord : Obligations.InfeedTrailingEdgeCreatesARecord := by
  intro l s x next kind dropped
  have run : exec (.infeedTrailingEdge l) s
      = .next (settle (when (takesEdges s) (createRecord l x) (takeEdge (infeedEye l) s))) :=
    congrArg Host.Outcome.next (onEdge_of_next next kind _)
  refine ⟨fun out => ?_, fun takes room few low high => ?_, fun takes full => ?_⟩
  · rw [run, out]; rfl
  · rw [takes, when_true, createRecord_of_room (s := takeEdge (infeedEye l) s) room] at run
    refine ⟨_, issuedTag s, run, (issuedTag_mem low high).1, (issuedTag_mem low high).2, issuedTag_free few low high,
      issuedTag_of_free, ?_, ?_, laneInStep_syncLane _ _, syncLane_withFlagsOf _ _,
      syncLane_lic_other (otherLane_ne l) _, ?_⟩
    · simp only [syncLane_keeps]; rfl
    · simp only [syncLane_keeps]; rfl
    · apply State.eq_of_blocks
      case ml => exact MessageLink.eq_but_reports
      all_goals simp
  · rw [takes, when_true, createRecord_of_full (s := takeEdge (infeedEye l) s) full] at run
    refine ⟨_, run, by simp, ?_, standsWith_raiseFault _ _ _ _, fun m => ?_, fun new => ?_, ?_⟩
    · simp only [raiseFault_keeps]; rfl
    · exact eq_of_holdAside (by simp)
    · exact raiseFault_faultHold (action_approachOverrun l) _ new
    · apply State.eq_of_blocks
      case ml => exact MessageLink.eq_but_reports
      all_goals simp

end Sys2Proof.Machine
end

section
/-! SUPPORT. The windows of the Tracking Table (R11 to R22): what a match, a miss, a start and a loss each make of the zones, and
what of the totals a raise leaves. -/

namespace Sys2Proof.Machine

set_option Elab.async false

theorem PerLane.upd_eq_const {α : Type} {l : Lane} {f : α → α} {p : PerLane α} {v : α} (h : f (p.get l) = v) :
    PerLane.upd l f p = PerLane.upd l (fun _ => v) p := by
  subst h; cases l <;> rfl

theorem PerTracked.upd_eq_const {α : Type} {e : TrackedEye} {f : α → α} {p : PerTracked α} {v : α} (h : f (p.get e) = v) :
    PerTracked.upd e f p = PerTracked.upd e (fun _ => v) p := by
  subst h; cases e <;> rfl

/-! ## Matches -/

theorem matchesAt_eq (early : Int) (stamp : Pos) (r : LoafRecord) :
    matchesAt early stamp r = (!r.arrived && r.departure.any (fun d => decide (early ≤ dist d.pos stamp))) := by
  unfold matchesAt; cases r.departure <;> simp

section
variable {l : Lane} {x : Edge} {s : State}

/-- A leading edge at the slicer that finds its record (R12). -/
theorem slicerLeading_matched {r : LoafRecord} (blade : s.tt.blade.get l = some r)
    (hit : matchesAt ((s.params.slicerPath.get l : Int) - s.params.slicerTol.get l) x.stamp r = true) :
    slicerLeading l x s = matchNotice (laneSubject l)
      ((startWatch (slicerEye l) x.stamp s).onBladeZone l (fun _ => some r.matched)) := by
  have found : ((startWatch (slicerEye l) x.stamp s).tt.blade.get l).any
      (matchesAt ((s.params.slicerPath.get l : Int) - s.params.slicerTol.get l) x.stamp) = true := by
    simpa [startWatch, blade] using hit
  have moved : (startWatch (slicerEye l) x.stamp s).onBladeZone l (Option.map LoafRecord.matched)
      = (startWatch (slicerEye l) x.stamp s).onBladeZone l (fun _ => some r.matched) := by
    have same : PerLane.upd l (Option.map LoafRecord.matched) s.tt.blade = PerLane.upd l (fun _ => some r.matched) s.tt.blade :=
      PerLane.upd_eq_const (by rw [blade]; rfl)
    simp only [State.onBladeZone, startWatch, State.onTt, same]
  unfold slicerLeading
  rw [← moved]
  exact if_pos found

/-- A leading edge at the slicer that finds none (R12, R23). -/
theorem slicerLeading_missed
    (miss : (s.tt.blade.get l).any (matchesAt ((s.params.slicerPath.get l : Int) - s.params.slicerTol.get l) x.stamp) = false) :
    slicerLeading l x s = raiseFault .unexpectedLoaf (laneSubject l) none (startWatch (slicerEye l) x.stamp s) :=
  if_neg (by simpa [startWatch] using miss)

/-- A leading edge at the merge eye in the window of the ACCUM head (R16). -/
theorem mergeLeading_matched {r : LoafRecord} {rest : List LoafRecord} (accum : s.tt.accum.get l = r :: rest)
    (hit : matchesAt 0 x.stamp r = true) :
    mergeLeading l x s = matchNotice (laneSubject l) (s.onAccum l (fun _ => r.matched :: rest)) := by
  have found : (s.tt.accum.get l).head?.any (matchesAt 0 x.stamp) = true := by simpa [accum] using hit
  have same : PerLane.upd l (mapHead LoafRecord.matched) s.tt.accum = PerLane.upd l (fun _ => r.matched :: rest) s.tt.accum :=
    PerLane.upd_eq_const (by rw [accum]; rfl)
  rw [mergeLeading, if_pos found]
  simp only [State.onAccum, State.onTt, same]

theorem mergeLeading_missed (miss : (s.tt.accum.get l).head?.any (matchesAt 0 x.stamp) = false) :
    mergeLeading l x s = raiseFault .unexpectedLoaf (laneSubject l) none
      (when (candidate l s).isNone (startWatch (mergeEye l) x.stamp) s) :=
  if_neg (by simpa using miss)

/-- A leading edge at the exit in the window of the EXIT head (R20). -/
theorem exitLeading_matched {r : LoafRecord} {rest : List LoafRecord} (exit : s.tt.exit = r :: rest)
    (hit : matchesAt ((s.params.exitPath : Int) - s.params.exitTol) x.stamp r = true) :
    exitLeading x s = matchNotice .out ((startWatch .ex x.stamp s).onExit (fun _ => r.matched :: rest)) := by
  have found : (startWatch .ex x.stamp s).tt.exit.head?.any
      (matchesAt ((s.params.exitPath : Int) - s.params.exitTol) x.stamp) = true := by simpa [startWatch, exit] using hit
  have moved : (startWatch .ex x.stamp s).onExit (mapHead LoafRecord.matched)
      = (startWatch .ex x.stamp s).onExit (fun _ => r.matched :: rest) := by
    simp only [State.onExit, startWatch, State.onTt, exit, mapHead]
  unfold exitLeading
  rw [← moved]
  exact if_pos found

theorem exitLeading_missed
    (miss : s.tt.exit.head?.any (matchesAt ((s.params.exitPath : Int) - s.params.exitTol) x.stamp) = false) :
    exitLeading x s = raiseFault .unexpectedLoaf .out none (startWatch .ex x.stamp s) :=
  if_neg (by simpa [startWatch] using miss)

/-! ## The merge window's start (R15) -/

/-- The record with a merge window that starts where its belt stands. -/
def LoafRecord.windowed (l : Lane) (s : State) (r : LoafRecord) : LoafRecord :=
  { r with departure := some { belt := accumBelt l, pos := position (accumBelt l) s } }

/-- Whether the merge window of a record starts while it is the head. -/
def windowStarts (l : Lane) (s : State) (r : LoafRecord) : Bool :=
  !r.arrived && r.departure.isNone && !eyeBlocked (eyeOf (mergeEye l)) s

theorem startMergeWindow_eq (l : Lane) (s : State) : startMergeWindow l s =
    s.onAccum l (mapHead (fun r => if windowStarts l s r then r.windowed l s else r)) := by
  have same : ∀ f g : List LoafRecord → List LoafRecord, f (s.tt.accum.get l) = g (s.tt.accum.get l) →
      s.onAccum l f = s.onAccum l g := by
    intro f g h
    have : PerLane.upd l f s.tt.accum = PerLane.upd l g s.tt.accum :=
      (PerLane.upd_eq_const h).trans (PerLane.upd_eq_const rfl).symm
    simp only [State.onAccum, State.onTt, this]
  have stays : ∀ f : List LoafRecord → List LoafRecord, f (s.tt.accum.get l) = s.tt.accum.get l → s.onAccum l f = s := by
    intro f h
    rw [same f id h]; cases l <;> rfl
  unfold startMergeWindow; split
  next r rest accum =>
    cases starts : windowStarts l s r with
    | true =>
      rw [windowStarts] at starts
      rw [starts, when_true]
      exact same _ _ (by rw [accum]; simp only [mapHead, windowStarts, starts, if_true]; rfl)
    | false =>
      rw [windowStarts] at starts
      rw [starts, when_false]
      exact (stays _ (by rw [accum]; simp [mapHead, windowStarts, starts])).symm
  next accum => exact (stays _ (by rw [accum]; rfl)).symm

/-- A start of the merge window moves no record. -/
theorem map_tag_mapHead {f : LoafRecord → LoafRecord} (h : ∀ r, (f r).tag = r.tag) (q : List LoafRecord) :
    (mapHead f q).map LoafRecord.tag = q.map LoafRecord.tag := by
  cases q with
  | nil => rfl
  | cons r rest => simp [mapHead, h]

theorem startMergeWindow_tags (l m : Lane) (s : State) :
    ((startMergeWindow l s).tt.accum.get m).map LoafRecord.tag = (s.tt.accum.get m).map LoafRecord.tag := by
  rw [startMergeWindow_eq]
  exact PerLane.upd_related (P := fun q r : List LoafRecord => q.map LoafRecord.tag = r.map LoafRecord.tag) (fun _ => rfl)
    (map_tag_mapHead (fun r => by split <;> rfl) _) m

end

end Sys2Proof.Machine
end

section
/-! SUPPORT. The edges at the slicer and at the merge eye (R12 to R18, R24). -/

namespace Sys2Proof.Machine

set_option Elab.async false

/-! ## A trailing edge ends the blockage (R24) -/

/-- The Tracking Table with an eye's watch and stuck flag gone. -/
def Tracking.unwatched (e : TrackedEye) (t : Tracking) : Tracking :=
  { t with watch := t.watch.upd e (fun _ => none), stuck := t.stuck.upd e (fun _ => false) }

theorem eyeCleared_tt (e : TrackedEye) (s : State) : (eyeCleared e s).tt = s.tt.unwatched e := by
  simp [eyeCleared, Tracking.unwatched]

@[simp] theorem unwatched_watch (e : TrackedEye) (t : Tracking) : (t.unwatched e).watch.get e = none := by
  simp [Tracking.unwatched]
@[simp] theorem unwatched_stuck (e : TrackedEye) (t : Tracking) : (t.unwatched e).stuck.get e = false := by
  simp [Tracking.unwatched]

/-! ## The slicer -/

theorem slicerLeading_watch (l : Lane) (x : Edge) (s : State) :
    (slicerLeading l x s).tt.watch = s.tt.watch.upd (slicerEye l) (fun _ => some x.stamp) := by
  unfold slicerLeading; dsimp only; split <;> simp [startWatch, State.onBladeZone]

/-- The record in BLADE joins the ACCUM tail (R13); the lane is told and the head's window may start. -/
theorem slicerTrailing_arrived {l : Lane} {s : State} {r : LoafRecord} (blade : s.tt.blade.get l = some r)
    (arrived : r.arrived = true) : slicerTrailing l s = startMergeWindow l (bladeEmptied l
      ((s.onBladeZone l (fun _ => none)).onAccum l (· ++ [{ r with arrived := false }]))) := by
  simp only [slicerTrailing, blade, arrived, if_true]

theorem slicerTrailing_waiting {l : Lane} {s : State}
    (h : s.tt.blade.get l = none ∨ ∃ r, s.tt.blade.get l = some r ∧ r.arrived = false) : slicerTrailing l s = s := by
  unfold slicerTrailing
  rcases h with blade | ⟨r, blade, waits⟩
  · rw [blade]
  · rw [blade]; simp [waits]

/-- The place of ACCUM after a record has joined its tail and the head's window may have started. -/
theorem accum_after_join (l : Lane) (r : LoafRecord) (s : State) :
    (startMergeWindow l (bladeEmptied l ((s.onBladeZone l (fun _ => none)).onAccum l (· ++ [r])))).tt.accum.get l
      = mapHead (fun q => if windowStarts l s q then q.windowed l s else q) (s.tt.accum.get l ++ [r]) := by
  have starts : ∀ q, windowStarts l (bladeEmptied l ((s.onBladeZone l (fun _ => none)).onAccum l (· ++ [r]))) q
      = windowStarts l s q := fun q => by
    unfold windowStarts
    rw [eyeBlocked_congr (s := s) (by simp)]
  have stamps : ∀ q, LoafRecord.windowed l (bladeEmptied l ((s.onBladeZone l (fun _ => none)).onAccum l (· ++ [r]))) q
      = q.windowed l s := fun q => by
    unfold LoafRecord.windowed position
    simp
  rw [startMergeWindow_eq]
  simp only [starts, stamps]
  simp [State.onAccum, State.onBladeZone]

theorem getLast?_mapHead_append {f : LoafRecord → LoafRecord} {q : List LoafRecord} (h : q ≠ []) (r : LoafRecord) :
    (mapHead f (q ++ [r])).getLast? = some r := by
  cases q with
  | nil => exact absurd rfl h
  | cons a rest => exact List.getLast?_concat (l := f a :: rest)

theorem mergeEye_ne_slicerEye (l : Lane) : eyeOf (mergeEye l) ≠ eyeOf (slicerEye l) := by
  cases l <;> simp [eyeOf, mergeEye, slicerEye]

/-- Settles O40: a leading edge is a match or a raise; a trailing edge clears the eye and moves the arrived record. -/
theorem slicerEdgesMoveTheBladeRecord : Obligations.SlicerEdgesMoveTheBladeRecord := by
  intro l s x next dropped late
  refine ⟨fun kind takes => ?_, fun kind => ?_⟩
  · have run : exec (.slicerLeadingEdge l) s = .next (settle (slicerLeading l x (takeEdge (eyeOf (slicerEye l)) s))) :=
      congrArg Host.Outcome.next (onEdge_taken next kind takes _)
    refine ⟨_, run, by simp; rfl, by simp [slicerLeading_watch], fun r blade waits isLate => ?_, fun missed => ?_, ?_⟩
    · rw [slicerLeading_matched (s := takeEdge (eyeOf (slicerEye l)) s) blade (by rw [matchesAt_eq, waits]; exact isLate)]
      simp [startWatch, State.onBladeZone, LoafRecord.matched]
    · have miss : (s.tt.blade.get l).any
          (matchesAt ((s.params.slicerPath.get l : Int) - s.params.slicerTol.get l) x.stamp) = false := by
        rcases missed with blade | ⟨r, blade, arrived | early⟩
        · rw [blade]; rfl
        · rw [blade, Option.any_some, matchesAt_eq, arrived]; rfl
        · rw [blade, Option.any_some, matchesAt_eq]
          exact Bool.and_eq_false_imp.2 (fun _ => early)
      rw [slicerLeading_missed (s := takeEdge (eyeOf (slicerEye l)) s) miss]
      exact ⟨by simp [startWatch], standsWith_raiseFault _ _ _ _⟩
    · apply State.eq_of_blocks
      case ml => exact MessageLink.eq_but_reports
      all_goals simp
  · have run : exec (.slicerTrailingEdge l) s = .next (settle (when (takesEdges s) (slicerTrailing l)
        (eyeCleared (slicerEye l) (takeEdge (eyeOf (slicerEye l)) s)))) :=
      congrArg Host.Outcome.next (onTrailing_of_next next kind _)
    refine ⟨_, run, by simp; rfl, by simp [eyeCleared_tt], by simp [eyeCleared_tt], fun idle => ?_,
      fun r takes blade arrived => ?_, by simp⟩
    · have nothing : when (takesEdges s) (slicerTrailing l) (eyeCleared (slicerEye l) (takeEdge (eyeOf (slicerEye l)) s))
          = eyeCleared (slicerEye l) (takeEdge (eyeOf (slicerEye l)) s) := by
        refine when_elim (P := fun t => t = _) rfl (fun takes => slicerTrailing_waiting ?_)
        simpa [takes] using idle
      simp [nothing]
    · rw [takes, when_true, slicerTrailing_arrived (r := r) (by simpa using blade) arrived]
      refine ⟨by simp [State.onBladeZone, State.onAccum], ?_, fun empty absent => ?_, fun more => ?_, ?_⟩
      · rw [startMergeWindow_tags]
        simp [State.onBladeZone, State.onAccum]
      · have seen : eyeBlocked (eyeOf (mergeEye l)) (eyeCleared (slicerEye l) (takeEdge (eyeOf (slicerEye l)) s))
            = eyeBlocked (eyeOf (mergeEye l)) s :=
          (eyeBlocked_congr (by simp) _).trans (eyeBlocked_takeEdge_other (mergeEye_ne_slicerEye l) s)
        have alone : (eyeCleared (slicerEye l) (takeEdge (eyeOf (slicerEye l)) s)).tt.accum.get l = [] := by simpa using empty
        rw [accum_after_join, alone]
        cases blocked : eyeBlocked (eyeOf (mergeEye l)) s <;>
          simp [mapHead, windowStarts, seen, blocked, absent, LoafRecord.windowed, position]
      · rw [accum_after_join, getLast?_mapHead_append]
        simpa using more
      · simp [bladeEmptied, syncLane_bladeOccupied, State.onBladeZone]

/-! ## The merge eye -/

theorem startMergeWindow_waits {l : Lane} {s : State} {r : LoafRecord} {rest : List LoafRecord}
    (accum : s.tt.accum.get l = r :: rest) (waits : r.arrived = false) (absent : r.departure = none)
    (clear : eyeBlocked (eyeOf (mergeEye l)) s = false) :
    startMergeWindow l s = s.onAccum l (fun _ => r.windowed l s :: rest) := by
  rw [startMergeWindow_eq]
  simp only [State.onAccum, State.onTt]
  rw [PerLane.upd_eq_const (v := r.windowed l s :: rest)]
  rw [accum]
  simp [mapHead, windowStarts, waits, absent, clear]

theorem startMergeWindow_idle {l : Lane} {s : State}
    (h : s.tt.accum.get l = [] ∨ ∃ r rest, s.tt.accum.get l = r :: rest ∧ (r.arrived = true ∨ r.departure ≠ none)) :
    startMergeWindow l s = s := by
  unfold startMergeWindow
  rcases h with accum | ⟨r, rest, accum, arrived | open_⟩
  · rw [accum]
  · rw [accum]; simp [arrived]
  · rw [accum]; simp [Option.isNone_eq_false_iff.2 (Option.isSome_iff_ne_none.2 open_)]

theorem candidate_of_head {l : Lane} {s : State} {r : LoafRecord} {rest : List LoafRecord}
    (accum : s.tt.accum.get l = r :: rest) (arrived : r.arrived = true) : candidate l s = some r := by
  simp only [candidate, accum, arrived, if_true]

/-- Settles O41: a leading edge is a match or a raise; a trailing edge clears the eye and may start the head's window. -/
theorem mergeEdgesServeTheAccumHead : Obligations.MergeEdgesServeTheAccumHead := by
  intro l s x next dropped
  refine ⟨fun kind takes => ?_, fun kind => ?_⟩
  · have run : exec (.mergeLeadingEdge l) s = .next (settle (mergeLeading l x (takeEdge (eyeOf (mergeEye l)) s))) :=
      congrArg Host.Outcome.next (onEdge_taken next kind takes _)
    refine ⟨_, run, by simp; rfl, fun r d rest accum waits leaves inWindow => ?_, fun missed => ?_, ?_⟩
    · have hit : matchesAt 0 x.stamp r = true := by rw [matchesAt_eq, waits, leaves]; simpa using inWindow
      rw [mergeLeading_matched (s := takeEdge (eyeOf (mergeEye l)) s) accum hit]
      refine ⟨by simp [State.onAccum, LoafRecord.matched], candidate_of_head (rest := rest) ?_ rfl⟩
      simp [State.onAccum, LoafRecord.matched]
    · have miss : (s.tt.accum.get l).head?.any (matchesAt 0 x.stamp) = false := by
        rcases missed with accum | ⟨r, rest, accum, arrived | absent | ⟨d, leaves, early⟩⟩
        · rw [accum]; rfl
        · rw [accum, List.head?_cons, Option.any_some, matchesAt_eq, arrived]; rfl
        · rw [accum, List.head?_cons, Option.any_some, matchesAt_eq, absent]; simp
        · rw [accum, List.head?_cons, Option.any_some, matchesAt_eq, leaves]; simp [early]
      rw [mergeLeading_missed (s := takeEdge (eyeOf (mergeEye l)) s) miss]
      have same : candidate l (takeEdge (eyeOf (mergeEye l)) s) = candidate l s := rfl
      rw [same]
      refine ⟨?_, standsWith_raiseFault _ _ _ _, ?_⟩ <;> cases candidate l s <;> simp [startWatch]
    · apply State.eq_of_blocks
      case ml => exact MessageLink.eq_but_reports
      all_goals simp
  · have run : exec (.mergeTrailingEdge l) s = .next (settle (when (takesEdges s) (startMergeWindow l)
        (eyeCleared (mergeEye l) (takeEdge (eyeOf (mergeEye l)) s)))) :=
      congrArg Host.Outcome.next (onTrailing_of_next next kind _)
    refine ⟨_, run, by simp; rfl, by simp [eyeCleared_tt], by simp [eyeCleared_tt],
      fun r rest takes accum waits absent clear => ?_, fun idle => ?_, by simp⟩
    · rw [takes, when_true, startMergeWindow_waits (r := r) (rest := rest) (by simpa using accum) waits absent]
      · simp [State.onAccum, LoafRecord.windowed, position]
      · exact (eyeBlocked_congr (s := takeEdge (eyeOf (mergeEye l)) s) (by simp) _).trans clear
    · have nothing : when (takesEdges s) (startMergeWindow l) (eyeCleared (mergeEye l) (takeEdge (eyeOf (mergeEye l)) s))
          = eyeCleared (mergeEye l) (takeEdge (eyeOf (mergeEye l)) s) := by
        refine when_elim (P := fun t => t = _) rfl (fun takes => startMergeWindow_idle ?_)
        simpa [takes] using idle
      simp [nothing]

end Sys2Proof.Machine
end

section
/-! SUPPORT. What the line's counters of lost and bagged loaves keep (R157, R189), the losses of R6, R14, R17 and R21, the exit
edges (R20, R22) and the stuck eyes (R24). -/

namespace Sys2Proof.Machine

set_option Elab.async false

/-! ## The line's counters -/

/-- The line block with its count of faults taken put aside: what a raise or a removal leaves of it. -/
def LineBlock.faultsAside (b : LineBlock) : LineBlock := { b with faultsTaken := 0 }

/-- The line block of the live totals but for the faults taken. -/
def lineCounts (s : State) : LineBlock := s.tu.live.line.faultsAside

theorem lineCounts_congr {s t : State} (h : t.tu = s.tu) : lineCounts t = lineCounts s := by unfold lineCounts; rw [h]

theorem lost_of_lineCounts {s t : State} (h : lineCounts t = lineCounts s) : t.tu.live.line.lost = s.tu.live.line.lost := by
  show (lineCounts t).lost = (lineCounts s).lost
  rw [h]

theorem bagged_of_lineCounts {s t : State} (h : lineCounts t = lineCounts s) :
    t.tu.live.line.bagged = s.tu.live.line.bagged := by
  show (lineCounts t).bagged = (lineCounts s).bagged
  rw [h]

variable (s : State)

@[simp] theorem lineCounts_countFault : lineCounts (countFault s) = lineCounts s := by
  unfold countFault; split <;> rfl

@[simp] theorem lineCounts_syncHolds : lineCounts (syncHolds s) = lineCounts s := lineCounts_congr (by simp)

@[simp] theorem lineCounts_tableChanged : lineCounts (tableChanged s) = lineCounts s := lineCounts_congr (by simp)

@[simp] theorem lineCounts_onFt (f : FaultTable → FaultTable) : lineCounts (s.onFt f) = lineCounts s := rfl

@[simp] theorem lineCounts_placeEntry (e : FaultEntry) : lineCounts (placeEntry e s) = lineCounts s := by
  unfold placeEntry; split
  · simp
  · split <;> simp

@[simp] theorem lineCounts_raiseFault (k : FaultKind) (subj : Subject) (detail : Option Nat) :
    lineCounts (raiseFault k subj detail s) = lineCounts s := by
  unfold raiseFault; dsimp only
  split <;> simp

@[simp] theorem lineCounts_presentNext : lineCounts (presentNext s) = lineCounts s := by
  unfold presentNext present; split
  · simp
  · split <;> simp
  · rfl

@[simp] theorem lineCounts_removeEntry (k : FaultKind) (subj : Subject) : lineCounts (removeEntry k subj s) = lineCounts s := by
  unfold removeEntry; dsimp only
  exact when_elim (P := fun t => lineCounts t = lineCounts s) (by simp) (fun _ => by simp)

@[simp] theorem lineCounts_noticeCause (k : FaultKind) (subj : Subject) (isPresent : Bool) :
    lineCounts (noticeCause k subj isPresent s) = lineCounts s := by
  unfold noticeCause; split
  · rfl
  · dsimp only; split
    · rw [lineCounts_tableChanged]
      exact when_elim (P := fun t => lineCounts t = lineCounts s) (by simp) (fun _ => by simp)
    · simp

@[simp] theorem lineCounts_eyeCleared (e : TrackedEye) : lineCounts (eyeCleared e s) = lineCounts s :=
  when_elim (P := fun t => lineCounts t = lineCounts s) rfl (fun _ => by rw [lineCounts_noticeCause]; rfl)

theorem countRecord_line (r : LoafRecord) (f : Counters → Counters) :
    (countRecord r f s).tu.live.line = s.tu.live.line := by
  unfold countRecord countProduct Totals.count State.onLive; split
  · simp only [onTu_tu]; (repeat' split) <;> rfl
  · rfl

theorem countLost_line (r : LoafRecord) :
    (countLost r s).tu.live.line = { s.tu.live.line with lost := bump s.tu.live.line.lost } := by
  rw [countLost, countRecord_line]; rfl

theorem countBagged_line (r : LoafRecord) :
    (countBagged r s).tu.live.line = { s.tu.live.line with bagged := bump s.tu.live.line.bagged } := by
  rw [countBagged, countRecord_line]; rfl

/-- A lost record counts when it was admitted (R6). -/
theorem lose_lost (subj : Subject) (r : LoafRecord) : (lose subj r s).tu.live.line.lost
    = if r.admitted then bump s.tu.live.line.lost else s.tu.live.line.lost := by
  rw [lose, lost_of_lineCounts (lineCounts_raiseFault _ _ _ _)]
  cases r.admitted with
  | true => simp [countLost_line]
  | false => rfl

theorem lose_bagged (subj : Subject) (r : LoafRecord) :
    (lose subj r s).tu.live.line.bagged = s.tu.live.line.bagged := by
  rw [lose, bagged_of_lineCounts (lineCounts_raiseFault _ _ _ _)]
  exact when_elim (P := fun t => t.tu.live.line.bagged = s.tu.live.line.bagged) rfl (fun _ => by rw [countLost_line])

theorem lose_standsWith (subj : Subject) (r : LoafRecord) :
    standsWith .lostLoaf subj (some r.tag) (lose subj r s) = true := standsWith_raiseFault _ _ _ _

/-! ## Heads of EXIT -/

variable {s}

theorem pastLimit_of {r : LoafRecord} {d : Departure} {late : Nat} (waits : r.arrived = false)
    (leaves : r.departure = some d) (past : (late : Int) < dist d.pos (position d.belt s)) : pastLimit late r s = true := by
  simp only [pastLimit, leaves, waits, Bool.not_false, Bool.true_and, travelled]
  exact decide_eq_true past

theorem exitWindowDue_congr {t : State} (exit : t.tt.exit = s.tt.exit) (params : t.params = s.params) (beu : t.beu = s.beu) :
    exitWindowDue t = exitWindowDue s := by
  unfold exitWindowDue pastLimit travelled position
  rw [exit, params, beu]

theorem loseExitHead_cons {r : LoafRecord} {rest : List LoafRecord} (exit : s.tt.exit = r :: rest) :
    loseExitHead s = lose .out r (s.onExit (fun _ => rest)) := by
  have tail : s.onExit List.tail = s.onExit (fun _ => rest) := by simp only [State.onExit, State.onTt, exit, List.tail_cons]
  simp only [loseExitHead, exit, tail]

theorem compareExitHead_idle (idle : exitWindowDue s = false) (n : Nat) : compareExitHead n s = s := by
  cases n with
  | zero => rfl
  | succ n => rw [compareExitHead, idle]; rfl

/-- As many comparisons as EXIT holds records leave no head that is due. -/
theorem compareExitHead_done {n : Nat} (few : s.tt.exit.length ≤ n) : exitWindowDue (compareExitHead n s) = false := by
  induction n generalizing s with
  | zero =>
    have empty : s.tt.exit = [] := List.length_eq_zero_iff.1 (by omega)
    simp [compareExitHead, exitWindowDue, empty]
  | succ n ih =>
    rw [compareExitHead]; split
    · apply ih
      rw [loseExitHead_exit, List.length_tail]
      omega
    next idle => exact Bool.eq_false_iff.2 idle

theorem compareExitHead_bagged (n : Nat) (s : State) :
    (compareExitHead n s).tu.live.line.bagged = s.tu.live.line.bagged := by
  induction n generalizing s with
  | zero => rfl
  | succ n ih =>
    rw [compareExitHead]; split
    · rw [ih]
      cases exit : s.tt.exit with
      | nil => simp [loseExitHead, exit]
      | cons r rest => rw [loseExitHead_cons exit, lose_bagged]; rfl
    · rfl

theorem compareExitHead_standing (n : Nat) {s : State} (h : standing .lostLoaf .out s = true) :
    standing .lostLoaf .out (compareExitHead n s) = true := by
  induction n generalizing s with
  | zero => exact h
  | succ n ih =>
    rw [compareExitHead]; split
    · apply ih
      cases exit : s.tt.exit with
      | nil => simpa [loseExitHead, exit] using h
      | cons r rest => rw [loseExitHead_cons exit]; exact standing_of_standsWith (lose_standsWith _ _ _)
    · exact h

theorem exitTrailing_arrived {r : LoafRecord} {rest : List LoafRecord} (exit : s.tt.exit = r :: rest)
    (arrived : r.arrived = true) : exitTrailing s = exitHeadChanged (countBagged r (s.onExit (fun _ => rest))) := by
  have tail : s.onExit List.tail = s.onExit (fun _ => rest) := by simp only [State.onExit, State.onTt, exit, List.tail_cons]
  simp only [exitTrailing, exit, arrived, if_true, tail]

theorem exitTrailing_waiting (h : s.tt.exit = [] ∨ ∃ r rest, s.tt.exit = r :: rest ∧ r.arrived = false) :
    exitTrailing s = s := by
  unfold exitTrailing
  rcases h with exit | ⟨r, rest, exit, waits⟩
  · rw [exit]
  · rw [exit]; simp [waits]

theorem exitLeading_watch (x : Edge) (s : State) :
    (exitLeading x s).tt.watch = s.tt.watch.upd .ex (fun _ => some x.stamp) := by
  unfold exitLeading; dsimp only; split <;> simp [startWatch, State.onExit]

/-- Settles O42: a leading edge is a match or a raise; a trailing edge counts the arrived head and compares the next one. -/
theorem exitEdgesCountBagged : Obligations.ExitEdgesCountBagged := by
  intro s x next dropped
  refine ⟨fun kind takes => ?_, fun kind => ?_⟩
  · have run : exec .exitLeadingEdge s = .next (settle (exitLeading x (takeEdge .ex s))) :=
      congrArg Host.Outcome.next (onEdge_taken next kind takes _)
    refine ⟨_, run, by simp; rfl, by simp [exitLeading_watch], fun r d rest exit waits leaves late => ?_, fun missed => ?_, ?_⟩
    · have hit : matchesAt ((s.params.exitPath : Int) - s.params.exitTol) x.stamp r = true := by
        rw [matchesAt_eq, waits, leaves]; simpa using late
      rw [exitLeading_matched (s := takeEdge .ex s) exit hit]
      simp [State.onExit, LoafRecord.matched]
    · have miss : s.tt.exit.head?.any (matchesAt ((s.params.exitPath : Int) - s.params.exitTol) x.stamp) = false := by
        rcases missed with exit | ⟨r, rest, exit, arrived | ⟨d, leaves, early⟩⟩
        · rw [exit]; rfl
        · rw [exit, List.head?_cons, Option.any_some, matchesAt_eq, arrived]; rfl
        · rw [exit, List.head?_cons, Option.any_some, matchesAt_eq, leaves]
          exact Bool.and_eq_false_imp.2 (fun _ => decide_eq_false (Int.not_le.2 early))
      rw [exitLeading_missed (s := takeEdge .ex s) miss]
      exact ⟨by simp [startWatch], standsWith_raiseFault _ _ _ _⟩
    · apply State.eq_of_blocks
      case ml => exact MessageLink.eq_but_reports
      all_goals simp
  · have run : exec .exitTrailingEdge s
        = .next (settle (when (takesEdges s) exitTrailing (eyeCleared .ex (takeEdge .ex s)))) :=
      congrArg Host.Outcome.next (onTrailing_of_next (e := .ex) next kind _)
    have counted : (eyeCleared .ex (takeEdge .ex s)).tu.live.line.bagged = s.tu.live.line.bagged :=
      bagged_of_lineCounts (lineCounts_eyeCleared _ _)
    refine ⟨_, run, by simp; rfl, by simp [eyeCleared_tt], by simp [eyeCleared_tt], fun idle => ?_,
      fun r rest takes exit arrived => ?_, by simp⟩
    · have nothing : when (takesEdges s) exitTrailing (eyeCleared .ex (takeEdge .ex s)) = eyeCleared .ex (takeEdge .ex s) := by
        refine when_elim (P := fun t => t = _) rfl (fun takes => exitTrailing_waiting ?_)
        simpa [takes] using idle
      rw [nothing]
      exact ⟨by simp, counted⟩
    · rw [takes, when_true, exitTrailing_arrived (r := r) (rest := rest) (by simpa using exit) arrived]
      generalize cleared : eyeCleared .ex (takeEdge .ex s) = t at counted
      have same : exitWindowDue (countBagged r (t.onExit (fun _ => rest)))
          = exitWindowDue { s with tt := { s.tt with exit := rest } } := by
        subst cleared
        exact exitWindowDue_congr (by simp [State.onExit]) (by simp [State.onExit]) (by simp [State.onExit])
      refine ⟨?_, fun few => ⟨compareExitHead_done ?_, ?_⟩, fun idle => ?_⟩
      · rw [exitHeadChanged, compareExitHead_bagged, countBagged_line]
        exact congrArg bump counted
      · simp [State.onExit]; omega
      · obtain ⟨n, hn⟩ := compareExitHead_exit 3 (countBagged r (t.onExit (fun _ => rest)))
        exact ⟨n, by rw [exitHeadChanged, hn]; simp [State.onExit]⟩
      · rw [exitHeadChanged, compareExitHead_idle (same.trans idle)]
        simp [State.onExit]

end Sys2Proof.Machine
end

section
/-! SUPPORT. The windows that run out and the eyes that stick, with no edge to say so (R14, R17, R21, R24). -/

namespace Sys2Proof.Machine

set_option Elab.async false

theorem bladeWindowDue_of {l : Lane} {s : State} {r : LoafRecord} {d : Departure} (blade : s.tt.blade.get l = some r)
    (waits : r.arrived = false) (leaves : r.departure = some d)
    (past : ((s.params.slicerPath.get l + s.params.slicerTol.get l : Nat) : Int) < dist d.pos (position d.belt s)) :
    bladeWindowDue l s = true := by
  simp only [bladeWindowDue, blade]
  exact pastLimit_of waits leaves past

theorem mergeWindowDue_of {l : Lane} {s : State} {r : LoafRecord} {d : Departure} {rest : List LoafRecord}
    (accum : s.tt.accum.get l = r :: rest) (waits : r.arrived = false) (leaves : r.departure = some d)
    (past : (s.params.accumLimit : Int) < dist d.pos (position d.belt s)) : mergeWindowDue l s = true := by
  simp only [mergeWindowDue, accum]
  exact pastLimit_of waits leaves past

theorem exitWindowDue_of {s : State} {r : LoafRecord} {d : Departure} {rest : List LoafRecord}
    (exit : s.tt.exit = r :: rest) (waits : r.arrived = false) (leaves : r.departure = some d)
    (past : ((s.params.exitPath + s.params.exitTol : Nat) : Int) < dist d.pos (position d.belt s)) :
    exitWindowDue s = true := by
  simp only [exitWindowDue, exit]
  exact pastLimit_of waits leaves past

theorem stuckDue_of {e : TrackedEye} {s : State} {p : Pos} (watch : s.tt.watch.get e = some p)
    (past : (stuckLimit e s : Int) < dist p (position (eyeBelt (eyeOf e)) s)) : stuckDue e s = true := by
  simp only [stuckDue, watch]
  exact decide_eq_true past

theorem exec_bladeWindowRunOut (l : Lane) (s : State) : exec (.bladeWindowRunOut l) s
    = .next (when (bladeWindowDue l s) (fun s => settle (loseBlade l s)) s) := rfl

theorem exec_mergeWindowRunOut (l : Lane) (s : State) : exec (.mergeWindowRunOut l) s
    = .next (when (mergeWindowDue l s) (fun s => settle (loseAccumHead l s)) s) := rfl

theorem exec_exitWindowRunOut (s : State) : exec .exitWindowRunOut s
    = .next (when (exitWindowDue s) (fun s => settle (exitHeadChanged (loseExitHead s))) s) := rfl

theorem exec_stuckLimitExceeded (e : TrackedEye) (s : State) : exec (.stuckLimitExceeded e) s
    = .next (when (stuckDue e s) (fun s => settle (raiseStuck e s)) s) := rfl

theorem loseBlade_of {l : Lane} {s : State} {r : LoafRecord} (blade : s.tt.blade.get l = some r) :
    loseBlade l s = bladeEmptied l (lose (laneSubject l) r (s.onBladeZone l (fun _ => none))) := by
  simp only [loseBlade, blade]

/-- The head lost from ACCUM had not arrived, so the merge eye's watch is not started by its leaving (R15). -/
theorem loseAccumHead_of {l : Lane} {s : State} {r : LoafRecord} {rest : List LoafRecord} (accum : s.tt.accum.get l = r :: rest)
    (waits : r.arrived = false) : loseAccumHead l s
      = startMergeWindow l (syncLane l (lose (laneSubject l) r (s.onAccum l (fun _ => rest)))) := by
  have tail : s.onAccum l List.tail = s.onAccum l (fun _ => rest) := by
    simp only [State.onAccum, State.onTt, PerLane.upd_eq_const (f := List.tail) (congrArg List.tail accum), List.tail_cons]
  simp [loseAccumHead, accum, accumHeadLeft, removeAccumHead, waits, tail]

/-- The blade window runs out (R14). -/
theorem bladeWindow_lost {l : Lane} {s : State} {r : LoafRecord} (blade : s.tt.blade.get l = some r) :
    (loseBlade l s).tt = { s.tt with blade := s.tt.blade.upd l (fun _ => none) } ∧
    standsWith .lostLoaf (laneSubject l) (some r.tag) (loseBlade l s) = true ∧
    ((loseBlade l s).lic.get l).closure.bladeOccupied = false ∧
    (loseBlade l s).tu.live.line.lost = (if r.admitted then bump s.tu.live.line.lost else s.tu.live.line.lost) := by
  rw [loseBlade_of blade]
  refine ⟨by simp [State.onBladeZone], ?_, ?_, ?_⟩
  · rw [standsWith_congr (s := lose (laneSubject l) r (s.onBladeZone l (fun _ => none))) (by simp)]
    exact lose_standsWith _ _ _
  · rw [bladeEmptied, syncLane_bladeOccupied]; simp [State.onBladeZone]
  · have counted := lose_lost (s.onBladeZone l (fun _ => none)) (laneSubject l) r
    simpa using counted

theorem otherLane_get_upd {α : Type} (l : Lane) (f : α → α) (p : PerLane α) :
    (PerLane.upd l f p).get (otherLane l) = p.get (otherLane l) := PerLane.get_upd_other _ (otherLane_ne l) p

/-- The merge window runs out (R17), and the window of the new head starts (R15). -/
theorem mergeWindow_lost {l : Lane} {s : State} {r : LoafRecord} {rest : List LoafRecord}
    (accum : s.tt.accum.get l = r :: rest) (waits : r.arrived = false) :
    ((loseAccumHead l s).tt.accum.get l).map LoafRecord.tag = rest.map LoafRecord.tag ∧
    (loseAccumHead l s).tt.accum.get (otherLane l) = s.tt.accum.get (otherLane l) ∧
    (∀ q more, rest = q :: more → q.arrived = false → q.departure = none → eyeBlocked (eyeOf (mergeEye l)) s = false →
      ((loseAccumHead l s).tt.accum.get l).head?
        = some { q with departure := some { belt := accumBelt l, pos := position (accumBelt l) s } }) ∧
    standsWith .lostLoaf (laneSubject l) (some r.tag) (loseAccumHead l s) = true ∧
    (loseAccumHead l s).tu.live.line.lost = (if r.admitted then bump s.tu.live.line.lost else s.tu.live.line.lost) := by
  rw [loseAccumHead_of accum waits]
  refine ⟨?_, ?_, fun q more second qWaits absent clear => ?_, ?_, ?_⟩
  · rw [startMergeWindow_tags]; simp [State.onAccum]
  · rw [startMergeWindow_eq]; simp [State.onAccum, otherLane_get_upd]
  · rw [startMergeWindow_waits (r := q) (rest := more) (by simp [State.onAccum, second]) qWaits absent]
    · simp [State.onAccum, LoafRecord.windowed, position]
    · rw [← clear]
      exact eyeBlocked_congr (by simp) _
  · rw [standsWith_congr (s := lose (laneSubject l) r (s.onAccum l (fun _ => rest))) (by simp)]
    exact lose_standsWith _ _ _
  · have counted := lose_lost (s.onAccum l (fun _ => rest)) (laneSubject l) r
    simpa using counted

/-- The exit window runs out, and each record that becomes the head is compared (R21). -/
theorem exitWindow_lost {s : State} {r : LoafRecord} {rest : List LoafRecord} (exit : s.tt.exit = r :: rest)
    (few : rest.length ≤ 2) :
    exitWindowDue (exitHeadChanged (loseExitHead s)) = false ∧
    (∃ n, (exitHeadChanged (loseExitHead s)).tt.exit = rest.drop n) ∧
    standing .lostLoaf .out (exitHeadChanged (loseExitHead s)) = true ∧
    (exitWindowDue { s with tt := { s.tt with exit := rest } } = false →
      (exitHeadChanged (loseExitHead s)).tt.exit = rest ∧
      standsWith .lostLoaf .out (some r.tag) (exitHeadChanged (loseExitHead s)) = true ∧
      (exitHeadChanged (loseExitHead s)).tu.live.line.lost
        = (if r.admitted then bump s.tu.live.line.lost else s.tu.live.line.lost)) := by
  have stands := lose_standsWith (s.onExit (fun _ => rest)) .out r
  have counted := lose_lost (s.onExit (fun _ => rest)) .out r
  have left : (lose .out r (s.onExit (fun _ => rest))).tt.exit = rest := by simp [State.onExit]
  have due : exitWindowDue (lose .out r (s.onExit (fun _ => rest)))
      = exitWindowDue { s with tt := { s.tt with exit := rest } } :=
    exitWindowDue_congr left (by simp) (by simp)
  rw [loseExitHead_cons exit, exitHeadChanged]
  refine ⟨compareExitHead_done (by rw [left]; omega), ?_, compareExitHead_standing 3 (standing_of_standsWith stands),
    fun idle => ?_⟩
  · obtain ⟨n, hn⟩ := compareExitHead_exit 3 (lose .out r (s.onExit (fun _ => rest)))
    exact ⟨n, by rw [hn, left]⟩
  · rw [compareExitHead_idle (due.trans idle)]
    exact ⟨left, stands, by simpa using counted⟩

/-- Settles O43: an event whose limit is not passed does nothing; past it, the head is lost or the eye raised. -/
theorem windowsRunOutAndEyesStick : Obligations.WindowsRunOutAndEyesStick := by
  intro s
  refine ⟨fun l idle => ?_, fun l r d blade waits leaves past => ?_, fun l idle => ?_,
    fun l r d rest accum waits leaves past => ?_, fun idle => ?_, fun r d rest exit few waits leaves past => ?_,
    fun e idle => ?_, fun e p watch past => ?_⟩
  · rw [exec_bladeWindowRunOut, idle, when_false]
  · obtain ⟨zones, stands, empty, counted⟩ := bladeWindow_lost blade
    refine ⟨loseBlade l s, ?_, zones, stands, empty, counted, ?_⟩
    · rw [exec_bladeWindowRunOut, bladeWindowDue_of blade waits leaves past, when_true]
    · apply State.eq_of_blocks
      case ml => exact MessageLink.eq_but_reports
      all_goals simp
  · rw [exec_mergeWindowRunOut, idle, when_false]
  · obtain ⟨tags, other, opened, stands, counted⟩ := mergeWindow_lost accum waits
    refine ⟨loseAccumHead l s, ?_, tags, other, opened, stands, counted, by simp, by simp, by simp, by simp⟩
    rw [exec_mergeWindowRunOut, mergeWindowDue_of accum waits leaves past, when_true]
  · rw [exec_exitWindowRunOut, idle, when_false]
  · obtain ⟨done, dropped, stands, alone⟩ := exitWindow_lost exit few
    refine ⟨exitHeadChanged (loseExitHead s), ?_, done, dropped, stands, alone, by simp, by simp, by simp⟩
    rw [exec_exitWindowRunOut, exitWindowDue_of exit waits leaves past, when_true]
  · rw [exec_stuckLimitExceeded, idle, when_false]
  · refine ⟨raiseStuck e s, ?_, by simp [raiseStuck], standsWith_raiseFault _ _ _ _, ?_, ?_⟩
    · rw [exec_stuckLimitExceeded, stuckDue_of watch past, when_true]
    · rw [raiseStuck, raiseFault_causes]
      exact causes_stuck e _
    · apply State.eq_of_blocks
      case ml => exact MessageLink.eq_but_reports
      all_goals simp

end Sys2Proof.Machine
end

section
/-! SUPPORT. What an admission does (R69): a pending selection applied (R54, R55), the counts (R157, R158), the crumb estimate's
test (R105, R107), the gate armed (R139) and the infeed belt's command (R71). -/

namespace Sys2Proof.Machine

set_option Elab.async false

/-! ## Counts of products -/

section
variable {code : Nat} {f g : Counters → Counters}

/-- The scan for a code's entry finds the first one and counts there. -/
theorem countEntry_eq (l : List ProductEntry) : countEntry code f l
    = (l.findIdx? (fun e => e.code == code)).map (fun i => l.modify i (fun e => { e with counters := f e.counters })) := by
  induction l with
  | nil => rfl
  | cons e rest ih =>
    rw [countEntry, List.findIdx?_cons]
    cases e.code == code with
    | true => rfl
    | false =>
      simp only [Bool.false_eq_true, if_false, ih, Option.map_map]
      rfl

theorem count_eq_productCounted (t : Totals) : Totals.count code f t = productCounted code f t := by
  unfold Totals.count productCounted
  rw [countEntry_eq]
  cases t.products.findIdx? (fun e => e.code == code) <;> rfl

theorem countEntry_eq_none (l : List ProductEntry) : countEntry code f l = none ↔ ∀ e ∈ l, (e.code == code) = false := by
  rw [countEntry_eq, Option.map_eq_none_iff, List.findIdx?_eq_none_iff]

theorem countEntry_countEntry {l l' : List ProductEntry} (found : countEntry code f l = some l') :
    countEntry code g l' = countEntry code (g ∘ f) l := by
  induction l generalizing l' with
  | nil => cases found
  | cons e rest ih =>
    cases hit : e.code == code with
    | true =>
      rw [countEntry, hit, if_pos rfl, Option.some.injEq] at found
      subst found
      simp [countEntry, hit]
    | false =>
      simp only [countEntry, hit, Bool.false_eq_true, if_false, Option.map_eq_some_iff] at found
      obtain ⟨rest', found', rfl⟩ := found
      simp [countEntry, hit, ih found']

theorem countEntry_new {l : List ProductEntry} (absent : ∀ e ∈ l, (e.code == code) = false) (c : Counters) :
    countEntry code g (l ++ [{ code := code, counters := c }]) = some (l ++ [{ code := code, counters := g c }]) := by
  induction l with
  | nil => simp [countEntry]
  | cons e rest ih =>
    obtain ⟨here, later⟩ := List.forall_mem_cons.1 absent
    simp [countEntry, here, ih later]

theorem count_of_some {t : Totals} {l : List ProductEntry} (found : countEntry code f t.products = some l) :
    Totals.count code f t = { t with products := l } := by simp only [Totals.count, found]

theorem count_of_none {t : Totals} (found : countEntry code f t.products = none) : Totals.count code f t =
    if t.products.length < 24 then { t with products := t.products ++ [{ code := code, counters := f .zero }] }
    else { t with other := some (f (t.other.getD .zero)) } := by simp only [Totals.count, found]

/-- Two counts for one code are one count. -/
theorem count_count (t : Totals) : Totals.count code g (Totals.count code f t) = Totals.count code (g ∘ f) t := by
  cases found : countEntry code f t.products with
  | some l =>
    have both : countEntry code g l = countEntry code (g ∘ f) t.products := countEntry_countEntry found
    rw [count_of_some found]
    cases again : countEntry code (g ∘ f) t.products with
    | some l' => rw [count_of_some again, count_of_some (both.trans again)]
    | none =>
      have absent : countEntry code f t.products = none := (countEntry_eq_none _).2 ((countEntry_eq_none _).1 again)
      rw [absent] at found
      cases found
  | none =>
    have absent := (countEntry_eq_none t.products).1 found
    rw [count_of_none found, count_of_none (f := g ∘ f) ((countEntry_eq_none _).2 absent)]
    by_cases few : t.products.length < 24
    · simp only [few, if_true]
      rw [count_of_some (countEntry_new absent (f .zero))]
      rfl
    · simp only [few, if_false]
      rw [count_of_none (t := { t with other := some (f (t.other.getD .zero)) }) ((countEntry_eq_none _).2 absent), if_neg few]
      rfl

theorem count_line (t : Totals) (b : LineBlock) :
    Totals.count code f { t with line := b } = { Totals.count code f t with line := b } := by
  cases found : countEntry code f t.products with
  | some l => rw [count_of_some found, count_of_some (t := { t with line := b }) found]
  | none =>
    rw [count_of_none found, count_of_none (t := { t with line := b }) found]
    dsimp only
    split <;> rfl

end

/-- The counts of an admission (R69 steps 4 and 5), with the off-size pass when it is one (R70). -/
def countAdmission (offSize : Bool) (code : Nat) (s : State) : State :=
  countProduct code (fun c => { c with admitted := bump c.admitted })
    (countLine (fun b => { b with admitted := bump b.admitted })
      (when offSize (countProduct code (fun c => { c with offSizePassed := bump c.offSizePassed })) s))

theorem countAdmission_tu (offSize : Bool) (code : Nat) (s : State) : (countAdmission offSize code s).tu = { s.tu with
    live := productCounted code
      (fun c => { c with
        admitted := bump c.admitted
        offSizePassed := if offSize then bump c.offSizePassed else c.offSizePassed })
      { s.tu.live with line := { s.tu.live.line with admitted := bump s.tu.live.line.admitted } } } := by
  rw [← count_eq_productCounted]
  cases offSize with
  | false => rfl
  | true =>
    have line : ∀ t : Totals, (Totals.count code (fun c => { c with offSizePassed := bump c.offSizePassed }) t).line = t.line :=
      fun t => (congrArg Totals.line (count_line t t.line) :)
    simp only [countAdmission, when_true, countProduct, countLine, State.onLive, onTu_tu, line, ← count_line, count_count]
    rfl

theorem countAdmission_eq (offSize : Bool) (code : Nat) (s : State) :
    countAdmission offSize code s = { s with tu := (countAdmission offSize code s).tu } := by
  cases offSize <;> rfl

end Sys2Proof.Machine
end

section
/-! SUPPORT. The admission of a loaf (R67 to R71), part by part, and the event HEAD_AT_GATE. -/

namespace Sys2Proof.Machine

set_option Elab.async false

variable {l : Lane} {slot : Nat} {s : State}

/-! ## A pending selection (R54, R55) -/

/-- A lane's record with a selection as it stands after the admission of a loaf. -/
def LaneInfeed.selected (slot feed tag : Nat) (i : LaneInfeed) : LaneInfeed :=
  { i with active := some slot, pendingSel := none
           feedRef := if i.pendingSel.isSome then feed else i.feedRef
           appliedTag := if i.pendingSel.isSome then tag else i.appliedTag }

theorem selected_of_none {i : LaneInfeed} (pending : i.pendingSel = none) (active : i.active = some slot) (feed tag : Nat) :
    i.selected slot feed tag = i := by
  cases i; simp_all [LaneInfeed.selected]

theorem applyPending_lane (selection : (s.lic.get l).pendingSel.or (s.lic.get l).active = some slot) (tag : Nat) :
    (applyPending l tag s).lic.get l = (s.lic.get l).selected slot (recipeAt slot s).feed tag := by
  unfold applyPending
  cases pending : (s.lic.get l).pendingSel with
  | some slot' =>
    obtain rfl : slot' = slot := by simpa [pending] using selection
    simp [activate, State.onLane, LaneInfeed.selected, pending]
  | none =>
    have active : (s.lic.get l).active = some slot := by simpa [pending] using selection
    rw [selected_of_none pending active]

theorem applyPending_other (tag : Nat) : (applyPending l tag s).lic.get (otherLane l) = s.lic.get (otherLane l) := by
  unfold applyPending; split <;> simp [activate, State.onLane, otherLane_get_upd]

theorem applyPending_told (pending : (s.lic.get l).pendingSel ≠ none) (tag : Nat) :
    Reported (.recipeApplied l) (applyPending l tag s) := by
  obtain ⟨slot, h⟩ := Option.ne_none_iff_exists'.1 pending
  simp [applyPending, h]

/-! ## The record moves into BLADE -/

/-- R70: an admission whose length verdict is not OK, of a recipe that lets such a loaf pass. -/
def passesOffSize (length : Nat) (recipe : Recipe) : Bool :=
  decide (verdictOf length recipe.nominal recipe.tolerance ≠ .ok ∧ recipe.reject = false)

/-- Steps 2 to 6 of R69: the counts, the crumb estimate, and the head of APPROACH in BLADE. -/
def passHead (l : Lane) (r : LoafRecord) (slot : Nat) (s : State) : State :=
  let recipe := recipeAt slot s
  let record := r.passGate slot recipe { belt := infeedBelt l, pos := position (infeedBelt l) s }
  ((addCrumb l recipe.crumb (countAdmission (passesOffSize r.length recipe) recipe.code s)).onApproach l List.tail).onBladeZone l
    (fun _ => some record)

theorem passesOffSize_eq (r : LoafRecord) (recipe : Recipe) (at_ : Departure) :
    ((r.passGate slot recipe at_).verdict != some .ok && !recipe.reject) = passesOffSize r.length recipe := by
  unfold passesOffSize LoafRecord.passGate
  cases verdictOf r.length recipe.nominal recipe.tolerance <;> cases recipe.reject <;> rfl

/-- An admission is a pending selection applied, the head passed, the gate armed, the lane told, and the estimate tested. -/
theorem admission_eq (r : LoafRecord) (active : ((applyPending l r.tag s).lic.get l).active = some slot) :
    admission l r s = estimateTest l (syncLane l (armGate l (passHead l r slot (applyPending l r.tag s)))) := by
  unfold admission passHead
  simp only [active, Option.getD_some, passesOffSize_eq]
  rfl

theorem passHead_eq (r : LoafRecord) : passHead l r slot s = { s with
    tt := { s.tt with
      approach := s.tt.approach.upd l List.tail
      blade := s.tt.blade.upd l (fun _ => some
        (r.passGate slot (recipeAt slot s) { belt := infeedBelt l, pos := position (infeedBelt l) s })) }
    cc := s.cc.upd l (fun c => { c with estimate := min (c.estimate + (recipeAt slot s).crumb) 65535 })
    tu := (countAdmission (passesOffSize r.length (recipeAt slot s)) (recipeAt slot s).code s).tu } := by
  unfold passHead; dsimp only
  have counts := countAdmission_eq (passesOffSize r.length (recipeAt slot s)) (recipeAt slot s).code s
  generalize countAdmission (passesOffSize r.length (recipeAt slot s)) (recipeAt slot s).code s = t at counts ⊢
  generalize t.tu = tu at counts ⊢
  subst counts
  rfl

/-! ## The gate and the infeed belt -/

theorem armGate_dou (idle : s.dou.armed.get l = false) (runs : stopDrop s = false) : (armGate l s).dou = { s.dou with
    armed := s.dou.armed.upd l (fun _ => true), gate := s.dou.gate.upd l (fun _ => true)
    gateTimer := s.dou.gateTimer.upd l (fun _ => some 150) } := by
  simp [armGate, idle, driveOn, runs]

theorem setInfeed_dou (b : Bool) (runs : stopDrop s = false) :
    (setInfeed l b s).dou = { s.dou with infeed := s.dou.infeed.upd l (fun _ => b) } := by
  unfold setInfeed driveOn
  cases b <;> simp [runs]

/-- The infeed belt under a loaf in BLADE runs while the blade is ready (R71). -/
theorem infeedFollow_dou (runs : stopDrop s = false) (makes : producing s = true) (occupied : (s.tt.blade.get l).isSome = true) :
    (infeedFollow l s).dou = { s.dou with infeed := s.dou.infeed.upd l (fun _ => (s.lic.get l).blade == .ready) } := by
  have belt : (producing s && !((s.tt.blade.get l).isSome && (s.lic.get l).blade != .ready))
      = ((s.lic.get l).blade == .ready) := by
    simp [makes, occupied, bne]
  rw [infeedFollow, belt, setInfeed_dou _ runs]

theorem stopDrop_of_producing (makes : producing s = true) : stopDrop s = false := by
  unfold producing at makes; unfold stopDrop
  cases line : s.lsc.line <;> simp_all

theorem testsClear_of_producing (makes : producing s = true) : testsClear s = true := by
  unfold producing at makes; unfold testsClear
  cases line : s.lsc.line <;> simp_all

theorem producing_congr {t : State} (h : t.lsc = s.lsc) : producing t = producing s := by unfold producing; rw [h]

/-! ## The estimate's test -/

/-- A lane told of a state: its flags follow from the state it was told of, and nothing else of it or of the other lane has
changed. -/
structure ToldLane (l : Lane) (s t : State) : Prop where
  inStep : laneInStep l t
  rest : t.lic.get l = (t.lic.get l).withFlagsOf (s.lic.get l)
  other : t.lic.get (otherLane l) = s.lic.get (otherLane l)
  occupied : (t.lic.get l).closure.bladeOccupied = (s.tt.blade.get l).isSome

theorem ToldLane.syncLane (l : Lane) (s : State) : ToldLane l s (syncLane l s) where
  inStep := laneInStep_syncLane l s
  rest := syncLane_withFlagsOf l s
  other := syncLane_lic_other (otherLane_ne l) s
  occupied := syncLane_bladeOccupied l s

theorem ToldLane.estimateTest (l : Lane) (s : State) : ToldLane l s (estimateTest l (Machine.syncLane l s)) := by
  have once := ToldLane.syncLane l s
  refine when_elim (P := ToldLane l s) once (fun _ => ?_)
  have again := ToldLane.syncLane l
    ((Machine.syncLane l s).onCrumb l (fun c => { c with cycle := .requested, cause := some .estimate, backoff := none }))
  refine ⟨again.inStep, ?_, again.other.trans once.other, again.occupied.trans (by simp)⟩
  refine again.rest.trans ?_
  simp only [State.onCrumb, onCc_lic]
  rw [once.rest]
  rfl

/-- R107: the estimate's test requests a clear of an idle controller. -/
theorem estimateTest_cc (tests : testsClear s = true) : (estimateTest l s).cc =
    if s.params.eClear ≤ (s.cc.get l).estimate ∧ (s.cc.get l).cycle = .idle then
      s.cc.upd l (fun c => { c with cycle := .requested, cause := some .estimate, backoff := none })
    else s.cc := by
  unfold estimateTest clearTest
  by_cases due : s.params.eClear ≤ (s.cc.get l).estimate ∧ (s.cc.get l).cycle = .idle
  · obtain ⟨full, idle⟩ := due
    simp [full, idle, tests, requestClear, State.onCrumb]
  · rw [if_neg due]
    have skip : (decide (s.params.eClear ≤ (s.cc.get l).estimate) && testsClear s && (s.cc.get l).cycle == .idle) = false := by
      simpa [tests] using due
    rw [skip, when_false]

end Sys2Proof.Machine
end

section
/-! SUPPORT. HEAD_AT_GATE: the admission's parts put together. -/

namespace Sys2Proof.Machine

set_option Elab.async false

/-- The live totals after an admission (R69, R70, R157). -/
def Totals.admitted (length : Nat) (recipe : Recipe) (t : Totals) : Totals :=
  productCounted recipe.code
    (fun c => { c with
      admitted := bump c.admitted
      offSizePassed := if passesOffSize length recipe then bump c.offSizePassed else c.offSizePassed })
    { t with line := { t.line with admitted := bump t.line.admitted } }

/-- The admitted record in BLADE, its departure where the infeed belt stands. -/
def LoafRecord.admittedAt (l : Lane) (slot : Nat) (s : State) (r : LoafRecord) : LoafRecord :=
  r.passGate slot (recipeAt slot s) { belt := infeedBelt l, pos := position (infeedBelt l) s }

/-- What the head's passing changes after a pending selection was applied. -/
theorem passHead_applyPending (l : Lane) (slot : Nat) (s : State) (r : LoafRecord) :
    passHead l r slot (applyPending l r.tag s) = { applyPending l r.tag s with
      tt := { s.tt with
        approach := s.tt.approach.upd l List.tail
        blade := s.tt.blade.upd l (fun _ => some (r.admittedAt l slot s)) }
      cc := s.cc.upd l (fun c => { c with estimate := min (c.estimate + (recipeAt slot s).crumb) 65535 })
      tu := { s.tu with live := s.tu.live.admitted r.length (recipeAt slot s) } } := by
  have recipe : recipeAt slot (applyPending l r.tag s) = recipeAt slot s := by simp [recipeAt]
  have belt : position (infeedBelt l) (applyPending l r.tag s) = position (infeedBelt l) s := by simp [position]
  rw [passHead_eq, countAdmission_tu, recipe, belt]
  simp [Totals.admitted, LoafRecord.admittedAt]

theorem exec_headAtGate (l : Lane) (s : State) : exec (.headAtGate l) s
    = .next (when (headAtGate l s) (fun s => infeedFollow l (admitIfReady l s)) s) := rfl

theorem headAtGate_of_admits {l : Lane} {s : State} (admitted : admits l s = true) : headAtGate l s = true := by
  simp only [admits, Bool.and_eq_true] at admitted
  exact admitted.1.1

theorem gateIdle_of_admits {l : Lane} {s : State} (admitted : admits l s = true) : s.dou.armed.get l = false := by
  simp only [admits, Bool.and_eq_true, Bool.not_eq_true'] at admitted
  exact admitted.2

section
variable {l : Lane} {slot : Nat} {s : State} {r : LoafRecord} {rest : List LoafRecord}

/-- The state after the admission and the infeed belt's command. -/
def admittedState (l : Lane) (slot : Nat) (r : LoafRecord) (s : State) : State :=
  infeedFollow l (estimateTest l (syncLane l (armGate l (passHead l r slot (applyPending l r.tag s)))))

theorem exec_headAtGate_admits (approach : s.tt.approach.get l = r :: rest) (admitted : admits l s = true)
    (selection : (s.lic.get l).pendingSel.or (s.lic.get l).active = some slot) :
    exec (.headAtGate l) s = .next (admittedState l slot r s) := by
  have active : ((applyPending l r.tag s).lic.get l).active = some slot := by rw [applyPending_lane selection]; rfl
  have now : admitIfReady l s = admission l r s := by simp [admitIfReady, approach, admitted]
  rw [exec_headAtGate, headAtGate_of_admits admitted, when_true, now, admission_eq r active]
  rfl

theorem admittedState_tt (approach : s.tt.approach.get l = r :: rest) : (admittedState l slot r s).tt = { s.tt with
    approach := s.tt.approach.upd l (fun _ => rest)
    blade := s.tt.blade.upd l (fun _ => some (r.admittedAt l slot s)) } := by
  have tail : PerLane.upd l List.tail s.tt.approach = PerLane.upd l (fun _ => rest) s.tt.approach :=
    PerLane.upd_eq_const (by rw [approach]; rfl)
  simp [admittedState, passHead_applyPending, tail]

theorem admittedState_tu :
    (admittedState l slot r s).tu = { s.tu with live := s.tu.live.admitted r.length (recipeAt slot s) } := by
  simp [admittedState, passHead_applyPending]

theorem admittedState_lane (selection : (s.lic.get l).pendingSel.or (s.lic.get l).active = some slot) :
    ((admittedState l slot r s).lic.get l = ((admittedState l slot r s).lic.get l).withFlagsOf
      ((s.lic.get l).selected slot (recipeAt slot s).feed r.tag)) ∧
    laneInStep l (admittedState l slot r s) ∧
    (admittedState l slot r s).lic.get (otherLane l) = s.lic.get (otherLane l) ∧
    ((admittedState l slot r s).lic.get l).closure.bladeOccupied = true := by
  have told := ToldLane.estimateTest l (armGate l (passHead l r slot (applyPending l r.tag s)))
  have lic : (armGate l (passHead l r slot (applyPending l r.tag s))).lic = (applyPending l r.tag s).lic := by
    simp [passHead_applyPending]
  have follows : (admittedState l slot r s).lic
      = (estimateTest l (syncLane l (armGate l (passHead l r slot (applyPending l r.tag s))))).lic := by simp [admittedState]
  refine ⟨?_, ?_, ?_, ?_⟩
  · rw [follows, ← applyPending_lane selection, ← lic]
    exact told.rest
  · have same := told.inStep
    simpa [laneInStep, admittedState] using same
  · rw [follows, told.other, lic, applyPending_other]
  · rw [follows, told.occupied]
    simp [passHead_applyPending]

theorem admittedState_told (pending : (s.lic.get l).pendingSel ≠ none) :
    .recipeApplied l ∈ (admittedState l slot r s).ml.reports := by
  have told := applyPending_told pending r.tag
  have kept : Reported (.recipeApplied l) (passHead l r slot (applyPending l r.tag s)) := by
    rw [passHead_applyPending]; exact told
  exact infeedFollow_reported l (estimateTest_reported l (syncLane_reported l (armGate_reported l kept)))

theorem upd_upd {α : Type} (l : Lane) (f g : α → α) (p : PerLane α) :
    PerLane.upd l g (PerLane.upd l f p) = PerLane.upd l (g ∘ f) p := by cases l <;> rfl

theorem admittedState_cc (makes : producing s = true) : (admittedState l slot r s).cc =
    if s.params.eClear ≤ min ((s.cc.get l).estimate + (recipeAt slot s).crumb) 65535 ∧ (s.cc.get l).cycle = .idle then
      s.cc.upd l (fun c => { c with estimate := min (c.estimate + (recipeAt slot s).crumb) 65535
                                    cycle := .requested, cause := some .estimate, backoff := none })
    else s.cc.upd l (fun c => { c with estimate := min (c.estimate + (recipeAt slot s).crumb) 65535 }) := by
  have tests : testsClear (syncLane l (armGate l (passHead l r slot (applyPending l r.tag s)))) = true :=
    testsClear_of_producing ((producing_congr (by simp [passHead_applyPending])).trans makes)
  have follows : (admittedState l slot r s).cc
      = (estimateTest l (syncLane l (armGate l (passHead l r slot (applyPending l r.tag s))))).cc := by simp [admittedState]
  rw [follows, estimateTest_cc tests]
  simp [passHead_applyPending, upd_upd, Function.comp_def]

theorem admittedState_dou (admitted : admits l s = true) (makes : producing s = true) :
    (admittedState l slot r s).dou = { s.dou with
      armed := s.dou.armed.upd l (fun _ => true), gate := s.dou.gate.upd l (fun _ => true)
      gateTimer := s.dou.gateTimer.upd l (fun _ => some 150)
      infeed := s.dou.infeed.upd l (fun _ => ((admittedState l slot r s).lic.get l).blade == .ready) } := by
  have gate : (armGate l (passHead l r slot (applyPending l r.tag s))).dou = { s.dou with
      armed := s.dou.armed.upd l (fun _ => true), gate := s.dou.gate.upd l (fun _ => true)
      gateTimer := s.dou.gateTimer.upd l (fun _ => some 150) } := by
    rw [armGate_dou]
    · simp [passHead_applyPending]
    · simpa [passHead_applyPending] using gateIdle_of_admits admitted
    · exact stopDrop_of_producing ((producing_congr (by simp [passHead_applyPending])).trans makes)
  have still : producing (estimateTest l (syncLane l (armGate l (passHead l r slot (applyPending l r.tag s))))) = true :=
    (producing_congr (by simp [passHead_applyPending])).trans makes
  have lic : (admittedState l slot r s).lic
      = (estimateTest l (syncLane l (armGate l (passHead l r slot (applyPending l r.tag s))))).lic := by simp [admittedState]
  rw [lic, admittedState, infeedFollow_dou (stopDrop_of_producing still) still (by simp [passHead_applyPending])]
  simp [gate]

end

/-- Settles O45: away from the gate nothing happens; an admission is the sum of its parts. -/
theorem headAtGateAdmits : Obligations.HeadAtGateAdmits := by
  intro l s
  refine ⟨fun away => by rw [exec_headAtGate, away, when_false], fun r rest slot approach admitted makes selection => ?_⟩
  obtain ⟨lane, inStep, other, occupied⟩ := admittedState_lane (r := r) selection
  refine ⟨admittedState l slot r s, exec_headAtGate_admits approach admitted selection, ?_, lane, inStep, other, occupied,
    admittedState_told, ?_, ?_, ?_, ?_, ?_⟩
  · rw [admittedState_tt approach, LoafRecord.admittedAt, LoafRecord.passGate]
    simp
  · rw [admittedState_tu, Totals.admitted]
    simp [passesOffSize]
  · rw [admittedState_cc makes]
    split <;> simp
  · rw [admittedState_cc makes]
    split <;> simp [otherLane_get_upd]
  · rw [admittedState_dou admitted makes, lane]
    rfl
  · rw [admittedState, passHead_applyPending]
    apply State.eq_of_blocks
    case ml => exact MessageLink.eq_but_reports
    all_goals simp

end Sys2Proof.Machine
end

section
/-! SUPPORT. The Eye Unit (R30 to R34): what a sample makes of a channel, when a pending change may be confirmed, and what its
confirmation gives. -/

namespace Sys2Proof.Machine

set_option Elab.async false

/-! ## One channel -/

@[simp] theorem onEye_channel_same (e : Eye) (f : EyeChannel → EyeChannel) (s : State) :
    (s.onEye e f).eu.channels.get e = f (s.eu.channels.get e) := PerEye.get_upd_same f e _

theorem onEye_channel_other {e g : Eye} (h : g ≠ e) (f : EyeChannel → EyeChannel) (s : State) :
    (s.onEye e f).eu.channels.get g = s.eu.channels.get g := PerEye.get_upd_other f h _

/-- An update of a channel is told by what it makes of the channel as it stands. -/
theorem onEye_congr {e : Eye} {f g : EyeChannel → EyeChannel} {s : State}
    (h : f (s.eu.channels.get e) = g (s.eu.channels.get e)) : s.onEye e f = s.onEye e g := by
  have upd : s.eu.channels.upd e f = s.eu.channels.upd e g := by
    cases e <;> simp only [PerEye.upd, PerEye.get] at h ⊢ <;> rw [h]
  simp only [State.onEye, State.onEu, upd]

/-! ## Samples -/

section
variable {threshold hysteresis level : Nat} {stamp : Pos} {c : EyeChannel}

/-- The first sample after reset sets both states, as from CLEAR (R30). -/
theorem sample_first (first : c.sampled = false) :
    c.sample threshold hysteresis level stamp
      = { c with sampled := true, raw := rawNext threshold hysteresis level false,
                 debounced := rawNext threshold hysteresis level false, change := none } := by
  simp [EyeChannel.sample, first]

/-- A later sample follows the raw state by R31 and starts, keeps or cancels a pending change by R32. -/
theorem sample_later (later : c.sampled = true) :
    c.sample threshold hysteresis level stamp
      = { c with raw := rawNext threshold hysteresis level c.raw,
                 change := if rawNext threshold hysteresis level c.raw = c.debounced then none
                   else some (c.change.getD { stamp := stamp, held := 0 }) } := by
  simp [EyeChannel.sample, later]

@[simp] theorem sample_sampled : (c.sample threshold hysteresis level stamp).sampled = true := by
  unfold EyeChannel.sample; split
  next later => exact later
  · rfl

@[simp] theorem sample_lastLeading : (c.sample threshold hysteresis level stamp).lastLeading = c.lastLeading := by
  unfold EyeChannel.sample; split <;> rfl

end

/-- Settles O35: the sampled channel is `EyeChannel.sample`'s, at the first sample and at a later one. -/
theorem eyeSampleSetsTheRawState : Obligations.EyeSampleSetsTheRawState := by
  intro e level s
  refine ⟨sampleEye e level.toNat s, rfl, rfl, rfl, fun f other => onEye_channel_other other _ s, ?_⟩
  unfold sampleEye
  rw [onEye_channel_same]
  refine ⟨sample_sampled, sample_lastLeading, fun first => ?_, fun later => ?_⟩
  · rw [sample_first first]
    exact ⟨rfl, rfl, rfl⟩
  · rw [sample_later later]
    refine ⟨fun clear => ?_, fun blocked => ?_, rfl, fun returned => if_pos returned, fun departed => if_neg departed⟩
    · simp [rawNext, clear]
    · simp [rawNext, blocked]

/-! ## When a change is confirmed (R32) -/

/-- How a pending change comes to its confirmation: the belt has moved the debounce distance, or at BG the command is the moment
its time has run (LOG 3). -/
def debounceReached (e : Eye) (p : PendingChange) (s : State) : Prop :=
  e = .bg ∨ s.params.debounce.get e ≤ (dist p.stamp (position (eyeBelt e) s)).natAbs

section
variable {e : Eye} {s : State} {p : PendingChange}

theorem mayConfirm_of_belt (belt : e ≠ .bg) : mayConfirm e s = confirmable e s := by
  cases e with
  | bg => exact absurd rfl belt
  | _ => rfl

theorem debounceProgress_of_belt (belt : e ≠ .bg) :
    debounceProgress e p s = (dist p.stamp (position (eyeBelt e) s)).natAbs := by
  cases e with
  | bg => exact absurd rfl belt
  | _ => rfl

theorem mayConfirm_of_none (absent : (s.eu.channels.get e).change = none) : mayConfirm e s = false := by
  by_cases bg : e = .bg
  · subst bg
    have absent : s.eu.channels.bg.change = none := absent
    simp [mayConfirm, absent]
  · simp [mayConfirm_of_belt bg, confirmable, absent]

theorem mayConfirm_of_returned (returned : (s.eu.channels.get e).raw = (s.eu.channels.get e).debounced) :
    mayConfirm e s = false := by
  by_cases bg : e = .bg
  · subst bg
    have returned : s.eu.channels.bg.raw = s.eu.channels.bg.debounced := returned
    simp [mayConfirm, returned]
  · rw [mayConfirm_of_belt bg, confirmable]
    cases (s.eu.channels.get e).change <;> simp [returned]

theorem mayConfirm_of_pending (pending : (s.eu.channels.get e).change = some p)
    (departed : (s.eu.channels.get e).raw ≠ (s.eu.channels.get e).debounced) :
    mayConfirm e s = true ↔ debounceReached e p s := by
  by_cases bg : e = .bg
  · subst bg
    have pending : s.eu.channels.bg.change = some p := pending
    have departed : s.eu.channels.bg.raw ≠ s.eu.channels.bg.debounced := departed
    simp [mayConfirm, debounceReached, pending, departed]
  · simp [mayConfirm_of_belt bg, confirmable, debounceReached, pending, departed, bg, debounceProgress_of_belt bg]

end

/-! ## What a confirmation gives (R32 to R34) -/

/-- The channel after its change is confirmed. -/
def EyeChannel.confirmed (e : Eye) (p : PendingChange) (c : EyeChannel) : EyeChannel :=
  { c with debounced := c.raw, change := none,
           lastLeading := if isInfeedEye e && c.raw then some p.stamp else c.lastLeading }

/-- The edge that a confirmed change gives. -/
def EyeChannel.edgeOf (e : Eye) (p : PendingChange) (c : EyeChannel) : Edge where
  eye := e
  leading := c.raw
  stamp := p.stamp
  length := if isInfeedEye e && !c.raw then blockedLength c.lastLeading p.stamp else 0

theorem confirmChange_of_pending {e : Eye} {s : State} {p : PendingChange}
    (pending : (s.eu.channels.get e).change = some p) :
    confirmChange e s = s.onEu (fun u => {
      channels := u.channels.upd e (fun _ => (s.eu.channels.get e).confirmed e p)
      edges := if edgeTaken e (s.eu.channels.get e).raw then u.edges ++ [(s.eu.channels.get e).edgeOf e p]
        else u.edges }) := by
  have channel : confirmChange e s = when (edgeTaken e (s.eu.channels.get e).raw)
      (State.onEu (fun u => { u with edges := u.edges ++ [(s.eu.channels.get e).edgeOf e p] }))
      (s.onEye e (fun _ => (s.eu.channels.get e).confirmed e p)) := by
    simp only [confirmChange, pending]
    exact congrArg _ (onEye_congr rfl)
  rw [channel]
  cases edgeTaken e (s.eu.channels.get e).raw <;> rfl

theorem isInfeedEye_iff (e : Eye) : isInfeedEye e = true ↔ e = .ia ∨ e = .ib := by
  cases e <;> simp [isInfeedEye]

theorem blockedLength_of_leading (q stamp : Pos) :
    blockedLength (some q) stamp = min (max 0 (dist q stamp)).toNat 65535 := by
  have bound : (max 0 (dist q stamp)).toNat = (dist q stamp).toNat := by omega
  simp only [blockedLength, bound]

section
variable (e : Eye) (p : PendingChange) (c : EyeChannel)

theorem confirmed_lastLeading : (c.confirmed e p).lastLeading
    = if (e = .ia ∨ e = .ib) ∧ c.raw = true then some p.stamp else c.lastLeading := by
  simp only [EyeChannel.confirmed, Bool.and_eq_true, isInfeedEye_iff]

theorem edgeOf_length : (c.edgeOf e p).length
    = if (e = .ia ∨ e = .ib) ∧ c.raw = false then blockedLength c.lastLeading p.stamp else 0 := by
  simp only [EyeChannel.edgeOf, Bool.and_eq_true, Bool.not_eq_true', isInfeedEye_iff]

/-- The edge, with R34's length written out. -/
theorem edgeOf_eq {length : Nat} (absent : c.lastLeading = none → length = 0)
    (leading : ∀ q, c.lastLeading = some q → length = min (max 0 (dist q p.stamp)).toNat 65535) :
    c.edgeOf e p = { eye := e, leading := c.raw, stamp := p.stamp,
                     length := if (e = .ia ∨ e = .ib) ∧ c.raw = false then length else 0 } := by
  have measured : blockedLength c.lastLeading p.stamp = length := by
    cases lead : c.lastLeading with
    | none => exact (absent lead).symm
    | some q => rw [blockedLength_of_leading, leading q lead]
  rw [← measured, ← edgeOf_length]
  rfl

end

/-- Settles O36: `mayConfirm` is R32's condition, and `confirmChange` is one change of the channel and the edge it gives. -/
theorem debounceConfirmGivesTheEdge : Obligations.DebounceConfirmGivesTheEdge := by
  intro e s c
  have run : exec (.debounceConfirm e) s = .next (when (mayConfirm e s) (confirmChange e) s) := rfl
  refine ⟨fun settled => ?_, fun p pending departed => ⟨fun short => ?_, fun reached => ?_⟩⟩
  · have no : mayConfirm e s = false := settled.elim mayConfirm_of_none mayConfirm_of_returned
    rw [run, no, when_false]
  · have no : mayConfirm e s = false :=
      Bool.eq_false_iff.2 (fun yes => short ((mayConfirm_of_pending pending departed).1 yes))
    rw [run, no, when_false]
  · rw [run, (mayConfirm_of_pending pending departed).2 reached, when_true, confirmChange_of_pending pending]
    refine ⟨_, rfl, rfl, fun f other => PerEye.get_upd_other _ other _, ?_⟩
    simp only [onEu_eu, PerEye.get_upd_same]
    refine ⟨rfl, rfl, rfl, confirmed_lastLeading e p c, ?_⟩
    rw [edgeOf_eq e p _ (fun absent => ?_) (fun q leading => ?_)]
    · simp only [c, absent]
    · simp only [c, leading]

end Sys2Proof.Machine
end

section
/-! SUPPORT. The Belt Encoder Unit (R36, R37): the direction of a count, and what a sample makes of its belt. -/

namespace Sys2Proof.Machine

set_option Elab.async false

/-- The four forward transitions of a phase pair (R36). -/
def forwardPairs : List ((Bool × Bool) × (Bool × Bool)) :=
  [((false, false), (true, false)), ((true, false), (true, true)), ((true, true), (false, true)),
   ((false, true), (false, false))]

section
variable {q p : Bool × Bool}

theorem countOf_forward (h : (q, p) ∈ forwardPairs) : countOf q.1 q.2 p.1 p.2 = .forward := by
  revert q p; decide

theorem countOf_backward (h : (p, q) ∈ forwardPairs) : countOf q.1 q.2 p.1 p.2 = .backward := by
  revert q p; decide

/-- No change and a change of both phases are neither forward nor backward (R36). -/
theorem countOf_none (notForward : (q, p) ∉ forwardPairs) (notBackward : (p, q) ∉ forwardPairs) :
    countOf q.1 q.2 p.1 p.2 = .none := by
  revert q p; decide

end

/-- The remainder and the position after a count (R37). -/
def Count.moves (c : Count) (scale rem : Nat) (pos : Pos) : Nat × Pos :=
  match c with
  | .none => (rem, pos)
  | .forward => countForward scale rem pos
  | .backward => countBackward scale rem pos

section
variable {scale rem : Nat} (pos : Pos)

theorem moves_forward_advances (h : scale ≤ rem + 100) :
    Count.forward.moves scale rem pos = (rem + 100 - scale, pos + 1) := if_pos h

theorem moves_forward_stays (h : rem + 100 < scale) : Count.forward.moves scale rem pos = (rem + 100, pos) :=
  if_neg (Nat.not_le.2 h)

theorem moves_backward_retreats (h : rem < 100) :
    Count.backward.moves scale rem pos = (rem + scale - 100, pos - 1) := if_pos h

theorem moves_backward_stays (h : 100 ≤ rem) : Count.backward.moves scale rem pos = (rem - 100, pos) :=
  if_neg (Nat.not_lt.2 h)

end

/-- The count of a sample, from the belt's reference pair; the first sample gives none (R36). -/
def sampledCount (reference : Option (Bool × Bool)) (p : Bool × Bool) : Count :=
  reference.elim .none (fun q => countOf q.1 q.2 p.1 p.2)

/-- What a sample moves of its belt (R37). -/
def sampleMoves (b : Belt) (p : Bool × Bool) (s : State) : Nat × Pos :=
  (sampledCount (s.beu.pair.get b) p).moves (s.params.scale.get b) (s.beu.remainder.get b) (s.beu.position.get b)

theorem sampleEncoder_eq (b : Belt) (phaseA phaseB : Bool) (s : State) :
    sampleEncoder b phaseA phaseB s = s.onBeu (fun u => {
      position := u.position.upd b (fun _ => (sampleMoves b (phaseA, phaseB) s).2)
      remainder := u.remainder.upd b (fun _ => (sampleMoves b (phaseA, phaseB) s).1)
      pair := u.pair.upd b (fun _ => some (phaseA, phaseB)) }) := by
  unfold sampleEncoder sampleMoves
  cases reference : s.beu.pair.get b with
  | none => simp only [reference]; rfl
  | some q => simp only [reference]; rfl

theorem sampleMoves_first {b : Belt} {p : Bool × Bool} {s : State} (first : s.beu.pair.get b = none) :
    sampleMoves b p s = (s.beu.remainder.get b, s.beu.position.get b) := by
  simp only [sampleMoves, first]
  rfl

theorem sampleMoves_of_count {b : Belt} {q p : Bool × Bool} {s : State} {c : Count} (reference : s.beu.pair.get b = some q)
    (count : countOf q.1 q.2 p.1 p.2 = c) :
    sampleMoves b p s = c.moves (s.params.scale.get b) (s.beu.remainder.get b) (s.beu.position.get b) := by
  rw [sampleMoves, reference, ← count]
  rfl

/-- Settles O37: the sampled belt takes `sampleMoves`, which is R37's arithmetic of the count that R36 gives. -/
theorem encoderCountMovesTheBelt : Obligations.EncoderCountMovesTheBelt := by
  intro b pa pb s
  refine ⟨sampleEncoder b pa pb s, rfl, rfl, ?_, fun c other => ?_, ?_⟩
  · simp [sampleEncoder_eq]
  · simp [sampleEncoder_eq, PerBelt.get_upd_other _ other]
  · have position : (sampleEncoder b pa pb s).beu.position.get b = (sampleMoves b (pa, pb) s).2 := by
      simp [sampleEncoder_eq]
    have remainder : (sampleEncoder b pa pb s).beu.remainder.get b = (sampleMoves b (pa, pb) s).1 := by
      simp [sampleEncoder_eq]
    simp only [position, remainder]
    refine ⟨fun first => ?_, fun q reference => ⟨fun forward far => ?_, fun forward near => ?_, fun backward low => ?_,
      fun backward high => ?_, fun notForward notBackward => ?_⟩⟩
    · rw [sampleMoves_first first]
      exact ⟨rfl, rfl⟩
    · rw [sampleMoves_of_count reference (countOf_forward forward), moves_forward_advances _ far]
      exact ⟨rfl, rfl⟩
    · rw [sampleMoves_of_count reference (countOf_forward forward), moves_forward_stays _ near]
      exact ⟨rfl, rfl⟩
    · rw [sampleMoves_of_count reference (countOf_backward backward), moves_backward_retreats _ low]
      exact ⟨rfl, rfl⟩
    · rw [sampleMoves_of_count reference (countOf_backward backward), moves_backward_stays _ high]
      exact ⟨rfl, rfl⟩
    · rw [sampleMoves_of_count reference (countOf_none notForward notBackward)]
      exact ⟨rfl, rfl⟩

end Sys2Proof.Machine
end

section
/-! SUPPORT. The Scan Converter's own part (R40 to R44): starts, triggers, the scan expiry and the storing of a result. -/

namespace Sys2Proof.Machine

set_option Elab.async false

/-! ## Starts (R40) -/

theorem lowest_flagged {c : ScanConverter} {x : Channel} (h : c.lowest = some x) : c.flag.get x = true :=
  List.find?_some (p := fun x => c.flag.get x) h

section
variable {c : ScanConverter}

theorem start_of_busy {x : Channel} (busy : c.inFlight = some x) : c.start = c := by
  simp only [ScanConverter.start, busy]

theorem start_of_flagged {x : Channel} (idle : c.inFlight = none) (next : c.lowest = some x) :
    c.start = { c with flag := c.flag.upd x (fun _ => false), inFlight := some x } := by
  simp only [ScanConverter.start, idle, next]

theorem start_of_unflagged (idle : c.inFlight = none) (next : c.lowest = none) : c.start = c := by
  simp only [ScanConverter.start, idle, next]

@[simp] theorem start_result : c.start.result = c.result := by unfold ScanConverter.start; split <;> rfl

@[simp] theorem start_age : c.start.age = c.age := by unfold ScanConverter.start; split <;> rfl

/-- On an idle converter the lowest flagged channel goes in flight. -/
theorem start_inFlight (idle : c.inFlight = none) : c.start.inFlight = c.lowest := by
  cases next : c.lowest with
  | none => rw [start_of_unflagged idle next, idle]
  | some x => rw [start_of_flagged idle next]

/-- And its flag, alone, is cleared. -/
theorem start_flag (idle : c.inFlight = none) (d : Channel) :
    c.start.flag.get d = (c.flag.get d && c.lowest != some d) := by
  cases next : c.lowest with
  | none => rw [start_of_unflagged idle next]; simp
  | some x =>
    rw [start_of_flagged idle next]
    by_cases same : d = x
    · subst same; simp
    · simp [PerChannel.get_upd_other _ same, Ne.symm same]

/-! ## Triggers (R41 to R43) -/

/-- Whether a conversion of a channel is pending or in flight. -/
def ScanConverter.owes (d : Channel) (c : ScanConverter) : Bool := c.flag.get d || c.inFlight == some d

/-- A start loses no conversion and makes none. -/
theorem owes_start (d : Channel) : c.start.owes d = c.owes d := by
  cases busy : c.inFlight with
  | some x => rw [start_of_busy busy]
  | none =>
    unfold ScanConverter.owes
    rw [start_flag busy, start_inFlight busy, busy]
    by_cases next : c.lowest = some d
    · simp [next, lowest_flagged next]
    · simp [bne, beq_eq_false_iff_ne.2 next]

/-- A converter with a channel's flag set. -/
def ScanConverter.flagged (x : Channel) (c : ScanConverter) : ScanConverter :=
  { c with flag := c.flag.upd x (fun _ => true) }

theorem trigger_of_flying {x : Channel} (flying : c.inFlight = some x) : c.trigger x = c := by
  simp only [ScanConverter.trigger, flying, beq_self_eq_true, if_true]

theorem trigger_of_not_flying {x : Channel} (h : c.inFlight ≠ some x) : c.trigger x = (c.flagged x).start := by
  simp only [ScanConverter.trigger, beq_eq_false_iff_ne.2 h, Bool.false_eq_true, if_false]
  rfl

theorem owes_flagged (x d : Channel) : (c.flagged x).owes d = (c.owes d || decide (d = x)) := by
  by_cases same : d = x
  · subst same; simp [ScanConverter.owes, ScanConverter.flagged]
  · simp [ScanConverter.owes, ScanConverter.flagged, PerChannel.get_upd_other _ same, same]

/-- A trigger makes its channel's conversion owed, once (R43). -/
theorem owes_trigger (x d : Channel) : (c.trigger x).owes d = (c.owes d || decide (d = x)) := by
  by_cases flying : c.inFlight = some x
  · rw [trigger_of_flying flying]
    by_cases same : d = x
    · subst same; simp [ScanConverter.owes, flying]
    · simp [same]
  · rw [trigger_of_not_flying flying, owes_start, owes_flagged]

/-- A conversion in flight goes on through a trigger. -/
theorem trigger_inFlight_of_busy {y : Channel} (busy : c.inFlight = some y) (x : Channel) :
    (c.trigger x).inFlight = some y := by
  by_cases flying : c.inFlight = some x
  · rw [trigger_of_flying flying, busy]
  · rw [trigger_of_not_flying flying, start_of_busy (c := c.flagged x) busy]
    exact busy

/-- TNA is the first in the order, so its trigger starts it on an idle converter. -/
theorem trigger_tna_inFlight : (c.trigger .tna).inFlight = some (c.inFlight.getD .tna) := by
  cases busy : c.inFlight with
  | some y => exact trigger_inFlight_of_busy busy .tna
  | none =>
    have first : (c.flagged .tna).lowest = some .tna := rfl
    rw [trigger_of_not_flying (by simp [busy]), start_inFlight (c := c.flagged .tna) busy, first]
    rfl

end

/-! ## The scan expiry (R41) -/

section
variable {s t : State}

@[simp] theorem trigger_sc (x : Channel) (s : State) : (trigger x s).sc = s.sc.trigger x := rfl

theorem owes_when_trigger (b : Bool) (x d : Channel) :
    (when b (trigger x) s).sc.owes d = (s.sc.owes d || (b && decide (d = x))) := by
  cases b
  · simp
  · simpa using owes_trigger x d

theorem when_trigger_inFlight {y : Channel} (busy : s.sc.inFlight = some y) (b : Bool) (x : Channel) :
    (when b (trigger x) s).sc.inFlight = some y :=
  when_elim (P := fun t => t.sc.inFlight = some y) busy (fun _ => trigger_inFlight_of_busy busy x)

theorem admitting_congr (line : t.lsc = s.lsc) (lanes : t.lic = s.lic) (l : Lane) : admitting l t = admitting l s := by
  unfold admitting; rw [line, lanes]

/-- Which channels a scan expiry triggers (R41). -/
def expiryTriggers (s : State) : Channel → Bool
  | .cra => !admitting .a s
  | .crb => !admitting .b s
  | _ => true

theorem scanTriggers_owes (d : Channel) : (scanTriggers s).sc.owes d = (s.sc.owes d || expiryTriggers s d) := by
  have line : admitting .b (when (!admitting .a s) (trigger .cra) (trigger .airp (trigger .tnb (trigger .tna s))))
      = admitting .b s := admitting_congr (by simp) (by simp) .b
  have lineA : admitting .a (trigger .airp (trigger .tnb (trigger .tna s))) = admitting .a s := rfl
  unfold scanTriggers
  simp only [lineA, line, owes_when_trigger]
  simp only [trigger_sc, owes_trigger]
  cases d <;> simp [expiryTriggers]

theorem scanTriggers_inFlight : (scanTriggers s).sc.inFlight = some (s.sc.inFlight.getD .tna) :=
  when_trigger_inFlight (when_trigger_inFlight (trigger_inFlight_of_busy (trigger_inFlight_of_busy
    trigger_tna_inFlight .tnb) .airp) _ .cra) _ .crb

end

/-! ## The storing of a result (R44) -/

/-- A completed conversion's result stored, with the converter free. -/
def ScanConverter.stored (c : Channel) (result : Nat) (x : ScanConverter) : ScanConverter :=
  { x with result := x.result.upd c (fun _ => result), age := x.age.upd c (fun _ => 0), inFlight := none }

theorem completeConversion_eq (c : Channel) (result : Nat) (s : State) : completeConversion c result s
    = (handResult c result (s.onSc (ScanConverter.stored c result))).onSc ScanConverter.start := rfl

theorem completeConversion_sc (c : Channel) (result : Nat) (s : State) :
    (completeConversion c result s).sc = (s.sc.stored c result).start := by
  simp [completeConversion_eq]

end Sys2Proof.Machine
end

section
/-! SUPPORT. The monitors of the Scan Converter's channels (R46, R47, R106, R116, R123), and the obligation about scan expiries
and completed conversions. -/

namespace Sys2Proof.Machine

set_option Elab.async false

variable {s : State} {result : Nat}

/-! ## The air pressure (R123) -/

theorem airPressure_of_low (low : result < s.params.pMin) : airPressure result s
    = raiseFault .airLow .line (some result) (s.onAma (fun a => { a with pressureLow := true })) := if_pos low

theorem airPressure_pressureLow : (airPressure result s).ama.pressureLow = decide (result < s.params.pMin) := by
  unfold airPressure; split
  next low => simp [low]
  · split
    next high _ => simp [high]
    next high clear => simp [high, clear]

theorem airPressure_stands (low : result < s.params.pMin) :
    standsWith .airLow .line (some result) (airPressure result s) = true := by
  rw [airPressure_of_low low]
  exact standsWith_raiseFault _ _ _ _

/-! ## The crumb level (R106, R116) -/

/-- The state in which the Crumb Controller checks a level it has kept (R106). -/
def levelKept (l : Lane) (result : Nat) (s : State) : State :=
  s.onCrumb l (fun c => { c with lastLevel := result, levelSince := true })

theorem levelKept_cc (l : Lane) : (levelKept l result s).cc.get l = { s.cc.get l with lastLevel := result, levelSince := true } :=
  PerLane.get_upd_same _ l _

theorem crumbResult_of_init {l : Lane} (init : s.lsc.line = .init) : crumbResult l result s = levelKept l result s :=
  if_pos (beq_iff_eq.2 init)

theorem crumbResult_of_started {l : Lane} (started : s.lsc.line ≠ .init) : crumbResult l result s
    = clearTest l (decide (s.params.lClear ≤ result)) .level (overfullCheck l (levelKept l result s)) :=
  if_neg (fun init => started (beq_iff_eq.1 init))

theorem crumbResult_level (l : Lane) : ((crumbResult l result s).cc.get l).lastLevel = result
    ∧ ((crumbResult l result s).cc.get l).levelSince = true := by
  by_cases init : s.lsc.line = .init
  · rw [crumbResult_of_init init, levelKept_cc]
    exact ⟨rfl, rfl⟩
  · rw [crumbResult_of_started init]
    simp [levelKept_cc]

theorem clearTest_ft (l : Lane) (holds : Bool) (cause : CycleCause) (s : State) :
    (clearTest l holds cause s).ft = s.ft := by simp

theorem overfullCheck_of_full {l : Lane} (full : s.params.lOver ≤ (s.cc.get l).lastLevel) : overfullCheck l s
    = raiseFault .crumbOverfull (laneSubject l) (some (s.cc.get l).lastLevel) s := if_pos full

theorem crumbResult_stands {l : Lane} (started : s.lsc.line ≠ .init) (full : s.params.lOver ≤ result) :
    standsWith .crumbOverfull (laneSubject l) (some result) (crumbResult l result s) = true := by
  have kept : ((levelKept l result s).cc.get l).lastLevel = result := by rw [levelKept_cc]
  have check : overfullCheck l (levelKept l result s)
      = raiseFault .crumbOverfull (laneSubject l) (some result) (levelKept l result s) := by
    rw [overfullCheck_of_full (by rw [kept]; exact full), kept]
  rw [crumbResult_of_started started, check, standsWith_congr (clearTest_ft _ _ _ _)]
  exact standsWith_raiseFault _ _ _ _

/-! ## The blade tension (R46, R47) -/

theorem causes_get_set_tension (l : Lane) (present : Bool) (c : CauseFlags) :
    (c.set .bladeTension (laneSubject l) present).get .bladeTension (laneSubject l) = present := by
  cases l <;> rfl

/-- A notice of BLADE_TENSION's cause sets the cause flag to what it tells (R47). -/
theorem noticeCause_tension (l : Lane) (present : Bool) (s : State) :
    (noticeCause .bladeTension (laneSubject l) present s).ft.causes.get .bladeTension (laneSubject l) = present := by
  unfold noticeCause; split
  next same => exact beq_iff_eq.1 same
  · dsimp only
    split
    · simp [causes_get_set_tension]
    · simp [causes_get_set_tension]

theorem changeBlade_blade (l : Lane) (b : BladeState) (wait : Timer) (s : State) :
    ((changeBlade l b wait s).lic.get l).blade = b := by
  simp [changeBlade, syncLane_lic_same, laneFlags, State.onLane]

theorem bladeOff_blade (l : Lane) (s : State) : ((bladeOff l s).lic.get l).blade = .off := by
  have kept : ∀ t, (setBlade l false t).lic = t.lic := by simp
  rw [bladeOff, kept]
  by_cases off : (s.lic.get l).blade = .off
  · rw [bne_eq_false_iff_eq.2 off, when_false, off]
  · rw [bne_iff_ne.2 off, when_true, changeBlade_blade]

theorem bladeOff_ft (l : Lane) (s : State) : (bladeOff l s).ft = s.ft := by simp

theorem bladeOff_drive (l : Lane) (s : State) : (bladeOff l s).dou.blade.get l = false := by
  simp [bladeOff, setBlade]

/-- The state in which the tension monitor compares a result: the cause has been told. LOG 24. -/
def tensionTold (l : Lane) (result : Nat) (s : State) : State :=
  noticeCause .bladeTension (laneSubject l) (decide (result < s.params.tLow)) s

theorem tensionTold_blade (l m : Lane) : ((tensionTold l result s).lic.get m).blade = (s.lic.get m).blade := by
  simp [tensionTold]

/-- R46's table, read in the state the result arrives in. -/
theorem tensionResult_eq (l : Lane) : tensionResult l result s
    = if (s.lic.get l).blade ≠ .ready then tensionTold l result s
      else if result < s.params.tBreak then
        raiseFault .bladeBreak (laneSubject l) (some result) (bladeOff l (tensionTold l result s))
      else if result < s.params.tLow then
        raiseFault .bladeTension (laneSubject l) (some result) (tensionTold l result s)
      else tensionTold l result s := by
  have told : noticeCause .bladeTension (laneSubject l) (decide (result < s.params.tLow)) s = tensionTold l result s := rfl
  have params : (tensionTold l result s).params = s.params := by simp [tensionTold]
  simp only [tensionResult, told, params, tensionTold_blade, bne_iff_ne]

theorem tensionResult_cause (l : Lane) : (tensionResult l result s).ft.causes.get .bladeTension (laneSubject l)
    = decide (result < s.params.tLow) := by
  have told : (tensionTold l result s).ft.causes.get .bladeTension (laneSubject l) = decide (result < s.params.tLow) :=
    noticeCause_tension _ _ _
  rw [tensionResult_eq]
  split
  · exact told
  · split
    · rw [raiseFault_causes, bladeOff_ft]
      exact told
    · split
      · rw [raiseFault_causes]
        exact told
      · exact told

section
variable {l : Lane} (ready : (s.lic.get l).blade = .ready)
include ready

theorem tensionResult_of_broken (broken : result < s.params.tBreak) : tensionResult l result s
    = raiseFault .bladeBreak (laneSubject l) (some result) (bladeOff l (tensionTold l result s)) := by
  rw [tensionResult_eq, if_neg (not_not_intro ready), if_pos broken]

theorem tensionResult_of_slack (whole : s.params.tBreak ≤ result) (slack : result < s.params.tLow) :
    tensionResult l result s = raiseFault .bladeTension (laneSubject l) (some result) (tensionTold l result s) := by
  rw [tensionResult_eq, if_neg (not_not_intro ready), if_neg (Nat.not_lt.2 whole), if_pos slack]

/-- A broken band: the blade is off, its drive cut, and BLADE_BREAK stands (R46). -/
theorem tensionResult_breaks (broken : result < s.params.tBreak) :
    ((tensionResult l result s).lic.get l).blade = .off ∧ (tensionResult l result s).dou.blade.get l = false ∧
      standsWith .bladeBreak (laneSubject l) (some result) (tensionResult l result s) = true := by
  rw [tensionResult_of_broken ready broken]
  refine ⟨?_, ?_, standsWith_raiseFault _ _ _ _⟩
  · simp [bladeOff_blade]
  · simp [bladeOff_drive]

/-- A slack band: the blade stays READY and BLADE_TENSION stands (R46). -/
theorem tensionResult_slackens (whole : s.params.tBreak ≤ result) (slack : result < s.params.tLow) :
    ((tensionResult l result s).lic.get l).blade = .ready ∧
      standsWith .bladeTension (laneSubject l) (some result) (tensionResult l result s) = true := by
  rw [tensionResult_of_slack ready whole slack]
  refine ⟨?_, standsWith_raiseFault _ _ _ _⟩
  simp [tensionTold_blade, ready]

end

/-! ## The obligation -/

theorem handResult_crumb (l : Lane) : handResult (crumbChannel l) result s = crumbResult l result s := by cases l <;> rfl

theorem handResult_tension (l : Lane) : handResult (tensionChannel l) result s = tensionResult l result s := by
  cases l <;> rfl

/-- Settles O38: the expiry is five triggers, each of which makes its channel owed; a completion is the result stored, its
monitor's own operation, and a start. -/
theorem scanConverterConvertsInOrder : Obligations.ScanConverterConvertsInOrder := by
  intro s
  refine ⟨?_, fun idle r => ?_, fun c r flying => ?_⟩
  · refine ⟨scanTriggers (s.onSc (fun c => { c with timer := s.params.scanPeriod })), rfl, ?_, by simp, by simp, by simp,
      scanTriggers_inFlight, fun c => ?_⟩
    · apply State.eq_of_blocks
      all_goals simp
    · refine (scanTriggers_owes c).trans ?_
      cases c <;> rfl
  · exact congrArg Host.Outcome.next (by simp only [idle])
  · refine ⟨completeConversion c r.toNat s, congrArg Host.Outcome.next (by simp only [flying]), ?_⟩
    have sc := completeConversion_sc c r.toNat s
    have idle : (s.sc.stored c r.toNat).inFlight = none := rfl
    rw [sc]
    refine ⟨?_, ?_, fun d other => ⟨?_, ?_⟩, start_inFlight idle, start_flag idle, ?_, ?_, ?_⟩
    · simp [ScanConverter.stored]
    · simp [ScanConverter.stored]
    · simp [ScanConverter.stored, PerChannel.get_upd_other _ other]
    · simp [ScanConverter.stored, PerChannel.get_upd_other _ other]
    · rintro rfl
      exact ⟨airPressure_pressureLow, airPressure_stands (s := s.onSc _)⟩
    · rintro l rfl
      rw [completeConversion_eq, handResult_crumb]
      obtain ⟨level, since⟩ := crumbResult_level (s := s.onSc (ScanConverter.stored (crumbChannel l) r.toNat)) l
      exact ⟨level, since, crumbResult_stands (s := s.onSc _)⟩
    · rintro l rfl
      rw [completeConversion_eq, handResult_tension]
      exact ⟨tensionResult_cause l, tensionResult_breaks (s := s.onSc _), tensionResult_slackens (s := s.onSc _)⟩

end Sys2Proof.Machine
end

section
/-! SUPPORT. SENSOR_READ (R45): the dispatcher in INIT, and the owner's answer. -/

namespace Sys2Proof.Machine

set_option Elab.async false

variable {s : State}

/-- In INIT the dispatcher answers STARTING to every request but IDENTIFY (R179). -/
theorem takeRequest_of_init (room : s.ml.replies.length < 4) (quiet : s.ml.restartPending = false)
    (starting : s.lsc.line = .init) {type : Byte} (known : type ≠ 0x01) (tok : Byte) (own : State → Answer × State)
    (after : State → State) : takeRequest type tok own after s = queueReply type tok startingAnswer s := by
  have refused : (s.lsc.line == .init && type != 0x01) = true := by rw [starting]; exact bne_iff_ne.2 known
  simp only [takeRequest, if_pos room, serveRequest, quiet, Bool.false_eq_true, if_false, if_pos refused]

theorem serves_of_started (room : s.ml.replies.length < 4) (quiet : s.ml.restartPending = false)
    (started : s.lsc.line ≠ .init) : serves s = true := by
  simp [serves, room, quiet, started]

theorem sensorRead_channel {channel : Byte} {c : Channel} (found : channelAt channel.toNat = some c) :
    sensorReadOwn channel s = (answerOk (u16 (s.sc.result.get c) ++ u16 (s.sc.age.get c)), s) := by
  simp only [sensorReadOwn, found]

theorem sensorRead_beyond {channel : Byte} (beyond : 4 < channel.toNat) : sensorReadOwn channel s = (badValue, s) := by
  have unknown : channelAt channel.toNat = none := List.getElem?_eq_none beyond
  simp only [sensorReadOwn, unknown]

/-- After reset a channel has no result (R39). -/
theorem reset_channel (c : Channel) : ScanConverter.reset.result.get c = 0 ∧ ScanConverter.reset.age.get c = 65535 := by
  cases c <;> exact ⟨rfl, rfl⟩

/-- Settles O18: the dispatcher's refusal in INIT, else the owner's answer queued; a reset's Scan Converter is `reset`. -/
theorem sensorReadGivesResultAndAge : Obligations.SensorReadGivesResultAndAge := by
  intro tok channel s room quiet
  refine ⟨fun starting => ?_, fun started beyond => ?_, fun started c found => ?_, fun b1 b0 tear t c reset => ?_⟩
  · exact congrArg Host.Outcome.next (takeRequest_of_init room quiet starting (by decide) tok (sensorReadOwn channel) id)
  · exact query_answers (serves_of_started room quiet started) rfl (sensorRead_beyond beyond)
  · exact query_answers (serves_of_started room quiet started) rfl (sensorRead_channel found)
  · cases reset
    exact reset_channel c

end Sys2Proof.Machine
end

section
/-! SUPPORT. Stored recipes (R48, R49, R58): what makes nine fields storable, and what a step can make of the recipe table. -/

namespace Sys2Proof.Machine

set_option Elab.async false

/-! ## What can be stored -/

/-- `recipesSafe` as a proposition on the table. -/
structure RecipesStored (rt : List Recipe) : Prop where
  sixteen : rt.length = 16
  each : ∀ r ∈ rt, r.stored = true

theorem recipesSafe_iff (s : State) : recipesSafe s = true ↔ RecipesStored s.rt := by
  simp only [recipesSafe, Bool.and_eq_true, decide_eq_true_eq, List.all_eq_true]
  exact ⟨fun ⟨sixteen, each⟩ => ⟨sixteen, each⟩, fun h => ⟨h.sixteen, h.each⟩⟩

theorem RecipesStored.set {rt : List Recipe} (h : RecipesStored rt) (slot : Nat) {r : Recipe} (stored : r.stored = true) :
    RecipesStored (rt.set slot r) := by
  refine ⟨by rw [List.length_set]; exact h.sixteen, fun q hq => ?_⟩
  obtain old | rfl := List.mem_or_eq_of_mem_set hq
  · exact h.each q old
  · exact stored

/-- `Recipe.stored` as a proposition. -/
theorem stored_iff (r : Recipe) : r.stored = true ↔ r.code < 65536 ∧ r.name.length ≤ 12 ∧ trimName r.name = r.name ∧
    r.nominal < 65536 ∧ r.tolerance < 256 ∧ r.feed < 65536 ∧ r.crumb < 256 ∧ r.blast < 65536 ∧ r.shelf < 256 := by
  simp only [Recipe.stored, Bool.and_eq_true, decide_eq_true_eq, and_assoc]

theorem stored_empty : Recipe.empty.stored = true := by decide

theorem recipesStored_replicate_empty : RecipesStored (List.replicate 16 .empty) :=
  ⟨List.length_replicate, fun _ hr => (List.eq_of_mem_replicate hr) ▸ stored_empty⟩

theorem length_trimName_le (l : List Byte) : (trimName l).length ≤ l.length :=
  (List.rdropWhile_prefix (fun b : Byte => b == 0x20) l).length_le

theorem trimName_trimName (l : List Byte) : trimName (trimName l) = trimName l :=
  List.rdropWhile_idempotent (p := fun b : Byte => b == 0x20) l

/-- Number and name fields of bytes fit their widths, whatever the bytes are. -/
theorem natOf_lt (l : List Byte) : natOf l < 256 ^ l.length := by
  have from_ : ∀ k, l.foldl (fun n b => n * 256 + b.toNat) k < (k + 1) * 256 ^ l.length := by
    induction l with
    | nil => simp
    | cons b l ih =>
      intro k
      have digit : k * 256 + b.toNat + 1 ≤ (k + 1) * 256 := by have := b.isLt; omega
      calc _ < (k * 256 + b.toNat + 1) * 256 ^ l.length := ih _
        _ ≤ (k + 1) * 256 * 256 ^ l.length := Nat.mul_le_mul_right _ digit
        _ = (k + 1) * 256 ^ (b :: l).length := by rw [List.length_cons, pow_succ']; ring
  simpa [natOf] using from_ 0

theorem numAt_lt (l : List Byte) (i n : Nat) : numAt l i n < 256 ^ n :=
  (natOf_lt _).trans_le (Nat.pow_le_pow_right (by decide) (List.length_take_le n _))

theorem stored_readRecipe (l : List Byte) : (readRecipe l).stored = true := by
  have name : (trimName ((l.drop 2).take 12)).length ≤ 12 :=
    (length_trimName_le _).trans (List.length_take_le 12 _)
  rw [stored_iff]
  exact ⟨numAt_lt l 0 2, name, trimName_trimName _, numAt_lt l 14 2, numAt_lt l 16 1, numAt_lt l 17 2, numAt_lt l 19 1,
    numAt_lt l 20 2, numAt_lt l 22 1⟩

theorem stored_readRecipes (n : Nat) : ∀ l : List Byte, (readRecipes l n).length = n ∧ ∀ r ∈ readRecipes l n, r.stored = true := by
  induction n with
  | zero => exact fun l => ⟨rfl, by simp [readRecipes]⟩
  | succ n ih =>
    intro l
    obtain ⟨length, each⟩ := ih (l.drop 24)
    refine ⟨by rw [readRecipes, List.length_cons, length], fun r hr => ?_⟩
    obtain rfl | hr := List.mem_cons.1 hr
    · exact stored_readRecipe _
    · exact each r hr

/-- The scan loads sixteen storable slots from any bytes (R58). -/
theorem recipesStored_scanRecipes (r : RecordStore) : RecipesStored (scanRecipes r) := by
  unfold scanRecipes; split
  · exact ⟨(stored_readRecipes 16 _).1, (stored_readRecipes 16 _).2⟩
  · exact recipesStored_replicate_empty

/-! ## What RECIPE_WRITE checks (R48, R49) -/

/-- The ranges of R48's table, by field number, in the order in which R49 checks them. -/
def fieldsInRange (f : RecipeFields) : List (Nat × Bool) :=
  [(2, decide (f.name.length ≤ 12) && f.name.all (fun c => decide (0x20 ≤ c.toNat) && decide (c.toNat ≤ 0x7E))),
   (3, decide (150 ≤ f.nominal.toNat) && decide (f.nominal.toNat ≤ 600)),
   (4, decide (5 ≤ f.tolerance.toNat) && decide (f.tolerance.toNat ≤ 60)),
   (5, decide (50 ≤ f.feed.toNat) && decide (f.feed.toNat ≤ 400)),
   (7, decide (100 ≤ f.blast.toNat) && decide (f.blast.toNat ≤ 1500)),
   (8, decide (1 ≤ f.shelf.toNat) && decide (f.shelf.toNat ≤ 30)), (9, decide (f.reject.toNat ≤ 1))]

theorem map_find?_cons {n : Nat} {b : Bool} (l : List (Nat × Bool)) :
    (((n, b) :: l).find? (fun x => !x.2)).map Prod.fst = if !b then some n else (l.find? (fun x => !x.2)).map Prod.fst := by
  cases b <;> rfl

/-- The first field out of its range is the first failing check. -/
theorem firstBadField_eq (f : RecipeFields) : firstBadField f = ((fieldsInRange f).find? (fun x => !x.2)).map Prod.fst := by
  have name : (decide (f.name.length > 12)
      || f.name.any (fun c => !(decide (0x20 ≤ c.toNat) && decide (c.toNat ≤ 0x7E)))) =
      !(decide (f.name.length ≤ 12) && f.name.all (fun c => decide (0x20 ≤ c.toNat) && decide (c.toNat ≤ 0x7E))) := by
    rw [Bool.not_and, List.not_all_eq_any_not, ← decide_not]; simp only [gt_iff_lt, not_le]
  have flagged : (f.reject.toNat > 1) = ((!decide (f.reject.toNat ≤ 1)) = true) := by simp
  simp only [fieldsInRange, map_find?_cons, List.find?_nil, Option.map_none, firstBadField, name, flagged]

theorem stored_recipeOf {f : RecipeFields} (good : firstBadField f = none) : (recipeOf f).stored = true := by
  have short : f.name.length ≤ 12 := by
    rw [firstBadField_eq, fieldsInRange, map_find?_cons] at good
    by_contra long
    simp [long] at good
  rw [stored_iff]
  exact ⟨f.code.isLt, (length_trimName_le _).trans short, trimName_trimName _, f.nominal.isLt, f.tolerance.isLt,
    f.feed.isLt, f.crumb.isLt, f.blast.isLt, f.shelf.isLt⟩

section
variable {slot : Byte} {f : RecipeFields} {s : State}

theorem recipeWrite_beyond (beyond : 15 < slot.toNat) : recipeWriteOwn slot f s = (⟨3, [0]⟩, s) := by
  simp only [recipeWriteOwn, if_pos beyond]; rfl

theorem recipeWrite_badField {n : Nat} (known : slot.toNat ≤ 15) (filled : f.code ≠ 0) (bad : firstBadField f = some n) :
    recipeWriteOwn slot f s = (⟨3, [BitVec.ofNat 8 n]⟩, s) := by
  simp only [recipeWriteOwn, if_neg (Nat.not_lt.2 known), if_neg filled, bad]; rfl

theorem recipeWrite_inUse (known : slot.toNat ≤ 15) (good : f.code = 0 ∨ firstBadField f = none)
    (used : slotInUse slot.toNat s = true) : recipeWriteOwn slot f s = (inUseAnswer, s) := by
  have passes : (if f.code = 0 then none else firstBadField f) = none := by
    split
    · rfl
    · exact good.resolve_left ‹_›
  simp only [recipeWriteOwn, if_neg (Nat.not_lt.2 known), passes, used, if_true]

theorem recipeWrite_free (known : slot.toNat ≤ 15) (good : f.code = 0 ∨ firstBadField f = none)
    (free : slotInUse slot.toNat s = false) : recipeWriteOwn slot f s
      = (answerOk [], setRecipe slot.toNat (if f.code = 0 then .empty else recipeOf f) s) := by
  have passes : (if f.code = 0 then none else firstBadField f) = none := by
    split
    · rfl
    · exact good.resolve_left ‹_›
  simp only [recipeWriteOwn, if_neg (Nat.not_lt.2 known), passes, free, Bool.false_eq_true, if_false]

/-- RECIPE_WRITE changes nothing, or puts a storable recipe into its slot. -/
theorem recipeWrite_rt (slot : Byte) (f : RecipeFields) (s : State) : (recipeWriteOwn slot f s).2.rt = s.rt ∨
    ∃ r : Recipe, r.stored = true ∧ (recipeWriteOwn slot f s).2.rt = s.rt.set slot.toNat r := by
  unfold recipeWriteOwn; dsimp only
  split
  · exact .inl rfl
  · split
    · exact .inl rfl
    next good =>
      split
      · exact .inl rfl
      · refine .inr ⟨_, ?_, rfl⟩
        split
        · exact stored_empty
        next filled =>
          rw [if_neg filled] at good
          exact stored_recipeOf good

end

end Sys2Proof.Machine
end

section
/-! SUPPORT. What a step makes of the recipe table: the requests but RECIPE_WRITE, the events and the moments keep it. -/

namespace Sys2Proof.Machine

set_option Elab.async false

variable {s : State}

/-! ## Requests -/

/-- What an owner makes of a state with a storable table has one. -/
def KeepsRecipes (own : State → Answer × State) : Prop := ∀ s, RecipesStored s.rt → RecipesStored (own s).2.rt

theorem keepsRecipes_of_same {own : State → Answer × State} (same : ∀ s, (own s).2.rt = s.rt) : KeepsRecipes own :=
  fun s h => (same s).symm ▸ h

@[simp] theorem identifyOwn_rt (s : State) : (identifyOwn s).2.rt = s.rt := rfl

@[simp] theorem statusOwn_rt (s : State) : (statusOwn s).2.rt = s.rt := rfl

@[simp] theorem logIndexOwn_rt (s : State) : (logIndexOwn s).2.rt = s.rt := rfl

@[simp] theorem restartOwn_rt (s : State) : (restartOwn s).2.rt = s.rt := by
  unfold restartOwn; (repeat' split) <;> simp

@[simp] theorem clockSetOwn_rt (day : BitVec 16) (second : BitVec 32) (s : State) : (clockSetOwn day second s).2.rt = s.rt := by
  unfold clockSetOwn; split <;> simp

@[simp] theorem configSetOwn_rt (id index : Byte) (value : BitVec 16) (s : State) : (configSetOwn id index value s).2.rt = s.rt := by
  unfold configSetOwn; dsimp only; (repeat' split) <;> simp

@[simp] theorem configGetOwn_rt (id index : Byte) (s : State) : (configGetOwn id index s).2.rt = s.rt := by
  unfold configGetOwn; split <;> rfl

@[simp] theorem recipeReadOwn_rt (slot : Byte) (s : State) : (recipeReadOwn slot s).2.rt = s.rt := by
  unfold recipeReadOwn; dsimp only; split <;> rfl

@[simp] theorem recipeSaveOwn_rt (s : State) : (recipeSaveOwn s).2.rt = s.rt := by simp [recipeSaveOwn]

@[simp] theorem laneSelectOwn_rt (lane slot : Byte) (s : State) : (laneSelectOwn lane slot s).2.rt = s.rt := by
  unfold laneSelectOwn; dsimp only; (repeat' split) <;> simp

@[simp] theorem lineStartOwn_rt (s : State) : (lineStartOwn s).2.rt = s.rt := by
  unfold lineStartOwn; dsimp only; (repeat' split) <;> simp

@[simp] theorem lineHoldOwn_rt (s : State) : (lineHoldOwn s).2.rt = s.rt := by
  unfold lineHoldOwn; dsimp only; (repeat' split) <;> simp

@[simp] theorem lineResumeOwn_rt (s : State) : (lineResumeOwn s).2.rt = s.rt := by
  unfold lineResumeOwn; dsimp only; (repeat' split) <;> simp

@[simp] theorem lineDrainOwn_rt (s : State) : (lineDrainOwn s).2.rt = s.rt := by
  unfold lineDrainOwn; dsimp only; split <;> simp

@[simp] theorem lineStandbyOwn_rt (s : State) : (lineStandbyOwn s).2.rt = s.rt := by
  unfold lineStandbyOwn; dsimp only; split <;> simp

@[simp] theorem laneEnableOwn_rt (lane on : Byte) (s : State) : (laneEnableOwn lane on s).2.rt = s.rt := by
  unfold laneEnableOwn; dsimp only; (repeat' split) <;> simp

@[simp] theorem crumbClearOwn_rt (lane : Byte) (s : State) : (crumbClearOwn lane s).2.rt = s.rt := by
  unfold crumbClearOwn; dsimp only; (repeat' split) <;> simp

@[simp] theorem magazineLoadOwn_rt (which : Byte) (count : BitVec 16) (s : State) : (magazineLoadOwn which count s).2.rt = s.rt := by
  unfold magazineLoadOwn; dsimp only; (repeat' split) <;> simp

@[simp] theorem tyerResolveOwn_rt (action : Byte) (s : State) : (tyerResolveOwn action s).2.rt = s.rt := by
  unfold tyerResolveOwn; (repeat' split) <;> simp

@[simp] theorem faultListOwn_rt (first : Byte) (s : State) : (faultListOwn first s).2.rt = s.rt := by
  unfold faultListOwn; dsimp only; split <;> rfl

@[simp] theorem faultClearOwn_rt (s : State) : (faultClearOwn s).2.rt = s.rt := by
  unfold faultClearOwn; dsimp only; (repeat' split) <;> simp

@[simp] theorem trackListOwn_rt (zone lane : Byte) (s : State) : (trackListOwn zone lane s).2.rt = s.rt := by
  unfold trackListOwn; split <;> rfl

@[simp] theorem loafQueryOwn_rt (tag : BitVec 16) (s : State) : (loafQueryOwn tag s).2.rt = s.rt := by
  unfold loafQueryOwn; (repeat' split) <;> rfl

@[simp] theorem totalsReadOwn_rt (part : Byte) (s : State) : (totalsReadOwn part s).2.rt = s.rt := by
  unfold totalsReadOwn; dsimp only; (repeat' split) <;> rfl

@[simp] theorem shiftCloseOwn_rt (s : State) : (shiftCloseOwn s).2.rt = s.rt := by
  unfold shiftCloseOwn; (repeat' split) <;> simp

@[simp] theorem shiftReadOwn_rt (number : BitVec 16) (part : Byte) (s : State) : (shiftReadOwn number part s).2.rt = s.rt := by
  unfold shiftReadOwn; (repeat' split) <;> rfl

@[simp] theorem sensorReadOwn_rt (channel : Byte) (s : State) : (sensorReadOwn channel s).2.rt = s.rt := by
  unfold sensorReadOwn; split <;> rfl

theorem keepsRecipes_recipeWrite (slot : Byte) (f : RecipeFields) : KeepsRecipes (recipeWriteOwn slot f) := by
  intro s h
  obtain same | ⟨r, stored, written⟩ := recipeWrite_rt slot f s
  · exact same ▸ h
  · exact written ▸ h.set _ stored

theorem keepsRecipes_recipeWriteBody (body : List Byte) : KeepsRecipes (recipeWriteBody body) := by
  intro s h
  unfold recipeWriteBody; split
  · exact keepsRecipes_recipeWrite _ _ s h
  · exact h

/-- What the catalogue names for a TYPE keeps the table storable; what follows a request keeps it as it is. -/
theorem catalogue_keepsRecipes {type : Byte} {body : List Byte} {c : Handler} (found : catalogue type body = some c) :
    KeepsRecipes c.own ∧ ∀ s, (c.after s).rt = s.rt := by
  unfold catalogue at found
  split at found <;> first | (cases found; done) | (obtain rfl := Option.some.inj found; dsimp only)
  case h_7 => exact ⟨keepsRecipes_recipeWriteBody body, fun _ => rfl⟩
  all_goals exact ⟨keepsRecipes_of_same (by simp), by simp⟩

theorem recipesStored_serveRequest (type tok : Byte) {own : State → Answer × State} {after : State → State}
    (hown : KeepsRecipes own) (hafter : ∀ s, (after s).rt = s.rt) (h : RecipesStored s.rt) :
    RecipesStored (serveRequest type tok own after s).rt := by
  have answered : RecipesStored (queueReply type tok (own s).1 (own s).2).rt := by simpa using hown s h
  have settled := (hafter (queueReply type tok (own s).1 (own s).2)).symm ▸ answered
  unfold serveRequest answerRequest
  split
  · simpa using h
  · split
    · simpa using h
    · exact when_elim (P := fun t => RecipesStored t.rt) answered (fun _ => settled)

theorem recipesStored_takeFrame (type tok : Byte) (body : List Byte) (h : RecipesStored s.rt) :
    RecipesStored (takeFrame type tok body s).rt := by
  have replied : ∀ a : Answer, RecipesStored (queueReply type tok a s).rt := fun a => by simpa using h
  unfold takeFrame; split
  · exact replied _
  next c found =>
    obtain ⟨hown, hafter⟩ := catalogue_keepsRecipes found
    split
    · exact recipesStored_serveRequest type tok hown hafter h
    · (repeat' split) <;> exact replied _

theorem recipesStored_dispatch (h : RecipesStored s.rt) : RecipesStored (dispatch s).rt := by
  unfold dispatch; split
  · split
    · exact recipesStored_takeFrame _ _ _ h
    · exact h
  · exact h

theorem recipesStored_takeRequest (type tok : Byte) {own : State → Answer × State} {after : State → State}
    (hown : KeepsRecipes own) (hafter : ∀ s, (after s).rt = s.rt) (h : RecipesStored s.rt) :
    RecipesStored (takeRequest type tok own after s).rt := by
  unfold takeRequest; split
  · exact recipesStored_serveRequest type tok hown hafter h
  · exact h

/-! ## Resets, the scan and the commands -/

theorem recipesStored_resetMachine (baud1 baud0 : Bool) (tear : Tear) (s : State) :
    RecipesStored (resetMachine baud1 baud0 tear s).rt := recipesStored_replicate_empty

/-- The scan sets the table once; the later stages keep it (R190). -/
theorem completeScan_rt (s : State) : (completeScan s).rt = scanRecipes s.rs := by
  simp only [completeScan, enterStandby_keeps, raiseKey_keeps, endOfInitCheck_keeps, evalClipLow_keeps, evalBagLow_keeps,
    scanRestores_keeps]
  rfl

@[simp] theorem withEdge_rt (e : Eye) (leading : Bool) {f : Edge → State → State} (hf : ∀ x s, (f x s).rt = s.rt) (s : State) :
    (withEdge e leading f s).rt = s.rt := by
  unfold withEdge; (repeat' split) <;> simp [hf]

theorem recipesStored_exec (i : Instr) (s t : State) (h : RecipesStored s.rt) (run : exec i s = .next t) :
    RecipesStored t.rt := by
  cases i with
  | recipeWrite tok slot f =>
    cases run; exact recipesStored_takeRequest _ _ (keepsRecipes_recipeWrite slot f) (fun _ => rfl) h
  | dispatchFrame => cases run; exact recipesStored_dispatch h
  | reset b1 b0 tear => cases run; exact recipesStored_resetMachine b1 b0 tear s
  | startUpScanComplete =>
    cases run
    refine when_elim (P := fun t => RecipesStored t.rt) h (fun _ => ?_)
    have loaded : (settle (completeScan s)).rt = scanRecipes s.rs := by rw [← completeScan_rt]; simp
    rw [loaded]
    exact recipesStored_scanRecipes s.rs
  | frameSent b1 b0 =>
    cases run; split
    · exact h
    · split
      · exact recipesStored_resetMachine b1 b0 _ s
      · simpa using h
  | identify | status | restart | clockSet | configSet | configGet | recipeRead | recipeSave | laneSelect | lineStart
  | lineHold | lineResume | lineDrain | lineStandby | laneEnable | crumbClear | magazineLoad | tyerResolve | faultList
  | faultClear | trackList | loafQuery | totalsRead | shiftClose | shiftRead | logIndex | sensorRead =>
    cases run; exact recipesStored_takeRequest _ _ (keepsRecipes_of_same (by simp)) (by simp) h
  | conversionComplete result => cases run; split <;> simpa using h
  | tyerHomeSwitchChange closed => cases run; cases closed <;> simpa using h
  | pageProgramComplete verified => cases run; cases verified <;> split <;> simpa using h
  | byteReceived | assemblerTakesByte | gapTimerRunOut | transmitStart | eyeSample | debounceConfirm | encoderCount
  | headAtGate | bladeWindowRunOut | mergeWindowRunOut | exitWindowRunOut | stuckLimitExceeded | scanTimerExpiry
  | spinUpWaitEnd | gateStrokeEnd | pushStrokeTimerRunOut | flapSettleEnd | openingEnd | bagConfirmWatchRunOut
  | bagBlastEnd | extendedSwitchCloses | pusherHomeSwitchChange | deadTimeEnd | purgeEnd | twistEnd | clipEnd
  | tieTimerRunOut | airWaitTimerRunOut | blowingEnd | settleEnd | backoffEnd | safetySample | calendarTick
  | lineTimeSecond => cases run; simpa using h
  | infeedTrailingEdge | slicerLeadingEdge | slicerTrailingEdge | mergeLeadingEdge | mergeTrailingEdge | exitLeadingEdge
  | exitTrailingEdge | bagConfirm => cases run; simpa [onEdge, onTrailing] using h

theorem recipesStored_step {s t : State} (h : RecipesStored s.rt) (run : step s = .next t) : RecipesStored t.rt := by
  unfold step at run; split at run
  · exact recipesStored_exec _ _ _ (by simpa using h) run
  · split at run
    · exact recipesStored_exec _ _ _ (by simpa using h) run
    · cases run; exact h

/-- Settles O11: a step keeps the table but for a write of a storable recipe, a load of sixteen slots by the scan, and a reset. -/
theorem everyStepKeepsTheRecipesStorable : Obligations.EveryStepKeepsTheRecipesStorable := by
  intro s t safe run
  rw [recipesSafe_iff] at safe ⊢
  exact recipesStored_step safe run

end Sys2Proof.Machine
end

section
/-! SUPPORT. The requests about recipes and selections (R48 to R53, R56): what the dispatcher makes of an owner's answer, when a
slot is in use, what a save starts, and what a selection changes. -/

namespace Sys2Proof.Machine

set_option Elab.async false

variable {s : State}

/-! ## The dispatcher -/

/-- An accepted request settles after its reply has been queued. -/
theorem takeRequest_accepted (h : serves s = true) {own : State → Answer × State} {c : List Byte} {t : State}
    (answer : own s = (⟨0, c⟩, t)) (type tok : Byte) (after : State → State) :
    takeRequest type tok own after s = after (queueReply type tok ⟨0, c⟩ t) := by
  simp only [serves, Bool.and_eq_true, decide_eq_true_eq, Bool.not_eq_true', bne_iff_ne, ne_eq] at h
  obtain ⟨⟨room, quiet⟩, started⟩ := h
  simp [takeRequest, serveRequest, answerRequest, room, quiet, started, when, answer]

/-- A refused request settles nothing. -/
theorem takeRequest_refused (h : serves s = true) {own : State → Answer × State} {a : Answer} {t : State}
    (answer : own s = (a, t)) (refused : a.status ≠ 0) (type tok : Byte) (after : State → State) :
    takeRequest type tok own after s = queueReply type tok a t := by
  simp only [serves, Bool.and_eq_true, decide_eq_true_eq, Bool.not_eq_true', bne_iff_ne, ne_eq] at h
  obtain ⟨⟨room, quiet⟩, started⟩ := h
  simp [takeRequest, serveRequest, answerRequest, room, quiet, started, when, answer]
  exact fun accepted => absurd accepted refused

/-! ## RECIPE_WRITE and RECIPE_SAVE -/

/-- R50: a slot is in use by a record, or by a selection of a lane. -/
theorem slotInUse_iff (slot : Nat) (s : State) : slotInUse slot s = true ↔ (∃ r ∈ s.records, r.recipeSlot = some slot) ∨
    ∃ l, (s.lic.get l).active = some slot ∨ (s.lic.get l).pendingSel = some slot := by
  have lanes : (∃ l, (s.lic.get l).active = some slot ∨ (s.lic.get l).pendingSel = some slot) ↔
      (s.lic.a.active = some slot ∨ s.lic.a.pendingSel = some slot) ∨
        s.lic.b.active = some slot ∨ s.lic.b.pendingSel = some slot :=
    ⟨fun ⟨l, hl⟩ => by cases l <;> [exact .inl hl; exact .inr hl], fun h => h.elim (fun h => ⟨.a, h⟩) (fun h => ⟨.b, h⟩)⟩
  rw [lanes]
  simp only [slotInUse, Bool.or_eq_true, List.any_eq_true, beq_iff_eq]
  grind

/-- Every field in its range is none out of it. -/
theorem firstBadField_eq_none {f : RecipeFields} (inRange : ∀ x ∈ fieldsInRange f, x.2 = true) : firstBadField f = none := by
  rw [firstBadField_eq, Option.map_eq_none_iff, List.find?_eq_none]
  intro x hx
  simp [inRange x hx]

/-- RECIPE_SAVE starts a RECIPES job on an idle writer, else it queues it (R56, R167). -/
theorem recipeSave_eq (s : State) : recipeSaveOwn s = (answerOk [], { s with rs :=
    let job : Job := { kind := .recipes, number := none, content := recipesContent s.rt }
    match s.rs.writer with
    | none => { s.rs with writer := some { job := job, area := 25, programs := 0 } }
    | some _ => { s.rs with queue := { s.rs.queue with recipes := some job } } }) := by
  unfold recipeSaveOwn requestJob
  cases busy : s.rs.writer <;>
    simp only [State.onRs, busy, Option.isNone_none, Option.isNone_some, if_true, Bool.false_eq_true, if_false] <;> rfl

/-- Settles O21: the owner's four answers, by the checks of R49 and R50 in their order; a save is one job requested. -/
theorem recipeWriteAndSave : Obligations.RecipeWriteAndSave := by
  intro tok slot f s h used
  have inUse : used ↔ slotInUse slot.toNat s = true := (slotInUse_iff _ _).symm
  have free : ¬used ↔ slotInUse slot.toNat s = false := by rw [inUse, Bool.not_eq_true]
  refine ⟨fun beyond => ?_, fun known empty hu => ?_, fun known empty hf => ?_, ?_, ?_, ?_⟩
  · exact query_answers h rfl (recipeWrite_beyond beyond)
  · exact query_answers h rfl (recipeWrite_inUse known (.inl empty) (inUse.1 hu))
  · rw [query_answers h rfl (recipeWrite_free known (.inl empty) (free.1 hf)), if_pos empty]
    rfl
  · intro known filled short printable n1 n2 t1 t2 f1 f2 b1 b2 s1 s2 r1
    have good : firstBadField f = none := by
      refine firstBadField_eq_none ?_
      simpa [fieldsInRange, short, n1, n2, t1, t2, f1, f2, b1, b2, s1, s2, r1] using printable
    refine ⟨fun hu => ?_, fun hf => ?_⟩
    · exact query_answers h rfl (recipeWrite_inUse known (.inr good) (inUse.1 hu))
    · rw [query_answers h rfl (recipeWrite_free known (.inr good) (free.1 hf)), if_neg filled]
      rfl
  · intro inRange known filled n first
    exact query_answers h rfl (recipeWrite_badField known filled ((firstBadField_eq f).trans first))
  · exact query_answers h rfl (recipeSave_eq s)

/-! ## LANE_SELECT -/

section
variable {lane slot : Byte} {l : Lane}

theorem laneSelect_beyond (beyond : 1 < lane.toNat ∨ 15 < slot.toNat) : laneSelectOwn lane slot s = (badValue, s) := by
  unfold laneSelectOwn; split
  · rfl
  next l found =>
    have far : 15 < slot.toNat := beyond.resolve_left (fun none => by rw [laneOf_beyond none] at found; cases found)
    exact if_pos far

variable (found : laneOf lane = some l) (known : slot.toNat ≤ 15)
include found known

theorem laneSelect_empty (empty : (recipeAt slot.toNat s).code = 0) :
    laneSelectOwn lane slot s = (⟨12, selectionContent l s⟩, s) := by
  simp only [laneSelectOwn, found, if_neg (Nat.not_lt.2 known), if_pos empty]

theorem laneSelect_already (filled : (recipeAt slot.toNat s).code ≠ 0) (active : (s.lic.get l).active = some slot.toNat)
    (pending : (s.lic.get l).pendingSel = none) :
    laneSelectOwn lane slot s = (alreadyAnswer (selectionContent l s), s) := by
  simp [laneSelectOwn, found, Nat.not_lt.2 known, filled, active, pending]

theorem laneSelect_names (filled : (recipeAt slot.toNat s).code ≠ 0)
    (new : (s.lic.get l).active ≠ some slot.toNat ∨ (s.lic.get l).pendingSel ≠ none) :
    let u := syncLane l (s.onLane l (fun i => { i with pendingSel := some slot.toNat }))
    laneSelectOwn lane slot s = (answerOk (selectionContent l u), u) := by
  have moves : ¬((s.lic.get l).active == some slot.toNat && (s.lic.get l).pendingSel.isNone) = true := by
    simpa [or_iff_not_imp_left] using new
  simp only [laneSelectOwn, found, if_neg (Nat.not_lt.2 known), if_neg filled, if_neg moves]

end

/-- A lane with a pending selection has a recipe to admit to (R65). -/
theorem syncLane_noRecipe {l : Lane} (pending : (s.lic.get l).pendingSel ≠ none) :
    ((syncLane l s).lic.get l).closure.noRecipe = false := by
  rw [syncLane_lic_same]
  simp [laneFlags, closureOf, Option.isSome_iff_ne_none, pending]

/-- Settles O24: the owner's answers in the order of R53's table; a selection is the lane's pending slot told by `syncLane`. -/
theorem laneSelectNamesThePendingSlot : Obligations.LaneSelectNamesThePendingSlot := by
  intro tok lane slot s h
  refine ⟨fun beyond => ?_, fun l found known => ⟨fun empty => ?_, fun filled active pending => ?_, fun filled new => ?_⟩⟩
  · exact congrArg _ (takeRequest_refused h (laneSelect_beyond beyond) (by decide) _ tok settle)
  · exact congrArg _ (takeRequest_refused h (laneSelect_empty found known empty) (by simp) _ tok settle)
  · exact congrArg _ (takeRequest_refused h (laneSelect_already found known filled active pending) (by simp [alreadyAnswer])
      _ tok settle)
  · have named := laneSelect_names found known filled new
    dsimp only at named
    generalize selected : s.onLane l (fun i => { i with pendingSel := some slot.toNat }) = v at named
    have lane_v : v.lic.get l = { s.lic.get l with pendingSel := some slot.toNat } := by subst selected; simp [State.onLane]
    have told := ToldLane.syncLane l v
    have pending : ((syncLane l v).lic.get l).pendingSel = some slot.toNat := by simp [lane_v]
    have active : ((syncLane l v).lic.get l).active = (s.lic.get l).active := by simp [lane_v]
    have content : selectionContent l (syncLane l v) = opt8 (s.lic.get l).active ++ opt8 (some slot.toNat) := by
      rw [selectionContent, active, pending]
    rw [content] at named
    refine ⟨syncLane l v, congrArg _ (takeRequest_accepted h named _ tok settle), pending, active,
      syncLane_noRecipe (by simp [lane_v]), told.inStep, lane_v ▸ told.rest, ?_, ?_⟩
    · rw [told.other]; subst selected; exact otherLane_get_upd ..
    · subst selected
      apply State.eq_of_blocks
      case ml => exact MessageLink.eq_but_reports
      all_goals simp

end Sys2Proof.Machine
end

section
/-! SUPPORT. The transmitter (R181, R182, R185): which frame it starts, what the fields of a report are, and what the end of a
frame leaves. -/

namespace Sys2Proof.Machine

set_option Elab.async false

variable {s : State}

/-! ## The start of a frame (R181) -/

theorem startFrame_reply {r : Reply} {rest : List Reply} (replies : s.ml.replies = r :: rest) :
    startFrame s = s.onMl (fun m => { m with tx := some { isReply := true, bytes := r.frame } }) := by
  simp only [startFrame, replies]

theorem startFrame_idle (replies : s.ml.replies = []) (reports : s.ml.reports = []) : startFrame s = s := by
  simp only [startFrame, replies, reports]

/-- The link as a report of a key leaves it: a notice's count starts again (R178). -/
def MessageLink.reportStarted (k : ReportKey) (m : MessageLink) : MessageLink :=
  match k with
  | .linkNotice n => m.setNotice n 0
  | _ => m

theorem startFrame_report {k : ReportKey} {rest : List ReportKey} (replies : s.ml.replies = [])
    (reports : s.ml.reports = k :: rest) : startFrame s = s.onMl (fun m => MessageLink.reportStarted k
      { m with reports := rest, tx := some { isReply := false, bytes := reportFrame k s } }) := by
  simp only [startFrame, replies, reports]
  cases k <;> rfl

theorem noticeCount_reportStarted (k : ReportKey) (n : Notice) (s : State) (rest : List ReportKey) (tx : Option TxFrame) :
    noticeCount n (s.onMl (fun m => MessageLink.reportStarted k { m with reports := rest, tx := tx }))
      = if k = .linkNotice n then 0 else noticeCount n s := by
  cases k with
  | linkNotice m => cases m <;> cases n <;> rfl
  | _ => rfl

/-- A report leaves of the link everything but the frame, the queue and the counts. -/
theorem reportStarted_keeps (k : ReportKey) (m : MessageLink) (rest : List ReportKey) (tx : Option TxFrame) :
    { MessageLink.reportStarted k { m with reports := rest, tx := tx } with
      tx := m.tx, reports := m.reports, noticeCrc := m.noticeCrc, noticeTimeout := m.noticeTimeout
      noticeOverrun := m.noticeOverrun } = m := by
  cases k with
  | linkNotice n => cases n <;> rfl
  | _ => rfl

theorem reportStarted_queue (k : ReportKey) (m : MessageLink) :
    (MessageLink.reportStarted k m).reports = m.reports ∧ (MessageLink.reportStarted k m).tx = m.tx := by
  cases k with
  | linkNotice n => cases n <;> exact ⟨rfl, rfl⟩
  | _ => exact ⟨rfl, rfl⟩

/-! ## The fields of the reports that have no entry, or choose between two layouts -/

theorem faultChangeBody_eq (s : State) : faultChangeBody s =
    u16 s.ft.changeNumber.toNat ++ u8 s.ft.entries.length ++ u8 s.ft.stack.tail.length ++ u8 s.ft.waiting.length
      ++ (match s.ft.stack.head? with
        | some e => u8 1 ++ u8 e.kind.code ++ u8 e.subject.code ++ u8 e.priority
            ++ flag (s.ft.causes.get e.kind e.subject) ++ opt16 e.detail
        | none => List.replicate 8 0)
      ++ flag (s.ft.entries.any (fun e => actionOf e.kind e.subject == .laneHold .a))
      ++ flag (s.ft.entries.any (fun e => actionOf e.kind e.subject == .laneHold .b))
      ++ flag (outfeedHeld s) ++ flag (stopFault s) := by
  unfold faultChangeBody
  rw [faultHold_eq .a, faultHold_eq .b, FaultTable.presented]
  cases s.ft.stack.head? <;> rfl

theorem crumbClearedBody_eq (l : Lane) (s : State) : crumbClearedBody l s =
    u8 (laneCode l)
      ++ (match (s.cc.get l).lastClear with
        | some (cause, shakerOnly) => u8 cause.code ++ flag shakerOnly
        | none => [0, 0])
      ++ u16 (s.cc.get l).estimate ++ u16 (s.cc.get l).lastLevel ++ u32 (s.tu.live.line.crumbClears.get l) := by
  obtain last | ⟨⟨cause, shakerOnly⟩, last⟩ := Option.eq_none_or_eq_some (s.cc.get l).lastClear <;>
    simp only [crumbClearedBody, last]

theorem shiftStoredBody_eq (s : State) : shiftStoredBody s =
    match s.rs.lastShift with
    | some o => u16 o.number ++ u8 o.slot ++ u8 (if o.stored then 0 else 1)
    | none => [0, 0, 0, 0] := by
  unfold shiftStoredBody
  cases s.rs.lastShift <;> rfl

theorem startupBody_eq (s : State) : startupBody s =
    match s.rs.findings with
    | some f =>
      u8 f.validSlots ++ u8 f.tornSlots ++ u8 f.blankSlots
        ++ (match f.latest with
          | some (n, st) => u8 1 ++ u16 n ++ u8 st.code
          | none => [0, 0, 0, 0])
        ++ u8 f.checkpoint.code ++ u8 f.checkpointUse.code ++ u8 f.origin.code ++ u16 f.liveShift ++ u8 f.recipes.code
        ++ u8 f.recipesLoaded ++ (u8 f.selection.a.1.code ++ u16 f.selection.a.2)
        ++ (u8 f.selection.b.1.code ++ u16 f.selection.b.2)
    | none => [] := by
  unfold startupBody
  cases s.rs.findings with
  | none => rfl
  | some f => dsimp only; cases f.latest <;> rfl

theorem storeDoneBody_checkpoint (s : State) : storeDoneBody .checkpoint s =
    match s.rs.lastCkpt with
    | some (done, number) => u8 (if done then 0 else 1) ++ u16 number
    | none => [1, 0, 0] := by
  unfold storeDoneBody; dsimp only
  cases s.rs.lastCkpt <;> rfl

/-! ## TRANSMIT_START, FRAME_SENT and RESTART -/

theorem transmitStart_waits {hold : Bool} (h : s.ml.tx ≠ none ∨ hold = true ∨ (s.ml.replies = [] ∧ s.ml.reports = [])) :
    exec (.transmitStart hold) s = .next { s with pins := { s.pins with txHold := hold } } := by
  have meaning : exec (.transmitStart hold) s = .next (when (s.ml.tx.isNone && !hold) startFrame
      { s with pins := { s.pins with txHold := hold } }) := rfl
  rw [meaning]
  obtain sending | rfl | ⟨replies, reports⟩ := h
  · have busy : s.ml.tx.isNone = false := Option.isNone_eq_false_iff.2 (Option.isSome_iff_ne_none.2 sending)
    rw [busy]; rfl
  · rw [Bool.not_true, Bool.and_false]; rfl
  · refine congrArg _ (when_elim (P := fun t => t = _) rfl (fun _ => startFrame_idle replies reports))

theorem transmitStart_starts (idle : s.ml.tx = none) :
    exec (.transmitStart false) s = .next (startFrame { s with pins := { s.pins with txHold := false } }) := by
  have meaning : exec (.transmitStart false) s = .next (when (s.ml.tx.isNone && !false) startFrame
      { s with pins := { s.pins with txHold := false } }) := rfl
  rw [meaning, idle]; rfl

theorem frameSent_idle (idle : s.ml.tx = none) (b1 b0 : Bool) : exec (.frameSent b1 b0) s = .next s := by
  show execFrameSent b1 b0 s = _
  simp only [execFrameSent, idle]

theorem frameSent_of {f : TxFrame} (sending : s.ml.tx = some f) (b1 b0 : Bool) : exec (.frameSent b1 b0) s =
    .next (if f.isReply && s.ml.replies.head?.any Reply.restarts then resetMachine b1 b0 .beforeProgram s else frameOut f s) := by
  show execFrameSent b1 b0 s = _
  simp only [execFrameSent, sending]

theorem restart_outOfStandby (moving : s.lsc.line ≠ .standby) : restartOwn s = (wrongState, s) := by
  simp [restartOwn, moving]

theorem restart_busy (standby : s.lsc.line = .standby) (busy : s.rs.busy = true) : restartOwn s = (busyAnswer, s) := by
  simp [restartOwn, standby, busy]

theorem restart_accepted (standby : s.lsc.line = .standby) (quiet : s.rs.busy = false) :
    restartOwn s = (answerOk [], { s with ml := { s.ml with restartPending := true } }) := by
  simp [restartOwn, standby, quiet, State.onMl]

/-- Settles O34: a start is `startFrame` on the idle transmitter, each report's fields are its body's, and the end of a frame is
a reset for the reply of an accepted RESTART alone. -/
theorem transmitterSendsInOrder : Obligations.TransmitterSendsInOrder := by
  intro s
  refine ⟨fun hold h => transmitStart_waits h, fun r rest idle replies => ?_, fun k rest idle replies reports => ?_,
    fun b1 b0 idle => frameSent_idle idle b1 b0, fun b1 b0 bytes sending => ?_,
    fun b1 b0 bytes r rest sending replies => ⟨fun type status => ?_, fun other => ?_⟩,
    fun tok h => ⟨fun moving => ?_, fun standby busy => ?_, fun standby quiet => ?_⟩, by decide⟩
  · exact (transmitStart_starts idle).trans (congrArg _ (startFrame_reply replies))
  · intro fields
    have written : reportFields k s = fields k := by
      cases k with
      | faultChange => exact faultChangeBody_eq s
      | crumbCleared l => exact crumbClearedBody_eq l s
      | magazine m => cases m <;> rfl
      | shiftStored => exact shiftStoredBody_eq s
      | startup => exact startupBody_eq s
      | storeDone j =>
        cases j with
        | recipes => rfl
        | checkpoint => exact storeDoneBody_checkpoint s
      | lineState | laneState | recipeApplied | linkNotice => rfl
    have composed : reportFrame k { s with pins := { s.pins with txHold := false } }
        = frameOf (BitVec.ofNat 8 k.head.1) 0 (u8 k.head.2 ++ fields k) := by rw [← written]; cases k <;> rfl
    refine ⟨_, (transmitStart_starts idle).trans (congrArg _ (startFrame_report replies reports)),
      (reportStarted_queue k _).1, (reportStarted_queue k _).2.trans ?_,
      fun n => noticeCount_reportStarted k n _ rest _, ?_⟩
    · rw [composed]
    · exact congrArg (fun m => { s with ml := m }) (reportStarted_keeps k s.ml rest _)
  · rw [frameSent_of sending]; rfl
  · rw [frameSent_of sending, replies]
    simp only [List.head?_cons, Option.any_some, Reply.restarts, type, status]
    rfl
  · have plain : r.restarts = false := by simpa [Reply.restarts, imp_iff_not_or] using other
    rw [frameSent_of sending, replies]
    simp only [List.head?_cons, Option.any_some, plain, Bool.and_false, Bool.false_eq_true, if_false, frameOut, State.onMl, if_true,
      replies, List.tail_cons]
  · exact query_answers h rfl (restart_outOfStandby moving)
  · exact query_answers h rfl (restart_busy standby busy)
  · exact query_answers h rfl (restart_accepted standby quiet)

end Sys2Proof.Machine
end

section
/-! SUPPORT. The writer of the Record Store (R165 to R169): the bytes of a content page, the header of an area, what the end of a
job leaves, and what each page program makes of the array. -/

namespace Sys2Proof.Machine

set_option Elab.async false

variable {s : State} {w : JobInProgress} {e : LogEntry}

/-! ## Headers and pages -/

theorem header_setHeader_same {area : Nat} {r : RecordStore} (known : area < r.headers.length) (h : Header) :
    (r.setHeader area h).header area = h := by
  simp [RecordStore.header, RecordStore.setHeader, List.getD_eq_getElem?_getD, known]

theorem header_setHeader_other {area k : Nat} (other : k ≠ area) (h : Header) (r : RecordStore) :
    (r.setHeader area h).header k = r.header k := by
  simp [RecordStore.header, RecordStore.setHeader, List.getD_eq_getElem?_getD, List.getElem?_set_ne other.symm]

theorem header_writePage (k area page : Nat) (b : List Byte) (r : RecordStore) :
    (r.writePage area page b).header k = r.header k := rfl

theorem length_pageBytes (content : List Byte) (k : Nat) : (pageBytes content k).length = 64 := by
  simp only [pageBytes, padTo, List.length_append, List.length_replicate, List.length_take, List.length_drop]
  omega

theorem length_tornPage (count : Nat) : (tornPage count).length = 64 := by simp [tornPage]

/-- A byte of a content page is the content's, else the padding's. LOG 27. -/
theorem getD_pageBytes (content : List Byte) (k : Nat) {i : Nat} (inPage : i < 64) :
    (pageBytes content k).getD i 0 = content.getD (64 * (k - 1) + i) 0xFF := by
  simp only [pageBytes, padTo, List.getD_eq_getElem?_getD, List.getElem?_append, List.length_take, List.length_drop]
  by_cases held : 64 * (k - 1) + i < content.length
  · have front : i < min 64 (content.length - 64 * (k - 1)) := by omega
    rw [if_pos front, List.getElem?_take_of_lt inPage, List.getElem?_drop, List.getElem?_eq_getElem held]
    rfl
  · have padded : ¬i < min 64 (content.length - 64 * (k - 1)) := by omega
    have short : i - min 64 (content.length - 64 * (k - 1)) < 64 - min 64 (content.length - 64 * (k - 1)) := by omega
    rw [if_neg padded, List.getElem?_replicate_of_lt short, List.getElem?_eq_none (Nat.not_lt.1 held)]
    rfl

/-! ## The end of a job (R57, R167, R169) -/

@[simp] theorem serve_keeps (r : RecordStore) :
    r.serve.cells = r.cells ∧ r.serve.headers = r.headers ∧ r.serve.index = r.index ∧ r.serve.ckpt = r.ckpt ∧
    r.serve.lastShift = r.lastShift ∧ r.serve.lastCkpt = r.lastCkpt ∧ r.serve.lastRecipes = r.lastRecipes := by
  unfold RecordStore.serve; split <;> simp [RecordStore.begin]

theorem serve_of_empty {r : RecordStore} (empty : r.queue = ⟨none, none, none⟩) : r.serve = r := by
  simp only [RecordStore.serve, empty]

/-- The store as the end of a job leaves it, before the queue is served. -/
def RecordStore.jobEnded (w : JobInProgress) (e : LogEntry) (r : RecordStore) : RecordStore :=
  match w.job.kind with
  | .shiftRecord => { r with
      writer := none, index := r.index.set w.area e
      lastShift := some { number := w.job.number.getD 0, slot := w.area, stored := e.state == .valid } }
  | .checkpoint => { r with
      writer := none, ckpt := (e.state.area, e.number), lastCkpt := some (e.state == .valid, w.job.number.getD 0) }
  | .recipes => { r with writer := none, lastRecipes := some (e.state == .valid) }

theorem endJob_rs (w : JobInProgress) (e : LogEntry) (s : State) : (endJob w e s).rs = (s.rs.jobEnded w e).serve := by
  unfold endJob RecordStore.jobEnded
  cases w.job.kind <;> simp

theorem jobEnded_keeps (w : JobInProgress) (e : LogEntry) (r : RecordStore) :
    (r.jobEnded w e).cells = r.cells ∧ (r.jobEnded w e).headers = r.headers ∧ (r.jobEnded w e).queue = r.queue ∧
    (r.jobEnded w e).writer = none := by
  unfold RecordStore.jobEnded; split <;> exact ⟨rfl, rfl, rfl, rfl⟩

theorem endJob_cells : (endJob w e s).rs.cells = s.rs.cells := by rw [endJob_rs]; simp [jobEnded_keeps]

theorem endJob_headers : (endJob w e s).rs.headers = s.rs.headers := by rw [endJob_rs]; simp [jobEnded_keeps]

theorem endJob_header (k : Nat) : (endJob w e s).rs.header k = s.rs.header k := by
  unfold RecordStore.header; rw [endJob_headers]

theorem endJob_idle (empty : s.rs.queue = ⟨none, none, none⟩) : (endJob w e s).rs.writer = none := by
  obtain ⟨-, -, queue, writer⟩ := jobEnded_keeps w e s.rs
  rw [endJob_rs, serve_of_empty (queue.trans empty), writer]

section
variable (kind : w.job.kind = .shiftRecord)
include kind

theorem endJob_index : (endJob w e s).rs.index = s.rs.index.set w.area e := by
  rw [endJob_rs, (serve_keeps _).2.2.1, RecordStore.jobEnded, kind]

theorem endJob_closeBuffer : (endJob w e s).tu.closeBuffer = none := by
  unfold endJob; rw [kind]; simp

theorem endJob_shiftStored : ReportKey.shiftStored ∈ (endJob w e s).ml.reports := by
  unfold endJob; rw [kind]
  exact failureFault_reported _ _ (raiseKey_mem _ _)

end

theorem endJob_checkpoint (kind : w.job.kind = .checkpoint) :
    (endJob w e s).rs.ckpt = (e.state.area, e.number) ∧ ReportKey.storeDone .checkpoint ∈ (endJob w e s).ml.reports := by
  constructor
  · rw [endJob_rs]; simp [RecordStore.jobEnded, kind]
  · unfold endJob; rw [kind]
    exact failureFault_reported _ _ (raiseKey_mem _ _)

theorem endJob_recipes (kind : w.job.kind = .recipes) :
    (endJob w e s).rs.lastRecipes = some (e.state == .valid) ∧ ReportKey.storeDone .recipes ∈ (endJob w e s).ml.reports := by
  constructor
  · rw [endJob_rs]; simp [RecordStore.jobEnded, kind]
  · unfold endJob; rw [kind]
    exact failureFault_reported _ _ (raiseKey_mem _ _)

/-- A job that stores its content raises no fault. -/
theorem endJob_ft (stored : e.state = .valid) : (endJob w e s).ft = s.ft := by
  unfold endJob failureFault
  cases w.job.kind <;> simp [stored]

/-- A failed job raises NV_WRITE_FAIL with its kind (R169). -/
theorem endJob_failed (failed : e.state ≠ .valid) : standsWith .nvWriteFail .line (some w.job.kind.code) (endJob w e s) = true := by
  unfold endJob failureFault
  simp only [beq_eq_false_iff_ne.2 failed, Bool.false_eq_true, if_false]
  exact (standsWith_congr rfl _ _ _).trans (standsWith_raiseFault _ _ _ _)

/-! ## The programs (R165, R166) -/

theorem exec_pageProgramComplete (writes : s.rs.writer = some w) (verified : Bool) : exec (.pageProgramComplete verified) s
    = .next (if verified then programVerified w s else programFailed w s) := by
  show execPageProgramComplete verified s = _
  simp only [execPageProgramComplete, writes]

theorem exec_pageProgramComplete_idle (idle : s.rs.writer = none) (verified : Bool) :
    exec (.pageProgramComplete verified) s = .next s := by
  show execPageProgramComplete verified s = _
  simp only [execPageProgramComplete, idle]

/-- The first program writes the header, and marks the slot of a shift record in the index. -/
theorem programVerified_first (first : w.programs = 0) : programVerified w s =
    s.onRs (fun r => { r.setHeader w.area (writingHeader w.job) with
      writer := some { w with programs := 1 }
      index := if w.job.kind = .shiftRecord then r.index.set w.area { state := .writing, number := w.job.number }
        else r.index }) := by
  simp only [programVerified, first, Nat.zero_add]
  cases w.job.kind <;> rfl

theorem programVerified_content (later : 1 ≤ w.programs) (within : w.programs ≤ contentPages w.area) : programVerified w s =
    s.onRs (fun r => { r.writePage w.area w.programs (pageBytes w.job.content w.programs) with
      writer := some { w with programs := w.programs + 1 } }) := by
  simp only [programVerified, if_neg (Nat.ne_of_gt later), if_pos within]

theorem programVerified_last (last : contentPages w.area < w.programs) : programVerified w s =
    endJob w { state := .valid, number := w.job.number } (s.onRs (RecordStore.setHeader w.area (validHeader w.job))) := by
  simp only [programVerified, if_neg (Nat.ne_of_gt (Nat.zero_lt_of_lt last)), if_neg (Nat.not_le.2 last)]

theorem programFailed_header (atHeader : w.programs = 0 ∨ contentPages w.area < w.programs) : programFailed w s =
    endJob w { state := .torn, number := none } (s.onRs (RecordStore.setHeader w.area unrecognisedHeader)) := by
  simp only [programFailed, if_pos atHeader]

theorem programFailed_content (inContent : ¬(w.programs = 0 ∨ contentPages w.area < w.programs)) : programFailed w s =
    endJob w { state := .torn, number := w.job.number }
      (({ s with freeCount := s.freeCount + 1 } : State).onRs
        (RecordStore.writePage w.area w.programs (tornPage s.freeCount))) := by
  simp only [programFailed, if_neg inContent]

/-- A page of 64 bytes leaves the rest of the array as it was. -/
theorem read_writePage_outside {r : RecordStore} (form : Memory.wf r.cells = true) (area k : Nat) {b : List Byte}
    (page : b.length = 64) {a : Nat} (outside : a < (areaPage area + k) * 64 ∨ (areaPage area + k) * 64 + 64 ≤ a) :
    Memory.read (r.writePage area k b).cells a = Memory.read r.cells a :=
  Memory.read_writeAll_outside _ _ _ _ form (by rw [page]; exact outside)

theorem read_writePage_inside {r : RecordStore} (form : Memory.wf r.cells = true) (area k : Nat) {b : List Byte}
    (page : b.length = 64) {i : Nat} (inPage : i < 64) :
    Memory.read (r.writePage area k b).cells ((areaPage area + k) * 64 + i) = b.getD i 0 := by
  rw [RecordStore.writePage, Memory.read_writeAll _ _ _ _ form, if_pos (by omega), Nat.add_sub_cancel_left]

/-- Settles O54: one equation for each program by its place in the job; an ended job keeps the array. -/
theorem pageProgramsWriteTheirPages : Obligations.PageProgramsWriteTheirPages := by
  intro s
  refine ⟨fun v idle => exec_pageProgramComplete_idle idle v, fun w writes form known => ?_⟩
  intro pages page outside others
  have run := exec_pageProgramComplete writes
  refine ⟨fun first => ?_, fun later within => ?_, fun last => ?_, ?_⟩
  · rw [run true, if_pos rfl, programVerified_first first]
    refine ⟨_, rfl, header_setHeader_same known _, rfl, rfl, fun k other => header_setHeader_other other _ _, fun kind => ?_, rfl⟩
    exact if_pos kind
  · rw [run true, if_pos rfl, programVerified_content later within]
    refine ⟨_, rfl, fun i inPage => ?_, fun a out => ?_, rfl, rfl, rfl⟩
    · rw [← getD_pageBytes _ _ inPage]
      exact read_writePage_inside form _ _ (length_pageBytes _ _) inPage
    · exact read_writePage_outside form _ _ (length_pageBytes _ _) out
  · rw [run true, if_pos rfl, programVerified_last last]
    refine ⟨_, rfl, (endJob_header _).trans (header_setHeader_same known _), endJob_cells,
      fun k other => (endJob_header _).trans (header_setHeader_other other _ _),
      fun kind => ⟨endJob_index kind, endJob_closeBuffer kind, endJob_shiftStored kind⟩, fun kind => endJob_checkpoint kind,
      fun kind => endJob_recipes kind, fun empty => endJob_idle empty, endJob_ft rfl⟩
  · rw [run false, if_neg Bool.false_ne_true]
    by_cases atHeader : w.programs = 0 ∨ contentPages w.area < w.programs
    · have notContent : ¬(1 ≤ w.programs ∧ w.programs ≤ pages) := by omega
      rw [programFailed_header atHeader]
      refine ⟨_, rfl, fun a _ => congrArg (Memory.read · a) endJob_cells,
        fun k other => (endJob_header _).trans (header_setHeader_other other _ _),
        fun _ => ⟨(congrArg Header.marker (endJob_header _)).trans (congrArg Header.marker (header_setHeader_same known _)), endJob_cells⟩,
        fun later within => absurd ⟨later, within⟩ notContent, fun kind slot => ⟨endJob_closeBuffer kind, ?_⟩,
        endJob_failed (by simp)⟩
      rw [endJob_index kind, if_neg notContent]
      exact List.getElem?_set_self slot
    · have inContent : 1 ≤ w.programs ∧ w.programs ≤ pages := by omega
      have length := length_tornPage s.freeCount
      rw [programFailed_content atHeader]
      generalize tornPage s.freeCount = torn at length ⊢
      refine ⟨_, rfl, fun a out => ?_, fun k _ => (endJob_header k).trans (header_writePage _ _ _ _ _), fun header => absurd header atHeader, fun _ _ => endJob_headers,
        fun kind slot => ⟨endJob_closeBuffer kind, ?_⟩, endJob_failed (by simp)⟩
      · rw [endJob_cells]
        exact read_writePage_outside form _ _ length out
      · rw [endJob_index kind, if_pos inContent]
        exact List.getElem?_set_self slot

end Sys2Proof.Machine
end

section
/-! SUPPORT. Totals and counts read back from the content of a checkpoint (R165, R170, R171): each reader on the bytes its fields
were written in. A reader at an offset reads what is left from that offset. -/

namespace Sys2Proof.Machine

set_option Elab.async false

/-! ## Numbers -/

theorem natOf_u8 {n : Nat} (fits : n < 256) : natOf (u8 n) = n := by
  simp [natOf, u8, Nat.mod_eq_of_lt fits]

theorem natOf_u16 {n : Nat} (fits : n < 65536) : natOf (u16 n) = n := by
  simp only [natOf, u16, List.foldl_cons, List.foldl_nil, BitVec.toNat_ofNat]
  omega

theorem natOf_u32 {n : Nat} (fits : n < 4294967296) : natOf (u32 n) = n := by
  simp only [natOf, u32, u16, List.cons_append, List.nil_append, List.foldl_cons, List.foldl_nil, BitVec.toNat_ofNat]
  omega

theorem numAt_drop (l : List Byte) (i j n : Nat) : numAt (l.drop i) j n = numAt l (i + j) n := by
  rw [numAt, numAt, List.drop_drop]

theorem numAt_append (a b : List Byte) (i n : Nat) : numAt (a ++ b) (a.length + i) n = numAt b i n := by
  rw [← numAt_drop, List.drop_left]

/-- The k-th of consecutive four-byte fields. -/
theorem numAt_words (ns : List Nat) (fits : ∀ n ∈ ns, n < 4294967296) (rest : List Byte) :
    ∀ k n, ns[k]? = some n → numAt (ns.flatMap u32 ++ rest) (4 * k) 4 = n := by
  induction ns with
  | nil => intro k n found; simp at found
  | cons m ns ih =>
    intro k n found
    rw [List.flatMap_cons, List.append_assoc]
    cases k with
    | zero =>
      obtain rfl : m = n := by simpa using found
      exact natOf_u32 (fits m List.mem_cons_self)
    | succ k =>
      have step : 4 * (k + 1) = (u32 m).length + 4 * k := by rw [Nat.mul_succ, Nat.add_comm]; rfl
      rw [step, numAt_append]
      exact ih (fun n hn => fits n (List.mem_cons_of_mem _ hn)) k n (by simpa using found)

/-! ## One structure from its bytes -/

section
variable (rest : List Byte)

theorem readStamp_stampBytes {t : Stamp} (fits : t.fits = true) : readStamp (stampBytes t ++ rest) 0 = t := by
  simp only [Stamp.fits, Bool.and_eq_true, decide_eq_true_eq] at fits
  obtain ⟨day, second⟩ := fits
  exact congrArg₂ Stamp.mk (natOf_u16 day) (natOf_u32 second)

theorem length_openBytes (o : Option Stamp) : (openBytes o).length = 7 := by cases o <;> rfl

theorem readOpen_openBytes {o : Option Stamp} (fits : o.all Stamp.fits = true) : readOpen (openBytes o ++ rest) = o := by
  cases o with
  | none => rfl
  | some t =>
    have read : readStamp (openBytes (some t) ++ rest) 1 = readStamp (stampBytes t ++ rest) 0 := rfl
    have present : readOpen (openBytes (some t) ++ rest) = some (readStamp (openBytes (some t) ++ rest) 1) := rfl
    rw [present, read, readStamp_stampBytes rest fits]

theorem lineBytes_eq (b : LineBlock) : lineBytes b = [b.admitted, b.bagged, b.rejected, b.lost, b.ties, b.clipsUsed, b.bagsUsed,
    b.crumbClears.a, b.crumbClears.b, b.runSeconds, b.holdSeconds, b.stopSeconds, b.faultsTaken].flatMap u32 := by
  simp only [lineBytes, List.flatMap_cons, List.flatMap_nil, List.append_assoc, List.append_nil]

theorem readLine_lineBytes {b : LineBlock} (fits : b.fits = true) : readLine (lineBytes b ++ rest) 0 = b := by
  have words := numAt_words _ (by simpa only [LineBlock.fits, List.all_eq_true, decide_eq_true_eq] using fits) rest
  rw [← lineBytes_eq] at words
  obtain ⟨_, _, _, _, _, _, _, ⟨_, _⟩, _, _, _, _⟩ := b
  simp only [readLine, LineBlock.mk.injEq, PerLane.mk.injEq]
  exact ⟨words 0 _ rfl, words 1 _ rfl, words 2 _ rfl, words 3 _ rfl, words 4 _ rfl, words 5 _ rfl, words 6 _ rfl,
    ⟨words 7 _ rfl, words 8 _ rfl⟩, words 9 _ rfl, words 10 _ rfl, words 11 _ rfl, words 12 _ rfl⟩

theorem entryBytes_eq (code : Nat) (c : Counters) : entryBytes code c = u16 code ++ [c.admitted, c.bagged, c.rejectedOffSize,
    c.rejectedUncertain, c.rejectedTieFail, c.rejectedStopDiscard, c.lost, c.offSizePassed].flatMap u32 := by
  simp only [entryBytes, List.flatMap_cons, List.flatMap_nil, List.append_assoc, List.append_nil]

theorem readCounters_entryBytes (code : Nat) {c : Counters} (fits : c.fits = true) :
    readCounters (entryBytes code c ++ rest) 0 = c := by
  have words := numAt_words _ (by simpa only [Counters.fits, List.all_eq_true, decide_eq_true_eq] using fits) rest
  have field : ∀ k n, [c.admitted, c.bagged, c.rejectedOffSize, c.rejectedUncertain, c.rejectedTieFail,
      c.rejectedStopDiscard, c.lost, c.offSizePassed][k]? = some n → numAt (entryBytes code c ++ rest) (2 + 4 * k) 4 = n := by
    intro k n found
    rw [entryBytes_eq, List.append_assoc]
    exact (numAt_append (u16 code) _ _ _).trans (words k n found)
  obtain ⟨_, _, _, _, _, _, _, _⟩ := c
  simp only [readCounters, Counters.mk.injEq]
  exact ⟨field 0 _ rfl, field 1 _ rfl, field 2 _ rfl, field 3 _ rfl, field 4 _ rfl, field 5 _ rfl, field 6 _ rfl, field 7 _ rfl⟩

theorem readOpt8_opt8 {o : Option Nat} (fits : o.all (fun n => decide (n < 256)) = true) : readOpt8 (opt8 o ++ rest) 0 = o := by
  cases o with
  | none => rfl
  | some n =>
    have read : readOpt8 (opt8 (some n) ++ rest) 0 = some (natOf (u8 n)) := rfl
    rw [read, natOf_u8 (of_decide_eq_true fits)]

end

/-! ## Readers past what stands before them -/

theorem readLine_append (a b : List Byte) : readLine (a ++ b) a.length = readLine b 0 := by
  have first : ∀ n, numAt (a ++ b) a.length n = numAt b 0 n := fun n => numAt_append a b 0 n
  simp only [readLine, numAt_append, first, Nat.zero_add]

theorem readCounters_append (a b : List Byte) (i : Nat) : readCounters (a ++ b) (a.length + i) = readCounters b i := by
  simp only [readCounters, Nat.add_assoc, numAt_append]

theorem readOpt8_append (a b : List Byte) : readOpt8 (a ++ b) a.length = readOpt8 b 0 := by
  have first : ∀ n, numAt (a ++ b) a.length n = numAt b 0 n := fun n => numAt_append a b 0 n
  simp only [readOpt8, numAt_append, first, Nat.zero_add]

theorem readProducts_append (a b : List Byte) (n : Nat) :
    ∀ i, readProducts (a ++ b) (a.length + i) n = readProducts b i n := by
  induction n with
  | zero => exact fun _ => rfl
  | succ n ih =>
    intro i
    rw [readProducts, readProducts, numAt_append, readCounters_append, Nat.add_assoc, ih]

theorem length_entryBytes (code : Nat) (c : Counters) : (entryBytes code c).length = 34 := rfl

theorem readProducts_flatMap (l : List ProductEntry)
    (fits : l.all (fun e => decide (e.code < 65536) && e.counters.fits) = true) (rest : List Byte) :
    readProducts (l.flatMap (fun e => entryBytes e.code e.counters) ++ rest) 0 l.length = l := by
  induction l with
  | nil => rfl
  | cons e l ih =>
    simp only [List.all_cons, Bool.and_eq_true, decide_eq_true_eq] at fits
    obtain ⟨⟨code, counters⟩, others⟩ := fits
    have first : numAt (entryBytes e.code e.counters ++ (l.flatMap (fun e => entryBytes e.code e.counters) ++ rest)) 0 2
        = e.code := natOf_u16 code
    have tail := readProducts_append (entryBytes e.code e.counters)
      (l.flatMap (fun e => entryBytes e.code e.counters) ++ rest) l.length 0
    rw [List.flatMap_cons, List.append_assoc, List.length_cons, readProducts, first, readCounters_entryBytes _ _ counters]
    exact congrArg _ (tail.trans (ih others))

/-! ## The totals and the counts of a checkpoint -/

theorem length_flatMap_entryBytes (l : List ProductEntry) :
    (l.flatMap (fun e => entryBytes e.code e.counters)).length = 34 * l.length := by
  induction l with
  | nil => rfl
  | cons e l ih => rw [List.flatMap_cons, List.length_append, ih, length_entryBytes, List.length_cons]; omega

/-- What stands before the product entries: the open time, carried_in, the count, the other mark, the line block. -/
def totalsHeader (t : Totals) : List Byte := openBytes t.openTime ++ u8 t.carriedIn ++ tailBytes t

theorem totalsContent_eq (t : Totals) : totalsContent t = totalsHeader t ++
    (t.products.flatMap (fun e => entryBytes e.code e.counters) ++ entryBytes 0 (t.other.getD .zero)) := rfl

theorem length_totalsHeader (t : Totals) : (totalsHeader t).length = 62 := by
  have front : (openBytes t.openTime).length = 7 := length_openBytes _
  have back : (tailBytes t).length = 54 := rfl
  simp only [totalsHeader, List.length_append, front, back]; rfl

theorem length_totalsContent (t : Totals) : (totalsContent t).length = 62 + 34 * (t.products.length + 1) := by
  simp only [totalsContent_eq, List.length_append, length_totalsHeader, length_flatMap_entryBytes, length_entryBytes]
  omega

/-- A field of the header past the open time, at its place from there. -/
theorem numAt_totalsHeader (t : Totals) (rest : List Byte) (i n : Nat) : numAt (totalsHeader t ++ rest) (7 + i) n
    = numAt (u8 t.carriedIn ++ (u8 t.products.length ++ (flag t.other.isSome ++ (lineBytes t.line ++ rest)))) i n := by
  have split : totalsHeader t ++ rest = openBytes t.openTime
      ++ (u8 t.carriedIn ++ (u8 t.products.length ++ (flag t.other.isSome ++ (lineBytes t.line ++ rest)))) := by
    simp only [totalsHeader, tailBytes, List.append_assoc]
  rw [split, ← length_openBytes t.openTime, numAt_append]

theorem numAt_productCount {t : Totals} (few : t.products.length ≤ 24) (rest : List Byte) :
    numAt (totalsContent t ++ rest) 8 1 = t.products.length := by
  rw [totalsContent_eq, List.append_assoc]
  exact (numAt_totalsHeader t _ 1 1).trans (natOf_u8 (by omega))

/-- The totals read back, with the shift number that the header page held. -/
theorem readCheckpointTotals_totalsContent {t : Totals} (fits : t.fits = true) (rest : List Byte) (shift : Nat) :
    readCheckpointTotals shift (totalsContent t ++ rest) = { t with shift := shift } := by
  simp only [Totals.fits, Bool.and_eq_true, decide_eq_true_eq] at fits
  obtain ⟨⟨⟨⟨⟨openTime, carriedIn⟩, line⟩, count⟩, products⟩, other⟩ := fits
  have counted := numAt_productCount count rest
  rw [totalsContent_eq, List.append_assoc, List.append_assoc] at counted ⊢
  generalize entries : t.products.flatMap (fun e => entryBytes e.code e.counters) = P at counted ⊢
  have length_P : P.length = 34 * t.products.length := by rw [← entries]; exact length_flatMap_entryBytes _
  generalize after : entryBytes 0 (t.other.getD .zero) ++ rest = E at counted ⊢
  have openTime_ : readOpen (totalsHeader t ++ (P ++ E)) = t.openTime := by
    simp only [totalsHeader, List.append_assoc]
    exact readOpen_openBytes _ openTime
  have carriedIn_ : numAt (totalsHeader t ++ (P ++ E)) 7 1 = t.carriedIn :=
    (numAt_totalsHeader t _ 0 1).trans (natOf_u8 carriedIn)
  have mark : numAt (totalsHeader t ++ (P ++ E)) 9 1 = if t.other.isSome then 1 else 0 := by
    refine (numAt_totalsHeader t _ 2 1).trans ?_
    cases t.other <;> rfl
  have line_ : readLine (totalsHeader t ++ (P ++ E)) 10 = t.line := by
    have front : (openBytes t.openTime ++ u8 t.carriedIn ++ u8 t.products.length ++ flag t.other.isSome).length = 10 := by
      simp only [List.length_append, length_openBytes]; rfl
    have split : totalsHeader t ++ (P ++ E) = (openBytes t.openTime ++ u8 t.carriedIn ++ u8 t.products.length
        ++ flag t.other.isSome) ++ (lineBytes t.line ++ (P ++ E)) := by
      simp only [totalsHeader, tailBytes, List.append_assoc]
    rw [split, ← front, readLine_append, readLine_lineBytes _ line]
  have products_ : readProducts (totalsHeader t ++ (P ++ E)) 62 t.products.length = t.products := by
    have past := readProducts_append (totalsHeader t) (P ++ E) t.products.length 0
    rw [length_totalsHeader] at past
    rw [past, ← entries, readProducts_flatMap _ products]
  have other_ : ∀ c, t.other = some c →
      readCounters (totalsHeader t ++ (P ++ E)) (62 + 34 * t.products.length) = c := by
    intro c present
    have past := readCounters_append (totalsHeader t ++ P) E 0
    rw [List.length_append, length_totalsHeader, length_P, List.append_assoc] at past
    rw [present] at other after
    exact past.trans (after ▸ readCounters_entryBytes rest 0 other)
  simp only [readCheckpointTotals, readTotals, openTime_, carriedIn_, counted, line_, products_, mark]
  cases present : t.other with
  | none => cases t; simp_all
  | some c => rw [other_ c present]; cases t; simp_all

/-! ## The checkpoint (R170) -/

/-- What a checkpoint's content holds past its totals, each at its place. -/
theorem checkpointContent_eq (q : State) : checkpointContent q = totalsContent q.tu.live ++ (u16 q.mbc.bagCount ++ (u16 q.tsc.clipCount
    ++ (u16 q.cc.a.estimate ++ (u16 q.cc.b.estimate ++ (opt8 q.lic.a.active ++ opt8 q.lic.b.active))))) := by
  simp only [checkpointContent, List.append_assoc]

/-- A checkpoint of a state reads back as what it was taken of. -/
structure ReadsBack (q : State) (c : List Byte) : Prop where
  totals : ∀ shift, readCheckpointTotals shift c = { q.tu.live with shift := shift }
  bags : numAt c (checkpointTail c) 2 = q.mbc.bagCount
  clips : numAt c (checkpointTail c + 2) 2 = q.tsc.clipCount
  estimateA : numAt c (checkpointTail c + 4) 2 = q.cc.a.estimate
  estimateB : numAt c (checkpointTail c + 6) 2 = q.cc.b.estimate
  activeA : readOpt8 c (checkpointTail c + 8) = q.lic.a.active
  activeB : readOpt8 c (checkpointTail c + 10) = q.lic.b.active

theorem checkpointContent_readsBack {q : State} (fits : checkpointFits q = true) : ReadsBack q (checkpointContent q) := by
  simp only [checkpointFits, Bool.and_eq_true, decide_eq_true_eq, List.all_cons, List.all_nil] at fits
  obtain ⟨⟨⟨totals, bags⟩, clips⟩, ⟨estimateA, activeA⟩, ⟨estimateB, activeB⟩, -⟩ := fits
  have few : q.tu.live.products.length ≤ 24 := by
    simp only [Totals.fits, Bool.and_eq_true, decide_eq_true_eq] at totals
    exact totals.1.1.2
  rw [checkpointContent_eq]
  generalize counts : (u16 q.mbc.bagCount ++ (u16 q.tsc.clipCount ++ (u16 q.cc.a.estimate ++ (u16 q.cc.b.estimate
    ++ (opt8 q.lic.a.active ++ opt8 q.lic.b.active))))) = R
  have tail : checkpointTail (totalsContent q.tu.live ++ R) = (totalsContent q.tu.live).length := by
    rw [checkpointTail, numAt_productCount few, length_totalsContent]
  have field : ∀ i n, numAt (totalsContent q.tu.live ++ R) (checkpointTail (totalsContent q.tu.live ++ R) + i) n = numAt R i n := by
    intro i n; rw [tail, numAt_append]
  have selection : ∀ i, readOpt8 (totalsContent q.tu.live ++ R) (checkpointTail (totalsContent q.tu.live ++ R) + i) = readOpt8 R i := by
    intro i; simp only [readOpt8, Nat.add_assoc, field]
  refine ⟨readCheckpointTotals_totalsContent totals R, (field 0 2).trans ?_, (field 2 2).trans ?_, (field 4 2).trans ?_,
    (field 6 2).trans ?_, (selection 8).trans ?_, (selection 10).trans ?_⟩ <;> subst counts
  · exact natOf_u16 bags
  · exact natOf_u16 clips
  · exact natOf_u16 estimateA
  · exact natOf_u16 estimateB
  · exact readOpt8_opt8 (opt8 q.lic.b.active) activeA
  · have last := readOpt8_opt8 [] activeB
    rw [List.append_nil] at last
    cases q.lic.a.active <;> exact last

end Sys2Proof.Machine
end

section
/-! SUPPORT. How many faults an operation takes (R146, R189), and the entries of one pair while entries of other pairs are raised,
removed and presented. -/

namespace Sys2Proof.Machine

set_option Elab.async false

variable {s t u : State} {k : FaultKind} {subj : Subject}

/-! ## Faults taken -/

/-- Between two states at most `n` faults are taken, and nothing else of the Totals Unit moves. -/
def TakesFaults (n : Nat) (s t : State) : Prop := ∃ i ≤ n, t.tu = TotalsUnit.faultCounted^[i] s.tu

theorem TakesFaults.of_same (n : Nat) (same : t.tu = s.tu) : TakesFaults n s t := ⟨0, Nat.zero_le n, same⟩

theorem TakesFaults.trans {m n : Nat} (first : TakesFaults m s t) (second : TakesFaults n t u) : TakesFaults (m + n) s u := by
  obtain ⟨i, hi, first⟩ := first
  obtain ⟨j, hj, second⟩ := second
  exact ⟨i + j, Nat.add_le_add hi hj, by rw [second, first, Nat.add_comm, Function.iterate_add_apply]⟩

/-- Once the live totals are set, taken faults add up to the counter's limit. -/
theorem iterate_faultCounted {v : TotalsUnit} (set_ : v.totalsSet = true) (held : v.live.line.faultsTaken ≤ 4294967295) (i : Nat) :
    TotalsUnit.faultCounted^[i] v = { v with live := { v.live with line := { v.live.line with
      faultsTaken := min (v.live.line.faultsTaken + i) 4294967295 } } } := by
  induction i with
  | zero =>
    have kept : min v.live.line.faultsTaken 4294967295 = v.live.line.faultsTaken := Nat.min_eq_left held
    simp only [Function.iterate_zero, id, Nat.add_zero, kept]
  | succ i ih =>
    have one : bump (min (v.live.line.faultsTaken + i) 4294967295) = min (v.live.line.faultsTaken + (i + 1)) 4294967295 := by
      unfold bump; omega
    rw [Function.iterate_succ_apply', ih, TotalsUnit.faultCounted, if_pos set_]
    dsimp only
    rw [one]

theorem countFault_tu (s : State) : (countFault s).tu = s.tu.faultCounted := by
  unfold countFault TotalsUnit.faultCounted; split <;> rfl

theorem takesFaults_countFault (ft : t.tu = s.tu) : TakesFaults 1 s (countFault t) :=
  ⟨1, Nat.le_refl 1, by rw [countFault_tu, ft]; rfl⟩

theorem takesFaults_placeEntry (e : FaultEntry) (s : State) : TakesFaults 1 s (placeEntry e s) := by
  unfold placeEntry; split
  · exact takesFaults_countFault rfl
  · split
    · exact takesFaults_countFault rfl
    · exact .of_same 1 rfl

theorem takesFaults_raiseFault (k : FaultKind) (subj : Subject) (detail : Option Nat) (s : State) :
    TakesFaults 1 s (raiseFault k subj detail s) := by
  unfold raiseFault; dsimp only; split
  · exact .of_same 1 (by simp)
  · obtain ⟨i, hi, placed⟩ := takesFaults_placeEntry (stampEntry k subj detail s) (s.onFt (fun t => { t with
      raiseCounter := t.raiseCounter + 1, causes := if k.raiseSetsCause then t.causes.set k subj true else t.causes }))
    exact ⟨i, hi, by simpa using placed⟩

theorem takesFaults_presentNext (s : State) : TakesFaults 1 s (presentNext s) := by
  unfold presentNext present; split
  · exact takesFaults_countFault rfl
  · split
    · exact takesFaults_countFault rfl
    · exact .of_same 1 rfl
  · exact .of_same 1 rfl

theorem takesFaults_removeEntry (k : FaultKind) (subj : Subject) (s : State) : TakesFaults 1 s (removeEntry k subj s) := by
  unfold removeEntry; dsimp only
  refine when_elim (P := TakesFaults 1 s) (.of_same 1 (by simp)) (fun _ => ?_)
  obtain ⟨i, hi, presented⟩ := takesFaults_presentNext (syncHolds (s.onFt (fun t => { t with
    stack := t.stack.filter (fun e => !e.isPair k subj), waiting := t.waiting.filter (fun e => !e.isPair k subj) })))
  exact ⟨i, hi, by rw [presented]; simp⟩

theorem takesFaults_noticeCause (k : FaultKind) (subj : Subject) (isPresent : Bool) (s : State) :
    TakesFaults 1 s (noticeCause k subj isPresent s) := by
  unfold noticeCause; split
  · exact .of_same 1 rfl
  · dsimp only; split
    · obtain ⟨i, hi, removed⟩ := when_elim (P := TakesFaults 1 (s.onFt (fun t => { t with causes := t.causes.set k subj isPresent })))
        (c := !isPresent && k.removedAtEnd (s.onFt (fun t => { t with causes := t.causes.set k subj isPresent })))
        (.of_same 1 rfl) (fun _ => takesFaults_removeEntry k subj _)
      exact ⟨i, hi, by simpa using removed⟩
    · exact .of_same 1 rfl

/-! ## The entries of one pair -/

/-- Entries of a pair stand, each with the detail. -/
structure StandsOnly (k : FaultKind) (subj : Subject) (detail : Option Nat) (s : State) : Prop where
  stands : standing k subj s = true
  only : ∀ e ∈ s.ft.entries, e.isPair k subj = true → e.detail = detail

theorem StandsOnly.standsWith {detail : Option Nat} (h : StandsOnly k subj detail s) : standsWith k subj detail s = true := by
  obtain ⟨e, he, pair⟩ := List.any_eq_true.1 h.stands
  exact List.any_eq_true.2 ⟨e, he, by simp [pair, h.only e he pair]⟩

theorem StandsOnly.congr {detail : Option Nat} (h : StandsOnly k subj detail s) (ft : t.ft = s.ft) : StandsOnly k subj detail t :=
  ⟨(standing_congr ft k subj).trans h.stands, by rw [ft]; exact h.only⟩

/-- Of a pair's entries some may go, none comes, and not all go. -/
structure PairStays (k : FaultKind) (subj : Subject) (s t : State) : Prop where
  old : ∀ e ∈ t.ft.entries, e.isPair k subj = true → e ∈ s.ft.entries
  stays : standing k subj s = true → standing k subj t = true

theorem PairStays.of_same (ft : t.ft = s.ft) : PairStays k subj s t :=
  ⟨fun _ he _ => ft ▸ he, fun h => (standing_congr ft k subj).trans h⟩

theorem PairStays.trans (first : PairStays k subj s t) (second : PairStays k subj t u) : PairStays k subj s u :=
  ⟨fun e he pair => first.old e (second.old e he pair) pair, fun h => second.stays (first.stays h)⟩

theorem StandsOnly.of_stays {detail : Option Nat} (h : StandsOnly k subj detail s) (stays : PairStays k subj s t) :
    StandsOnly k subj detail t :=
  ⟨stays.stays h.stands, fun e he pair => h.only e (stays.old e he pair) pair⟩

theorem tableChanged_entries (s : State) : (tableChanged s).ft.entries = s.ft.entries := by
  simp [tableChanged, FaultTable.entries]

theorem placeEntry_entries (e f : FaultEntry) (s : State) : f ∈ (placeEntry e s).ft.entries ↔ f = e ∨ f ∈ s.ft.entries := by
  unfold placeEntry FaultTable.entries; split
  next empty => simp [empty]
  next p rest stack =>
    split
    · simp [stack]
    · simp [stack]; tauto

theorem refresh_entries (e f : FaultEntry) (t : FaultTable) :
    f ∈ ({ t with stack := refreshList e t.stack, waiting := refreshList e t.waiting } : FaultTable).entries ↔
      ∃ g ∈ t.entries, (if g.isPair e.kind e.subject then e else g) = f := by
  simp only [FaultTable.entries, refreshList, ← List.map_append, List.mem_map]

/-- What stands after a raise: the stamped entry, and the entries of the other pairs. -/
theorem raiseFault_entries (k : FaultKind) (subj : Subject) (detail : Option Nat) (s : State) (f : FaultEntry) :
    f ∈ (raiseFault k subj detail s).ft.entries ↔
      f = stampEntry k subj detail s ∨ (f ∈ s.ft.entries ∧ f.isPair k subj = false) := by
  have stamped : (stampEntry k subj detail s).isPair k subj = true := by simp [FaultEntry.isPair, stampEntry]
  unfold raiseFault; dsimp only
  rw [tableChanged_entries]
  split
  next stands =>
    refine (refresh_entries (stampEntry k subj detail s) f _).trans ⟨?_, ?_⟩
    · rintro ⟨g, hg, became⟩
      by_cases pair : g.isPair k subj = true
      · exact .inl ((if_pos pair).symm.trans became).symm
      · obtain rfl := (if_neg pair).symm.trans became
        exact .inr ⟨hg, Bool.eq_false_iff.2 pair⟩
    · rintro (rfl | ⟨hf, pair⟩)
      · obtain ⟨g, hg, pair⟩ := List.any_eq_true.1 stands
        exact ⟨g, hg, if_pos pair⟩
      · exact ⟨f, hf, if_neg (by simp only [stampEntry, pair, Bool.false_eq_true, not_false_eq_true])⟩
  next absent =>
    rw [syncHolds_table, placeEntry_entries]
    refine or_congr_right (iff_self_and.2 fun hf => ?_)
    have none : s.ft.entries.any (FaultEntry.isPair k subj) = false := by simpa [standing] using absent
    exact Bool.eq_false_iff.2 (List.any_eq_false.1 none f hf)

theorem isPair_of_isPair {k' : FaultKind} {subj' : Subject} {e : FaultEntry} (other : ¬(k' = k ∧ subj' = subj))
    (pair : e.isPair k subj = true) : e.isPair k' subj' = false := by
  simp only [FaultEntry.isPair, Bool.and_eq_true, beq_iff_eq] at pair
  obtain ⟨rfl, rfl⟩ := pair
  rw [Bool.eq_false_iff]
  intro both
  simp only [FaultEntry.isPair, Bool.and_eq_true, beq_iff_eq] at both
  exact other ⟨both.1.symm, both.2.symm⟩

theorem raiseFault_standsOnly (k : FaultKind) (subj : Subject) (detail : Option Nat) (s : State) :
    StandsOnly k subj detail (raiseFault k subj detail s) := by
  refine ⟨standing_of_standsWith (standsWith_raiseFault k subj detail s), fun e he pair => ?_⟩
  obtain rfl | ⟨_, notPair⟩ := (raiseFault_entries k subj detail s e).1 he
  · rfl
  · exact absurd pair (Bool.eq_false_iff.1 notPair)

theorem pairStays_raiseFault {k' : FaultKind} {subj' : Subject} (other : ¬(k' = k ∧ subj' = subj)) (detail : Option Nat) (s : State) :
    PairStays k subj s (raiseFault k' subj' detail s) := by
  refine ⟨fun e he pair => ?_, fun stands => ?_⟩
  · obtain rfl | ⟨old, _⟩ := (raiseFault_entries k' subj' detail s e).1 he
    · exact absurd (isPair_of_isPair other pair) (by simp [FaultEntry.isPair, stampEntry])
    · exact old
  · obtain ⟨e, he, pair⟩ := List.any_eq_true.1 stands
    exact List.any_eq_true.2 ⟨e, (raiseFault_entries k' subj' detail s e).2 (.inr ⟨he, isPair_of_isPair other pair⟩), pair⟩

theorem bestPending_mem {l : List FaultEntry} {e : FaultEntry} (best : bestPending l = some e) : e ∈ l := by
  induction l generalizing e with
  | nil => simp [bestPending] at best
  | cons d rest ih =>
    unfold bestPending at best
    split at best
    · simp_all
    next f bestRest =>
      split at best
      · exact List.mem_cons_of_mem _ (ih (bestRest.trans best))
      · simp_all

theorem present_entries (e f : FaultEntry) (s : State) : f ∈ (present e s).ft.entries ↔
    f = e ∨ f ∈ s.ft.stack ∨ (f ∈ s.ft.waiting ∧ f.isPair e.kind e.subject = false) := by
  simp [present, FaultTable.entries]

theorem pairStays_present {e : FaultEntry} (pending : e ∈ s.ft.waiting) : PairStays k subj s (present e s) := by
  refine ⟨fun f hf _ => ?_, fun stands => ?_⟩
  · obtain rfl | inStack | ⟨waits, _⟩ := (present_entries e f s).1 hf
    · exact List.mem_append_right _ pending
    · exact List.mem_append_left _ inStack
    · exact List.mem_append_right _ waits
  · obtain ⟨f, hf, pair⟩ := List.any_eq_true.1 stands
    by_cases same : e.isPair k subj = true
    · exact List.any_eq_true.2 ⟨e, (present_entries e e s).2 (.inl rfl), same⟩
    · refine List.any_eq_true.2 ⟨f, (present_entries e f s).2 (.inr ?_), pair⟩
      have other : ¬(e.kind = k ∧ e.subject = subj) := by simpa [FaultEntry.isPair] using same
      exact (List.mem_append.1 hf).imp_right fun waits => ⟨waits, isPair_of_isPair other pair⟩

theorem pairStays_presentNext (s : State) : PairStays k subj s (presentNext s) := by
  unfold presentNext; split
  next e best _ => exact pairStays_present (bestPending_mem best)
  next e _ _ best _ =>
    split
    · exact pairStays_present (bestPending_mem best)
    · exact .of_same rfl
  next => exact .of_same rfl

theorem filter_entries (p : FaultEntry → Bool) (t : FaultTable) :
    ({ t with stack := t.stack.filter p, waiting := t.waiting.filter p } : FaultTable).entries = t.entries.filter p :=
  (List.filter_append ..).symm

theorem pairStays_removeEntry {k' : FaultKind} {subj' : Subject} (other : ¬(k' = k ∧ subj' = subj)) (s : State) :
    PairStays k subj s (removeEntry k' subj' s) := by
  unfold removeEntry; dsimp only
  have filtered : PairStays k subj s (syncHolds (s.onFt (fun t => { t with
      stack := t.stack.filter (fun e => !e.isPair k' subj'), waiting := t.waiting.filter (fun e => !e.isPair k' subj') }))) := by
    refine ⟨fun e he _ => ?_, fun stands => ?_⟩
    · rw [syncHolds_table] at he
      exact (List.mem_filter.1 ((filter_entries _ s.ft) ▸ he)).1
    · obtain ⟨e, he, pair⟩ := List.any_eq_true.1 stands
      refine List.any_eq_true.2 ⟨e, ?_, pair⟩
      rw [syncHolds_table]
      exact (filter_entries _ s.ft).symm ▸ List.mem_filter.2 ⟨he, by simp [isPair_of_isPair other pair]⟩
  exact when_elim (P := PairStays k subj s) filtered fun _ => filtered.trans (pairStays_presentNext _)

theorem pairStays_noticeCause {k' : FaultKind} {subj' : Subject} (other : ¬(k' = k ∧ subj' = subj)) (isPresent : Bool) (s : State) :
    PairStays k subj s (noticeCause k' subj' isPresent s) := by
  unfold noticeCause; split
  · exact .of_same rfl
  · dsimp only; split
    · have told (t : State) : PairStays k subj t (tableChanged t) :=
        ⟨fun e he _ => tableChanged_entries t ▸ he, fun stands => by unfold standing; rwa [tableChanged_entries]⟩
      refine .trans (when_elim (P := PairStays k subj s) ?_ fun _ => ?_) (told _)
      · exact ⟨fun _ he _ => he, id⟩
      · exact .trans (t := s.onFt (fun t => { t with causes := t.causes.set k' subj' isPresent })) ⟨fun _ he _ => he, id⟩
          (pairStays_removeEntry other _)
    · exact ⟨fun _ he _ => he, id⟩

end Sys2Proof.Machine
end

section
/-! SUPPORT. The entry to STANDBY leaves the bag magazine, the fault table and the totals alone, because the abandoned bagger
withdraws its own air request (R121, R131); and what the checks at the end of the scan can tell (R98, R116, R190). -/

namespace Sys2Proof.Machine

set_option Elab.async false

variable {s t u : State}

/-! ## The air at the entry to STANDBY -/

theorem grantOther_ama (r : Requester) (c : AirChannel) (s : State) : (grantOther r c s).ama = (becomeHolder r c s).ama := by
  cases r <;> simp [grantOther]

theorem becomeHolder_waiting (r : Requester) (c : AirChannel) (s : State) :
    (becomeHolder r c s).ama.waiting = s.ama.waiting.upd r (fun _ => none) := by
  cases r <;> rfl

theorem grantOther_bagNotWaiting {r : Requester} (c : AirChannel) (quiet : s.ama.waiting.get .bag = none) :
    (grantOther r c s).ama.waiting.get .bag = none := by
  rw [grantOther_ama, becomeHolder_waiting]
  cases r with
  | bag => rfl
  | _ => exact quiet

theorem grantAfterBag_bagNotWaiting (c : AirChannel) (quiet : s.ama.waiting.get .bag = none) :
    (grantAfterBag c s).ama.waiting.get .bag = none := by
  unfold grantAfterBag
  split
  · exact quiet
  · split
    · exact grantOther_bagNotWaiting c quiet
    · split
      · exact grantOther_bagNotWaiting c quiet
      · exact quiet

/-- While BAG does not wait, a release gives the channel to a waiter after BAG. -/
theorem releaseChannel_of_bagNotWaiting (c : AirChannel) (quiet : s.ama.waiting.get .bag = none) :
    releaseChannel c s = grantAfterBag c (setHolder c none s) := by
  have notBag : (setHolder c none s).ama.waitsOn .bag c = false := by
    show (s.ama.waiting.get .bag == some c) = false
    rw [quiet]; rfl
  simp only [releaseChannel, grantNext, notBag, Bool.and_false, Bool.false_eq_true, if_false]

/-- An operation that touches neither the bag magazine nor the faults nor the totals, and makes no bag request. -/
structure KeepsBagWork (s t : State) : Prop where
  mbc : t.mbc = s.mbc
  ft : t.ft = s.ft
  tu : t.tu = s.tu
  bagNotWaiting : t.ama.waiting.get .bag = none

theorem airWithdraw_keepsBagWork {r : Requester} (quiet : r = .bag ∨ s.ama.waiting.get .bag = none) :
    KeepsBagWork s (airWithdraw r s) := by
  have quiet : (setWaiting r none s).ama.waiting.get .bag = none := by
    obtain rfl | quiet := quiet
    · rfl
    · cases r with
      | bag => rfl
      | _ => exact quiet
  unfold airWithdraw airRelease; split
  next c held =>
    rw [releaseChannel_of_bagNotWaiting c quiet]
    exact ⟨by simp, by simp, by simp, grantAfterBag_bagNotWaiting c quiet⟩
  next => exact ⟨rfl, rfl, rfl, quiet⟩

theorem abandonBagger_books (s : State) : (abandonBagger s).mbc.bagCount = s.mbc.bagCount ∧
    (abandonBagger s).mbc.bagLow = s.mbc.bagLow ∧ (abandonBagger s).ft = s.ft ∧ (abandonBagger s).tu = s.tu ∧
    (abandonBagger s).ama.waiting.get .bag = none := by
  have withdrawn (t : State) : KeepsBagWork t (airWithdraw .bag t) := airWithdraw_keepsBagWork (.inl rfl)
  simp [abandonBagger, (withdrawn _).mbc, (withdrawn _).ft, (withdrawn _).tu, (withdrawn _).bagNotWaiting]

theorem abandonTyer_books (quiet : s.ama.waiting.get .bag = none) : KeepsBagWork s (abandonTyer s) := by
  obtain ⟨mbc, ft, tu, quiet⟩ := airWithdraw_keepsBagWork (r := .purge) (s := setPurge false (setPrinter none (setTyer false (s.onTsc
    (fun t => { t with tyer := .idle, purge := none, phaseTimer := none, tieTimer := none, code := none })))))
    (.inr (by rw [show (setPurge _ _).ama = s.ama by simp, quiet]))
  exact ⟨mbc.trans (by simp), ft.trans (by simp), tu.trans (by simp), quiet⟩

theorem enterStandby_lsc (s : State) : (enterStandby s).lsc =
    { s.lsc with line := .standby, previous := some s.lsc.line, returnState := none, holdHost := false } := by
  simp [enterStandby, leaveHold, changeLine]

theorem enterStandby_books (s : State) : (enterStandby s).mbc.bagCount = s.mbc.bagCount ∧
    (enterStandby s).mbc.bagLow = s.mbc.bagLow ∧ (enterStandby s).ft = s.ft ∧ (enterStandby s).tu = s.tu := by
  unfold enterStandby
  dsimp only
  obtain ⟨bagCount, bagLow, ft, tu, quiet⟩ := abandonBagger_books (syncLanes (bladeOff .b (bladeOff .a
    (removeWatches (setConveyors false (leaveHold (changeLine .standby s)))))))
  obtain ⟨mbc', ft', tu', _⟩ := abandonTyer_books quiet
  simp [mbc', ft', tu', bagCount, bagLow, ft, tu]

/-! ## The magazines and the crumb levels at the end of the scan -/

theorem evalBagLow_of_same (same : decide (s.mbc.bagCount ≤ s.params.lowMark.bags) = s.mbc.bagLow) : evalBagLow s = s := by
  simp only [evalBagLow, same, beq_self_eq_true, if_true]

theorem evalClipLow_of_same (same : decide (s.tsc.clipCount ≤ s.params.lowMark.clips) = s.tsc.clipLow) : evalClipLow s = s := by
  simp only [evalClipLow, same, beq_self_eq_true, if_true]

theorem evalBagLow_bagLow (s : State) : (evalBagLow s).mbc.bagLow = decide (s.mbc.bagCount ≤ s.params.lowMark.bags) := by
  by_cases same : decide (s.mbc.bagCount ≤ s.params.lowMark.bags) = s.mbc.bagLow
  · rw [evalBagLow_of_same same, same]
  · simp only [evalBagLow, beq_iff_eq, if_neg same]
    split <;> simp

theorem evalClipLow_clipLow (s : State) : (evalClipLow s).tsc.clipLow = decide (s.tsc.clipCount ≤ s.params.lowMark.clips) := by
  by_cases same : decide (s.tsc.clipCount ≤ s.params.lowMark.clips) = s.tsc.clipLow
  · rw [evalClipLow_of_same same, same]
  · simp only [evalClipLow, beq_iff_eq, if_neg same]
    split <;> simp

/-- A raise or a notice told at a changed flag takes at most one fault. -/
theorem takesFaults_told {k : FaultKind} {subj : Subject} {detail : Option Nat} {c : Bool} {key : ReportKey} (changed : t.tu = s.tu) :
    TakesFaults 1 s (raiseKey key (if c then raiseFault k subj detail t else noticeCause k subj false t)) := by
  have raised : TakesFaults 1 t (if c then raiseFault k subj detail t else noticeCause k subj false t) := by
    split
    · exact takesFaults_raiseFault k subj detail t
    · exact takesFaults_noticeCause k subj false t
  obtain ⟨i, hi, raised⟩ := raised
  exact ⟨i, hi, by rw [← changed, ← raised]; simp⟩

theorem takesFaults_evalBagLow (s : State) : TakesFaults 1 s (evalBagLow s) := by
  unfold evalBagLow; dsimp only; split
  · exact .of_same 1 rfl
  · exact takesFaults_told rfl

theorem takesFaults_evalClipLow (s : State) : TakesFaults 1 s (evalClipLow s) := by
  unfold evalClipLow; dsimp only; split
  · exact .of_same 1 rfl
  · exact takesFaults_told rfl

theorem endOfInitCheck_of_notSince {l : Lane} (notSince : (s.cc.get l).levelSince = false) : endOfInitCheck l s = s := by
  rw [endOfInitCheck, notSince, when_false]

theorem takesFaults_endOfInitCheck (l : Lane) (s : State) : TakesFaults 1 s (endOfInitCheck l s) := by
  refine when_elim (P := TakesFaults 1 s) (.of_same 1 rfl) fun _ => ?_
  unfold overfullCheck; dsimp only
  split
  · exact takesFaults_raiseFault _ _ _ s
  · split
    · exact takesFaults_noticeCause _ _ _ s
    · exact .of_same 1 rfl

theorem endOfInitCheck_standsOnly {l : Lane} (since : (s.cc.get l).levelSince = true)
    (full : s.params.lOver ≤ (s.cc.get l).lastLevel) :
    StandsOnly .crumbOverfull (laneSubject l) (some (s.cc.get l).lastLevel) (endOfInitCheck l s) := by
  rw [endOfInitCheck, since, when_true, overfullCheck_of_full full]
  exact raiseFault_standsOnly _ _ _ s

theorem pairStays_endOfInitCheck {l m : Lane} (other : l ≠ m) (s : State) :
    PairStays .crumbOverfull (laneSubject m) s (endOfInitCheck l s) := by
  have subjects : ¬(FaultKind.crumbOverfull = .crumbOverfull ∧ laneSubject l = laneSubject m) := by
    cases l <;> cases m <;> simp_all [laneSubject]
  refine when_elim (P := PairStays .crumbOverfull (laneSubject m) s) (.of_same rfl) fun _ => ?_
  unfold overfullCheck; dsimp only
  split
  · exact pairStays_raiseFault subjects _ s
  · split
    · exact pairStays_noticeCause subjects _ s
    · exact .of_same rfl

/-- The low flags and the overfull checks, between the restorations and the entry to STANDBY (R190). -/
def scanChecks (s : State) : State := endOfInitCheck .b (endOfInitCheck .a (evalClipLow (evalBagLow s)))

theorem completeScan_eq (s : State) :
    completeScan s = enterStandby (raiseKey .startup (scanChecks (scanRestores (scanSets s)))) := rfl

theorem takesFaults_scanChecks (s : State) : TakesFaults 4 s (scanChecks s) :=
  (((takesFaults_evalBagLow s).trans (takesFaults_evalClipLow _)).trans (takesFaults_endOfInitCheck .a _)).trans
    (takesFaults_endOfInitCheck .b _)

theorem scanChecks_of_quiet (bags : decide (s.mbc.bagCount ≤ s.params.lowMark.bags) = s.mbc.bagLow)
    (clips : decide (s.tsc.clipCount ≤ s.params.lowMark.clips) = s.tsc.clipLow) (levels : ∀ l, (s.cc.get l).levelSince = false) :
    scanChecks s = s := by
  rw [scanChecks, evalBagLow_of_same bags, evalClipLow_of_same clips, endOfInitCheck_of_notSince (levels .a),
    endOfInitCheck_of_notSince (levels .b)]

theorem scanChecks_standsOnly {l : Lane} (since : (s.cc.get l).levelSince = true) (full : s.params.lOver ≤ (s.cc.get l).lastLevel) :
    StandsOnly .crumbOverfull (laneSubject l) (some (s.cc.get l).lastLevel) (scanChecks s) := by
  have lowFlags : ((evalClipLow (evalBagLow s)).cc = s.cc) ∧ (evalClipLow (evalBagLow s)).params = s.params := by simp
  have checkedA : ((endOfInitCheck .a (evalClipLow (evalBagLow s))).cc = s.cc) ∧
      (endOfInitCheck .a (evalClipLow (evalBagLow s))).params = s.params := by simp
  cases l with
  | a =>
    have raised := endOfInitCheck_standsOnly (s := evalClipLow (evalBagLow s)) (l := .a) (by rwa [lowFlags.1])
      (by rwa [lowFlags.1, lowFlags.2])
    rw [lowFlags.1] at raised
    exact raised.of_stays (pairStays_endOfInitCheck (by decide) _)
  | b =>
    have raised := endOfInitCheck_standsOnly (s := endOfInitCheck .a (evalClipLow (evalBagLow s))) (l := .b) (by rwa [checkedA.1])
      (by rwa [checkedA.1, checkedA.2])
    rwa [checkedA.1] at raised

end Sys2Proof.Machine
end

section
/-! SUPPORT. The start-up scan in its stages: the live totals it finds, what an accepted checkpoint restores (R59, R60, R171),
and what of both the whole scan leaves (R190). -/

namespace Sys2Proof.Machine

set_option Elab.async false

variable {s t u : State} {l m : Lane}

/-! ## The first stage of the scan -/

/-- Whether the scan of a state accepts its checkpoint. -/
def scanAccepts (s : State) : Bool := acceptsCheckpoint (scanIndex s.rs) (s.rs.classify 24)

/-- The live totals the scan of a state finds. -/
def scannedTotals (s : State) : Totals := scanTotals s.rs (scanIndex s.rs) (scanAccepts s)

/-- Live totals with a number of faults taken. -/
def Totals.withFaults (n : Nat) (t : Totals) : Totals := { t with line := { t.line with faultsTaken := n } }

theorem scanSets_tu (s : State) : (scanSets s).tu = { s.tu with
    live := (scannedTotals s).withFaults (min ((scannedTotals s).line.faultsTaken + s.tu.tally) 4294967295)
    tally := 0, totalsSet := true } := rfl

theorem scannedTotals_accepted (accepted : scanAccepts s = true) :
    scannedTotals s = readCheckpointTotals ((s.rs.classify 24).number.getD 0) (s.rs.content 24) := by
  rw [scannedTotals, accepted, scanTotals, if_pos rfl]

theorem scannedTotals_rejected (rejected : scanAccepts s = false) :
    scannedTotals s = .fresh ((latest (scanIndex s.rs)).elim 1 (fun found => nextShift found.2.1)) := by
  rw [scannedTotals, rejected, scanTotals, if_neg Bool.false_ne_true]
  cases latest (scanIndex s.rs) <;> rfl

/-! ## The restorations -/

theorem restoreSelection_restored {n : Nat} (loaded : (recipeAt n s).code ≠ 0) : restoreSelection l (some n) s = activate l n s :=
  if_neg loaded

theorem restoreSelection_dropped {slot : Option Nat} (empty : ∀ n, slot = some n → (recipeAt n s).code = 0) :
    restoreSelection l slot s = s := by
  cases slot with
  | none => rfl
  | some n => exact if_pos (empty n rfl)

theorem restoreSelection_otherLane {slot : Option Nat} (other : m ≠ l) : (restoreSelection l slot s).lic.get m = s.lic.get m := by
  unfold restoreSelection activate
  (repeat' split) <;> simp [PerLane.get_upd_other _ other]

/-- A lane takes the selection of a slot that holds a recipe, and keeps its own otherwise (R59). -/
structure SelectionTaken (l : Lane) (slot : Option Nat) (s t : State) : Prop where
  restored : ∀ n, slot = some n → (recipeAt n s).code ≠ 0 →
    (t.lic.get l).active = some n ∧ (t.lic.get l).feedRef = (recipeAt n s).feed
  dropped : (∀ n, slot = some n → (recipeAt n s).code = 0) → (t.lic.get l).active = (s.lic.get l).active

theorem selectionTaken_restoreSelection (l : Lane) (slot : Option Nat) (s : State) :
    SelectionTaken l slot s (restoreSelection l slot s) := by
  refine ⟨fun n named loaded => ?_, fun empty => ?_⟩
  · rw [named, restoreSelection_restored loaded]
    simp [activate]
  · rw [restoreSelection_dropped empty]

theorem SelectionTaken.congr {slot : Option Nat} {s' t' : State} (taken : SelectionTaken l slot s t) (rt : s'.rt = s.rt)
    (before : (s'.lic.get l).active = (s.lic.get l).active) (active : (t'.lic.get l).active = (t.lic.get l).active)
    (feedRef : (t'.lic.get l).feedRef = (t.lic.get l).feedRef) : SelectionTaken l slot s' t' := by
  have recipes (n : Nat) : recipeAt n s' = recipeAt n s := by rw [recipeAt, rt, recipeAt]
  refine ⟨fun n named loaded => ?_, fun empty => ?_⟩
  · rw [active, feedRef, recipes]
    exact taken.restored n named (recipes n ▸ loaded)
  · rw [active, before]
    exact taken.dropped fun n named => recipes n ▸ empty n named

/-- What an accepted checkpoint with content `c` restores. -/
structure Restored (c : List Byte) (s t : State) : Prop where
  bagCount : t.mbc.bagCount = numAt c (checkpointTail c) 2
  clipCount : t.tsc.clipCount = numAt c (checkpointTail c + 2) 2
  estimateA : t.cc.a.estimate = numAt c (checkpointTail c + 4) 2
  estimateB : t.cc.b.estimate = numAt c (checkpointTail c + 6) 2
  selectionA : SelectionTaken .a (readOpt8 c (checkpointTail c + 8)) s t
  selectionB : SelectionTaken .b (readOpt8 c (checkpointTail c + 10)) s t

/-- The counts and estimates of an accepted checkpoint, before the selections. -/
def restoreCounts (c : List Byte) (s : State) : State :=
  (((s.onMbc fun m => { m with bagCount := numAt c (checkpointTail c) 2 }).onTsc
    fun t => { t with clipCount := numAt c (checkpointTail c + 2) 2 }).onCrumb .a
    fun k => { k with estimate := numAt c (checkpointTail c + 4) 2 }).onCrumb .b
    fun k => { k with estimate := numAt c (checkpointTail c + 6) 2 }

theorem scanRestores_accepted (accepted : acceptsCheckpoint s.rs.index (s.rs.classify 24) = true) : scanRestores s =
    syncLanes (restoreSelection .b (readOpt8 (s.rs.content 24) (checkpointTail (s.rs.content 24) + 10))
      (restoreSelection .a (readOpt8 (s.rs.content 24) (checkpointTail (s.rs.content 24) + 8)) (restoreCounts (s.rs.content 24) s))) := by
  simp only [scanRestores, accepted, storedSelections, restoreCounts, if_true, Bool.not_true, Bool.false_eq_true, if_false]

theorem scanRestores_rejected (rejected : acceptsCheckpoint s.rs.index (s.rs.classify 24) = false) : scanRestores s = s := by
  simp only [scanRestores, rejected, Bool.not_false, if_true]

theorem restored_scanRestores (accepted : acceptsCheckpoint s.rs.index (s.rs.classify 24) = true) :
    Restored (s.rs.content 24) s (scanRestores s) := by
  rw [scanRestores_accepted accepted]
  generalize s.rs.content 24 = c
  refine ⟨?_, ?_, ?_, ?_, ?_, ?_⟩
  · simp [restoreCounts]
  · simp [restoreCounts]
  · simp [restoreCounts]; rfl
  · simp [restoreCounts]; rfl
  · exact (selectionTaken_restoreSelection .a _ (restoreCounts c s)).congr rfl rfl
      (by simp [restoreSelection_otherLane]) (by simp [restoreSelection_otherLane])
  · exact (selectionTaken_restoreSelection .b _ (restoreSelection .a (readOpt8 c (checkpointTail c + 8)) (restoreCounts c s))).congr
      (by simp [restoreCounts]) (by simp [restoreSelection_otherLane, restoreCounts]) (by simp) (by simp)

/-! ## The whole scan -/

theorem scanRestores_lowFlags (s : State) : (scanRestores s).mbc.bagLow = s.mbc.bagLow ∧ (scanRestores s).tsc.clipLow = s.tsc.clipLow ∧
    (∀ l, ((scanRestores s).cc.get l).levelSince = (s.cc.get l).levelSince) ∧
    (∀ l, ((scanRestores s).cc.get l).lastLevel = (s.cc.get l).lastLevel) := by
  cases accepted : acceptsCheckpoint s.rs.index (s.rs.classify 24) with
  | false => rw [scanRestores_rejected accepted]; exact ⟨rfl, rfl, fun _ => rfl, fun _ => rfl⟩
  | true =>
    rw [scanRestores_accepted accepted]
    refine ⟨by simp [restoreCounts], by simp [restoreCounts], fun l => ?_, fun l => ?_⟩ <;> cases l <;> simp [restoreCounts]

theorem completeScan_lsc (s : State) : (completeScan s).lsc.line = .standby ∧ (completeScan s).lsc.previous = some s.lsc.line := by
  simp [completeScan_eq, enterStandby_lsc, scanChecks]

theorem completeScan_store (s : State) : (completeScan s).rs.index = scanIndex s.rs ∧
    (completeScan s).rs.ckpt = ((s.rs.classify 24).state.area, (s.rs.classify 24).number) ∧
    (completeScan s).rs.cells = s.rs.cells ∧ (completeScan s).rs.headers = s.rs.headers := by
  simp [completeScan_eq, scanChecks, scanSets]

theorem completeScan_magazines (s : State) : (completeScan s).mbc.bagCount = (scanRestores (scanSets s)).mbc.bagCount ∧
    (completeScan s).tsc.clipCount = (scanRestores (scanSets s)).tsc.clipCount ∧
    (completeScan s).mbc.bagLow = decide ((completeScan s).mbc.bagCount ≤ s.params.lowMark.bags) ∧
    (completeScan s).tsc.clipLow = decide ((completeScan s).tsc.clipCount ≤ s.params.lowMark.clips) := by
  have entered := enterStandby_books (raiseKey .startup (scanChecks (scanRestores (scanSets s))))
  rw [completeScan_eq, entered.1, entered.2.1]
  simp [scanChecks, evalBagLow_bagLow, evalClipLow_clipLow]

theorem completeScan_lane (l : Lane) (s : State) :
    ((completeScan s).cc.get l).estimate = ((scanRestores (scanSets s)).cc.get l).estimate ∧
    ((completeScan s).lic.get l).active = ((scanRestores (scanSets s)).lic.get l).active ∧
    ((completeScan s).lic.get l).feedRef = ((scanRestores (scanSets s)).lic.get l).feedRef := by
  simp [completeScan_eq, scanChecks]

end Sys2Proof.Machine
end

section
/-! PROOF. START_UP_SCAN_COMPLETE (R190): the Totals Unit and the fault table after the scan, its reports, and O55. -/

namespace Sys2Proof.Machine

set_option Elab.async false

variable {s t u : State} {l m : Lane}

/-! ## What the whole scan leaves -/

theorem completeScan_restored (accepted : scanAccepts s = true) : Restored (s.rs.content 24) (scanSets s) (completeScan s) := by
  obtain ⟨bagCount, clipCount, estimateA, estimateB, selectionA, selectionB⟩ := restored_scanRestores (s := scanSets s) accepted
  obtain ⟨bags, clips, _⟩ := completeScan_magazines s
  obtain ⟨estA, activeA, feedA⟩ := completeScan_lane .a s
  obtain ⟨estB, activeB, feedB⟩ := completeScan_lane .b s
  exact ⟨bags.trans bagCount, clips.trans clipCount, estA.trans estimateA, estB.trans estimateB,
    selectionA.congr rfl rfl activeA feedA, selectionB.congr rfl rfl activeB feedB⟩

/-- Nothing that the checks of the scan would tell: both low flags as before, and no crumb level. -/
def ScanQuiet (s : State) : Prop := (completeScan s).mbc.bagLow = s.mbc.bagLow ∧ (completeScan s).tsc.clipLow = s.tsc.clipLow ∧
  ∀ l, (s.cc.get l).levelSince = false

theorem scanChecks_of_scanQuiet (quiet : ScanQuiet s) : scanChecks (scanRestores (scanSets s)) = scanRestores (scanSets s) := by
  obtain ⟨bagLow, clipLow, levels⟩ := quiet
  obtain ⟨bags, clips, bagFlag, clipFlag⟩ := completeScan_magazines s
  obtain ⟨bagBefore, clipBefore, since, _⟩ := scanRestores_lowFlags (scanSets s)
  have params : (scanRestores (scanSets s)).params = s.params := by simp
  rw [bags] at bagFlag
  rw [clips] at clipFlag
  refine scanChecks_of_quiet ?_ ?_ fun l => (since l).trans (levels l)
  · rw [bagBefore, params]
    exact bagFlag.symm.trans bagLow
  · rw [clipBefore, params]
    exact clipFlag.symm.trans clipLow

/-- The Totals Unit after the scan: the live totals it found, with the faults of the tally and of the checks (R189, R190). -/
theorem completeScan_tu (s : State) : ∃ i ≤ 4, (ScanQuiet s → i = 0) ∧ (completeScan s).tu = { s.tu with
    live := (scannedTotals s).withFaults
      (min (min ((scannedTotals s).line.faultsTaken + s.tu.tally) 4294967295 + i) 4294967295)
    tally := 0, totalsSet := true } := by
  have entered : (completeScan s).tu = (scanChecks (scanRestores (scanSets s))).tu := by
    rw [completeScan_eq, (enterStandby_books _).2.2.2]; simp
  have restored : (scanRestores (scanSets s)).tu = (scanSets s).tu := by simp
  have counted (i : Nat) := iterate_faultCounted (v := (scanSets s).tu) rfl (Nat.min_le_right _ _) i
  by_cases quiet : ScanQuiet s
  · refine ⟨0, by omega, fun _ => rfl, ?_⟩
    rw [entered, scanChecks_of_scanQuiet quiet, restored]
    exact counted 0
  · obtain ⟨i, hi, taken⟩ := takesFaults_scanChecks (scanRestores (scanSets s))
    refine ⟨i, hi, fun h => absurd h quiet, ?_⟩
    rw [entered, taken, restored]
    exact counted i

theorem completeScan_standsWith (since : (s.cc.get l).levelSince = true) (full : s.params.lOver ≤ (s.cc.get l).lastLevel) :
    standsWith .crumbOverfull (laneSubject l) (some (s.cc.get l).lastLevel) (completeScan s) = true := by
  obtain ⟨_, _, sinceKept, levelKept⟩ := scanRestores_lowFlags (scanSets s)
  have checked := scanChecks_standsOnly (s := scanRestores (scanSets s)) (l := l) ((sinceKept l).trans since)
    (by rw [levelKept]; simpa using full)
  rw [levelKept] at checked
  refine (checked.congr ?_).standsWith
  rw [completeScan_eq, (enterStandby_books _).2.2.1]; simp

theorem enterStandby_reports_lineState (s : State) : Reported .lineState (enterStandby s) :=
  crumbEntry_reported _ (when_reported (fun _ h => requestCheckpoint_reported h) _ (abandonTyer_reported (abandonBagger_reported
    (syncLanes_reported (bladeOff_reported .b (bladeOff_reported .a (removeWatches_reported (setConveyors_reported false
      (leaveHold_reported (reported_raised .lineState _))))))))))

theorem completeScan_reports (s : State) : .startup ∈ (completeScan s).ml.reports ∧ .lineState ∈ (completeScan s).ml.reports := by
  rw [completeScan_eq]
  exact ⟨enterStandby_reported (raiseKey_mem .startup _), enterStandby_reports_lineState _⟩

theorem exec_startUpScanComplete_init (init : s.lsc.line = .init) :
    exec .startUpScanComplete s = .next (settle (completeScan s)) := by
  show execStartUpScanComplete s = _
  rw [execStartUpScanComplete, init, beq_self_eq_true, when_true]

theorem exec_startUpScanComplete_ignored (ready : s.lsc.line ≠ .init) : exec .startUpScanComplete s = .next s := by
  show execStartUpScanComplete s = _
  rw [execStartUpScanComplete, beq_false_of_ne ready, when_false]

theorem recipeAt_completeScan (n : Nat) (s : State) : recipeAt n (completeScan s) = recipeAt n (scanSets s) := by
  rw [recipeAt, completeScan_rt]; rfl

/-- Settles O55: the scan in its stages, with as many faults taken as its checks tell, and what the checkpoint's bytes read back as. -/
theorem startUpScanEntersStandby : Obligations.StartUpScanEntersStandby := by
  intro s
  refine ⟨exec_startUpScanComplete_ignored, fun init => ?_⟩
  obtain ⟨line, previous⟩ := completeScan_lsc s
  obtain ⟨index, ckpt, cells, headers⟩ := completeScan_store s
  obtain ⟨bagCount, clipCount, bagLow, clipLow⟩ := completeScan_magazines s
  obtain ⟨i, few, quiet, tu⟩ := completeScan_tu s
  obtain ⟨startup, lineState⟩ := completeScan_reports s
  have faults : (completeScan s).tu.live.line.faultsTaken
      = min (min ((scannedTotals s).line.faultsTaken + s.tu.tally) 4294967295 + i) 4294967295 := by rw [tu]; rfl
  refine ⟨completeScan s, (scannedTotals s).line.faultsTaken, exec_startUpScanComplete_init init, line, previous.trans (by rw [init]),
    index, ckpt, ?_, cells, headers, fun rejected => ?_, fun accepted => ?_, by omega, by omega, fun h => ?_, by rw [tu], by rw [tu],
    by rw [tu], bagLow, clipLow, fun l => completeScan_standsWith, startup, lineState⟩
  · simp only [completeScan_rt, scanRecipes, beq_iff_eq]
  · have found := scannedTotals_rejected rejected
    have restored : scanRestores (scanSets s) = scanSets s := scanRestores_rejected rejected
    refine ⟨by rw [found]; rfl, ?_, bagCount.trans (by rw [restored]; rfl), clipCount.trans (by rw [restored]; rfl), fun l => ?_⟩
    · rw [faults, tu, found]
      unfold scanIndex
      cases latest ((List.range 24).map (fun k => s.rs.classify k)) <;> rfl
    · obtain ⟨estimate, active, _⟩ := completeScan_lane l s
      exact ⟨estimate.trans (by rw [restored]; rfl), active.trans (by rw [restored]; rfl)⟩
  · have found := scannedTotals_accepted accepted
    refine ⟨by rw [tu, found]; rfl, fun q fits content => ?_⟩
    have back := checkpointContent_readsBack fits
    obtain ⟨bags, clips, estimateA, estimateB, selectionA, selectionB⟩ := completeScan_restored accepted
    rw [← content] at back
    rw [back.totals] at found
    rw [back.activeA] at selectionA
    rw [back.activeB] at selectionB
    have selection : ∀ l, SelectionTaken l (q.lic.get l).active (scanSets s) (completeScan s)
      | .a => selectionA
      | .b => selectionB
    refine ⟨by rw [found], ?_, bags.trans back.bags, clips.trans back.clips, fun l => ?_, fun l n named loaded => ?_,
      fun l empty => ?_⟩
    · rw [faults, tu, found]
      rfl
    · cases l with
      | a => exact estimateA.trans back.estimateA
      | b => exact estimateB.trans back.estimateB
    · rw [recipeAt_completeScan] at loaded ⊢
      exact (selection l).restored n named loaded
    · exact (selection l).dropped fun n named => recipeAt_completeScan n s ▸ empty n named
  · rw [faults, quiet h]
    omega

end Sys2Proof.Machine
end

section
/-! SUPPORT. The verdict of an admission (R68). -/

namespace Sys2Proof.Machine

set_option Elab.async false

section
variable {length nominal tolerance : Nat}

theorem verdictOf_short (below : length + tolerance < nominal) : verdictOf length nominal tolerance = .short := if_pos below

theorem verdictOf_ok (low : nominal ≤ length + tolerance) (high : length ≤ nominal + tolerance) :
    verdictOf length nominal tolerance = .ok := by
  rw [verdictOf, if_neg (Nat.not_lt.2 low), if_pos high]

theorem verdictOf_long (above : nominal + tolerance < length) : verdictOf length nominal tolerance = .long := by
  rw [verdictOf, if_neg (by omega), if_neg (Nat.not_le.2 above)]

end

/-- Settles O44: the admitted record's verdict is `verdictOf` by the recipe of the selected slot. -/
theorem verdictComparesTheLength : Obligations.VerdictComparesTheLength := by
  intro l s r rest slot approach admitted selection nominal tolerance narrow
  have verdict : (r.admittedAt l slot s).verdict = some (verdictOf r.length nominal tolerance) := rfl
  obtain ⟨lane, -⟩ := admittedState_lane (r := r) selection
  refine ⟨admittedState l slot r s, r.admittedAt l slot s, exec_headAtGate_admits approach admitted selection, ?_, ?_, rfl, ?_⟩
  · rw [lane]; rfl
  · rw [admittedState_tt approach]; exact PerLane.get_upd_same ..
  rw [verdict]
  refine ⟨fun below => ?_, fun low high => ?_, fun above => ?_, fun empty => ?_⟩
  · rw [verdictOf_short (by omega)]
  · rw [verdictOf_ok (by omega) high]
  · rw [verdictOf_long above]
  · rw [verdictOf_short (by omega)]

end Sys2Proof.Machine
end

section
/-! SUPPORT. The blade's changes of state (R62, R64), and the ends of a lane's two timers: the spin-up wait (R63) and the gate's
stroke (R70, R139). -/

namespace Sys2Proof.Machine

set_option Elab.async false

section
variable {l : Lane} {s : State}

/-! ## A blade's change -/

/-- A changed blade, its wait, and the closure set that follows it (R64, R65). -/
theorem changeBlade_lane (l : Lane) (b : BladeState) (wait : Timer) (s : State) :
    (changeBlade l b wait s).lic.get l = laneFlags l (s.onLane l (fun i => { i with blade := b, spinWait := wait }))
      { s.lic.get l with blade := b, spinWait := wait } := by
  simp [changeBlade, syncLane_lic_same, State.onLane]

theorem changeBlade_other {m : Lane} (other : m ≠ l) (b : BladeState) (wait : Timer) (s : State) :
    (changeBlade l b wait s).lic.get m = s.lic.get m := by
  simp [changeBlade, syncLane_lic_other other, State.onLane, PerLane.get_upd_other _ other]

theorem changeBlade_told (l : Lane) (b : BladeState) (wait : Timer) (s : State) :
    Reported (.laneState l) (changeBlade l b wait s) :=
  reported_raised _ _

theorem bladeOff_of_on (on : (s.lic.get l).blade ≠ .off) : bladeOff l s = setBlade l false (changeBlade l .off none s) := by
  rw [bladeOff, bne_iff_ne.2 on, when_true]

/-- A blade that leaves SPINNING or READY for OFF has no wait left and is told (R62, R64). -/
theorem bladeOff_stopped (on : (s.lic.get l).blade ≠ .off) :
    ((bladeOff l s).lic.get l).spinWait = none ∧ Reported (.laneState l) (bladeOff l s) := by
  rw [bladeOff_of_on on]
  exact ⟨by simp [changeBlade_lane, laneFlags], setBlade_reported _ _ (changeBlade_told ..)⟩

/-! ## The end of a spin-up wait -/

/-- A standing fault of an action class with line stop sets the stop-fault flag (R148). -/
theorem stopFault_of_standsWith {k : FaultKind} {subj : Subject} {detail : Option Nat}
    (stands : standsWith k subj detail s = true) (stops : actionOf k subj = .lineStop) : stopFault s = true := by
  obtain ⟨e, standing, pair⟩ := List.any_eq_true.1 stands
  have same : e.pair = (k, subj) := (FaultEntry.isPair_iff _ _ _).1 (Bool.and_eq_true _ _ ▸ pair).1
  obtain ⟨rfl, rfl⟩ := Prod.mk.inj same
  exact decide_eq_true (List.countP_pos_iff.2 ⟨e, standing, beq_iff_eq.2 stops⟩)

theorem spinUpEnd_of_tight (tight : s.params.tLow ≤ s.sc.result.get (tensionChannel l)) :
    spinUpEnd l s = changeBlade l .ready none s := if_pos tight

theorem spinUpEnd_of_slack (slack : s.sc.result.get (tensionChannel l) < s.params.tLow) : spinUpEnd l s
    = raiseFault .spinupFail (laneSubject l) (some (s.sc.result.get (tensionChannel l))) (bladeOff l s) :=
  if_neg (Nat.not_le.2 slack)

/-- A tight band makes the blade READY (R63). -/
theorem spinUpEnd_ready (tight : s.params.tLow ≤ s.sc.result.get (tensionChannel l)) :
    ((spinUpEnd l s).lic.get l).blade = .ready ∧ ((spinUpEnd l s).lic.get l).closure.bladeNotReady = false ∧
      spun l (spinUpEnd l s) = true ∧ (spinUpEnd l s).dou = s.dou ∧ (spinUpEnd l s).ft = s.ft := by
  rw [spinUpEnd_of_tight tight]
  refine ⟨changeBlade_blade .., ?_, ?_, by simp, by simp⟩
  · simp [changeBlade_lane, laneFlags, closureOf, State.onLane]
  · simp [spun, changeBlade_blade]

/-- A slack band stops the blade and the line (R63). -/
theorem spinUpEnd_fails (slack : s.sc.result.get (tensionChannel l) < s.params.tLow) :
    ((spinUpEnd l s).lic.get l).blade = .off ∧ (spinUpEnd l s).dou.blade.get l = false ∧
      standsWith .spinupFail (laneSubject l) (some (s.sc.result.get (tensionChannel l))) (spinUpEnd l s) = true ∧
      stopFault (spinUpEnd l s) = true := by
  rw [spinUpEnd_of_slack slack]
  have stands := standsWith_raiseFault .spinupFail (laneSubject l) (some (s.sc.result.get (tensionChannel l))) (bladeOff l s)
  refine ⟨?_, ?_, stands, stopFault_of_standsWith stands rfl⟩
  · simp [bladeOff_blade]
  · simp [bladeOff_drive]

/-- With either outcome the wait is over and the lane's state is reported (R63, R64). -/
theorem spinUpEnd_told (spinning : (s.lic.get l).blade = .spinning) :
    ((spinUpEnd l s).lic.get l).spinWait = none ∧ Reported (.laneState l) (spinUpEnd l s) := by
  by_cases tight : s.params.tLow ≤ s.sc.result.get (tensionChannel l)
  · rw [spinUpEnd_of_tight tight]
    exact ⟨by simp [changeBlade_lane, laneFlags], changeBlade_told ..⟩
  · obtain ⟨wait, told⟩ := bladeOff_stopped (l := l) (s := s) (by simp [spinning])
    rw [spinUpEnd_of_slack (Nat.not_le.1 tight)]
    exact ⟨by simp [wait], raiseFault_reported _ _ _ told⟩

/-! ## The events -/

theorem exec_spinUpWaitEnd (l : Lane) (s : State) : exec (.spinUpWaitEnd l) s = .next (when
    ((s.lic.get l).blade == .spinning && (s.lic.get l).spinWait.isSome) (fun s => settle (spinUpEnd l s)) s) := rfl

theorem exec_gateStrokeEnd (l : Lane) (s : State) : exec (.gateStrokeEnd l) s
    = .next (when (s.dou.gateTimer.get l).isSome (fun s => settle (disarmGate l s)) s) := rfl

end

/-- Settles O46: a wait that runs ends by the tension result, a stroke that runs ends with its gate disarmed; else nothing. -/
theorem spinUpAndGateStrokeEnd : Obligations.SpinUpAndGateStrokeEnd := by
  intro l s
  refine ⟨fun idle => ?_, fun spinning waits => ?_, fun idle => ?_, fun runs => ?_⟩
  · have skip : ((s.lic.get l).blade == .spinning && (s.lic.get l).spinWait.isSome) = false := by
      rcases idle with other | absent
      · simp [other]
      · simp [absent]
    rw [exec_spinUpWaitEnd, skip, when_false]
  · obtain ⟨wait, told⟩ := spinUpEnd_told spinning
    have runs : ((s.lic.get l).blade == .spinning && (s.lic.get l).spinWait.isSome) = true := by
      simpa [spinning, Option.isSome_iff_ne_none] using waits
    refine ⟨spinUpEnd l s, by rw [exec_spinUpWaitEnd, runs, when_true], wait, told, spinUpEnd_ready, spinUpEnd_fails, ?_⟩
    apply State.eq_of_blocks
    case ml => exact MessageLink.eq_but_reports
    all_goals simp
  · rw [exec_gateStrokeEnd, idle, Option.isSome_none, when_false]
  · rw [exec_gateStrokeEnd, Option.isSome_iff_ne_none.2 runs, when_true]
    rfl

end Sys2Proof.Machine
end

section
/-! SUPPORT. LANE_ENABLE (R61): the owner's answers, and the blade's demand in RUN (R62). -/

namespace Sys2Proof.Machine

set_option Elab.async false

variable {l : Lane} {s : State}

/-! ## The blade's demand (R62) -/

theorem setBlade_on_drive (runs : stopDrop s = false) : (setBlade l true s).dou.blade.get l = true := by
  simp [setBlade, driveOn, runs]

theorem setBlade_drive_other {m : Lane} (other : m ≠ l) (b : Bool) (s : State) :
    (setBlade l b s).dou.blade.get m = s.dou.blade.get m := by
  unfold setBlade driveOn; dsimp only
  (repeat' split) <;> simp [PerLane.get_upd_other _ other]

/-- What the spin-up of a lane's blade starts (R62). -/
structure SpinsUp (l : Lane) (wait : Nat) (s : State) : Prop where
  blade : (s.lic.get l).blade = .spinning
  drive : s.dou.blade.get l = true
  spinWait : (s.lic.get l).spinWait = some wait

theorem spinsUp_startSpinUp (runs : stopDrop s = false) :
    SpinsUp l (spinUpMs (s.params.spinCode.get l)) (startSpinUp l s) where
  blade := by simp [startSpinUp, changeBlade_blade]
  drive := setBlade_on_drive (by simpa [stopDrop] using runs)
  spinWait := by simp [startSpinUp, changeBlade_lane, laneFlags]

/-- What a lane's blade does leaves the other lane's blade as it was. -/
structure KeepsLane (m : Lane) (s t : State) : Prop where
  lane : t.lic.get m = s.lic.get m
  drive : t.dou.blade.get m = s.dou.blade.get m

theorem keepsLane_startSpinUp {m : Lane} (other : m ≠ l) (s : State) : KeepsLane m s (startSpinUp l s) where
  lane := by simp [startSpinUp, changeBlade_other other]
  drive := by simp [startSpinUp, setBlade_drive_other other]

theorem keepsLane_bladeOff {m : Lane} (other : m ≠ l) (s : State) : KeepsLane m s (bladeOff l s) := by
  have changed : KeepsLane m s (when ((s.lic.get l).blade != .off) (changeBlade l .off none) s) :=
    when_elim ⟨rfl, rfl⟩ (fun _ => ⟨changeBlade_other other .., by simp⟩)
  exact ⟨by simp [bladeOff, changed.lane], by rw [bladeOff, setBlade_drive_other other, changed.drive]⟩

theorem keepsLane_bladeFollow {m : Lane} (other : m ≠ l) (s : State) : KeepsLane m s (bladeFollow l s) := by
  have same : KeepsLane m s s := ⟨rfl, rfl⟩
  unfold bladeFollow; dsimp only
  cases (s.lic.get l).blade with
  | off => exact when_elim same (fun _ => keepsLane_startSpinUp other s)
  | spinning => exact when_elim same (fun _ => keepsLane_bladeOff other s)
  | ready => exact same

theorem bladeFollow_of_demanded (run : s.lsc.line = .run) (enabled : (s.lic.get l).enabled = true)
    (off : (s.lic.get l).blade = .off) : bladeFollow l s = startSpinUp l s := by
  simp [bladeFollow, bladeDemanded, run, enabled, off]

theorem SpinsUp.of_keepsLane {wait : Nat} {t : State} (spins : SpinsUp l wait s) (kept : KeepsLane l s t) : SpinsUp l wait t :=
  ⟨kept.lane ▸ spins.blade, kept.drive.trans spins.drive, kept.lane ▸ spins.spinWait⟩

theorem runIfSpun_of_line (other : s.lsc.line ≠ .spinUp) : runIfSpun s = s := by
  rw [runIfSpun, beq_eq_false_iff_ne.2 other, Bool.false_and, Bool.false_and, when_false]

theorem standbyIfDrained_of_line (other : s.lsc.line ≠ .drain) : standbyIfDrained s = s := by
  rw [standbyIfDrained, beq_eq_false_iff_ne.2 other, Bool.false_and, when_false]

/-- In RUN without a stop fault the line itself does not move: the blades follow their demand. -/
theorem advanceLine_of_run (run : s.lsc.line = .run) (clear : stopFault s = false) :
    advanceLine s = bladeFollow .b (bladeFollow .a s) := by
  have stays : stopIfFaulted s = s := by simp [stopIfFaulted, run, clear]
  have turning : (bladeFollow .b (bladeFollow .a s)).lsc.line = .run := by simp [run]
  rw [advanceLine, stays, runIfSpun_of_line (by rw [turning]; decide), standbyIfDrained_of_line (by rw [turning]; decide)]

/-- In RUN the blade of an enabled lane that stands OFF spins up (R62). -/
theorem advanceLine_spinsUp (run : s.lsc.line = .run) (clear : stopFault s = false) (enabled : (s.lic.get l).enabled = true)
    (off : (s.lic.get l).blade = .off) : SpinsUp l (spinUpMs (s.params.spinCode.get l)) (advanceLine s) := by
  rw [advanceLine_of_run run clear]
  have start : ∀ t : State, t.lsc = s.lsc → t.params = s.params → t.lic.get l = s.lic.get l →
      SpinsUp l (spinUpMs (s.params.spinCode.get l)) (bladeFollow l t) := by
    intro t lsc params lane
    rw [bladeFollow_of_demanded (by rw [lsc, run]) (by rw [lane, enabled]) (by rw [lane, off]), ← params]
    exact spinsUp_startSpinUp (by simp [stopDrop, lsc, run])
  cases l with
  | a => exact (start s rfl rfl rfl).of_keepsLane (keepsLane_bladeFollow (by decide) _)
  | b => exact start _ (by simp) (by simp) (keepsLane_bladeFollow (by decide) s).lane

/-! ## The owner's answers (R61) -/

section
variable {lane on : Byte}

/-- The lane's new enable state, told. -/
def enableSet (l : Lane) (on : Bool) (s : State) : State :=
  raiseKey (.laneState l) (syncLane l (s.onLane l (fun i => { i with enabled := on })))

theorem laneEnable_beyond (beyond : 1 < lane.toNat ∨ 1 < on.toNat) : laneEnableOwn lane on s = (badValue, s) := by
  unfold laneEnableOwn; split
  · rfl
  next l found =>
    have far : 1 < on.toNat := beyond.resolve_left (fun none => by rw [laneOf_beyond none] at found; cases found)
    exact if_pos far

theorem enableContent_of {b : Bool} (enabled : (s.lic.get l).enabled = b) :
    enableContent l s = u8 (if b then 0 else 1) ++ u8 (s.lic.get l).blade.code := by
  rw [enableContent, enabled]; rfl

variable (found : laneOf lane = some l) (known : on.toNat ≤ 1)
include found known

theorem laneEnable_already (same : (s.lic.get l).enabled = (on == 1)) :
    laneEnableOwn lane on s = (alreadyAnswer (enableContent l s), s) := by
  simp only [laneEnableOwn, found, if_neg (Nat.not_lt.2 known), same, beq_self_eq_true, if_true]

theorem laneEnable_sets (new : (s.lic.get l).enabled ≠ (on == 1)) : laneEnableOwn lane on s
    = (answerOk (enableContent l (advanceLine (enableSet l (on == 1) s))), advanceLine (enableSet l (on == 1) s)) := by
  simp only [laneEnableOwn, found, if_neg (Nat.not_lt.2 known), beq_eq_false_iff_ne.2 new, Bool.false_eq_true, if_false]
  rfl

end

/-- The lane in step with its new enable state. -/
theorem enableSet_told (l : Lane) (on : Bool) (s : State) :
    ToldLane l (s.onLane l (fun i => { i with enabled := on })) (enableSet l on s) := by
  have told := ToldLane.syncLane l (s.onLane l (fun i => { i with enabled := on }))
  exact ⟨by simpa [laneInStep, enableSet] using told.inStep, by simpa [enableSet] using told.rest,
    by simpa [enableSet] using told.other, by simpa [enableSet] using told.occupied⟩

theorem enableSet_enabled (l : Lane) (on : Bool) (s : State) : ((enableSet l on s).lic.get l).enabled = on := by
  simp [enableSet, State.onLane]

/-- Before the line moves, an enable touches the lanes and the report queue alone. -/
theorem enableSet_frame (l : Lane) (on : Bool) (s : State) :
    { enableSet l on s with lic := s.lic, ml := { (enableSet l on s).ml with reports := s.ml.reports } } = s := by
  unfold enableSet
  apply State.eq_of_blocks
  case ml => exact MessageLink.eq_but_reports
  all_goals simp

/-- An enabled lane whose blade stands OFF spins it up in RUN (R62). -/
theorem enableSet_spinsUp (run : s.lsc.line = .run) (clear : stopFault s = false) (off : (s.lic.get l).blade = .off) :
    SpinsUp l (spinUpMs (s.params.spinCode.get l)) (advanceLine (enableSet l true s)) := by
  have params : (enableSet l true s).params = s.params := by simp [enableSet]
  rw [← params]
  refine advanceLine_spinsUp ?_ ?_ (enableSet_enabled l true s) ?_
  · simpa [enableSet] using run
  · simpa [enableSet, stopFault, holdCount] using clear
  · simpa [enableSet] using off

/-- Settles O29: the owner's answers in the order of R61's table; a switched lane is told, then the line moves. -/
theorem laneEnableSetsTheLane : Obligations.LaneEnableSetsTheLane := by
  intro tok lane on s h
  refine ⟨fun beyond => ?_, fun l found known same => ?_, fun l found known new => ?_⟩
  · exact congrArg _ (takeRequest_refused h (laneEnable_beyond beyond) (by decide) _ tok flow)
  · have already := laneEnable_already found known same
    rw [enableContent_of same] at already
    exact congrArg _ (takeRequest_refused h already (by simp [alreadyAnswer]) _ tok flow)
  · have sets := laneEnable_sets found known new
    have enabled := enableSet_enabled l (on == 1) s
    have told := enableSet_told l (on == 1) s
    have lane_s : (s.onLane l (fun i => { i with enabled := on == 1 })).lic.get l = { s.lic.get l with enabled := on == 1 } := by
      simp [State.onLane]
    rw [enableContent_of (by simpa using enabled)] at sets
    refine ⟨enableSet l (on == 1) s, congrArg _ (takeRequest_accepted h sets _ tok flow), enabled, ?_, told.inStep,
      lane_s ▸ told.rest, ?_, raiseKey_mem _ _, enableSet_frame l _ s, fun run clear switchedOn off => ?_⟩
    · obtain ⟨closure, -⟩ := told.inStep
      rw [closure, enabled]
      simp [enableSet]
    · rw [told.other]
      exact otherLane_get_upd ..
    · obtain ⟨blade, drive, wait⟩ := enableSet_spinsUp run clear off
      rw [switchedOn]
      exact ⟨blade, drive, wait⟩

end Sys2Proof.Machine
end

section
/-! SUPPORT. RESET (section 1.5): the value it leaves each block at, and the array with the program in flight torn (R165, R166). -/

namespace Sys2Proof.Machine

set_option Elab.async false

/-! ## A torn program (R166) -/

section
variable {tear : Tear} {count : Nat} {w : JobInProgress} {r : RecordStore}

/-- A torn program has written the header of its area, or one whole content page of it. -/
theorem tearProgram_cases (tear : Tear) (count : Nat) (w : JobInProgress) (r : RecordStore) :
    (∃ h, tearProgram tear count w r = r.setHeader w.area h) ∨
      ∃ b, b.length = 64 ∧ tearProgram tear count w r = r.writePage w.area w.programs b := by
  unfold tearProgram; dsimp only
  by_cases atHeader : w.programs = 0 ∨ contentPages w.area < w.programs
  · refine .inl ?_
    cases tear with
    | beforeProgram => exact ⟨_, if_pos atHeader⟩
    | duringProgram markerReads =>
      simp only [if_pos atHeader]
      (repeat' split) <;> exact ⟨_, rfl⟩
  · refine .inr ?_
    cases tear with
    | beforeProgram => exact ⟨_, List.length_replicate, if_neg atHeader⟩
    | duringProgram markerReads => exact ⟨_, length_tornPage count, if_neg atHeader⟩

/-- A torn program leaves the headers of the other areas. -/
theorem header_tearProgram_other {k : Nat} (other : k ≠ w.area) : (tearProgram tear count w r).header k = r.header k := by
  obtain ⟨h, torn⟩ | ⟨b, -, torn⟩ := tearProgram_cases tear count w r
  · rw [torn, header_setHeader_other other]
  · rw [torn, header_writePage]

/-- A torn program leaves the content outside its own page. -/
theorem read_tearProgram_outside (form : Memory.wf r.cells = true) {a : Nat}
    (outside : a < (areaPage w.area + w.programs) * 64 ∨ (areaPage w.area + w.programs) * 64 + 64 ≤ a) :
    Memory.read (tearProgram tear count w r).cells a = Memory.read r.cells a := by
  obtain ⟨h, torn⟩ | ⟨b, page, torn⟩ := tearProgram_cases tear count w r
  · rw [torn]; rfl
  · rw [torn, read_writePage_outside form _ _ page outside]

end

/-! ## The Record Store after a reset -/

section
variable {tear : Tear} {count : Nat} {r : RecordStore}

theorem resetStore_idle (idle : r.writer = none) :
    resetStore tear count r = { RecordStore.reset with cells := r.cells, headers := r.headers } := by
  simp only [resetStore, idle]

theorem resetStore_writing {w : JobInProgress} (writes : r.writer = some w) : resetStore tear count r
    = { RecordStore.reset with
          cells := (tearProgram tear count w r).cells, headers := (tearProgram tear count w r).headers } := by
  simp only [resetStore, writes]

end

/-! ## The indexed blocks after a reset, one place of each -/

theorem reset_watch (e : TrackedEye) : Tracking.reset.watch.get e = none ∧ Tracking.reset.stuck.get e = false := by
  cases e <;> exact ⟨rfl, rfl⟩

theorem reset_eye (e : Eye) : EyeUnit.reset.channels.get e = .reset := by cases e <;> rfl

theorem reset_belt (b : Belt) : BeltUnit.reset.position.get b = 0 ∧ BeltUnit.reset.remainder.get b = 0 ∧
    BeltUnit.reset.pair.get b = none := by
  cases b <;> exact ⟨rfl, rfl, rfl⟩

theorem reset_flag (c : Channel) : ScanConverter.reset.flag.get c = false := by cases c <;> rfl

theorem reset_lane (l : Lane) : State.reset.lic.get l = .reset := by cases l <;> rfl

theorem reset_crumb (l : Lane) : State.reset.cc.get l = .reset := by cases l <;> rfl

theorem reset_gate (l : Lane) : DriveUnit.reset.armed.get l = false ∧ (DriveUnit.reset.pusher.get l).dead = some 40 := by
  cases l <;> exact ⟨rfl, rfl⟩

/-- No output is commanded after a reset (R134). -/
theorem reset_command (o : Output) : command o State.reset = false := by
  cases o with
  | infeed l | accum l | blade l | gate l | extend l | retract l | knife l | shaker l | tunnelReady l => cases l <;> rfl
  | outfeed | flap | tyer | printer | bagBlast | purge => rfl

/-! ## The reset -/

section
variable {b1 b0 : Bool} {tear : Tear} {s : State}

theorem command_resetMachine (o : Output) : command o (resetMachine b1 b0 tear s) = false := by
  rw [← reset_command o]
  cases o <;> rfl

theorem resetMachine_store_idle (idle : s.rs.writer = none) :
    (resetMachine b1 b0 tear s).rs.cells = s.rs.cells ∧ (resetMachine b1 b0 tear s).rs.headers = s.rs.headers := by
  have store : (resetMachine b1 b0 tear s).rs = _ := resetStore_idle idle
  rw [store]
  exact ⟨rfl, rfl⟩

theorem resetMachine_store_writing {w : JobInProgress} (writes : s.rs.writer = some w) (form : arraySafe s = true) :
    (∀ k, k ≠ w.area → (resetMachine b1 b0 tear s).rs.header k = s.rs.header k) ∧
    (∀ a, (a < (areaPage w.area + w.programs) * 64 ∨ (areaPage w.area + w.programs) * 64 + 64 ≤ a) →
      Memory.read (resetMachine b1 b0 tear s).rs.cells a = Memory.read s.rs.cells a) := by
  have store : (resetMachine b1 b0 tear s).rs = _ := resetStore_writing writes
  rw [store]
  exact ⟨fun k other => header_tearProgram_other other, fun a outside => read_tearProgram_outside form outside⟩

end

/-- Settles O4: every block but the Record Store stands at a constant; of the store the array is kept but for what the torn
program wrote. -/
theorem resetLeavesTheResetValues : Obligations.ResetLeavesTheResetValues := by
  intro b1 b0 tear s
  have eye (e : Eye) : (resetMachine b1 b0 tear s).eu.channels.get e = .reset := reset_eye e
  have lane (l : Lane) : (resetMachine b1 b0 tear s).lic.get l = .reset := reset_lane l
  refine ⟨resetMachine b1 b0 tear s, rfl, rfl, rfl, reset_watch, fun e => ?_, rfl, reset_belt, fun c => ?_, rfl, rfl, rfl, rfl,
    fun l => ?_, rfl, rfl, reset_crumb, rfl, rfl, rfl, rfl, rfl, rfl, rfl, rfl, command_resetMachine, reset_gate, rfl, rfl, rfl, rfl,
    rfl, rfl, rfl, rfl, rfl, rfl, rfl, rfl, rfl, rfl, rfl, rfl, resetMachine_store_idle, fun _ => resetMachine_store_writing⟩
  · rw [eye]
    exact ⟨rfl, rfl⟩
  · obtain ⟨result, age⟩ := reset_channel c
    exact ⟨result, age, reset_flag c⟩
  · rw [lane]
    exact ⟨rfl, rfl, rfl, rfl, rfl, rfl, rfl, rfl, rfl, rfl, rfl⟩

end Sys2Proof.Machine
end

section
/-! SUPPORT. What the owners of manifold air do at a grant (R87, R92, R112): the magazine of bags (R98) moves its count and its
low flag alone, and each grant has its owner's effect beside the arbiter's own part. -/

namespace Sys2Proof.Machine

set_option Elab.async false

variable {s t : State}

/-! ## The magazines (R98) -/

theorem evalBagLow_mbc (s : State) : (evalBagLow s).mbc =
    { s.mbc with bagLow := decide (s.mbc.bagCount ≤ s.params.lowMark.bags) } := by
  unfold evalBagLow; dsimp only; split
  next same => rw [beq_iff_eq.1 same]
  next => split <;> simp

theorem evalClipLow_tsc (s : State) : (evalClipLow s).tsc =
    { s.tsc with clipLow := decide (s.tsc.clipCount ≤ s.params.lowMark.clips) } := by
  unfold evalClipLow; dsimp only; split
  next same => rw [beq_iff_eq.1 same]
  next => split <;> simp

/-- Faults taken are the one line counter that a raise or a removal can move. -/
theorem TakesFaults.lineCounts {n : Nat} (taken : TakesFaults n s t) : lineCounts t = lineCounts s := by
  have one (v : TotalsUnit) : v.faultCounted.live.line.faultsAside = v.live.line.faultsAside := by
    unfold TotalsUnit.faultCounted; split <;> rfl
  obtain ⟨i, -, taken⟩ := taken
  unfold Machine.lineCounts
  rw [taken]
  clear taken
  induction i with
  | zero => rfl
  | succ i ih => rw [Function.iterate_succ_apply', one, ih]

/-- A line counter other than the faults taken is read from what a fault leaves alone. -/
theorem counter_of_lineCounts (f : LineBlock → Nat) (same : Machine.lineCounts t = Machine.lineCounts s)
    (blind : ∀ b : LineBlock, f b.faultsAside = f b := by exact fun _ => rfl) : f t.tu.live.line = f s.tu.live.line := by
  rw [← blind, ← blind s.tu.live.line]
  exact congrArg f same

theorem setBagCount_mbc (n : Nat) (s : State) : (setBagCount n s).mbc =
    { s.mbc with bagCount := n, bagLow := decide (n ≤ s.params.lowMark.bags) } := by
  rw [setBagCount, when_mbc (by simp), evalBagLow_mbc]; rfl

theorem setClipCount_tsc (n : Nat) (s : State) : (setClipCount n s).tsc =
    { s.tsc with clipCount := n, clipLow := decide (n ≤ s.params.lowMark.clips) } := by
  rw [setClipCount, when_tsc (by simp), evalClipLow_tsc]; rfl

theorem takesFaults_setBagCount (n : Nat) (s : State) : TakesFaults 1 s (setBagCount n s) := by
  obtain ⟨i, hi, taken⟩ := takesFaults_evalBagLow (s.onMbc (fun m => { m with bagCount := n }))
  exact ⟨i, hi, by simpa [setBagCount] using taken⟩

theorem takesFaults_setClipCount (n : Nat) (s : State) : TakesFaults 1 s (setClipCount n s) := by
  obtain ⟨i, hi, taken⟩ := takesFaults_evalClipLow (s.onTsc (fun m => { m with clipCount := n }))
  exact ⟨i, hi, by simpa [setClipCount] using taken⟩

/-! ## The grant to BAG (R87) -/

/-- How long the blast of an opening lasts: the time in the slot of the selected record. -/
def openingBlast (s : State) : Nat :=
  match s.mbc.selected with
  | some (_, tag) => match s.tt.locate tag with
    | some (_, _, r) => (recipeAt (r.recipeSlot.getD 0) s).blast
    | none => 0
  | none => 0

theorem openingBlast_eq {l : Lane} {tag : Nat} {z : Zone} {n : Nat} {r : LoafRecord} {slot : Nat}
    (selected : s.mbc.selected = some (l, tag)) (found : s.tt.locate tag = some (z, n, r)) (named : r.recipeSlot = some slot) :
    openingBlast s = (recipeAt slot s).blast := by
  simp only [openingBlast, selected, found, named, Option.getD_some]

theorem openBag_mbc (s : State) : (openBag s).mbc = { s.mbc with
    bagger := .opening, openTimer := some 100, blast := some (openingBlast s), bagCount := s.mbc.bagCount - 1
    bagLow := decide (s.mbc.bagCount - 1 ≤ s.params.lowMark.bags) } := by
  simp [openBag, setBagCount_mbc]
  rfl

theorem openBag_bagsUsed (s : State) : (openBag s).tu.live.line.bagsUsed = bump s.tu.live.line.bagsUsed := by
  have kept : (setBagCount (s.mbc.bagCount - 1) s).tu.live.line.bagsUsed = s.tu.live.line.bagsUsed :=
    counter_of_lineCounts LineBlock.bagsUsed (takesFaults_setBagCount _ s).lineCounts
  rw [← kept]
  simp [openBag, countLine, State.onLive]

theorem driveOn_of_stop (stop : s.lsc.line = .stop) (f : DriveUnit → DriveUnit) : driveOn f s = s := by
  simp [driveOn, stopDrop, stop]

theorem driveOn_of_running (runs : s.lsc.line ≠ .stop) (f : DriveUnit → DriveUnit) : driveOn f s = s.onDou f := by
  simp [driveOn, stopDrop, runs]

theorem driveOn_dou (f : DriveUnit → DriveUnit) (s : State) :
    (driveOn f s).dou = if s.lsc.line = .stop then s.dou else f s.dou := by
  split
  next stop => rw [driveOn_of_stop stop]
  next runs => rw [driveOn_of_running runs]; rfl

theorem openBag_dou (s : State) :
    (openBag s).dou = if s.lsc.line = .stop then s.dou else { s.dou with bagBlast := true } := by
  refine (driveOn_dou _ _).trans ?_
  simp

/-- A grant to BAG that finds a bag (R87). -/
theorem bagOpens_openBag (s : State) : BagOpens s (openBag s) := by
  refine ⟨⟨openingBlast s, openBag_mbc s, fun l tag z n r slot => openingBlast_eq⟩, openBag_bagsUsed s, openBag_dou s, ?_⟩
  exact State.eq_of_blocks (by simp) (by simp) (by simp) (by simp) (by simp) (by simp) (by simp) (by simp) (by simp) rfl rfl
    (by simp) (by simp) rfl (by simp) rfl rfl rfl (by simp) (by simp) (MessageLink.eq_but_reports)

/-- What a bag grant says of the other blocks, it says whatever the arbiter held before. -/
theorem BagOpens.of_ama {a : AirArbiter} (opens : BagOpens { s with ama := a } t) : BagOpens s t := by
  obtain ⟨mbc, used, dou, same⟩ := opens
  exact ⟨mbc, used, dou, congrArg (fun u : State => { u with ama := s.ama }) same⟩

theorem Blows.of_ama {a : AirArbiter} {l : Lane} {alone : Bool} (blows : Blows l alone { s with ama := a } t) :
    Blows l alone s t := by
  obtain ⟨cc, dou, same⟩ := blows
  exact ⟨cc, dou, congrArg (fun u : State => { u with ama := s.ama }) same⟩

/-! ## The grants (R117, R120) -/

theorem startPurge_dou (s : State) :
    (startPurge s).dou = if s.lsc.line = .stop then s.dou else { s.dou with purge := true } := by
  exact driveOn_dou _ _

theorem startPurge_tsc (s : State) : (startPurge s).tsc = { s.tsc with purge := some 200 } := by
  simp [startPurge]

theorem grantBag_of_bags (c : AirChannel) (bags : 0 < s.mbc.bagCount) : grantBag c s = openBag (becomeHolder .bag c s) :=
  if_pos bags

theorem grantBag_of_none (c : AirChannel) (empty : s.mbc.bagCount = 0) :
    grantBag c s = grantAfterBag c (waitForBags (setWaiting .bag none s)) := by
  rw [grantBag, if_neg (by omega)]

theorem grantTo_of_other {r : Requester} (other : r ≠ .bag) (c : AirChannel) : grantTo r c s = grantOther r c s := by
  cases r with
  | bag => exact absurd rfl other
  | purge | kna | knb => rfl

/-- The grant to a requester other than BAG. -/
theorem granted_grantOther {r : Requester} (other : r ≠ .bag) (c : AirChannel) (s : State) : Granted r c s (grantOther r c s) := by
  refine ⟨by rw [grantOther_ama, becomeHolder_eq], ?_⟩
  cases r with
  | bag => exact absurd rfl other
  | purge =>
    refine ⟨(startPurge_tsc _).trans (by simp), (startPurge_dou _).trans (by simp), ?_⟩
    exact State.eq_of_blocks (by simp) (by simp) (by simp) (by simp) (by simp) (by simp) (by simp) (by simp) (by simp) (by simp)
      (by simp) rfl (by simp [grantOther]) rfl (by simp) rfl (by simp) (by simp) (by simp) (by simp) (by simp)
  | kna => exact (enterBlowing_blows .a false (becomeHolder .kna c s)).of_ama (s := s)
  | knb => exact (enterBlowing_blows .b false (becomeHolder .knb c s)).of_ama (s := s)

/-- The grant to a requester: to BAG, with a bag left. -/
theorem granted_grantTo {r : Requester} (c : AirChannel) (bags : r = .bag → 0 < s.mbc.bagCount) :
    Granted r c s (grantTo r c s) := by
  by_cases other : r = .bag
  · subst other
    rw [grantTo, grantBag_of_bags c (bags rfl)]
    exact ⟨by simp [becomeHolder_eq], (bagOpens_openBag (becomeHolder .bag c s)).of_ama (s := s)⟩
  · rw [grantTo_of_other other]
    exact granted_grantOther other c s

end Sys2Proof.Machine
end

section
/-! SUPPORT. The Air Manifold Arbiter (R119 to R122): whom a free channel goes to, and the effect of a release, a request, a
withdrawal and a change of steering. -/

namespace Sys2Proof.Machine

set_option Elab.async false

variable {s t : State} {c : AirChannel}

/-! ## A freed channel -/

theorem grantable_freed (high : s.ama.pressureLow = false) : (setHolder c none s).ama.grantable c = true := by
  simp [setHolder, AirArbiter.grantable, high]

theorem PerAir.upd_upd {α : Type} (c : AirChannel) (f g : α → α) (p : PerAir α) :
    PerAir.upd c g (PerAir.upd c f p) = PerAir.upd c (g ∘ f) p := by cases c <;> rfl

/-- A grant of a channel that was freed for it is a grant of that channel. -/
theorem Granted.of_freed {r : Requester} (granted : Granted r c (setHolder c none s) t) : Granted r c s t := by
  obtain ⟨ama, owner⟩ := granted
  refine ⟨by rw [ama]; simp [setHolder, PerAir.upd_upd, Function.comp_def], ?_⟩
  cases r with
  | bag => exact BagOpens.of_ama (s := s) owner
  | purge => exact ⟨owner.1, owner.2.1, congrArg (fun u : State => { u with ama := s.ama }) owner.2.2⟩
  | kna | knb => exact Blows.of_ama (s := s) owner

theorem Granted.holder {r : Requester} (granted : Granted r c s t) : t.ama.holder.get c = some r := by
  rw [granted.1]; simp

theorem Granted.waiting {r : Requester} (granted : Granted r c s t) : t.ama.waiting.get r = none := by
  rw [granted.1]; simp

/-! ## The order of grants (R120) -/

theorem waitsOn_iff (r : Requester) (a : AirArbiter) : a.waitsOn r c = true ↔ a.waiting.get r = some c := beq_iff_eq

theorem waitsOn_eq_false (r : Requester) (a : AirArbiter) : a.waitsOn r c = false ↔ a.waiting.get r ≠ some c := by
  rw [ne_eq, ← waitsOn_iff, Bool.not_eq_true]

theorem bestKnife_kna {a : AirArbiter} (waits : a.waiting.get .kna = some c)
    (first : a.waiting.get .knb ≠ some c ∨ a.lastKnife ≠ some .kna) : bestKnife c a = some .kna := by
  rw [← waitsOn_eq_false] at first
  rw [← waitsOn_iff] at waits
  cases other : a.waitsOn .knb c <;> simp_all [bestKnife]

theorem bestKnife_knb {a : AirArbiter} (waits : a.waiting.get .knb = some c)
    (first : a.waiting.get .kna ≠ some c ∨ a.lastKnife = some .kna) : bestKnife c a = some .knb := by
  rw [← waitsOn_eq_false] at first
  rw [← waitsOn_iff] at waits
  cases other : a.waitsOn .kna c <;> simp_all [bestKnife]

theorem bestKnife_none {a : AirArbiter} (kna : a.waiting.get .kna ≠ some c) (knb : a.waiting.get .knb ≠ some c) :
    bestKnife c a = none := by
  rw [← waitsOn_eq_false] at kna knb
  simp [bestKnife, kna, knb]

theorem grantAfterBag_of_held (held : s.ama.grantable c = false) : grantAfterBag c s = s := by
  simp [grantAfterBag, held]

theorem grantAfterBag_purge (free : s.ama.grantable c = true) (waits : s.ama.waiting.get .purge = some c) :
    grantAfterBag c s = grantOther .purge c s := by
  simp [grantAfterBag, free, (waitsOn_iff _ _).2 waits]

theorem grantAfterBag_knife {r : Requester} (free : s.ama.grantable c = true) (quiet : s.ama.waiting.get .purge ≠ some c)
    (best : bestKnife c s.ama = some r) : grantAfterBag c s = grantOther r c s := by
  simp [grantAfterBag, free, (waitsOn_eq_false _ _).2 quiet, best]

theorem grantAfterBag_none (purge : s.ama.waiting.get .purge ≠ some c) (best : bestKnife c s.ama = none) :
    grantAfterBag c s = s := by
  simp [grantAfterBag, (waitsOn_eq_false _ _).2 purge, best]

/-! ## Releases (R120) -/

theorem releaseChannel_of_low (low : s.ama.pressureLow = true) : releaseChannel c s = setHolder c none s := by
  have held : (setHolder c none s).ama.grantable c = false := by simp [setHolder, AirArbiter.grantable, low]
  rw [releaseChannel, grantNext, held]
  exact grantAfterBag_of_held held

theorem releaseChannel_bag (high : s.ama.pressureLow = false) (waits : s.ama.waiting.get .bag = some c) :
    releaseChannel c s = grantBag c (setHolder c none s) := by
  have waits : (setHolder c none s).ama.waitsOn .bag c = true := (waitsOn_iff _ _).2 waits
  rw [releaseChannel, grantNext, grantable_freed high, waits]
  rfl

theorem releaseChannel_afterBag (quiet : s.ama.waiting.get .bag ≠ some c) :
    releaseChannel c s = grantAfterBag c (setHolder c none s) := by
  have quiet : (setHolder c none s).ama.waitsOn .bag c = false := (waitsOn_eq_false _ _).2 quiet
  rw [releaseChannel, grantNext, quiet, Bool.and_false]
  rfl

/-- A release to a requester after BAG, once it is the channel's best waiter. -/
theorem granted_release {r : Requester} (other : r ≠ .bag) (quiet : s.ama.waiting.get .bag ≠ some c)
    (best : grantAfterBag c (setHolder c none s) = grantOther r c (setHolder c none s)) :
    Granted r c s (releaseChannel c s) := by
  rw [releaseChannel_afterBag quiet, best]
  exact (granted_grantOther other c _).of_freed

theorem releaseChannel_grants_bag (high : s.ama.pressureLow = false) (waits : s.ama.waiting.get .bag = some c)
    (bags : 0 < s.mbc.bagCount) : Granted .bag c s (releaseChannel c s) := by
  rw [releaseChannel_bag high waits]
  exact (granted_grantTo (s := setHolder c none s) (r := .bag) c fun _ => bags).of_freed

theorem releaseChannel_grants_purge (high : s.ama.pressureLow = false) (quiet : s.ama.waiting.get .bag ≠ some c)
    (waits : s.ama.waiting.get .purge = some c) : Granted .purge c s (releaseChannel c s) :=
  granted_release (by decide) quiet (grantAfterBag_purge (grantable_freed high) waits)

theorem releaseChannel_grants_knife {r : Requester} (other : r ≠ .bag) (high : s.ama.pressureLow = false)
    (bag : s.ama.waiting.get .bag ≠ some c) (purge : s.ama.waiting.get .purge ≠ some c) (best : bestKnife c s.ama = some r) :
    Granted r c s (releaseChannel c s) :=
  granted_release other bag (grantAfterBag_knife (grantable_freed high) purge best)

/-- R87: a waiting BAG that finds no bag lets the channel go on to the next waiter. -/
structure BagPassedOver (c : AirChannel) (s t : State) : Prop where
  left : t.ama.waiting.bag = none
  notHolder : t.ama.holder.get c ≠ some .bag
  waitsInSelect : t.mbc = { s.mbc with bagger := .select }
  told : standsWith .bagsOut .out none t = true
  purgeNext : s.ama.waiting.get .purge = some c → t.ama.holder.get c = some .purge

theorem bestKnife_ne_bag (c : AirChannel) (a : AirArbiter) : bestKnife c a ≠ some .bag := by
  unfold bestKnife; (repeat' split) <;> simp

theorem grantAfterBag_holder_ne_bag (free : s.ama.holder.get c = none) : (grantAfterBag c s).ama.holder.get c ≠ some .bag := by
  unfold grantAfterBag; split
  · simp [free]
  · split
    · rw [(granted_grantOther (by decide) c s).holder]; decide
    · split
      next r best =>
        have other : r ≠ .bag := fun h => bestKnife_ne_bag c s.ama (h ▸ best)
        rw [(granted_grantOther other c s).holder]
        simpa using other
      next => simp [free]

theorem releaseChannel_passes_bag (high : s.ama.pressureLow = false) (waits : s.ama.waiting.get .bag = some c)
    (empty : s.mbc.bagCount = 0) : BagPassedOver c s (releaseChannel c s) := by
  rw [releaseChannel_bag high waits, grantBag_of_none (s := setHolder c none s) c empty]
  have ama : (waitForBags (setWaiting .bag none (setHolder c none s))).ama = (setWaiting .bag none (setHolder c none s)).ama := by
    simp
  have freed : (waitForBags (setWaiting .bag none (setHolder c none s))).ama.holder.get c = none := by
    simp [setWaiting, setHolder]
  refine ⟨grantAfterBag_bagNotWaiting c (by rw [ama]; rfl), grantAfterBag_holder_ne_bag freed, ?_, ?_, fun purge => ?_⟩
  · simp [waitForBags, setWaiting, setHolder]
  · exact (standsWith_congr (s := waitForBags (setWaiting .bag none (setHolder c none s))) (by simp) _ _ _).trans
      (standsWith_raiseFault _ _ _ _)
  · have waits : (waitForBags (setWaiting .bag none (setHolder c none s))).ama.waiting.get .purge = some c := by
      rw [ama]; exact purge
    rw [grantAfterBag_purge (by simp [AirArbiter.grantable, setWaiting, setHolder, high]) waits,
      (granted_grantOther (by decide) c _).holder]

theorem releaseChannel_idle (quiet : ∀ r, s.ama.waiting.get r ≠ some c) : releaseChannel c s = setHolder c none s := by
  rw [releaseChannel_afterBag (quiet .bag),
    grantAfterBag_none (s := setHolder c none s) (quiet .purge) (bestKnife_none (quiet .kna) (quiet .knb))]

/-! ## Requests (R119) -/

theorem airRequest_grants {r : Requester} (steered : (s.params.steering.get r).channel = some c) (high : s.ama.pressureLow = false)
    (free : s.ama.holder.get c = none) (bags : r = .bag → 0 < s.mbc.bagCount) : Granted r c s (airRequest r s) := by
  rw [airRequest_granted r c s steered (by simp [AirArbiter.grantable, high, free])]
  exact granted_grantTo c bags

theorem grantable_eq_false {a : AirArbiter} (held : a.pressureLow = true ∨ a.holder.get c ≠ none) : a.grantable c = false := by
  unfold AirArbiter.grantable
  obtain low | holder := held
  · simp [low]
  · simp [holder]

theorem airRequest_unsteered {r : Requester} (steered : (s.params.steering.get r).channel = none) : airRequest r s = s := by
  simp [airRequest, steering, steered]

theorem airRequest_of_low (low : s.ama.pressureLow = true) (r : Requester) : airRequest r s =
    (match (s.params.steering.get r).channel with
      | none => s
      | some d => { s with ama := { s.ama with waiting := s.ama.waiting.upd r (fun _ => some d) } }) := by
  cases steered : (s.params.steering.get r).channel with
  | none => exact airRequest_unsteered steered
  | some d => exact airRequest_waits r d s steered (grantable_eq_false (.inl low))

/-! ## Changes of steering (R122) -/

/-- The state with a steering entry changed. -/
def steeredTo (r : Requester) (e : Steer) (s : State) : State :=
  s.onParams (fun p => { p with steering := p.steering.upd r (fun _ => e) })

section
variable {r : Requester} {e : Steer} {d : AirChannel}

theorem steer_of_quiet (quiet : s.ama.waiting.get r = none) : steer r e s = steeredTo r e s := by
  simp [steer, steeredTo, quiet]

theorem steer_of_same (waits : s.ama.waiting.get r = some c) (names : e.channel = some c) : steer r e s = steeredTo r e s := by
  simp [steer, steeredTo, waits, names]

theorem steer_of_new (waits : s.ama.waiting.get r = some c) (names : e.channel = some d) (new : c ≠ d) : steer r e s =
    if s.ama.grantable d then grantTo r d (steeredTo r e s) else setWaiting r (some d) (steeredTo r e s) := by
  have moved : (c == d) = false := beq_eq_false_iff_ne.2 new
  unfold steer
  simp only [onParams_ama, waits, names, moved, Bool.false_eq_true, if_false, steeredTo]
  rfl

theorem steer_grants (waits : s.ama.waiting.get r = some c) (names : e.channel = some d) (new : c ≠ d)
    (high : s.ama.pressureLow = false) (free : s.ama.holder.get d = none) (bags : r = .bag → 0 < s.mbc.bagCount) :
    Granted r d (steeredTo r e s) (steer r e s) := by
  rw [steer_of_new waits names new, if_pos (by simp [AirArbiter.grantable, high, free])]
  exact granted_grantTo d bags

theorem steer_moves (waits : s.ama.waiting.get r = some c) (names : e.channel = some d) (new : c ≠ d)
    (held : s.ama.pressureLow = true ∨ s.ama.holder.get d ≠ none) :
    steer r e s = setWaiting r (some d) (steeredTo r e s) := by
  rw [steer_of_new waits names new, if_neg (by simp [grantable_eq_false held])]

/-- A waiting knife steered to NONE starts its clear with the shaker alone. -/
theorem steer_knife_none (l : Lane) (waits : s.ama.waiting.get (knife l) ≠ none) : steer (knife l) .none s =
    enterBlowing l true (setWaiting (knife l) none (steeredTo (knife l) .none s)) := by
  obtain ⟨c, waits⟩ := Option.ne_none_iff_exists'.1 waits
  unfold steer
  simp only [onParams_ama, waits, Steer.channel]
  cases l <;> rfl

end

end Sys2Proof.Machine
end

section
/-! SUPPORT. The obligation about the Air Manifold Arbiter (R119 to R122). -/

namespace Sys2Proof.Machine

set_option Elab.async false

/-- Settles O59: a release, a request, a withdrawal and a change of steering, each in its cases. -/
theorem releaseGrantsInOrder : Obligations.ReleaseGrantsInOrder := by
  refine ⟨fun c s => ?_, fun r c s steered => ⟨airRequest_grants steered, fun held => ?_⟩, airWithdraw_waiting,
    airWithdraw_holder, fun r e s => ⟨steer_of_quiet, fun c => steer_of_same, fun c d waits names new => ?_, ?_⟩⟩
  · refine ⟨releaseChannel_of_low, airRequest_of_low, fun high => ⟨fun bag bags => ?_, fun bag empty => ?_, fun bag purge => ?_,
      fun bag purge kna first => ?_, fun bag purge knb first => ?_, releaseChannel_idle⟩⟩
    · have granted := releaseChannel_grants_bag high bag bags
      exact ⟨granted.holder, granted.waiting, granted⟩
    · obtain ⟨left, notHolder, waitsInSelect, told, purgeNext⟩ := releaseChannel_passes_bag high bag empty
      exact ⟨left, notHolder, waitsInSelect, told, purgeNext⟩
    · have granted := releaseChannel_grants_purge high bag purge
      exact ⟨granted.holder, granted.waiting, granted⟩
    · have granted := releaseChannel_grants_knife (by decide) high bag purge (bestKnife_kna kna first)
      exact ⟨granted.holder, by rw [granted.1]; rfl, granted⟩
    · have granted := releaseChannel_grants_knife (by decide) high bag purge (bestKnife_knb knb first)
      exact ⟨granted.holder, by rw [granted.1]; rfl, granted⟩
  · exact airRequest_waits r c s steered (grantable_eq_false held)
  · exact ⟨steer_grants waits names new, steer_moves waits names new⟩
  · rintro l rfl waits rfl
    rw [steer_knife_none l waits]
    exact ⟨(enterBlowing_blows l true _).of_ama (s := steeredTo (knife l) .none s), by simp [setWaiting, steeredTo]⟩

end Sys2Proof.Machine
end

section
/-! SUPPORT. The selection of a lane (R80 to R82): which candidate is chosen, and what of the selection its route keeps. -/

namespace Sys2Proof.Machine

set_option Elab.async false

variable {s : State} {l : Lane} {r : LoafRecord}

/-- A lane alone in having a candidate is chosen; of two the one not served last, and A at first (R81). -/
theorem chosenLane_eq (candidate : candidate l s = some r)
    (turn : Machine.candidate (otherLane l) s = none ∨ s.mbc.lastServed = some (otherLane l) ∨ (s.mbc.lastServed = none ∧ l = .a)) :
    chosenLane s = some (l, r) := by
  unfold chosenLane
  cases l with
  | a =>
    rw [candidate]
    obtain alone | last | ⟨first, -⟩ := turn
    · rw [show Machine.candidate .b s = none from alone]
    · cases Machine.candidate .b s <;> simp [last, otherLane]
    · cases Machine.candidate .b s <;> simp [first]
  | b =>
    rw [candidate]
    obtain alone | last | ⟨-, notB⟩ := turn
    · rw [show Machine.candidate .a s = none from alone]
    · cases Machine.candidate .a s <;> simp [last, otherLane]
    · exact absurd notB (by decide)

theorem chosenLane_none (a : candidate .a s = none) (b : candidate .b s = none) : chosenLane s = none := by
  simp [chosenLane, a, b]

/-- The route from its start, and a homing motion, keep what the selection has set. -/
theorem selectLane_mbc (l : Lane) (r : LoafRecord) (s : State) : (selectLane l r s).mbc.lastServed = some l ∧
    (selectLane l r s).mbc.selected = some (l, r.tag) ∧ (selectLane l r s).mbc.route = some (routeOf r) := by
  unfold selectLane; dsimp only; split <;> simp [startHoming]

theorem selectIfReady_of_chosen (ready : maySelect s = true) (chosen : chosenLane s = some (l, r)) :
    selectIfReady s = selectLane l r s := by
  rw [selectIfReady, chosen]
  exact congrArg (fun c => when c (selectLane l r) s) ready

theorem selectIfReady_of_none (chosen : chosenLane s = none) : selectIfReady s = s := by
  rw [selectIfReady, chosen]

theorem selectIfReady_of_busy (busy : maySelect s = false) : selectIfReady s = s := by
  unfold selectIfReady; split
  · rw [busy]; rfl
  · rfl

/-- Settles O58: the chosen lane by R81's table, and the route by the record's condition. -/
theorem selectionAlternatesTheLanes : Obligations.SelectionAlternatesTheLanes := by
  refine fun s ready => ⟨fun l r candidate turn => ?_, fun a b => selectIfReady_of_none (chosenLane_none a b)⟩
  rw [selectIfReady_of_chosen ready (chosenLane_eq candidate turn)]
  obtain ⟨served, selected, route⟩ := selectLane_mbc l r s
  refine ⟨served, selected, route.trans ?_⟩
  by_cases sound : r.condition = .sound <;> simp [routeOf, sound]

end Sys2Proof.Machine
end

section
/-! SUPPORT. The pushers' valves (R83, R140): what a command, a turn-off and the end of the dead time make of a pusher, and of the
state about it. -/

namespace Sys2Proof.Machine

set_option Elab.async false

/-! ## One pusher -/

section
variable (d : Nat) (v : Valve) (p : Pusher)

/-- A turn-off of a valve that is on starts the dead time; a wait of the valve ends in either case (R140). -/
theorem Pusher.off_eq : p.off d v = (if p.isOn v
    then { p.put v false with waiting := if p.waiting == some v then none else p.waiting, lastOff := some v, dead := some d }
    else { p with waiting := if p.waiting == some v then none else p.waiting }) := by
  cases waits : p.waiting == some v <;> cases v <;> simp [Pusher.off, waits, Pusher.isOn, Pusher.put]

theorem Pusher.off_isOn_same : (p.off d v).isOn v = false := by
  rw [Pusher.off_eq]; split
  · cases v <;> rfl
  next off => cases v <;> exact Bool.eq_false_iff.2 off

theorem Pusher.off_isOn_other : (p.off d v).isOn (otherValve v) = p.isOn (otherValve v) := by
  rw [Pusher.off_eq]; split <;> cases v <;> rfl

theorem Pusher.on_of_on {v : Valve} {p : Pusher} (on : p.isOn v = true) : p.on d v = p := if_pos on

/-- A valve that is off, commanded on: it waits out a dead time of the other valve, else it turns on (R140). -/
theorem Pusher.on_of_off {v : Valve} {p : Pusher} (off : p.isOn v = false) : p.on d v =
    if (p.off d (otherValve v)).dead.isSome && (p.off d (otherValve v)).lastOff != some v
    then { p.off d (otherValve v) with waiting := some v }
    else { (p.off d (otherValve v)).put v true with waiting := none } := by
  rw [Pusher.on, if_neg (by simp [off])]

theorem Pusher.on_runs_or_waits : (p.on d v).isOn v = true ∨ (p.on d v).waiting = some v := by
  cases on : p.isOn v with
  | true => exact .inl (by rw [Pusher.on_of_on d on, on])
  | false =>
    rw [Pusher.on_of_off d on]; split
    · exact .inr rfl
    · exact .inl (by cases v <;> rfl)

/-- The turn from EXTEND to RETRACT: the extend valve off, the retract valve commanded on. -/
def Pusher.turn : Pusher := (p.off d .extend).on d .retract

theorem Pusher.turn_extendOff : (p.turn d).extendOn = false := by
  have off : (p.off d .extend).extendOn = false := p.off_isOn_same d .extend
  unfold Pusher.turn
  cases on : (p.off d .extend).isOn .retract with
  | true => rw [Pusher.on_of_on d on, off]
  | false =>
    have off : ((p.off d .extend).off d .extend).extendOn = false := Pusher.off_isOn_same d .extend _
    rw [Pusher.on_of_off d on]; split <;> exact off

theorem Pusher.turn_retracts : (p.turn d).retractOn = true ∨ ((p.turn d).retractOn = false ∧ (p.turn d).waiting = some .retract) := by
  obtain on | waits := (p.off d .extend).on_runs_or_waits d .retract
  · exact .inl on
  · cases on : (p.turn d).retractOn with
    | true => exact .inl rfl
    | false => exact .inr ⟨rfl, waits⟩

/-- An extend valve that was on leaves a dead time to wait out (R140). -/
theorem Pusher.turn_waits {p : Pusher} (extend : p.extendOn = true) (retract : p.retractOn = false) :
    (p.turn d).retractOn = false ∧ (p.turn d).dead = some d := by
  obtain ⟨e, r, w, l, t⟩ := p
  obtain rfl : e = true := extend
  obtain rfl : r = false := retract
  have turned : (Pusher.mk true false w l t).turn d = ⟨false, false, some .retract, some .extend, some d⟩ := by
    rcases w with _ | _ | _ <;> rfl
  rw [turned]
  exact ⟨rfl, rfl⟩

/-- The end of the dead time lets a waiting valve turn on (R140). -/
theorem Pusher.deadEnd_eq : p.deadEnd = { p with
    extendOn := p.extendOn || p.waiting == some .extend, retractOn := p.retractOn || p.waiting == some .retract
    waiting := none, dead := none } := by
  obtain ⟨e, r, w, l, t⟩ := p
  rcases w with _ | _ | _ <;> simp [Pusher.deadEnd, Pusher.put]

end

/-! ## The pushers of the state -/

section
variable (l : Lane) (v : Valve) {s : State}

@[simp] theorem onPusher_same (f : Pusher → Pusher) (s : State) : (s.onPusher l f).dou.pusher.get l = f (s.dou.pusher.get l) := by
  simp [State.onPusher]

@[simp] theorem onPusher_other (f : Pusher → Pusher) (s : State) :
    (s.onPusher l f).dou.pusher.get (otherLane l) = s.dou.pusher.get (otherLane l) := by
  simp [State.onPusher, PerLane.get_upd_other _ (otherLane_ne l)]

theorem valveOff_pusher (s : State) :
    (valveOff l v s).dou.pusher.get l = (s.dou.pusher.get l).off s.params.deadTime v := onPusher_same l _ s

theorem valveOff_pusher_other (s : State) : (valveOff l v s).dou.pusher.get (otherLane l) = s.dou.pusher.get (otherLane l) :=
  onPusher_other l _ s

theorem valveOn_of_running (runs : s.lsc.line ≠ .stop) : valveOn l v s = s.onPusher l (Pusher.on s.params.deadTime v) := by
  rw [valveOn, show stopDrop s = false from beq_eq_false_iff_ne.2 runs]
  rfl

theorem valveOn_pusher (runs : s.lsc.line ≠ .stop) :
    (valveOn l v s).dou.pusher.get l = (s.dou.pusher.get l).on s.params.deadTime v := by
  rw [valveOn_of_running l v runs, onPusher_same]

theorem retractOff_off (s : State) : ((valveOff l .retract s).dou.pusher.get l).retractOn = false := by
  rw [valveOff_pusher]
  exact Pusher.off_isOn_same _ .retract _

theorem extendOn_valveOff_retract (s : State) :
    ((valveOff l .retract s).dou.pusher.get l).extendOn = (s.dou.pusher.get l).extendOn := by
  rw [valveOff_pusher]
  exact Pusher.off_isOn_other _ .retract _

theorem extendOff_off (s : State) : ((valveOff l .extend s).dou.pusher.get l).extendOn = false := by
  rw [valveOff_pusher]
  exact Pusher.off_isOn_same _ .extend _

end

end Sys2Proof.Machine
end

section
/-! SUPPORT. The push stroke (R82 to R85): the stroke timer's end, FLAP_SETTLE's end and the extended switch. -/

namespace Sys2Proof.Machine

set_option Elab.async false

variable {s : State} {l : Lane} {tag : Nat}

/-! ## The events -/

theorem exec_pushStrokeTimerRunOut (s : State) : exec .pushStrokeTimerRunOut s =
    .next (when s.mbc.strokeTimer.isSome (fun s => settle (strokeRunOut s)) s) := rfl

theorem exec_flapSettleEnd (s : State) : exec .flapSettleEnd s =
    .next (when s.mbc.flapTimer.isSome (fun s => settle (flapSettled s)) s) := rfl

theorem exec_extendedSwitchCloses (l : Lane) (s : State) : exec (.extendedSwitchCloses l) s =
    .next (when (s.mbc.phase == .extend && s.mbc.lane == some l) (endExtend l) s) := rfl

theorem lane_of_selected (selected : s.mbc.selected = some (l, tag)) : s.mbc.lane = some l := by
  rw [MergeBag.lane, selected]; rfl

/-! ## A stroke that is stopped (R83) -/

theorem strokeRunOut_of_stroke (phase : s.mbc.phase = .extend ∨ s.mbc.phase = .retract) : strokeRunOut s = strokeStopped s := by
  unfold strokeRunOut
  obtain phase | phase := phase <;> rw [phase]

theorem strokeRunOut_of_homing (phase : s.mbc.phase = .homing) : strokeRunOut s = homingFailed s := by
  unfold strokeRunOut; rw [phase]

theorem strokeStopped_eq (selected : s.mbc.selected = some (l, tag)) : strokeStopped s =
    raiseFault .baggerJam .out (if allocatedTag tag s then some tag else none) ((valveOff l .retract (valveOff l .extend s)).onMbc
      (fun m => { m with phase := .none, strokeTimer := none, stopped := true })) := by
  simp only [strokeStopped, jamDetail, lane_of_selected selected, selected]

theorem homingFailed_eq (selected : s.mbc.selected = some (l, tag)) : homingFailed s =
    endCycle (raiseFault .baggerJam .out none ((valveOff l .retract s).onMbc
      (fun m => { m with phase := .none, strokeTimer := none }))) := by
  simp only [homingFailed, lane_of_selected selected]

/-! ## A stroke that goes on (R83, R85) -/

theorem startStroke_of_selected (selected : s.mbc.selected = some (l, tag)) : startStroke s =
    valveOn l .extend (s.onMbc (fun m =>
      { m with bagger := .pushing, phase := .extend, strokeTimer := some s.params.strokeTimeout })) := by
  have lane : (s.onMbc (fun m =>
      { m with bagger := .pushing, phase := .extend, strokeTimer := some s.params.strokeTimeout })).mbc.lane = some l :=
    lane_of_selected selected
  simp only [startStroke, lane]

theorem startStroke_extends (selected : s.mbc.selected = some (l, tag)) (runs : s.lsc.line ≠ .stop) :
    ((startStroke s).dou.pusher.get l).extendOn = true ∨ ((startStroke s).dou.pusher.get l).waiting = some .extend := by
  rw [startStroke_of_selected selected, valveOn_pusher l .extend (by exact runs)]
  exact Pusher.on_runs_or_waits _ .extend _

theorem flapSettled_eq (selected : s.mbc.selected = some (l, tag)) : flapSettled s = valveOn l .extend (s.onMbc (fun m =>
    { m with bagger := .pushing, phase := .extend, strokeTimer := some s.params.strokeTimeout, flapTimer := none })) :=
  startStroke_of_selected (s := s.onMbc (fun m => { m with flapTimer := none })) selected

/-- The state at the turn from EXTEND to RETRACT, in DWELL. -/
def turnedAt (l : Lane) (s : State) : State :=
  (s.onMbc (fun m => { m with phase := .dwell, strokeTimer := none })).onPusher l (Pusher.turn s.params.deadTime)

theorem endExtend_eq (runs : s.lsc.line ≠ .stop) :
    endExtend l s = when ((s.dou.pusher.get l).turn s.params.deadTime).retractOn startRetract (turnedAt l s) := by
  have turned : valveOn l .retract (valveOff l .extend (s.onMbc (fun m => { m with phase := .dwell, strokeTimer := none }))) =
      turnedAt l s := by
    rw [valveOn_of_running l .retract (by simpa using runs)]
    simp [valveOff, turnedAt, State.onPusher, State.onDou, upd_upd, Function.comp_def]
    rfl
  have retracts : (turnedAt l s).dou.pusher.get l = (s.dou.pusher.get l).turn s.params.deadTime := onPusher_same l _ _
  rw [endExtend, turned, retracts]

theorem endExtend_pusher (runs : s.lsc.line ≠ .stop) :
    (endExtend l s).dou.pusher.get l = (s.dou.pusher.get l).turn s.params.deadTime := by
  rw [endExtend_eq runs, when_dou (by simp)]
  exact onPusher_same l _ _

/-- R83: the retract valve waits in DWELL, or RETRACT begins at once. -/
theorem endExtend_mbc (runs : s.lsc.line ≠ .stop) : (endExtend l s).mbc =
    if ((s.dou.pusher.get l).turn s.params.deadTime).retractOn
    then { s.mbc with phase := .retract, strokeTimer := some s.params.strokeTimeout }
    else { s.mbc with phase := .dwell, strokeTimer := none } := by
  rw [endExtend_eq runs]
  cases ((s.dou.pusher.get l).turn s.params.deadTime).retractOn <;> simp [turnedAt, startRetract]

theorem endExtend_frame (runs : s.lsc.line ≠ .stop) : { endExtend l s with mbc := s.mbc, dou := s.dou } = s := by
  rw [endExtend_eq runs]
  cases ((s.dou.pusher.get l).turn s.params.deadTime).retractOn <;> rfl

/-- Settles O47: the stroke timer's end by the phase, the end of FLAP_SETTLE, and the turn at the extended switch. -/
theorem pushStrokeRunsThroughItsPhases : Obligations.PushStrokeRunsThroughItsPhases := by
  intro s
  refine ⟨fun none => ?_, fun l tag runs selected phase => ⟨strokeStopped s, ?_, ?_⟩,
    fun l tag runs selected phase => ⟨homingFailed s, ?_, ?_⟩, fun none => ?_,
    fun l tag runs selected line => ⟨flapSettled s, ?_, ?_, startStroke_extends selected line, ?_⟩, fun l other => ?_,
    fun l phase lane line => ⟨endExtend l s, ?_, ?_, ?_, fun _ extend retract => ?_, endExtend_frame line⟩⟩
  · rw [exec_pushStrokeTimerRunOut, none]; rfl
  · rw [exec_pushStrokeTimerRunOut, Option.isSome_iff_ne_none.2 runs, when_true, strokeRunOut_of_stroke phase]
  · rw [strokeStopped_eq selected]
    refine ⟨by simp, ?_, ?_, ?_, standsWith_raiseFault _ _ _ _, by simp⟩
    · simp [extendOn_valveOff_retract, extendOff_off]
    · simp [retractOff_off]
    · simp [valveOff_pusher_other]
  · rw [exec_pushStrokeTimerRunOut, Option.isSome_iff_ne_none.2 runs, when_true, strokeRunOut_of_homing phase]
  · rw [homingFailed_eq selected]
    exact ⟨by simp [endCycle], by simp [retractOff_off], standsWith_raiseFault _ _ _ ((valveOff l .retract s).onMbc _), by simp⟩
  · rw [exec_flapSettleEnd, none]; rfl
  · rw [exec_flapSettleEnd, Option.isSome_iff_ne_none.2 runs, when_true]
  · simp [flapSettled_eq selected]
  · rw [flapSettled_eq selected, valveOn_of_running l _ (by exact line)]; rfl
  · rw [exec_extendedSwitchCloses]
    have ignored : (s.mbc.phase == .extend && s.mbc.lane == some l) = false := by
      simpa only [Bool.and_eq_false_iff, beq_eq_false_iff_ne] using other
    rw [ignored]; rfl
  · rw [exec_extendedSwitchCloses, phase, lane]; simp
  · rw [endExtend_pusher line]
    exact Pusher.turn_extendOff _ _
  · rw [endExtend_pusher line, endExtend_mbc line]
    obtain on | ⟨off, waits⟩ := (s.dou.pusher.get l).turn_retracts s.params.deadTime
    · exact .inr ⟨if_pos on, on⟩
    · exact .inl ⟨if_neg (by simp [off]), off, waits⟩
  · obtain ⟨off, dead⟩ := Pusher.turn_waits s.params.deadTime extend retract
    rw [endExtend_pusher line, endExtend_mbc line, if_neg (by simp [off])]
    exact ⟨rfl, dead⟩

end Sys2Proof.Machine
end

section
/-! SUPPORT. Which causes and entries of the Fault Table an operation of the stations can move (R142, R144, R149, R151): those of
the kinds that it raises or tells of, and no other. -/

namespace Sys2Proof.Machine

set_option Elab.async false

variable {s t u : State} {k : FaultKind} {ks : List FaultKind}

/-! ## The cause flags (R142) -/

theorem causes_get_set_other {j : FaultKind} (other : j ≠ k) (p q : Subject) (b : Bool) (c : CauseFlags) :
    (c.set k p b).get j q = c.get j q := by
  cases k <;> cases p <;> cases j <;> first | exact absurd rfl other | rfl | (cases q <;> rfl)

theorem causes_set_same {subj : Subject} {b : Bool} {c : CauseFlags} (same : c.get k subj = b) : c.set k subj b = c := by
  cases k <;> cases subj <;> subst same <;> rfl

/-- After a notice the flag stands as its owner tells. -/
theorem noticeCause_causes (k : FaultKind) (subj : Subject) (isPresent : Bool) (s : State) :
    (noticeCause k subj isPresent s).ft.causes = s.ft.causes.set k subj isPresent := by
  unfold noticeCause; split
  next same => exact (causes_set_same (beq_iff_eq.1 same)).symm
  next => dsimp only; split <;> simp

/-! ## Operations that move the faults of given kinds alone -/

/-- Between two states the causes of the given kinds alone have moved, and of every other pair the standing entry stays. -/
structure MovesFaults (ks : List FaultKind) (s t : State) : Prop where
  causes : ∀ j q, j ∉ ks → t.ft.causes.get j q = s.ft.causes.get j q
  pairs : ∀ j q, j ∉ ks → PairStays j q s t

theorem MovesFaults.of_same (ft : t.ft = s.ft) : MovesFaults ks s t :=
  ⟨fun _ _ _ => by rw [ft], fun _ _ _ => .of_same ft⟩

theorem MovesFaults.trans (first : MovesFaults ks s t) (second : MovesFaults ks t u) : MovesFaults ks s u :=
  ⟨fun j q other => (second.causes j q other).trans (first.causes j q other),
    fun j q other => (first.pairs j q other).trans (second.pairs j q other)⟩

/-- An operation moves what it moves from any state with the same Fault Table. -/
theorem MovesFaults.after (moves : MovesFaults ks t u) (ft : t.ft = s.ft) : MovesFaults ks s u := (MovesFaults.of_same ft).trans moves

theorem MovesFaults.before (moves : MovesFaults ks s t) (ft : u.ft = t.ft) : MovesFaults ks s u := moves.trans (.of_same ft)

theorem movesFaults_raiseFault (mem : k ∈ ks) (subj : Subject) (detail : Option Nat) (s : State) :
    MovesFaults ks s (raiseFault k subj detail s) := by
  refine ⟨fun j q other => ?_, fun j q other => pairStays_raiseFault (fun same => other (by rw [← same.1]; exact mem)) detail s⟩
  rw [raiseFault_causes]; split
  · exact causes_get_set_other (fun same => other (by rw [same]; exact mem)) ..
  · rfl

theorem movesFaults_noticeCause (mem : k ∈ ks) (subj : Subject) (isPresent : Bool) (s : State) :
    MovesFaults ks s (noticeCause k subj isPresent s) := by
  refine ⟨fun j q other => ?_, fun j q other => pairStays_noticeCause (fun same => other (by rw [← same.1]; exact mem)) isPresent s⟩
  rw [noticeCause_causes]
  exact causes_get_set_other (fun same => other (by rw [same]; exact mem)) ..

theorem movesFaults_when {f : State → State} (moves : ∀ s, MovesFaults ks s (f s)) (c : Bool) (s : State) :
    MovesFaults ks s (when c f s) := when_elim (.of_same rfl) fun _ => moves s

/-! ## The stations' own operations -/

/-- A raise or a notice told at a changed flag moves its own kind. -/
theorem movesFaults_told (mem : k ∈ ks) {subj : Subject} {detail : Option Nat} {c : Bool} {key : ReportKey} (changed : t.ft = s.ft) :
    MovesFaults ks s (raiseKey key (if c then raiseFault k subj detail t else noticeCause k subj false t)) := by
  have moves : MovesFaults ks t (if c then raiseFault k subj detail t else noticeCause k subj false t) := by
    split
    · exact movesFaults_raiseFault mem subj detail t
    · exact movesFaults_noticeCause mem subj false t
  exact (moves.after changed).before (by simp)

theorem movesFaults_evalBagLow (mem : .bagsLow ∈ ks) (s : State) : MovesFaults ks s (evalBagLow s) := by
  unfold evalBagLow; dsimp only; split
  · exact .of_same rfl
  · exact movesFaults_told mem rfl

theorem movesFaults_evalClipLow (mem : .clipsLow ∈ ks) (s : State) : MovesFaults ks s (evalClipLow s) := by
  unfold evalClipLow; dsimp only; split
  · exact .of_same rfl
  · exact movesFaults_told mem rfl

theorem movesFaults_setBagCount (mem : .bagsLow ∈ ks) (n : Nat) (s : State) : MovesFaults ks s (setBagCount n s) :=
  .before (t := evalBagLow (s.onMbc (fun m => { m with bagCount := n }))) ((movesFaults_evalBagLow mem _).after rfl)
    (by simp [setBagCount])

theorem movesFaults_setClipCount (mem : .clipsLow ∈ ks) (n : Nat) (s : State) : MovesFaults ks s (setClipCount n s) :=
  .before (t := evalClipLow (s.onTsc (fun m => { m with clipCount := n }))) ((movesFaults_evalClipLow mem _).after rfl)
    (by simp [setClipCount])

theorem movesFaults_openBag (mem : .bagsLow ∈ ks) (s : State) : MovesFaults ks s (openBag s) :=
  (movesFaults_setBagCount mem (s.mbc.bagCount - 1) s).before (by simp [openBag])

theorem movesFaults_waitForBags (mem : .bagsOut ∈ ks) (s : State) : MovesFaults ks s (waitForBags s) :=
  (movesFaults_raiseFault mem _ _ _).after rfl

theorem movesFaults_enterTwist (mem : .clipsOut ∈ ks) (s : State) : MovesFaults ks s (enterTwist s) := by
  unfold enterTwist; split
  · exact .of_same (by simp)
  · exact (movesFaults_raiseFault mem _ _ _).after rfl

/-- The two kinds that a request of the bagger can move. -/
def bagKinds : List FaultKind := [.bagsOut, .bagsLow]

theorem movesFaults_grantBag (c : AirChannel) (s : State) : MovesFaults bagKinds s (grantBag c s) := by
  unfold grantBag; split
  · exact (movesFaults_openBag (by decide) _).after (by simp)
  · exact .before (t := waitForBags (setWaiting .bag none s)) ((movesFaults_waitForBags (by decide) _).after rfl) (by simp)

theorem movesFaults_airRequest_bag (s : State) : MovesFaults bagKinds s (airRequest .bag s) := by
  unfold airRequest; split
  · exact .of_same rfl
  · split
    · exact movesFaults_grantBag _ s
    · exact .of_same rfl

theorem movesFaults_requestBag (s : State) : MovesFaults bagKinds s (requestBag s) := by
  unfold requestBag; dsimp only; split
  · exact .of_same rfl
  · exact (movesFaults_airRequest_bag _).after rfl

theorem movesFaults_bagCheck (s : State) : MovesFaults bagKinds s (bagCheck s) := by
  unfold bagCheck; split
  · exact movesFaults_requestBag s
  · exact movesFaults_waitForBags (by decide) s

theorem movesFaults_startRoute (s : State) : MovesFaults bagKinds s (startRoute s) := by
  unfold startRoute; split
  · exact .of_same (by simp)
  · exact movesFaults_bagCheck s

theorem movesFaults_selectLane (l : Lane) (r : LoafRecord) (s : State) : MovesFaults bagKinds s (selectLane l r s) := by
  unfold selectLane; dsimp only; split
  · exact (movesFaults_startRoute _).after rfl
  · exact .of_same (by simp [startHoming])

theorem movesFaults_selectIfReady (s : State) : MovesFaults bagKinds s (selectIfReady s) := by
  unfold selectIfReady; split
  · exact movesFaults_when (movesFaults_selectLane _ _) _ s
  · exact .of_same rfl

theorem strokeDone_ft (s : State) : (strokeDone s).ft = s.ft := by
  unfold strokeDone freeRejected; (repeat' split) <;> simp [endCycle]

theorem movesFaults_pusherHome (l : Lane) (s : State) : MovesFaults bagKinds s (pusherHome l s) := by
  unfold pusherHome; split
  · exact .of_same rfl
  · split
    · exact (movesFaults_startRoute _).after (by simp [motionHome])
    · exact .of_same ((strokeDone_ft _).trans (by simp [motionHome]))
    · exact .of_same rfl

end Sys2Proof.Machine
end

section
/-! SUPPORT. The bag check and the request it makes (R86, R87), the route's start (R82, R85) and the end of a stroke (R85, R91): one
equation for each case. -/

namespace Sys2Proof.Machine

set_option Elab.async false

variable {s t : State} {l : Lane} {r : LoafRecord}

/-! ## The bag check -/

/-- R87: no earlier blast runs, the pressure stands and BAG's channel is free, so that a request is granted at once. -/
def bagGranted (s : State) : Prop :=
  s.mbc.blast = none ∧ s.ama.pressureLow = false ∧
    ∃ c, (s.params.steering.get .bag).channel = some c ∧ s.ama.holder.get c = none

/-- The bagger in AIR_WAIT. -/
def airWaiting (s : State) : State := s.onMbc (fun m => { m with bagger := .airWait })

theorem requestBag_granted (granted : bagGranted s) (bags : 0 < s.mbc.bagCount) :
    ∃ c, s.ama.holder.get c = none ∧ requestBag s = openBag (becomeHolder .bag c (airWaiting s)) := by
  obtain ⟨blast, high, c, steered, free⟩ := granted
  refine ⟨c, free, ?_⟩
  have request : requestBag s = airRequest .bag (airWaiting s) := by simp [requestBag, airWaiting, blast]
  rw [request, airRequest_granted .bag c (airWaiting s) steered (by simp [airWaiting, AirArbiter.grantable, high, free])]
  exact grantBag_of_bags c bags

/-- A request that is not granted at once leaves the bagger in AIR_WAIT, and moves nothing else but the arbiter's waiting set. -/
theorem requestBag_waits (waits : ¬bagGranted s) : ∃ w, (∀ r, r ≠ .bag → w.get r = s.ama.waiting.get r) ∧ requestBag s =
    { s with mbc := { s.mbc with bagger := .airWait }, ama := { s.ama with waiting := w } } := by
  cases blast : s.mbc.blast with
  | some ms => exact ⟨s.ama.waiting, fun _ _ => rfl, if_pos (show (airWaiting s).mbc.blast.isSome = true by simp [airWaiting, blast])⟩
  | none =>
    have request : requestBag s = airRequest .bag (airWaiting s) := by simp [requestBag, airWaiting, blast]
    rw [request]
    cases steered : (s.params.steering.get .bag).channel with
    | none => exact ⟨s.ama.waiting, fun _ _ => rfl, airRequest_unsteered (s := airWaiting s) steered⟩
    | some c =>
      have held : s.ama.pressureLow = true ∨ s.ama.holder.get c ≠ none := by
        by_contra both
        simp only [not_or, Bool.not_eq_true, not_not] at both
        exact waits ⟨blast, both.1, c, steered, both.2⟩
      exact ⟨_, fun r other => PerRequester.get_upd_other _ other _,
        airRequest_waits .bag c (airWaiting s) steered (grantable_eq_false (c := c) (a := s.ama) held)⟩

theorem bagCheck_of_bags (bags : 0 < s.mbc.bagCount) : bagCheck s = requestBag s := if_pos bags

theorem bagCheck_of_none (empty : s.mbc.bagCount = 0) : bagCheck s = waitForBags s := by
  rw [bagCheck, if_neg (by omega)]

/-- After its bag check with a bag left, the bagger waits for air or opens one. -/
theorem requestBag_bagger (bags : 0 < s.mbc.bagCount) : (requestBag s).mbc.bagger = .airWait ∨
    ((requestBag s).mbc.bagger = .opening ∧ (requestBag s).mbc.bagCount = s.mbc.bagCount - 1) := by
  by_cases granted : bagGranted s
  · obtain ⟨c, -, opened⟩ := requestBag_granted granted bags
    exact .inr (by simp [opened, openBag_mbc, airWaiting])
  · obtain ⟨w, -, waits⟩ := requestBag_waits granted
    exact .inl (by rw [waits])

/-! ## The route -/

theorem startRoute_reject (route : s.mbc.route = some .reject) :
    startRoute s = setFlap true (s.onMbc (fun m => { m with phase := .flapSettle, flapTimer := some 100 })) := by
  simp only [startRoute, route]

theorem startRoute_bag (route : s.mbc.route = some .bag) : startRoute s = bagCheck s := by
  simp only [startRoute, route]

/-! ## The end of a stroke -/

theorem strokeDone_bag (route : s.mbc.route = some .bag) : strokeDone s =
    if s.mbc.confirmed && (selectedInBagger s).isSome then s.onMbc (fun m => { m with bagger := .handoff })
    else if s.mbc.confirmWatch.isSome then s.onMbc (fun m => { m with bagger := .confirm }) else endCycle s := by
  simp only [strokeDone, route]

theorem strokeDone_reject (route : s.mbc.route = some .reject) (head : selectedHead s = some (l, r)) : strokeDone s =
    endCycle (setFlap false (accumHeadLeft l r (countRejected r (rejectCounter r) (removeAccumHead l s)))) := by
  simp only [strokeDone, route, freeRejected, head]

theorem selectedHead_congr (mbc : t.mbc.selected = s.mbc.selected) (tt : t.tt = s.tt) : selectedHead t = selectedHead s := by
  unfold selectedHead; rw [mbc, tt]

theorem selectedInBagger_congr (mbc : t.mbc.selected = s.mbc.selected) (tt : t.tt = s.tt) :
    selectedInBagger t = selectedInBagger s := by
  unfold selectedInBagger; rw [mbc, tt]

theorem selected_of_head (head : selectedHead s = some (l, r)) : s.mbc.selected = some (l, r.tag) := by
  revert head
  fun_cases selectedHead s with
  | case1 m tag selected q rest accum same =>
    rintro ⟨⟩
    rw [selected, beq_iff_eq.1 same]
  | case2 | case3 | case4 => exact fun absent => absurd absent nofun

theorem countRejected_rejected (r : LoafRecord) (f : Counters → Counters) (s : State) :
    (countRejected r f s).tu.live.line.rejected = bump s.tu.live.line.rejected := by
  rw [countRejected, countRecord_line]; rfl

/-- The records left in ACCUM when its head has gone: the rest, in their order. -/
theorem accumHeadLeft_tags (l : Lane) (left : LoafRecord) (s : State) :
    ((accumHeadLeft l left s).tt.accum.get l).map LoafRecord.tag = (s.tt.accum.get l).map LoafRecord.tag := by
  unfold accumHeadLeft; dsimp only; split
  · simp [startWatch]
  · rw [startMergeWindow_tags]; simp

end Sys2Proof.Machine
end

section
/-! SUPPORT. The pushers' home switches and the end of a dead time (R82 to R85, R91, R140, R142). -/

namespace Sys2Proof.Machine

set_option Elab.async false

variable {s : State} {l : Lane} {r : LoafRecord}

/-! ## The home switch -/

/-- The state with a home switch changed and the cause of BAGGER_JAM told (R142). -/
def homeSwitched (l : Lane) (closed : Bool) (s : State) : State :=
  noticeCause .baggerJam .out (pusherOut { s.pins with home := s.pins.home.upd l (fun _ => closed) })
    (s.onPins (fun p => { p with home := p.home.upd l (fun _ => closed) }))

theorem exec_pusherHomeSwitchChange (l : Lane) (closed : Bool) (s : State) : exec (.pusherHomeSwitchChange l closed) s =
    .next (settle (when closed (pusherHome l) (homeSwitched l closed s))) := rfl

/-- What a home switch's change leaves of the state: all but the pins, the faults and the lanes they hold. -/
structure SwitchKeeps (s t : State) : Prop where
  params : t.params = s.params
  tt : t.tt = s.tt
  mbc : t.mbc = s.mbc
  ama : t.ama = s.ama
  lsc : t.lsc = s.lsc
  dou : t.dou = s.dou

theorem switchKeeps_homeSwitched (l : Lane) (closed : Bool) (s : State) : SwitchKeeps s (homeSwitched l closed s) := by
  constructor <;> simp [homeSwitched]

theorem homeSwitched_rejected (l : Lane) (closed : Bool) (s : State) :
    (homeSwitched l closed s).tu.live.line.rejected = s.tu.live.line.rejected :=
  counter_of_lineCounts LineBlock.rejected (lineCounts_noticeCause ..)

theorem homeSwitched_cause (l : Lane) (closed : Bool) (s : State) :
    (homeSwitched l closed s).ft.causes.baggerJam = pusherOut (homeSwitched l closed s).pins := by
  rw [homeSwitched, noticeCause_causes]
  simp [CauseFlags.set]

/-- R142: what follows the switch moves the bag magazine's faults alone, so the cause stands as the switches tell. -/
theorem homeSwitch_cause (l : Lane) (closed : Bool) (s : State) :
    let u := when closed (pusherHome l) (homeSwitched l closed s)
    u.ft.causes.baggerJam = (!u.pins.home.a || !u.pins.home.b) := by
  have moved := movesFaults_when (movesFaults_pusherHome l) closed (homeSwitched l closed s)
  have kept : (when closed (pusherHome l) (homeSwitched l closed s)).pins = (homeSwitched l closed s).pins := by simp
  dsimp only
  rw [kept]
  exact (moved.causes .baggerJam .out (by decide)).trans (homeSwitched_cause l closed s)

theorem homeSwitched_pins (l : Lane) (closed : Bool) (s : State) :
    (homeSwitched l closed s).pins = { s.pins with home := s.pins.home.upd l (fun _ => closed) } := by
  simp [homeSwitched]

/-! ## What the closing switch ends -/

theorem pusherHome_ignored (other : s.mbc.lane ≠ some l ∨ (s.mbc.phase ≠ .homing ∧ s.mbc.phase ≠ .retract)) :
    pusherHome l s = s := by
  unfold pusherHome; split
  · rfl
  next lane =>
    obtain other | ⟨notHoming, notRetract⟩ := other
    · exact absurd (by simpa using lane) other
    · split
      next homing => exact absurd homing notHoming
      next retract => exact absurd retract notRetract
      next => rfl

theorem pusherHome_homing (lane : s.mbc.lane = some l) (phase : s.mbc.phase = .homing) :
    pusherHome l s = startRoute (motionHome l s) := by
  simp [pusherHome, lane, phase]

theorem pusherHome_retract (lane : s.mbc.lane = some l) (phase : s.mbc.phase = .retract) :
    pusherHome l s = strokeDone (motionHome l s) := by
  simp [pusherHome, lane, phase]

theorem motionHome_mbc (l : Lane) (s : State) : (motionHome l s).mbc = { s.mbc with phase := .none, strokeTimer := none } := by
  simp [motionHome]

theorem motionHome_tt (l : Lane) (s : State) : (motionHome l s).tt = s.tt := by simp [motionHome]

theorem motionHome_retractOff (l : Lane) (s : State) : ((motionHome l s).dou.pusher.get l).retractOn = false :=
  retractOff_off l _

theorem setFlap_on (runs : s.lsc.line ≠ .stop) : (setFlap true s).dou.flap = true := by
  rw [setFlap, if_pos rfl, driveOn_of_running runs]; rfl

/-- R82, R85, R86: a homing that ends goes on by the route. -/
structure HomingDone (l : Lane) (s t : State) : Prop where
  retractOff : (t.dou.pusher.get l).retractOn = false
  tt : t.tt = s.tt
  reject : s.mbc.route = some .reject → (s.lsc.line ≠ .stop → t.dou.flap = true) ∧
    t.mbc = { s.mbc with phase := .flapSettle, strokeTimer := none, flapTimer := some 100 }
  noBag : s.mbc.route = some .bag → s.mbc.bagCount = 0 → standsWith .bagsOut .out none t = true ∧
    t.mbc = { s.mbc with phase := .none, strokeTimer := none, bagger := .select }
  bag : s.mbc.route = some .bag → 0 < s.mbc.bagCount → t.mbc.phase = .none ∧ t.mbc.strokeTimer = none ∧
    (t.mbc.bagger = .airWait ∨ (t.mbc.bagger = .opening ∧ t.mbc.bagCount = s.mbc.bagCount - 1))

theorem homingDone_pusherHome (lane : s.mbc.lane = some l) (phase : s.mbc.phase = .homing) :
    HomingDone l s (pusherHome l s) := by
  rw [pusherHome_homing lane phase]
  have mbc := motionHome_mbc l s
  refine ⟨by simp [motionHome_retractOff], by simp [motionHome], fun route => ?_, fun route empty => ?_, fun route bags => ?_⟩
  · rw [startRoute_reject (by rw [mbc]; exact route)]
    exact ⟨fun runs => setFlap_on (by simpa [motionHome] using runs), by simp [mbc]⟩
  · rw [startRoute_bag (by rw [mbc]; exact route), bagCheck_of_none (by rw [mbc]; exact empty)]
    exact ⟨standsWith_raiseFault _ _ _ _, by simp [waitForBags, mbc]⟩
  · have bags : 0 < (motionHome l s).mbc.bagCount := by rw [mbc]; exact bags
    rw [startRoute_bag (by rw [mbc]; exact route), bagCheck_of_bags bags]
    exact ⟨by simp [mbc], by simp [mbc], by simpa [mbc] using requestBag_bagger bags⟩

/-- R91: the end of a bag's stroke waits for the confirm, hands off, or ends the cycle. -/
theorem pusherHome_bag (lane : s.mbc.lane = some l) (phase : s.mbc.phase = .retract) (route : s.mbc.route = some .bag) :
    ((pusherHome l s).dou.pusher.get l).retractOn = false ∧ (pusherHome l s).mbc.phase = .none ∧
    (pusherHome l s).mbc.strokeTimer = none ∧ (pusherHome l s).tt = s.tt ∧
    (pusherHome l s).mbc.bagger = (if s.mbc.confirmed && (selectedInBagger s).isSome then .handoff
      else if s.mbc.confirmWatch.isSome then .confirm else .idle) := by
  have mbc := motionHome_mbc l s
  have inBagger : selectedInBagger (motionHome l s) = selectedInBagger s :=
    selectedInBagger_congr (by rw [mbc]) (motionHome_tt l s)
  rw [pusherHome_retract lane phase, strokeDone_bag (by rw [mbc]; exact route), inBagger, mbc]
  (repeat' split) <;> simp [endCycle, motionHome_retractOff, mbc]

/-- R85: the end of a reject's stroke frees the record. -/
theorem pusherHome_reject (phase : s.mbc.phase = .retract) (route : s.mbc.route = some .reject)
    (head : selectedHead s = some (l, r)) :
    ((pusherHome l s).dou.pusher.get l).retractOn = false ∧ (pusherHome l s).mbc.phase = .none ∧
    (pusherHome l s).mbc.bagger = .idle ∧ (pusherHome l s).mbc.route = none ∧ (pusherHome l s).mbc.selected = none ∧
    (pusherHome l s).dou.flap = false ∧
    ((pusherHome l s).tt.accum.get l).map LoafRecord.tag = (s.tt.accum.get l).tail.map LoafRecord.tag ∧
    (pusherHome l s).tu.live.line.rejected = bump s.tu.live.line.rejected := by
  have mbc := motionHome_mbc l s
  have tt := motionHome_tt l s
  have homed : selectedHead (motionHome l s) = some (l, r) := (selectedHead_congr (by rw [mbc]) tt).trans head
  rw [pusherHome_retract (lane_of_selected (selected_of_head head)) phase, strokeDone_reject (by rw [mbc]; exact route) homed]
  refine ⟨?_, by simp [endCycle, mbc], rfl, rfl, rfl, rfl, ?_, ?_⟩
  · simp [endCycle, motionHome_retractOff]
  · have tags := accumHeadLeft_tags l r (countRejected r (rejectCounter r) (removeAccumHead l (motionHome l s)))
    simpa [endCycle, removeAccumHead, State.onAccum, tt] using tags
  · have counted := countRejected_rejected r (rejectCounter r) (removeAccumHead l (motionHome l s))
    simpa [endCycle, motionHome] using counted

/-! ## The dead time -/

theorem exec_deadTimeEnd (l : Lane) (s : State) : exec (.deadTimeEnd l) s =
    .next (when (s.dou.pusher.get l).dead.isSome (deadTimeOver l) s) := rfl

theorem deadTimeOver_pusher (l : Lane) (s : State) :
    (deadTimeOver l s).dou.pusher.get l = (s.dou.pusher.get l).deadEnd := by
  rw [deadTimeOver, when_dou (by simp), onPusher_same]

theorem deadTimeOver_mbc (l : Lane) (s : State) : (deadTimeOver l s).mbc =
    (if (s.dou.pusher.get l).waiting = some .retract ∧ s.mbc.phase = .dwell ∧ s.mbc.lane = some l then
      { s.mbc with phase := .retract, strokeTimer := some s.params.strokeTimeout } else s.mbc) := by
  have retracts : ((s.dou.pusher.get l).waiting == some .retract && s.mbc.phase == .dwell && s.mbc.lane == some l) = true ↔
      (s.dou.pusher.get l).waiting = some .retract ∧ s.mbc.phase = .dwell ∧ s.mbc.lane = some l := by
    simp [and_assoc]
  rw [deadTimeOver]
  by_cases turns : (s.dou.pusher.get l).waiting = some .retract ∧ s.mbc.phase = .dwell ∧ s.mbc.lane = some l
  · rw [if_pos turns, retracts.2 turns]; rfl
  · rw [if_neg turns, Bool.eq_false_iff.2 (mt retracts.1 turns)]; rfl

theorem deadTimeOver_frame (l : Lane) (s : State) : { deadTimeOver l s with mbc := s.mbc, dou := s.dou } = s := by
  unfold deadTimeOver
  exact when_elim (P := fun t => { t with mbc := s.mbc, dou := s.dou } = s) rfl fun _ => rfl

end Sys2Proof.Machine
end

section
/-! SUPPORT. The obligation about the home switches and the dead time. -/

namespace Sys2Proof.Machine

set_option Elab.async false

/-- Settles O48: the closing switch by the phase it ends, and a valve that waited out the dead time. -/
theorem homeSwitchEndsTheStroke : Obligations.HomeSwitchEndsTheStroke := by
  intro l s
  refine ⟨fun closed => ⟨_, exec_pusherHomeSwitchChange l closed s, ?_⟩, fun none => ?_, fun runs => ⟨deadTimeOver l s, ?_, ?_⟩⟩
  · have kept := switchKeeps_homeSwitched l closed s
    refine ⟨by simp [homeSwitched_pins], homeSwitch_cause l closed s, fun ignored => ?_, ?_, ?_, ?_⟩
    · have ignored : when closed (pusherHome l) (homeSwitched l closed s) = homeSwitched l closed s := by
        obtain rfl | other := ignored
        · rfl
        · exact when_elim (P := (· = _)) rfl fun _ => pusherHome_ignored (by rw [kept.mbc]; exact other)
      rw [ignored]
      exact ⟨kept.mbc, kept.dou, kept.tt⟩
    · rintro rfl lane phase
      obtain ⟨off, tt, reject, noBag, bag⟩ :=
        homingDone_pusherHome (l := l) (s := homeSwitched l true s) (by rw [kept.mbc]; exact lane) (by rw [kept.mbc]; exact phase)
      rw [kept.mbc] at reject noBag bag
      rw [kept.lsc] at reject
      exact ⟨off, tt.trans kept.tt, reject, noBag, bag⟩
    · rintro rfl lane phase route
      rw [← kept.mbc] at lane phase route
      obtain ⟨off, phase, timer, tt, bagger⟩ := pusherHome_bag lane phase route
      rw [kept.mbc, selectedInBagger_congr (by rw [kept.mbc]) kept.tt] at bagger
      exact ⟨off, phase, timer, tt.trans kept.tt, bagger⟩
    · rintro r rfl phase route head
      rw [← kept.mbc] at phase route
      rw [← homeSwitched_rejected l true s, ← kept.tt]
      exact pusherHome_reject phase route ((selectedHead_congr (by rw [kept.mbc]) kept.tt).trans head)
  · rw [exec_deadTimeEnd, none]; rfl
  · rw [exec_deadTimeEnd, Option.isSome_iff_ne_none.2 runs, when_true]
  · rw [deadTimeOver_pusher, Pusher.deadEnd_eq]
    exact ⟨rfl, rfl, rfl, rfl, deadTimeOver_mbc l s, deadTimeOver_frame l s⟩

end Sys2Proof.Machine
end

section
/-! SUPPORT. TYER_RESOLVE (R97): the owner's answers, and what a retie and a discard make of the tyer. -/

namespace Sys2Proof.Machine

set_option Elab.async false

variable {s : State} {r : LoafRecord} {action : Byte}

/-! ## The clip check (R93) -/

theorem enterTwist_tyer (s : State) : (enterTwist s).tsc.tyer = .twist := by
  unfold enterTwist startTwist; split <;> simp

theorem enterTwist_of_clips (clips : 0 < s.tsc.clipCount) : enterTwist s = startTwist s := if_pos clips

theorem enterTwist_of_none (empty : s.tsc.clipCount = 0) : enterTwist s =
    raiseFault .clipsOut .out none (s.onTsc (fun t => { t with tyer := .twist, tieTimer := none, phaseTimer := none })) := by
  rw [enterTwist, if_neg (by omega)]

theorem startTwist_tsc (s : State) : (startTwist s).tsc = { s.tsc with
    tyer := .twist, tieTimer := some s.params.tieTimeout, leftHome := false, phaseTimer := some 200 } := by
  simp [startTwist]

theorem startTwist_drive (runs : s.lsc.line ≠ .stop) : (startTwist s).dou.tyer = true := by
  rw [startTwist, setTyer, if_pos rfl, driveOn_of_running (by exact runs)]; rfl

/-- A clip check that finds no clip. -/
theorem enterTwist_waits (empty : s.tsc.clipCount = 0) :
    (enterTwist s).tsc = { s.tsc with tyer := .twist, tieTimer := none, phaseTimer := none } ∧
    standsWith .clipsOut .out none (enterTwist s) = true := by
  rw [enterTwist_of_none empty]
  exact ⟨by simp, standsWith_raiseFault _ _ _ _⟩

/-! ## The owner's answers -/

theorem exec_tyerResolve (tok action : Byte) (s : State) :
    exec (.tyerResolve tok action) s = .next (takeRequest 0x2D tok (tyerResolveOwn action) flow s) := rfl

theorem tyerResolve_beyond (beyond : 1 < action.toNat) : tyerResolveOwn action s = (badValue, s) := if_pos beyond

theorem tyerResolve_notJammed (known : action.toNat ≤ 1) (sound : s.tt.tyer.any LoafRecord.jammed = false) :
    tyerResolveOwn action s = (wrongState, s) := by
  rw [tyerResolveOwn, if_neg (by omega)]
  split
  next r tyer =>
    rw [tyer] at sound
    exact if_pos (by simpa using sound)
  next => rfl

theorem tyerResolve_jammed (known : action.toNat ≤ 1) (tyer : s.tt.tyer = some r) (jammed : r.jammed = true) :
    tyerResolveOwn action s =
      if action = 1 then (answerOk [], advanceLine (discardJammed r s))
      else if !producing s || !s.pins.tyerHome then (wrongState, s)
      else (answerOk [], advanceLine (retie s)) := by
  rw [tyerResolveOwn, if_neg (by omega)]
  simp only [tyer, jammed, Bool.not_true, Bool.false_eq_true, if_false]

theorem retie_refused (jam : s.tt.tyer.any LoafRecord.jammed = true) (out : producing s = false ∨ s.pins.tyerHome = false) :
    tyerResolveOwn 0 s = (wrongState, s) := by
  obtain ⟨r, tyer, jammed⟩ := (Option.any_eq_true _ _).1 jam
  rw [tyerResolve_jammed (by decide) tyer jammed, if_neg (by decide)]
  exact if_pos (by obtain out | out := out <;> simp [out])

theorem retie_accepted (tyer : s.tt.tyer = some r) (jammed : r.jammed = true) (makes : producing s = true)
    (home : s.pins.tyerHome = true) : tyerResolveOwn 0 s = (answerOk [], advanceLine (retie s)) := by
  rw [tyerResolve_jammed (by decide) tyer jammed, if_neg (by decide), if_neg (by simp [makes, home])]

theorem discard_accepted (tyer : s.tt.tyer = some r) (jammed : r.jammed = true) :
    tyerResolveOwn 1 s = (answerOk [], advanceLine (discardJammed r s)) := by
  rw [tyerResolve_jammed (by decide) tyer jammed, if_pos rfl]

/-! ## The retie and the discard -/

/-- The state a retie makes its clip check in: the mark cleared and the cause of TYER_JAM ended. -/
def unjammed (s : State) : State :=
  noticeCause .tyerJam .out false (s.onTt (fun t => { t with tyer := t.tyer.map (fun r => { r with jammed := false }) }))

theorem retie_eq (s : State) : retie s = enterTwist (unjammed s) := rfl

theorem noticeCause_tyerJam (s : State) : (noticeCause .tyerJam .out false s).ft.causes.tyerJam = false := by
  rw [noticeCause_causes]; rfl

theorem retie_cause (s : State) : (retie s).ft.causes.tyerJam = false :=
  ((movesFaults_enterTwist (ks := [.clipsOut]) (by decide) (unjammed s)).causes .tyerJam .out (by decide)).trans
    (noticeCause_tyerJam _)

theorem discardJammed_rejected (r : LoafRecord) (s : State) :
    (discardJammed r s).tu.live.line.rejected = bump s.tu.live.line.rejected := by
  rw [discardJammed, counter_of_lineCounts LineBlock.rejected (lineCounts_noticeCause ..), countRejected_rejected]
  rfl

theorem stopDrop_of_makes (makes : producing s = true) : s.lsc.line ≠ .stop :=
  beq_eq_false_iff_ne.1 (stopDrop_of_producing makes)

/-- Settles O31: the owner's answers in their order, the retie at its clip check, and the discard's count. -/
theorem tyerResolveEndsTheJam : Obligations.TyerResolveEndsTheJam := by
  refine fun tok action s h => ⟨fun beyond => ?_, fun known sound => ?_, fun jam out => ?_,
    fun r tyer jammed makes home => ⟨retie s, ?_, ?_, retie_cause s, enterTwist_tyer _, ?_, fun clips => ?_, fun empty => ?_⟩,
    fun r tyer jammed => ⟨discardJammed r s, ?_, ?_, noticeCause_tyerJam _, ?_, ?_, discardJammed_rejected r s⟩⟩
  · rw [exec_tyerResolve, takeRequest_refused h (tyerResolve_beyond beyond) (by decide)]; rfl
  · rw [exec_tyerResolve, takeRequest_refused h (tyerResolve_notJammed known sound) (by decide)]; rfl
  · rw [exec_tyerResolve, takeRequest_refused h (retie_refused jam out) (by decide)]; rfl
  · rw [exec_tyerResolve, takeRequest_accepted h (retie_accepted tyer jammed makes home)]
  · simp [retie, tyer]
  · simp [retie]
  · have runs : (unjammed s).lsc.line ≠ .stop := by simpa [unjammed] using stopDrop_of_makes makes
    rw [retie_eq, enterTwist_of_clips (by simpa [unjammed] using clips)]
    exact ⟨by rw [startTwist_tsc], by rw [startTwist_tsc]; simp [unjammed], by rw [startTwist_tsc], startTwist_drive runs⟩
  · obtain ⟨tsc, stands⟩ := enterTwist_waits (s := unjammed s) (by simpa [unjammed] using empty)
    rw [retie_eq, tsc]
    exact ⟨rfl, rfl, stands⟩
  · rw [exec_tyerResolve, takeRequest_accepted h (discard_accepted tyer jammed)]
  · simp [discardJammed]
  · simp [discardJammed]
  · simp [discardJammed]

end Sys2Proof.Machine
end

section
/-! SUPPORT. What a bag request leaves of the tyer when a bag is left (R87), and the end of a cause that its notice removes
(R149, R151). -/

namespace Sys2Proof.Machine

set_option Elab.async false

variable {s t u : State} {k : FaultKind} {subj : Subject}

/-! ## The tyer beside a bag request -/

/-- The tyer's own block, its outputs and its place with the arbiter are as they were. -/
structure TyerKept (s t : State) : Prop where
  tsc : t.tsc = s.tsc
  drive : t.dou.tyer = s.dou.tyer
  purge : t.dou.purge = s.dou.purge
  waits : t.ama.waiting.get .purge = s.ama.waiting.get .purge
  holds : ∀ c, s.ama.holder.get c = some .purge → t.ama.holder.get c = some .purge

theorem TyerKept.trans (first : TyerKept s t) (second : TyerKept t u) : TyerKept s u :=
  ⟨second.tsc.trans first.tsc, second.drive.trans first.drive, second.purge.trans first.purge, second.waits.trans first.waits,
    fun c held => second.holds c (first.holds c held)⟩

theorem TyerKept.of_same (tsc : t.tsc = s.tsc := by simp) (drive : t.dou.tyer = s.dou.tyer := by simp)
    (purge : t.dou.purge = s.dou.purge := by simp) (ama : t.ama = s.ama := by simp) : TyerKept s t :=
  ⟨tsc, drive, purge, by rw [ama], fun c held => by rw [ama]; exact held⟩

theorem tyerKept_when {f : State → State} (kept : ∀ s, TyerKept s (f s)) (c : Bool) (s : State) : TyerKept s (when c f s) :=
  when_elim .of_same fun _ => kept s

theorem tyerKept_requestBag (bags : 0 < s.mbc.bagCount) : TyerKept s (requestBag s) := by
  by_cases granted : bagGranted s
  · obtain ⟨c, free, opened⟩ := requestBag_granted granted bags
    rw [opened]
    have ama : (openBag (becomeHolder .bag c (airWaiting s))).ama = (becomeHolder .bag c (airWaiting s)).ama := by simp
    refine ⟨by simp [airWaiting], by simp [airWaiting], by simp [airWaiting], by rw [ama]; rfl, fun d held => ?_⟩
    have other : d ≠ c := fun same => by rw [same, free] at held; exact absurd held nofun
    rw [ama, becomeHolder_eq]
    exact (PerAir.get_upd_other _ other _).trans held
  · obtain ⟨w, others, waits⟩ := requestBag_waits granted
    rw [waits]
    exact ⟨rfl, rfl, rfl, others .purge (by decide), fun _ held => held⟩

theorem movesFaults_requestBag_of_bags (bags : 0 < s.mbc.bagCount) : MovesFaults [.bagsLow] s (requestBag s) := by
  by_cases granted : bagGranted s
  · obtain ⟨c, -, opened⟩ := requestBag_granted granted bags
    rw [opened]
    exact (movesFaults_openBag (by decide) _).after (by simp [airWaiting])
  · obtain ⟨w, -, waits⟩ := requestBag_waits granted
    exact .of_same (by rw [waits])

/-! ## The end of a cause -/

theorem removeEntry_left {f : FaultEntry} (left : f ∈ (removeEntry k subj s).ft.entries) :
    f ∈ s.ft.entries ∧ f.isPair k subj = false := by
  have itself : f.isPair f.kind f.subject = true := by simp [FaultEntry.isPair]
  have old : f ∈ s.ft.entries.filter (fun e => !e.isPair k subj) := by
    rw [← filter_entries]
    revert left
    unfold removeEntry
    refine when_elim (P := fun t => f ∈ t.ft.entries → _) ?_ fun _ left => ?_
    · exact fun left => by simpa using left
    · simpa using (pairStays_presentNext _).old f left itself
  simpa using List.mem_filter.1 old

theorem removeEntry_gone (k : FaultKind) (subj : Subject) (s : State) : standing k subj (removeEntry k subj s) = false := by
  rw [Bool.eq_false_iff]
  intro stands
  obtain ⟨f, left, pair⟩ := List.any_eq_true.1 stands
  exact Bool.eq_false_iff.1 (removeEntry_left left).2 pair

/-- R151: the end of a cause takes the entry that its end removes. -/
theorem noticeCause_ended (caused : s.ft.causes.get k subj = true) (removed : ∀ t : State, k.removedAtEnd t = true) :
    standing k subj (noticeCause k subj false s) = false := by
  have changed : (s.ft.causes.get k subj == false) = false := by rw [caused]; rfl
  simp only [noticeCause, changed, Bool.false_eq_true, if_false, removed, Bool.not_false, Bool.and_self, when_true]
  split
  · unfold standing
    rw [tableChanged_entries]
    exact removeEntry_gone k subj _
  next absent => exact Bool.eq_false_iff.2 absent

end Sys2Proof.Machine
end

section
/-! SUPPORT. MAGAZINE_LOAD (R99): the owner's answers, the waiting station's check, and the end of the cause. -/

namespace Sys2Proof.Machine

set_option Elab.async false

variable {s : State} {which : Byte} {count : BitVec 16}

/-! ## The owner's answers -/

theorem exec_magazineLoad (tok which : Byte) (count : BitVec 16) (s : State) :
    exec (.magazineLoad tok which count) s = .next (takeRequest 0x2C tok (magazineLoadOwn which count) settle s) := rfl

/-- The bag magazine loaded: the count, and the check of a bagger that waits. -/
def bagsSet (n : Nat) (s : State) : State := when (decide (0 < n)) bagsLoaded (setBagCount n s)

/-- The clip magazine loaded. -/
def clipsSet (n : Nat) (s : State) : State := when (decide (0 < n)) clipsLoaded (setClipCount n s)

theorem magazineLoad_refused (beyond : 1 < which.toNat ∨ 9999 < count.toNat) : magazineLoadOwn which count s = (badValue, s) :=
  if_pos beyond

theorem magazineLoad_bags (small : count.toNat ≤ 9999) : magazineLoadOwn 0 count s =
    (⟨0, u16 (bagsSet count.toNat s).mbc.bagCount ++ flag (bagsSet count.toNat s).mbc.bagLow⟩, bagsSet count.toNat s) := by
  have known : ¬(1 < (0 : Byte).toNat ∨ 9999 < count.toNat) := by simpa using small
  rw [magazineLoadOwn, if_neg known, if_pos rfl]
  rfl

theorem magazineLoad_clips (small : count.toNat ≤ 9999) : magazineLoadOwn 1 count s =
    (⟨0, u16 (clipsSet count.toNat s).tsc.clipCount ++ flag (clipsSet count.toNat s).tsc.clipLow⟩, clipsSet count.toNat s) := by
  have known : ¬(1 < (1 : Byte).toNat ∨ 9999 < count.toNat) := by simpa using small
  rw [magazineLoadOwn, if_neg known, if_neg (by decide)]
  rfl

theorem positive_iff (count : BitVec 16) : 0 < count.toNat ↔ count ≠ 0 := by
  rw [Nat.pos_iff_ne_zero, ne_eq, ne_eq, ← BitVec.toNat_inj]; rfl

/-! ## The bags -/

/-- R86: a bagger that waits for a bag at its check. -/
def waitsForBag (s : State) : Prop := s.mbc.bagger = .select ∧ s.mbc.route = some .bag ∧ s.mbc.phase = .none

theorem bagsSet_zero (s : State) : bagsSet 0 s = setBagCount 0 s := rfl

/-- The check a load of bags makes. -/
def bagChecked (n : Nat) (s : State) : State :=
  when (s.mbc.bagger == .select && s.mbc.route == some .bag && s.mbc.phase == .none) requestBag (setBagCount n s)

theorem bagsSet_pos {n : Nat} (loaded : 0 < n) (s : State) :
    bagsSet n s = noticeCause .bagsOut .out false (bagChecked n s) := by
  rw [bagsSet, decide_eq_true loaded, when_true, bagsLoaded, bagChecked, setBagCount_mbc]

theorem bagChecked_waits (n : Nat) (waits : waitsForBag s) : bagChecked n s = requestBag (setBagCount n s) := by
  obtain ⟨bagger, route, phase⟩ := waits
  rw [bagChecked, bagger, route, phase]; rfl

theorem bagChecked_idle (n : Nat) (busy : ¬waitsForBag s) : bagChecked n s = setBagCount n s := by
  have off : (s.mbc.bagger == .select && s.mbc.route == some .bag && s.mbc.phase == .none) = false := by
    rw [Bool.eq_false_iff]
    simpa [waitsForBag, and_assoc] using busy
  rw [bagChecked, off]; rfl

theorem bagGranted_setBagCount (n : Nat) : bagGranted (setBagCount n s) ↔ bagGranted s := by
  simp [bagGranted, setBagCount_mbc]

section
variable {n : Nat}

theorem bagChecked_tsc (loaded : 0 < n) (s : State) : (bagChecked n s).tsc = s.tsc := by
  by_cases waits : waitsForBag s
  · rw [bagChecked_waits n waits, (tyerKept_requestBag (by rw [setBagCount_mbc]; exact loaded)).tsc]; simp
  · rw [bagChecked_idle n waits]; simp

theorem bagChecked_faults (loaded : 0 < n) (s : State) : MovesFaults [.bagsLow] s (bagChecked n s) := by
  have set_ := movesFaults_setBagCount (ks := [.bagsLow]) (by decide) n s
  by_cases waits : waitsForBag s
  · rw [bagChecked_waits n waits]
    exact set_.trans (movesFaults_requestBag_of_bags (by rw [setBagCount_mbc]; exact loaded))
  · rw [bagChecked_idle n waits]
    exact set_

/-- Without a bagger that waits, or with a load of 0, the magazine alone changes. -/
theorem bagsSet_mbc_idle (idle : ¬(waitsForBag s ∧ 0 < n)) : (bagsSet n s).mbc =
    { s.mbc with bagCount := n, bagLow := decide (n ≤ s.params.lowMark.bags) } := by
  obtain rfl | loaded := Nat.eq_zero_or_pos n
  · rw [bagsSet_zero, setBagCount_mbc]
  · rw [bagsSet_pos loaded, bagChecked_idle n (fun waits => idle ⟨waits, loaded⟩)]
    simp [setBagCount_mbc]

theorem bagsSet_mbc_waits (loaded : 0 < n) (waits : waitsForBag s) (refused : ¬bagGranted s) : (bagsSet n s).mbc =
    { s.mbc with bagger := .airWait, bagCount := n, bagLow := decide (n ≤ s.params.lowMark.bags) } := by
  obtain ⟨w, -, waited⟩ := requestBag_waits (mt (bagGranted_setBagCount n).1 refused)
  rw [bagsSet_pos loaded, bagChecked_waits n waits, waited]
  simp [setBagCount_mbc]

theorem bagsSet_granted (loaded : 0 < n) (waits : waitsForBag s) (granted : bagGranted s) :
    (bagsSet n s).mbc.bagger = .opening ∧ (bagsSet n s).mbc.bagCount = n - 1 ∧
    (bagsSet n s).mbc.bagLow = decide (n - 1 ≤ s.params.lowMark.bags) ∧
    (bagsSet n s).tu.live.line.bagsUsed = bump s.tu.live.line.bagsUsed := by
  obtain ⟨c, -, opened⟩ := requestBag_granted ((bagGranted_setBagCount n).2 granted) (by rw [setBagCount_mbc]; exact loaded)
  rw [bagsSet_pos loaded, bagChecked_waits n waits, opened]
  refine ⟨?_, ?_, ?_, ?_⟩
  · simp [openBag_mbc]
  · simp [openBag_mbc, airWaiting, setBagCount_mbc]
  · simp [openBag_mbc, airWaiting, setBagCount_mbc]
  · rw [counter_of_lineCounts LineBlock.bagsUsed (lineCounts_noticeCause ..), openBag_bagsUsed]
    simp only [airWaiting, becomeHolder_keeps, onMbc_tu]
    rw [counter_of_lineCounts LineBlock.bagsUsed (takesFaults_setBagCount n s).lineCounts]

theorem bagsSet_cause (loaded : 0 < n) (caused : s.ft.causes.bagsOut = true) :
    standing .bagsOut .out (bagsSet n s) = false ∧ (bagsSet n s).ft.causes.bagsOut = false := by
  have caused : (bagChecked n s).ft.causes.get .bagsOut .out = true :=
    ((bagChecked_faults loaded s).causes .bagsOut .out (by decide)).trans caused
  rw [bagsSet_pos loaded]
  exact ⟨noticeCause_ended caused fun _ => rfl, by rw [noticeCause_causes]; rfl⟩

theorem bagsSet_tsc (n : Nat) (s : State) : (bagsSet n s).tsc = s.tsc := by
  obtain rfl | loaded := Nat.eq_zero_or_pos n
  · rw [bagsSet_zero]; simp
  · rw [bagsSet_pos loaded]
    simpa using bagChecked_tsc loaded s

theorem bagsSet_others (n : Nat) (s : State) : (bagsSet n s).tt = s.tt ∧ (bagsSet n s).lsc = s.lsc := by
  constructor <;> simp [bagsSet]

end

/-! ## The clips -/

/-- R93: a tyer that waits for a clip at its check. -/
def waitsForClip (s : State) : Prop := s.tsc.tyer = .twist ∧ s.tsc.phaseTimer = none

section
variable {n : Nat}

theorem clipsSet_zero (s : State) : clipsSet 0 s = setClipCount 0 s := rfl

theorem clipsSet_waits (loaded : 0 < n) (waits : waitsForClip s) :
    clipsSet n s = noticeCause .clipsOut .out false (startTwist (setClipCount n s)) := by
  obtain ⟨tyer, timer⟩ := waits
  rw [clipsSet, decide_eq_true loaded, when_true, clipsLoaded, setClipCount_tsc, tyer, timer]; rfl

theorem clipsSet_idle (loaded : 0 < n) (busy : ¬waitsForClip s) :
    clipsSet n s = noticeCause .clipsOut .out false (setClipCount n s) := by
  have off : (s.tsc.tyer == .twist && s.tsc.phaseTimer.isNone) = false := by
    rw [Bool.eq_false_iff]
    simpa [waitsForClip] using busy
  rw [clipsSet, decide_eq_true loaded, when_true, clipsLoaded, setClipCount_tsc, off]; rfl

theorem clipsSet_tsc_idle (idle : ¬(waitsForClip s ∧ 0 < n)) : (clipsSet n s).tsc =
    { s.tsc with clipCount := n, clipLow := decide (n ≤ s.params.lowMark.clips) } := by
  obtain rfl | loaded := Nat.eq_zero_or_pos n
  · rw [clipsSet_zero, setClipCount_tsc]
  · rw [clipsSet_idle loaded fun waits => idle ⟨waits, loaded⟩]
    simp [setClipCount_tsc]

theorem clipsSet_tsc_waits (loaded : 0 < n) (waits : waitsForClip s) : (clipsSet n s).tsc =
    { s.tsc with clipCount := n, clipLow := decide (n ≤ s.params.lowMark.clips), tyer := .twist, phaseTimer := some 200
                 tieTimer := some s.params.tieTimeout, leftHome := false } := by
  rw [clipsSet_waits loaded waits]
  simp [startTwist_tsc, setClipCount_tsc]

theorem clipsSet_magazine (n : Nat) (s : State) : (clipsSet n s).tsc.clipCount = n ∧
    (clipsSet n s).tsc.clipLow = decide (n ≤ s.params.lowMark.clips) := by
  by_cases waits : waitsForClip s ∧ 0 < n
  · rw [clipsSet_tsc_waits waits.2 waits.1]
    exact ⟨rfl, rfl⟩
  · rw [clipsSet_tsc_idle waits]
    exact ⟨rfl, rfl⟩

theorem clipsSet_drive (loaded : 0 < n) (waits : waitsForClip s) (runs : s.lsc.line ≠ .stop) :
    (clipsSet n s).dou.tyer = true := by
  rw [clipsSet_waits loaded waits]
  simpa using startTwist_drive (s := setClipCount n s) (by simpa using runs)

theorem clipsSet_cause (loaded : 0 < n) (caused : s.ft.causes.clipsOut = true) :
    standing .clipsOut .out (clipsSet n s) = false ∧ (clipsSet n s).ft.causes.clipsOut = false := by
  have caused : (setClipCount n s).ft.causes.get .clipsOut .out = true :=
    ((movesFaults_setClipCount (ks := [.clipsLow]) (by decide) n s).causes .clipsOut .out (by decide)).trans caused
  by_cases waits : waitsForClip s
  · rw [clipsSet_waits loaded waits]
    have caused : (startTwist (setClipCount n s)).ft.causes.get .clipsOut .out = true := by simpa using caused
    exact ⟨noticeCause_ended caused fun _ => rfl, by rw [noticeCause_causes]; rfl⟩
  · rw [clipsSet_idle loaded waits]
    exact ⟨noticeCause_ended caused fun _ => rfl, by rw [noticeCause_causes]; rfl⟩

theorem clipsSet_others (n : Nat) (s : State) :
    (clipsSet n s).mbc = s.mbc ∧ (clipsSet n s).tt = s.tt ∧ (clipsSet n s).lsc = s.lsc := by
  refine ⟨?_, ?_, ?_⟩ <;> simp [clipsSet]

end

/-- Settles O30: the owner's answers, and of each magazine the load with and without a station that waits for it. -/
theorem magazineLoadSetsTheCount : Obligations.MagazineLoadSetsTheCount := by
  intro tok which count s h
  refine ⟨fun beyond => ?_, ?_, ?_⟩
  · rw [exec_magazineLoad, takeRequest_refused h (magazineLoad_refused beyond) (by decide)]; rfl
  · rintro rfl small waits granted
    have waits_iff : waits ↔ waitsForBag s ∧ 0 < count.toNat := by
      simp only [waits, waitsForBag, positive_iff, and_assoc]
    refine ⟨bagsSet count.toNat s, ?_, fun idle => ?_, fun waits refused => ?_, fun waits granted => ?_, fun loaded => ?_,
      bagsSet_tsc _ s, bagsSet_others _ s⟩
    · rw [exec_magazineLoad, takeRequest_accepted h (magazineLoad_bags small)]
    · exact bagsSet_mbc_idle (mt waits_iff.2 idle)
    · obtain ⟨waits, loaded⟩ := waits_iff.1 waits
      exact bagsSet_mbc_waits loaded waits refused
    · obtain ⟨waits, loaded⟩ := waits_iff.1 waits
      exact bagsSet_granted loaded waits granted
    · exact bagsSet_cause ((positive_iff count).2 loaded)
  · rintro rfl small
    obtain ⟨counted, low⟩ := clipsSet_magazine count.toNat s
    refine ⟨clipsSet count.toNat s, ?_, counted, low, fun idle => ?_, fun tyer timer loaded => ?_, fun loaded => ?_,
      clipsSet_others _ s⟩
    · rw [exec_magazineLoad, takeRequest_accepted h (magazineLoad_clips small), counted, low]
    · rw [clipsSet_tsc_idle]
      rintro ⟨⟨tyer, timer⟩, loaded⟩
      obtain busy | busy | empty := idle
      · exact busy tyer
      · exact busy timer
      · exact (positive_iff count).1 loaded empty
    · have loaded := (positive_iff count).2 loaded
      rw [clipsSet_tsc_waits loaded ⟨tyer, timer⟩]
      exact ⟨rfl, rfl, rfl, rfl, clipsSet_drive loaded ⟨tyer, timer⟩⟩
    · exact clipsSet_cause ((positive_iff count).2 loaded)

end Sys2Proof.Machine
end

section
/-! SUPPORT. What a release can do (R120): whom the channel goes to, and what it leaves of a requester that does not wait. -/

namespace Sys2Proof.Machine

set_option Elab.async false

variable {s t u : State} {c : AirChannel}

/-! ## The cases of a grant -/

/-- After BAG, a free channel goes to a requester that waits on it, or stays free. -/
theorem grantAfterBag_cases (c : AirChannel) (s : State) : grantAfterBag c s = s ∨
    ∃ r, r ≠ .bag ∧ s.ama.waiting.get r = some c ∧ grantAfterBag c s = grantOther r c s := by
  cases free : s.ama.grantable c with
  | false => exact .inl (grantAfterBag_of_held free)
  | true =>
    by_cases purge : s.ama.waiting.get .purge = some c
    · exact .inr ⟨.purge, by decide, purge, grantAfterBag_purge free purge⟩
    · cases best : bestKnife c s.ama with
      | none => exact .inl (grantAfterBag_none purge best)
      | some r =>
        have waits : s.ama.waiting.get r = some c := by
          revert best
          unfold bestKnife
          split <;> intro best
          next kna knb =>
            split at best
            · cases best; exact (waitsOn_iff _ _).1 knb
            · cases best; exact (waitsOn_iff _ _).1 kna
          next kna _ => cases best; exact (waitsOn_iff _ _).1 kna
          next _ knb => cases best; exact (waitsOn_iff _ _).1 knb
          next => cases best
        exact .inr ⟨r, fun same => bestKnife_ne_bag c s.ama (same ▸ best), waits, grantAfterBag_knife free purge best⟩

/-- A free channel goes to BAG when it waits and a bag is left, else to a waiter after it. -/
theorem grantNext_cases (c : AirChannel) (s : State) : grantNext c s = grantAfterBag c s ∨
    (s.ama.waiting.get .bag = some c ∧ (grantNext c s = openBag (becomeHolder .bag c s) ∨
      grantNext c s = grantAfterBag c (waitForBags (setWaiting .bag none s)))) := by
  unfold grantNext; split
  next waits =>
    refine .inr ⟨(waitsOn_iff _ _).1 (Bool.and_eq_true _ _ ▸ waits).2, ?_⟩
    unfold grantBag; split
    · exact .inl rfl
    · exact .inr rfl
  next => exact .inl rfl

/-! ## Holders -/

theorem held_eq_none {r : Requester} {a : AirArbiter} : a.held r = none ↔ ∀ d, a.holder.get d ≠ some r := by
  constructor
  · intro held d
    unfold AirArbiter.held at held
    split at held
    · exact absurd held nofun
    next air0 =>
      split at held
      · exact absurd held nofun
      next air1 =>
        cases d with
        | air0 => exact fun holds => air0 (beq_iff_eq.2 holds)
        | air1 => exact fun holds => air1 (beq_iff_eq.2 holds)
  · intro none
    have air0 : a.holder.air0 ≠ some r := none .air0
    have air1 : a.holder.air1 ≠ some r := none .air1
    simp [AirArbiter.held, air0, air1]

theorem holder_of_held {r : Requester} {a : AirArbiter} (held : a.held r = some c) : a.holder.get c = some r := by
  unfold AirArbiter.held at held
  split at held
  next air0 => cases held; exact beq_iff_eq.1 air0
  next =>
    split at held
    next air1 => cases held; exact beq_iff_eq.1 air1
    next => exact absurd held nofun

/-- A requester that does not hold both channels holds none beside the one it is found at. -/
theorem holder_of_held_other {r : Requester} {a : AirArbiter} (once : ¬(a.holder.air0 = some r ∧ a.holder.air1 = some r))
    (held : a.held r = some c) {d : AirChannel} (other : d ≠ c) : a.holder.get d ≠ some r := by
  have here := holder_of_held held
  intro there
  cases c with
  | air0 => cases d with
    | air0 => exact other rfl
    | air1 => exact once ⟨here, there⟩
  | air1 => cases d with
    | air0 => exact once ⟨there, here⟩
    | air1 => exact other rfl

theorem grantOther_holder (r : Requester) (c : AirChannel) (s : State) :
    (grantOther r c s).ama.holder = s.ama.holder.upd c (fun _ => some r) := by
  rw [grantOther_ama, becomeHolder_eq]

/-! ## The purge beside a release -/

/-- R92: the purge neither begins nor ends: no channel comes to PURGE, and the tyer's block and the purge valve stay. -/
structure PurgeKept (s t : State) : Prop where
  tsc : t.tsc = s.tsc
  valve : t.dou.purge = s.dou.purge
  notWaiting : t.ama.waiting.get .purge = none
  holds : ∀ d, t.ama.holder.get d = some .purge → s.ama.holder.get d = some .purge

theorem PurgeKept.trans (first : PurgeKept s t) (second : PurgeKept t u) : PurgeKept s u :=
  ⟨second.tsc.trans first.tsc, second.valve.trans first.valve, second.notWaiting, fun d held => first.holds d (second.holds d held)⟩

theorem upd_holder_ne {r q : Requester} (other : r ≠ q) (d : AirChannel) (p : PerAir (Option Requester))
    (held : (p.upd c (fun _ => some r)).get d = some q) : p.get d = some q := by
  by_cases same : d = c
  · rw [same, PerAir.get_upd_same] at held
    exact absurd (Option.some.inj held) other
  · rwa [PerAir.get_upd_other _ same] at held

theorem purgeKept_grantAfterBag (c : AirChannel) (quiet : s.ama.waiting.get .purge = none) : PurgeKept s (grantAfterBag c s) := by
  obtain same | ⟨r, notBag, waits, granted⟩ := grantAfterBag_cases c s
  · rw [same]
    exact ⟨rfl, rfl, quiet, fun _ => id⟩
  · have other : r ≠ .purge := fun same => by rw [same, quiet] at waits; exact absurd waits nofun
    rw [granted]
    refine ⟨?_, ?_, ?_, fun d held => upd_holder_ne other d _ (grantOther_holder r c s ▸ held)⟩
    · cases r with
      | purge => exact absurd rfl other
      | bag | kna | knb => simp [grantOther]
    · cases r with
      | purge => exact absurd rfl other
      | bag | kna | knb => simp [grantOther]
    · rw [grantOther_ama, becomeHolder_waiting, PerRequester.get_upd_other _ other.symm, quiet]

theorem purgeKept_openBag (c : AirChannel) (quiet : s.ama.waiting.get .purge = none) :
    PurgeKept s (openBag (becomeHolder .bag c s)) := by
  have ama : (openBag (becomeHolder .bag c s)).ama = (becomeHolder .bag c s).ama := by simp
  refine ⟨by simp, by simp, by rw [ama]; exact quiet, fun d held => ?_⟩
  rw [ama, becomeHolder_eq] at held
  exact upd_holder_ne (by decide) d _ held

theorem purgeKept_waitForBags (quiet : s.ama.waiting.get .purge = none) :
    PurgeKept s (waitForBags (setWaiting .bag none s)) := by
  have ama : (waitForBags (setWaiting .bag none s)).ama = (setWaiting .bag none s).ama := by simp
  exact ⟨by simp, by simp, by rw [ama]; exact quiet, fun d held => by rw [ama] at held; exact held⟩

theorem purgeKept_releaseChannel (c : AirChannel) (quiet : s.ama.waiting.get .purge = none) :
    PurgeKept (setHolder c none s) (releaseChannel c s) := by
  unfold releaseChannel
  obtain after | ⟨-, opened | passed⟩ := grantNext_cases c (setHolder c none s)
  · rw [after]
    exact purgeKept_grantAfterBag c quiet
  · rw [opened]
    exact purgeKept_openBag c quiet
  · rw [passed]
    have waited := purgeKept_waitForBags (s := setHolder c none s) quiet
    exact waited.trans (purgeKept_grantAfterBag c waited.notWaiting)

/-- The purge ends with its channel released, and PURGE holds none. -/
theorem airRelease_purge (quiet : s.ama.waiting.get .purge = none)
    (once : ¬(s.ama.holder.air0 = some .purge ∧ s.ama.holder.air1 = some .purge)) :
    (airRelease .purge s).tsc = s.tsc ∧ (airRelease .purge s).dou.purge = s.dou.purge ∧
    (airRelease .purge s).ama.held .purge = none := by
  unfold airRelease; split
  next c held =>
    obtain ⟨tsc, valve, -, holds⟩ := purgeKept_releaseChannel c quiet
    refine ⟨tsc, valve, held_eq_none.2 fun d there => ?_⟩
    have there := holds d there
    by_cases same : d = c
    · rw [same] at there
      simp [setHolder] at there
    · exact holder_of_held_other once held same (by simpa [setHolder, PerAir.get_upd_other _ same] using there)
  next none => exact ⟨rfl, rfl, none⟩

end Sys2Proof.Machine
end

section
/-! SUPPORT. The tyer's cycle (R92 to R96): the ends of the purge, the twist and the clip, the home switch, the tie's completion and
the tie timer. -/

namespace Sys2Proof.Machine

set_option Elab.async false

variable {s t : State} {r : LoafRecord}

/-! ## A record joins EXIT (R4, R19) -/

theorem Tracking.eq_of_exit {t u : Tracking} (approach : t.approach = u.approach) (blade : t.blade = u.blade)
    (accum : t.accum = u.accum) (bagger : t.bagger = u.bagger) (tyer : t.tyer = u.tyer) (nextTag : t.nextTag = u.nextTag)
    (watch : t.watch = u.watch) (stuck : t.stuck = u.stuck) : t = { u with exit := t.exit } := by
  cases t; cases u; simp_all

/-- The losses of heads of EXIT move no other zone. -/
theorem exitHeadChanged_tt (s : State) :
    (exitHeadChanged (loseExitHead s)).tt = { s.tt with exit := (exitHeadChanged (loseExitHead s)).tt.exit } :=
  Tracking.eq_of_exit (by simp) (by simp) (by simp) (by simp) (by simp) (by simp) (by simp) (by simp)

theorem joinExit_of_room (r : LoafRecord) (room : s.tt.exit.length ≤ 2) : joinExit r s = s.onExit
    (· ++ [{ r with departure := some { belt := .outfeed, pos := position .outfeed s }, arrived := false }]) := by
  rw [joinExit, decide_eq_false (by omega)]; rfl

theorem joinExit_of_full (r : LoafRecord) (full : 3 ≤ s.tt.exit.length) : joinExit r s = (exitHeadChanged (loseExitHead s)).onExit
    (· ++ [{ r with departure := some { belt := .outfeed, pos := position .outfeed s }, arrived := false }]) := by
  have belt : position .outfeed (exitHeadChanged (loseExitHead s)) = position .outfeed s := by simp [position]
  rw [joinExit, decide_eq_true full, when_true, belt]

theorem lose_ties (subj : Subject) (r : LoafRecord) (s : State) : (lose subj r s).tu.live.line.ties = s.tu.live.line.ties := by
  rw [lose, counter_of_lineCounts LineBlock.ties (lineCounts_raiseFault ..)]
  exact when_elim (P := fun t => t.tu.live.line.ties = s.tu.live.line.ties) rfl fun _ => by rw [countLost_line]

theorem loseExitHead_ties (s : State) : (loseExitHead s).tu.live.line.ties = s.tu.live.line.ties := by
  unfold loseExitHead; split
  · exact lose_ties _ _ _
  · rfl

theorem compareExitHead_ties (n : Nat) (s : State) : (compareExitHead n s).tu.live.line.ties = s.tu.live.line.ties := by
  induction n generalizing s with
  | zero => rfl
  | succ n ih =>
    rw [compareExitHead]; split
    · rw [ih, loseExitHead_ties]
    · rfl

theorem joinExit_ties (r : LoafRecord) (s : State) : (joinExit r s).tu.live.line.ties = s.tu.live.line.ties := by
  obtain room | full := Nat.lt_or_ge s.tt.exit.length 3
  · rw [joinExit_of_room r (by omega)]; rfl
  · rw [joinExit_of_full r full]
    exact (compareExitHead_ties 3 _).trans (loseExitHead_ties s)

/-! ## The completion of a tie (R95) -/

/-- The record that a tie sends to EXIT. -/
def tiedRecord (s : State) (r : LoafRecord) : LoafRecord := { r with
  clipCode := s.tsc.code, arrived := false, departure := some { belt := .outfeed, pos := position .outfeed s } }

/-- R4, R19, R95: the tied record joins EXIT, and a full EXIT first loses its head. -/
structure TieJoins (r : LoafRecord) (s u : State) : Prop where
  room : s.tt.exit.length ≤ 2 → u.tt = { s.tt with tyer := none, exit := s.tt.exit ++ [tiedRecord s r] }
  full : ∀ q rest, s.tt.exit = q :: rest → rest.length = 2 →
    (∃ n, u.tt = { s.tt with tyer := none, exit := rest.drop n ++ [tiedRecord s r] }) ∧ standing .lostLoaf .out u = true ∧
    (exitWindowDue { s with tt := { s.tt with exit := rest } } = false →
      u.tt = { s.tt with tyer := none, exit := rest ++ [tiedRecord s r] } ∧
      standsWith .lostLoaf .out (some q.tag) u = true ∧
      u.tu.live.line.lost = (if q.admitted then bump s.tu.live.line.lost else s.tu.live.line.lost))
  ties : u.tu.live.line.ties = bump s.tu.live.line.ties

/-- The state with the tied record out of TYER and in EXIT. -/
def tieJoined (r : LoafRecord) (s : State) : State :=
  joinExit { r with clipCode := s.tsc.code } (s.onTt (fun t => { t with tyer := none }))

theorem completeTie_eq (tyer : s.tt.tyer = some r) : completeTie s =
    (countLine (fun b => { b with ties := bump b.ties }) (tieJoined r s)).onTsc (fun t => { t with
      tiesSincePurge := min (t.tiesSincePurge + 1) 65535, tieTimer := none, code := none, leftHome := false, tyer := .idle }) := by
  simp only [completeTie, tyer, tieJoined]

theorem tieJoins_completeTie (tyer : s.tt.tyer = some r) : TieJoins r s (completeTie s) := by
  rw [completeTie_eq tyer]
  refine ⟨fun room => ?_, fun q rest exit two => ?_, ?_⟩
  · simp [tieJoined, joinExit_of_room _ (s := s.onTt (fun t => { t with tyer := none })) room, State.onExit, countLine, State.onLive,
      tiedRecord, position]
  · have lost := exitWindow_lost (s := s.onTt (fun t => { t with tyer := none })) exit (by omega)
    have others := exitHeadChanged_tt (s.onTt (fun t => { t with tyer := none }))
    have joined : tieJoined r s = _ :=
      joinExit_of_full _ (s := s.onTt (fun t => { t with tyer := none })) (by simp [exit, two])
    rw [joined]
    obtain ⟨-, ⟨n, dropped⟩, stands, alone⟩ := lost
    refine ⟨⟨n, ?_⟩, stands, fun idle => ?_⟩
    · show ({ (exitHeadChanged (loseExitHead _)).tt with exit := (exitHeadChanged (loseExitHead _)).tt.exit ++ _ } : Tracking) = _
      rw [others, dropped]; rfl
    · obtain ⟨kept, standsWith, counted⟩ := alone idle
      refine ⟨?_, standsWith, counted⟩
      show ({ (exitHeadChanged (loseExitHead _)).tt with exit := (exitHeadChanged (loseExitHead _)).tt.exit ++ _ } : Tracking) = _
      rw [others, kept]; rfl
  · show bump (tieJoined r s).tu.live.line.ties = _
    rw [tieJoined, joinExit_ties]; rfl

theorem completeTie_tsc (s : State) : (completeTie s).tsc = { s.tsc with
    tyer := .idle, tieTimer := none, code := none, leftHome := false, tiesSincePurge := min (s.tsc.tiesSincePurge + 1) 65535 } := by
  cases tyer : s.tt.tyer <;> simp [completeTie, tyer]

theorem tieIfHome_ties (tyer : s.tsc.tyer = .homeWait) (home : s.pins.tyerHome = true) (left : s.tsc.leftHome = true) :
    tieIfHome s = completeTie s := by
  rw [tieIfHome, tyer, home, left]; rfl

theorem tieIfHome_waits (waits : s.tsc.tyer ≠ .homeWait ∨ s.pins.tyerHome = false ∨ s.tsc.leftHome = false) :
    tieIfHome s = s := by
  have off : (s.tsc.tyer == .homeWait && s.pins.tyerHome && s.tsc.leftHome) = false := by
    simp only [Bool.and_eq_false_iff, beq_eq_false_iff_ne, or_assoc]
    exact waits
  rw [tieIfHome, off]; rfl

/-! ## The events -/

theorem exec_purgeEnd (s : State) : exec .purgeEnd s = .next (when s.tsc.purge.isSome (fun s => settle (endPurge s)) s) := rfl

theorem exec_twistEnd (s : State) : exec .twistEnd s =
    .next (when (s.tsc.tyer == .twist && s.tsc.phaseTimer.isSome) (fun s => settle (enterClip s)) s) := rfl

theorem exec_clipEnd (s : State) : exec .clipEnd s =
    .next (when (s.tsc.tyer == .clip && s.tsc.phaseTimer.isSome) (fun s => settle (enterHomeWait s)) s) := rfl

theorem exec_tyerHomeSwitchOpens (s : State) : exec (.tyerHomeSwitchChange false) s = .next (settle
    ((s.onPins (fun p => { p with tyerHome := false })).onTsc (fun t => { t with leftHome := true }))) := rfl

theorem exec_tyerHomeSwitchCloses (s : State) : exec (.tyerHomeSwitchChange true) s =
    .next (settle (tieIfHome (s.onPins (fun p => { p with tyerHome := true })))) := rfl

theorem exec_tieTimerRunOut (s : State) : exec .tieTimerRunOut s =
    .next (when s.tsc.tieTimer.isSome (fun s => settle (jamTyer s)) s) := rfl

/-- A phase's timer whose phase is another, or which does not run, has no moment. -/
theorem when_of_noPhase {phase : TyerState} {f : State → State} (absent : s.tsc.tyer ≠ phase ∨ s.tsc.phaseTimer = none) :
    when (s.tsc.tyer == phase && s.tsc.phaseTimer.isSome) f s = s := by
  have off : (s.tsc.tyer == phase && s.tsc.phaseTimer.isSome) = false := by
    simpa only [Bool.and_eq_false_iff, beq_eq_false_iff_ne, Option.isSome_eq_false_iff, Option.isNone_iff_eq_none] using absent
  rw [off]; rfl

theorem when_of_phase {phase : TyerState} {f : State → State} (now : s.tsc.tyer = phase) (runs : s.tsc.phaseTimer ≠ none) :
    when (s.tsc.tyer == phase && s.tsc.phaseTimer.isSome) f s = f s := by
  rw [now, Option.isSome_iff_ne_none.2 runs]; simp

/-! ## The purge's end (R92) -/

/-- The state with the purge over, before its channel is released. -/
def purgeOver (s : State) : State := setPurge false (s.onTsc (fun t => { t with purge := none, tiesSincePurge := 0 }))

theorem endPurge_eq (s : State) : endPurge s = enterTwist (airRelease .purge (purgeOver s)) := rfl

/-- What the end of a purge leaves to the clip check. -/
structure PurgeEnded (s u : State) : Prop where
  purge : u.tsc.purge = none
  ties : u.tsc.tiesSincePurge = 0
  tyer : u.tsc.tyer = .twist
  valve : u.dou.purge = false
  released : u.ama.held .purge = none
  twists : 0 < s.tsc.clipCount → u.tsc.phaseTimer = some 200 ∧ u.tsc.tieTimer = some s.params.tieTimeout ∧ u.dou.tyer = true
  waits : s.tsc.clipCount = 0 → standing .clipsOut .out u = true
  tt : u.tt = s.tt

theorem purgeEnded_endPurge (quiet : s.ama.waiting.purge = none) (runs : s.lsc.line ≠ .stop)
    (once : ¬(s.ama.holder.air0 = some .purge ∧ s.ama.holder.air1 = some .purge)) : PurgeEnded s (endPurge s) := by
  obtain ⟨tsc, valve, released⟩ := airRelease_purge (s := purgeOver s) quiet once
  have tscOver : (purgeOver s).tsc = { s.tsc with purge := none, tiesSincePurge := 0 } := by simp [purgeOver]
  have line : (airRelease .purge (purgeOver s)).lsc = s.lsc := by simp [purgeOver]
  have params : (airRelease .purge (purgeOver s)).params = s.params := by simp [purgeOver]
  rw [tscOver] at tsc
  rw [endPurge_eq]
  refine ⟨by simp [tsc], by simp [tsc], enterTwist_tyer _, ?_, ?_, fun clips => ?_, fun empty => ?_, by simp [purgeOver]⟩
  · have kept : (enterTwist (airRelease .purge (purgeOver s))).dou.purge = (airRelease .purge (purgeOver s)).dou.purge := by simp
    rw [kept, valve]
    simp [purgeOver, setPurge]
  · have ama : (enterTwist (airRelease .purge (purgeOver s))).ama = (airRelease .purge (purgeOver s)).ama := by simp
    rw [ama, released]
  · rw [enterTwist_of_clips (by rw [tsc]; exact clips), startTwist_tsc, params]
    exact ⟨rfl, rfl, startTwist_drive (by rw [line]; exact runs)⟩
  · exact standing_of_standsWith (enterTwist_waits (by rw [tsc]; exact empty)).2

/-! ## The twist's end (R94) -/

/-- The clip code of the record in TYER. -/
def codeOf (r : LoafRecord) (s : State) : List Byte :=
  clipCode s.cal.day (recipeAt (r.recipeSlot.getD 0) s).shelf r.lane s.tu.live.shift

/-- The state with one clip fewer. -/
def clipTaken (s : State) : State := when (decide (0 < s.tsc.clipCount)) (setClipCount (s.tsc.clipCount - 1)) s

theorem clipTaken_tsc (s : State) :
    (clipTaken s).tsc = { s.tsc with clipCount := s.tsc.clipCount - 1, clipLow := (clipTaken s).tsc.clipLow } := by
  obtain empty | clips := Nat.eq_zero_or_pos s.tsc.clipCount
  · have same : clipTaken s = s := by rw [clipTaken, empty]; rfl
    rw [same]
    have less : s.tsc.clipCount - 1 = s.tsc.clipCount := by omega
    rw [less]
  · rw [clipTaken, decide_eq_true clips, when_true, setClipCount_tsc]

theorem clipTaken_clipsUsed (s : State) : (clipTaken s).tu.live.line.clipsUsed = s.tu.live.line.clipsUsed :=
  when_elim (P := fun t => t.tu.live.line.clipsUsed = s.tu.live.line.clipsUsed) rfl fun _ =>
    counter_of_lineCounts LineBlock.clipsUsed (takesFaults_setClipCount _ s).lineCounts

theorem enterClip_eq (tyer : s.tt.tyer = some r) : enterClip s =
    setPrinter (some (codeOf r s)) ((countLine (fun b => { b with clipsUsed := bump b.clipsUsed }) (clipTaken s)).onTsc
      (fun t => { t with tyer := .clip, phaseTimer := some 100, code := some (codeOf r s) })) := by
  simp only [enterClip, tyer]; rfl

/-! ## The clip's end (R95) -/

/-- The state in HOME_WAIT as CLIP ends. -/
def clipEnded (s : State) : State := { s with
  tsc := { s.tsc with tyer := .homeWait, phaseTimer := none }, dou := { s.dou with tyer := false, printer := none } }

theorem enterHomeWait_eq (s : State) : enterHomeWait s = tieIfHome (clipEnded s) := rfl

end Sys2Proof.Machine
end

section
/-! SUPPORT. The tyer's cycle (R92 to R96): the entry to CLIP, the jam, and the cycle's moments together. -/

namespace Sys2Proof.Machine

set_option Elab.async false

variable {s u : State} {r : LoafRecord}

/-! ## The entry to CLIP (R94) -/

/-- What the twist's end leaves to the clip. -/
structure ClipEntered (r : LoafRecord) (s u : State) : Prop where
  tsc : u.tsc = { s.tsc with tyer := .clip, phaseTimer := some 100, code := some (codeOf r s),
                             clipCount := s.tsc.clipCount - 1, clipLow := u.tsc.clipLow }
  used : u.tu.live.line.clipsUsed = bump s.tu.live.line.clipsUsed
  printer : s.lsc.line ≠ .stop → u.dou = { s.dou with printer := some (codeOf r s) }
  tt : u.tt = s.tt

theorem clipEntered_enterClip (tyer : s.tt.tyer = some r) : ClipEntered r s (enterClip s) := by
  refine ⟨?_, ?_, fun runs => ?_, by simp⟩
  · have kept : (enterClip s).tsc =
        { (clipTaken s).tsc with tyer := .clip, phaseTimer := some 100, code := some (codeOf r s) } := by
      simp [enterClip_eq tyer]
    rw [kept, clipTaken_tsc]
  · have counted : (enterClip s).tu.live.line.clipsUsed = bump (clipTaken s).tu.live.line.clipsUsed := by
      rw [enterClip_eq tyer]
      simp [countLine, State.onLive]
    rw [counted, clipTaken_clipsUsed]
  · have line : (clipTaken s).lsc = s.lsc := by simp [clipTaken]
    have outputs : (clipTaken s).dou = s.dou := by simp [clipTaken]
    rw [enterClip_eq tyer]
    simp [setPrinter, driveOn_of_running, line, outputs, runs]

/-! ## The jam (R96) -/

/-- What the run-out of the tie timer leaves. -/
structure TyerJams (r : LoafRecord) (s u : State) : Prop where
  tt : u.tt = { s.tt with tyer := some { r with jammed := true } }
  tsc : u.tsc = { s.tsc with tyer := .idle, phaseTimer := none, tieTimer := none, code := none }
  dou : u.dou = { s.dou with tyer := false, printer := none }
  stands : standsWith .tyerJam .out (some r.tag) u = true
  cause : u.ft.causes.tyerJam = true

theorem tyerJams_jamTyer (tyer : s.tt.tyer = some r) : TyerJams r s (jamTyer s) := by
  refine ⟨?_, ?_, ?_, ?_, ?_⟩
  · simp [jamTyer, tyer]
  · simp [jamTyer]
  · simp [jamTyer, setTyer, setPrinter]
  · rw [jamTyer, tyer]
    exact standsWith_raiseFault _ _ _ _
  · rw [jamTyer, raiseFault_causes]; rfl

/-! ## The moments of the cycle -/

/-- Settles O50: each timer without its phase does nothing, and each end of a phase leaves what the next one starts from. -/
theorem tyerCycleRunsItsTimers : Obligations.TyerCycleRunsItsTimers := by
  intro s tied joined
  have joins : ∀ {r : LoafRecord} {u : State}, TieJoins r s u → joined r u :=
    fun tie => ⟨tie.room, tie.full, tie.ties⟩
  refine ⟨fun idle => ?_, fun runs quiet makes once => ⟨endPurge s, ?_, ?_⟩, fun absent => ?_,
    fun r twist runs tyer => ⟨enterClip s, ?_, ?_⟩, fun absent => ?_, fun clip runs away => ?_,
    fun r clip runs home left tyer _ => ⟨completeTie (clipEnded s), ?_, ?_, ?_, ?_⟩, exec_tyerHomeSwitchOpens s,
    fun waits => ?_, fun r waits left tyer _ => ⟨completeTie (s.onPins (fun p => { p with tyerHome := true })), ?_, ?_, ?_, ?_⟩,
    fun idle => ?_, fun r runs tyer => ⟨jamTyer s, ?_, ?_⟩⟩
  · rw [exec_purgeEnd, idle]; rfl
  · rw [exec_purgeEnd, Option.isSome_iff_ne_none.2 runs, when_true]
  · obtain ⟨purge, ties, state, valve, released, twists, stands, tt⟩ := purgeEnded_endPurge quiet makes once
    exact ⟨purge, ties, state, valve, released, twists, stands, tt⟩
  · rw [exec_twistEnd, when_of_noPhase absent]
  · rw [exec_twistEnd, when_of_phase twist runs]
  · obtain ⟨tsc, used, printer, tt⟩ := clipEntered_enterClip tyer
    exact ⟨tsc, used, printer, tt⟩
  · rw [exec_clipEnd, when_of_noPhase absent]
  · rw [exec_clipEnd, when_of_phase clip runs, enterHomeWait_eq, tieIfHome_waits (s := clipEnded s) (.inr away)]; rfl
  · rw [exec_clipEnd, when_of_phase clip runs, enterHomeWait_eq, tieIfHome_ties (s := clipEnded s) rfl home left]
  · have outputs : (completeTie (clipEnded s)).dou = (clipEnded s).dou := by simp
    exact outputs
  · obtain ⟨room, full, ties⟩ := tieJoins_completeTie (s := clipEnded s) tyer
    exact joins ⟨room, full, ties⟩
  · exact completeTie_tsc _
  · rw [exec_tyerHomeSwitchCloses, tieIfHome_waits (s := s.onPins (fun p => { p with tyerHome := true })) (waits.imp_right .inr)]; rfl
  · rw [exec_tyerHomeSwitchCloses,
      tieIfHome_ties (s := s.onPins (fun p => { p with tyerHome := true })) waits rfl left]
  · simp
  · obtain ⟨room, full, ties⟩ := tieJoins_completeTie (s := s.onPins (fun p => { p with tyerHome := true })) tyer
    exact joins ⟨room, full, ties⟩
  · exact completeTie_tsc _
  · rw [exec_tieTimerRunOut, idle]; rfl
  · rw [exec_tieTimerRunOut, Option.isSome_iff_ne_none.2 runs, when_true]
  · obtain ⟨tt, tsc, dou, stands, cause⟩ := tyerJams_jamTyer tyer
    exact ⟨tt, tsc, dou, stands, cause⟩

end Sys2Proof.Machine
end

section
/-! SUPPORT. The bagger from the opening to the confirm (R88, R89, R91): the opening's end, the bag confirm with the entries that
its notice removes (R151), and the bag miss. -/

namespace Sys2Proof.Machine

set_option Elab.async false

variable {s t u : State} {l : Lane} {r : LoafRecord}

/-! ## A notice that removes entries (R151) -/

theorem mem_insertPending {e f : FaultEntry} {entries : List FaultEntry} (member : f = e ∨ f ∈ entries) :
    f ∈ insertPending e entries := by
  induction entries with
  | nil => simpa [insertPending] using member
  | cons x rest ih =>
    rw [insertPending]; split
    · simpa using member
    · rw [List.mem_cons] at member ⊢
      obtain rfl | rfl | inRest := member
      · exact .inr (ih (.inl rfl))
      · exact .inl rfl
      · exact .inr (ih (.inr inRest))

theorem mem_sortPending {f : FaultEntry} {entries : List FaultEntry} (member : f ∈ entries) : f ∈ sortPending entries := by
  induction entries with
  | nil => exact member
  | cons x rest ih => exact mem_insertPending ((List.mem_cons.1 member).imp_right ih)

/-- The service order names every entry. -/
theorem mem_order {f : FaultEntry} {table : FaultTable} (member : f ∈ table.entries) : f ∈ table.order :=
  List.mem_append.2 ((List.mem_append.1 member).imp_right mem_sortPending)

theorem removeAll_left {entries : List FaultEntry} {f : FaultEntry} (left : f ∈ (removeAll entries s).ft.entries) :
    f ∈ s.ft.entries ∧ ∀ e ∈ entries, f.isPair e.kind e.subject = false := by
  induction entries generalizing s with
  | nil => exact ⟨left, nofun⟩
  | cons e rest ih =>
    obtain ⟨later, others⟩ := ih (s := removeEntry e.kind e.subject s) left
    obtain ⟨old, other⟩ := removeEntry_left later
    exact ⟨old, List.forall_mem_cons.2 ⟨other, others⟩⟩

/-- No entry that the notice names is left. -/
theorem noticeRemoval_left {hit : FaultEntry → Bool} {f : FaultEntry} (left : f ∈ (noticeRemoval hit s).ft.entries) :
    hit f = false := by
  rw [Bool.eq_false_iff]
  intro named
  revert left
  unfold noticeRemoval; split
  next none =>
    intro left
    exact List.not_mem_nil (none ▸ List.mem_filter.2 ⟨mem_order left, named⟩)
  next =>
    intro left
    rw [tableChanged_entries] at left
    obtain ⟨old, others⟩ := removeAll_left left
    simpa [FaultEntry.isPair] using others f (List.mem_filter.2 ⟨mem_order old, named⟩)

/-- R89: the confirm's notice takes a BAG_MISS whose reset is AUTO. -/
theorem bagConfirmNotice_ends (auto : s.params.mask.bagMiss = true) : standing .bagMiss .out (bagConfirmNotice s) = false := by
  rw [Bool.eq_false_iff]
  intro stands
  obtain ⟨f, left, pair⟩ := List.any_eq_true.1 stands
  have other := noticeRemoval_left left
  simp only [auto, Bool.and_true, beq_eq_false_iff_ne] at other
  exact other (by simp only [FaultEntry.isPair, Bool.and_eq_true, beq_iff_eq] at pair; exact pair.1)

/-! ## The opening's end (R88) -/

theorem exec_openingEnd (s : State) :
    exec .openingEnd s = .next (when s.mbc.openTimer.isSome (fun s => settle (openingOver s)) s) := rfl

/-- The state with the selected record in BAGGER, before its push. -/
def bagged (l : Lane) (r : LoafRecord) (s : State) : State :=
  accumHeadLeft l r ((removeAccumHead l (s.onMbc (fun m => { m with openTimer := none }))).onTt
    (fun t => { t with bagger := some { r with arrived := false, departure := none } }))

theorem openingOver_eq (head : selectedHead s = some (l, r)) : openingOver s =
    (startStroke (bagged l r s)).onMbc (fun m => { m with confirmWatch := some 600, confirmed := false }) := by
  have same : selectedHead (s.onMbc (fun m => { m with openTimer := none })) = some (l, r) :=
    (selectedHead_congr rfl rfl).trans head
  simp only [openingOver, same, bagged]

theorem bagged_accum (l : Lane) (r : LoafRecord) (s : State) :
    ((bagged l r s).tt.accum.get l).map LoafRecord.tag = (s.tt.accum.get l).tail.map LoafRecord.tag := by
  rw [bagged, accumHeadLeft_tags]
  simp [removeAccumHead, State.onAccum]

/-- What the opening's end leaves. -/
structure PushBegins (l : Lane) (r : LoafRecord) (s u : State) : Prop where
  bagger : u.tt.bagger = some { r with arrived := false, departure := none }
  accum : (u.tt.accum.get l).map LoafRecord.tag = (s.tt.accum.get l).tail.map LoafRecord.tag
  mbc : u.mbc = { s.mbc with bagger := .pushing, phase := .extend, strokeTimer := some s.params.strokeTimeout,
                             openTimer := none, confirmWatch := some 600, confirmed := false }
  extends_ : (u.dou.pusher.get l).extendOn = true ∨ (u.dou.pusher.get l).waiting = some .extend
  approach : u.tt.approach = s.tt.approach
  blade : u.tt.blade = s.tt.blade
  tyer : u.tt.tyer = s.tt.tyer
  exit : u.tt.exit = s.tt.exit

theorem pushBegins_openingOver (head : selectedHead s = some (l, r)) (runs : s.lsc.line ≠ .stop) :
    PushBegins l r s (openingOver s) := by
  have selected : (bagged l r s).mbc.selected = some (l, r.tag) := by simpa [bagged] using selected_of_head head
  have line : (bagged l r s).lsc = s.lsc := by simp [bagged]
  have tracked : (openingOver s).tt = (bagged l r s).tt := by simp [openingOver_eq head]
  refine ⟨?_, ?_, ?_, ?_, by simp, by simp, by simp, by simp⟩
  · simp [tracked, bagged]
  · rw [tracked, bagged_accum]
  · rw [openingOver_eq head, startStroke_of_selected selected]
    simp [bagged]
  · rw [openingOver_eq head]
    exact startStroke_extends selected (by rw [line]; exact runs)

/-! ## The bag confirm (R89, R91) -/

theorem exec_bagConfirm {x : Edge} (next : nextEdge .bg s = some x) (leads : x.leading = true) : exec .bagConfirm s =
    .next (settle (when s.mbc.confirmWatch.isSome bagConfirmed (takeEdge .bg s))) := by
  show execBagConfirm s = _
  simp only [execBagConfirm, withEdge, next, leads, beq_self_eq_true, if_true]
  rfl

/-- What a confirm leaves: the handoff when the stroke is over, and no BAG_MISS whose reset is AUTO. -/
structure BagConfirms (s u : State) : Prop where
  mbc : u.mbc = { s.mbc with confirmed := true, confirmWatch := none,
                             bagger := if s.mbc.bagger = .confirm then .handoff else s.mbc.bagger }
  ends : s.params.mask.bagMiss = true → standing .bagMiss .out u = false
  same : { u with mbc := s.mbc, lic := s.lic, ft := s.ft, tu := s.tu, ml := { u.ml with reports := s.ml.reports } } = s

/-- The state after a confirm's notice. -/
def confirmNoted (s : State) : State := bagConfirmNotice (s.onMbc (fun m => { m with confirmed := true, confirmWatch := none }))

theorem confirmNoted_mbc (s : State) : (confirmNoted s).mbc = { s.mbc with confirmed := true, confirmWatch := none } := by
  simp [confirmNoted]

theorem confirmNoted_same (s : State) : { confirmNoted s with
    mbc := s.mbc, lic := s.lic, ft := s.ft, tu := s.tu, ml := { (confirmNoted s).ml with reports := s.ml.reports } } = s :=
  State.eq_of_blocks (by simp [confirmNoted]) (by simp [confirmNoted]) (by simp [confirmNoted]) (by simp [confirmNoted])
    (by simp [confirmNoted]) (by simp [confirmNoted]) (by simp [confirmNoted]) (by simp [confirmNoted]) (by simp [confirmNoted])
    rfl rfl (by simp [confirmNoted]) (by simp [confirmNoted]) (by simp [confirmNoted]) (by simp [confirmNoted])
    (by simp [confirmNoted]) rfl rfl (by simp [confirmNoted]) (by simp [confirmNoted])
    (MessageLink.eq_but_reports (by simp [confirmNoted]) (by simp [confirmNoted]) (by simp [confirmNoted]) (by simp [confirmNoted])
      (by simp [confirmNoted]) (by simp [confirmNoted]) (by simp [confirmNoted]) (by simp [confirmNoted]) (by simp [confirmNoted])
      (by simp [confirmNoted]) (by simp [confirmNoted]))

theorem bagConfirms_bagConfirmed (s : State) : BagConfirms s (bagConfirmed s) := by
  have noted : s.params.mask.bagMiss = true → standing .bagMiss .out (confirmNoted s) = false := fun auto =>
    bagConfirmNotice_ends (s := s.onMbc (fun m => { m with confirmed := true, confirmWatch := none })) auto
  have confirmed : bagConfirmed s = when (s.mbc.bagger == .confirm) (State.onMbc (fun m => { m with bagger := .handoff }))
      (confirmNoted s) := by
    have bagger : (confirmNoted s).mbc.bagger = s.mbc.bagger := by rw [confirmNoted_mbc]
    rw [← bagger]; rfl
  rw [confirmed]
  by_cases ended : s.mbc.bagger = .confirm
  · rw [ended, beq_self_eq_true, when_true]
    exact ⟨by simp [confirmNoted_mbc, ended], noted, confirmNoted_same s⟩
  · rw [beq_eq_false_iff_ne.2 ended, when_false]
    exact ⟨by simp [confirmNoted_mbc, ended], noted, confirmNoted_same s⟩

/-! ## The bag miss (R89) -/

theorem exec_bagConfirmWatchRunOut (s : State) : exec .bagConfirmWatchRunOut s =
    .next (when s.mbc.confirmWatch.isSome (fun s => settle (bagMissed s)) s) := rfl

/-- What the run-out of the confirm watch leaves: the record lost and BAG_MISS with its tag. -/
structure BagMisses (r : LoafRecord) (s u : State) : Prop where
  tt : u.tt = { s.tt with bagger := none }
  lost : u.tu.live.line.lost = bump s.tu.live.line.lost
  stands : standsWith .bagMiss .out (some r.tag) u = true
  watch : u.mbc.confirmWatch = none
  bagger : u.mbc.bagger = if s.mbc.bagger = .confirm then .idle else s.mbc.bagger
  same : { u with tt := s.tt, mbc := s.mbc, lic := s.lic, ft := s.ft, tu := s.tu,
                  ml := { u.ml with reports := s.ml.reports } } = s

/-- The record of a bag miss, out of the pool, with its fault. -/
def missed (r : LoafRecord) (s : State) : State := raiseFault .bagMiss .out (some r.tag)
  (countLost r ((s.onMbc (fun m => { m with confirmWatch := none })).onTt (fun t => { t with bagger := none })))

theorem bagMissed_eq (inBagger : selectedInBagger s = some r) :
    bagMissed s = when (s.mbc.bagger == .confirm) endCycle (missed r s) := by
  have same : selectedInBagger (s.onMbc (fun m => { m with confirmWatch := none })) = some r :=
    (selectedInBagger_congr rfl rfl).trans inBagger
  have bagger : (missed r s).mbc.bagger = s.mbc.bagger := by simp [missed]
  rw [← bagger]
  simp only [bagMissed, same, missed]

theorem bagMisses_bagMissed (inBagger : selectedInBagger s = some r) : BagMisses r s (bagMissed s) := by
  have tracked : (bagMissed s).tt = (missed r s).tt := by rw [bagMissed_eq inBagger]; simp
  have told : (bagMissed s).tu = (missed r s).tu := by rw [bagMissed_eq inBagger]; simp
  have faults : (bagMissed s).ft = (missed r s).ft := by rw [bagMissed_eq inBagger]; simp
  refine ⟨?_, ?_, ?_, ?_, ?_, ?_⟩
  · rw [tracked]; simp [missed]
  · rw [told, missed, counter_of_lineCounts LineBlock.lost (lineCounts_raiseFault ..), countLost_line]; rfl
  · rw [standsWith_congr faults]
    exact standsWith_raiseFault _ _ _ _
  · rw [bagMissed_eq inBagger]; simp [missed]
  · rw [bagMissed_eq inBagger]
    by_cases ended : s.mbc.bagger = .confirm
    · simp [ended, endCycle]
    · rw [beq_eq_false_iff_ne.2 ended, when_false, if_neg ended]
      simp [missed]
  · exact State.eq_of_blocks (by simp) (by simp) (by simp) (by simp) rfl (by simp) (by simp) (by simp) (by simp) rfl rfl
      (by simp) (by simp) (by simp) (by simp) (by simp) rfl rfl (by simp) (by simp) MessageLink.eq_but_reports

end Sys2Proof.Machine
end

section
/-! SUPPORT. The end of the bag blast (R90) and the request of a bagger that waited for it (R87). -/

namespace Sys2Proof.Machine

set_option Elab.async false

variable {s t u v : State} {c d : AirChannel}

/-! ## A grant after BAG, beside the bagger -/

/-- A grant to a requester after BAG: the bagger, the tracking and the totals stay; the one channel may go to a requester that
waits on it, which then waits no more. -/
structure GrantsAfterBag (d : AirChannel) (s t : State) : Prop where
  mbc : t.mbc = s.mbc
  valve : t.dou.bagBlast = s.dou.bagBlast
  tt : t.tt = s.tt
  tu : t.tu = s.tu
  low : t.ama.pressureLow = s.ama.pressureLow
  waits : ∀ r c, t.ama.waiting.get r = some c → s.ama.waiting.get r = some c
  holder : ∀ e, t.ama.holder.get e = s.ama.holder.get e ∨
    (e = d ∧ ∃ r, r ≠ .bag ∧ s.ama.waiting.get r = some d ∧ t.ama.holder.get e = some r)

theorem grantsAfterBag_grantAfterBag (d : AirChannel) (s : State) : GrantsAfterBag d s (grantAfterBag d s) := by
  obtain same | ⟨r, notBag, waits, granted⟩ := grantAfterBag_cases d s
  · rw [same]
    exact ⟨rfl, rfl, rfl, rfl, rfl, fun _ _ => id, fun _ => .inl rfl⟩
  · rw [granted]
    refine ⟨by simp, ?_, by simp, by simp, by rw [grantOther_ama, becomeHolder_eq], fun q c left => ?_, fun e => ?_⟩
    · cases r with
      | bag => exact absurd rfl notBag
      | purge | kna | knb => simp [grantOther]
    · rw [grantOther_ama, becomeHolder_waiting] at left
      by_cases same : q = r
      · rw [same, PerRequester.get_upd_same] at left
        exact absurd left nofun
      · rwa [PerRequester.get_upd_other _ same] at left
    · rw [grantOther_holder]
      by_cases same : e = d
      · exact .inr ⟨same, r, notBag, waits, by rw [same, PerAir.get_upd_same]⟩
      · exact .inl (PerAir.get_upd_other _ same _)

/-! ## The blast's end -/

/-- The state with the blast over, before its channel is released. -/
def blastOver (s : State) : State := setBagBlast false (s.onMbc (fun m => { m with blast := none }))

/-- The state with the blast over and its channel released. -/
def blastReleased (s : State) : State := airRelease .bag (blastOver s)

theorem endBlast_eq (s : State) : endBlast s =
    when ((blastReleased s).mbc.bagger == .airWait && ((blastReleased s).ama.waiting.get .bag).isNone) (airRequest .bag)
      (blastReleased s) := rfl

/-- What the end of a blast that BAG does not wait beside leaves. -/
structure BlastEnds (s v : State) : Prop where
  mbc : v.mbc = { s.mbc with blast := none }
  valve : v.dou.bagBlast = false
  tt : v.tt = s.tt
  tu : v.tu = s.tu
  low : v.ama.pressureLow = s.ama.pressureLow
  waits : ∀ r c, v.ama.waiting.get r = some c → s.ama.waiting.get r = some c
  released : ∀ e, v.ama.holder.get e ≠ some .bag
  stays : ∀ e r, r ≠ .bag → s.ama.holder.get e = some r → v.ama.holder.get e = some r
  free : ∀ e, (s.ama.holder.get e = none ∨ s.ama.holder.get e = some .bag) → (∀ r, s.ama.waiting.get r ≠ some e) →
    v.ama.holder.get e = none

theorem blastEnds_blastReleased (quiet : s.ama.waiting.bag = none)
    (once : ¬(s.ama.holder.air0 = some .bag ∧ s.ama.holder.air1 = some .bag)) : BlastEnds s (blastReleased s) := by
  have blast : (blastOver s).mbc = { s.mbc with blast := none } := by simp [blastOver, setBagBlast]
  have valve : (blastOver s).dou.bagBlast = false := by simp [blastOver, setBagBlast]
  unfold blastReleased airRelease; split
  next d held =>
    have here : s.ama.holder.get d = some .bag := holder_of_held held
    have notWaiting : (blastOver s).ama.waiting.get .bag ≠ some d := fun waits => absurd (quiet.symm.trans waits) nofun
    obtain ⟨mbc, blasts, tt, tu, low, waits, holder⟩ := grantsAfterBag_grantAfterBag d (setHolder d none (blastOver s))
    rw [releaseChannel_afterBag notWaiting]
    have other : ∀ e, e ≠ d → (grantAfterBag d (setHolder d none (blastOver s))).ama.holder.get e = s.ama.holder.get e := by
      intro e different
      obtain same | ⟨same, -⟩ := holder e
      · exact same.trans (PerAir.get_upd_other _ different _)
      · exact absurd same different
    refine ⟨mbc.trans blast, blasts.trans valve, tt, tu, low, waits, fun e => ?_, fun e r notBag holds => ?_, fun e empty nobody => ?_⟩
    · by_cases same : e = d
      · obtain same' | ⟨-, r, notBag, -, now⟩ := holder e
        · rw [same', same]; simp [setHolder]
        · rw [now]; simpa using notBag
      · rw [other e same]
        exact holder_of_held_other once held same
    · have different : e ≠ d := fun same => notBag (by rw [same, here] at holds; exact (Option.some.inj holds).symm)
      rw [other e different, holds]
    · by_cases same : e = d
      · obtain same' | ⟨-, r, -, waits, -⟩ := holder e
        · rw [same', same]; simp [setHolder]
        · exact absurd waits (same ▸ nobody r)
      · rw [other e same]
        exact empty.resolve_right (holder_of_held_other once held same)
  next none =>
    have none := held_eq_none.1 none
    exact ⟨blast, valve, rfl, rfl, rfl, fun _ _ => id, none, fun _ _ _ => id, fun e empty _ => empty.resolve_right (none e)⟩

/-! ## The request that waited for it -/

/-- The request is granted with a bag left. -/
structure BaggerOpens (c : AirChannel) (s u : State) : Prop where
  bagger : u.mbc.bagger = .opening
  count : u.mbc.bagCount = s.mbc.bagCount - 1
  timer : u.mbc.openTimer = some 100
  blast : u.mbc.blast ≠ none
  holds : u.ama.holder.get c = some .bag
  waits : u.ama.waiting.bag = none
  used : u.tu.live.line.bagsUsed = bump s.tu.live.line.bagsUsed
  valve : s.lsc.line ≠ .stop → u.dou.bagBlast = true

theorem baggerOpens_of_granted (granted : Granted .bag c s u) : BaggerOpens c s u := by
  obtain ⟨-, ⟨ms, mbc, -⟩, used, dou, -⟩ := id granted
  exact ⟨by rw [mbc], by rw [mbc], by rw [mbc], by rw [mbc]; nofun, granted.holder, granted.waiting, used,
    fun runs => by rw [dou, if_neg runs]⟩

/-- A request on a free channel that finds no bag and nobody else waiting leaves the channel free and the bagger in SELECT. -/
theorem airRequest_bag_of_none (steered : (s.params.steering.get .bag).channel = some c) (free : s.ama.grantable c = true)
    (empty : s.mbc.bagCount = 0) (nobody : ∀ r, s.ama.waiting.get r ≠ some c) :
    airRequest .bag s = waitForBags (setWaiting .bag none s) := by
  rw [airRequest_granted .bag c s steered free, grantTo, grantBag_of_none c empty]
  have ama : (waitForBags (setWaiting .bag none s)).ama = (setWaiting .bag none s).ama := by simp
  have still : ∀ r, r ≠ .bag → (waitForBags (setWaiting .bag none s)).ama.waiting.get r ≠ some c := by
    intro r other
    rw [ama, setWaiting, onAma_ama, PerRequester.get_upd_other _ other]
    exact nobody r
  exact grantAfterBag_none (still .purge (by decide)) (bestKnife_none (still .kna (by decide)) (still .knb (by decide)))

end Sys2Proof.Machine
end

section
/-! SUPPORT. The handoff to the tyer at the first moment of a step (R91, R92), and the bagger's cycle as a whole (R87 to R91). -/

namespace Sys2Proof.Machine

set_option Elab.async false

variable {s t u : State} {r : LoafRecord} {c : AirChannel}

/-! ## The gaps before the handoff -/

/-- The gaps of the two lanes, made before the handoff. -/
def gapsMade (s : State) : State := makeGap .b (makeGap .a s)

theorem enterBlowing_stations (l : Lane) (alone : Bool) (s : State) :
    (enterBlowing l alone s).mbc = s.mbc ∧ (enterBlowing l alone s).tsc = s.tsc := by simp [enterBlowing]

theorem requestKnife_stations (l : Lane) (s : State) :
    (requestKnife l s).mbc = s.mbc ∧ (requestKnife l s).tsc = s.tsc := by
  unfold requestKnife airRequest; split
  · exact enterBlowing_stations l true s
  · split
    · exact ⟨rfl, rfl⟩
    · split
      · rw [grantTo_knife]
        obtain ⟨mbc, tsc⟩ := enterBlowing_stations l false (becomeHolder (knife l) _
          (s.onCrumb l (fun c => { c with cycle := .airWait, shakerOnly := false, airWait := some s.params.airWaitMs })))
        exact ⟨mbc.trans (by simp), tsc.trans (by simp)⟩
      · exact ⟨rfl, rfl⟩

theorem makeGap_stations (l : Lane) (s : State) : (makeGap l s).mbc = s.mbc ∧ (makeGap l s).tsc = s.tsc :=
  when_elim (P := fun t => t.mbc = s.mbc ∧ t.tsc = s.tsc) ⟨rfl, rfl⟩ fun _ => requestKnife_stations l s

theorem gapsMade_mbc (s : State) : (gapsMade s).mbc = s.mbc :=
  (makeGap_stations .b _).1.trans (makeGap_stations .a s).1

theorem gapsMade_tsc (s : State) : (gapsMade s).tsc = s.tsc :=
  (makeGap_stations .b _).2.trans (makeGap_stations .a s).2

theorem gapsMade_tt (s : State) : (gapsMade s).tt = s.tt := by simp [gapsMade]

/-! ## What follows the handoff -/

/-- The selection, the admissions and the infeed belts. -/
def flowAfterHandoff (s : State) : State :=
  infeedFollow .b (infeedFollow .a (admitIfReady .b (admitIfReady .a (selectIfReady s))))

theorem flow_eq (s : State) : flow s = flowAfterHandoff (handoff (gapsMade s)) := rfl

theorem tyerKept_startRoute (s : State) : TyerKept s (startRoute s) := by
  unfold startRoute; split
  · exact .of_same
  · unfold bagCheck; split
    next bags => exact tyerKept_requestBag bags
    next => exact .of_same (by simp [waitForBags]) (by simp [waitForBags]) (by simp [waitForBags]) (by simp [waitForBags])

theorem tyerKept_selectIfReady (s : State) : TyerKept s (selectIfReady s) := by
  unfold selectIfReady; split
  next l r _ =>
    refine tyerKept_when (fun s => ?_) _ s
    unfold selectLane; dsimp only; split
    · exact TyerKept.trans .of_same (tyerKept_startRoute _)
    · exact .of_same (by simp [startHoming]) (by simp [startHoming]) (by simp [startHoming]) (by simp [startHoming])
  next => exact .of_same

theorem tyerKept_flowAfterHandoff (s : State) : TyerKept s (flowAfterHandoff s) :=
  (tyerKept_selectIfReady s).trans (.of_same (by simp [flowAfterHandoff]) (by simp [flowAfterHandoff]) (by simp [flowAfterHandoff])
    (by simp [flowAfterHandoff]))

theorem movesFaults_flowAfterHandoff (s : State) : MovesFaults bagKinds s (flowAfterHandoff s) :=
  (movesFaults_selectIfReady s).before (by simp [flowAfterHandoff])

/-- A selection leaves the bagger in SELECT, or where its bag check takes it. -/
theorem selectLane_bagger (l : Lane) (r : LoafRecord) (s : State) : (selectLane l r s).mbc.bagger ≠ .handoff := by
  have route : ∀ s : State, s.mbc.bagger = .select → (startRoute s).mbc.bagger ≠ .handoff := by
    intro s select
    unfold startRoute; split
    · simp [select]
    · unfold bagCheck; split
      next bags =>
        obtain waits | ⟨opens, -⟩ := requestBag_bagger bags
        · rw [waits]; decide
        · rw [opens]; decide
      next => simp [waitForBags]
  unfold selectLane; dsimp only; split
  · exact route _ rfl
  · simp [startHoming]

theorem selectIfReady_bagger (idle : s.mbc.bagger = .idle) : (selectIfReady s).mbc.bagger ≠ .handoff := by
  unfold selectIfReady; split
  · exact when_elim (P := fun t => t.mbc.bagger ≠ .handoff) (by simp [idle]) fun _ => selectLane_bagger _ _ s
  · simp [idle]

theorem selectLane_tt_bagger (l : Lane) (r : LoafRecord) (s : State) : (selectLane l r s).tt.bagger = s.tt.bagger := by
  unfold selectLane; dsimp only; split <;> simp [startHoming]

theorem selectIfReady_tt_bagger (s : State) : (selectIfReady s).tt.bagger = s.tt.bagger := by
  unfold selectIfReady; split
  · exact when_elim (P := fun t => t.tt.bagger = s.tt.bagger) rfl fun _ => selectLane_tt_bagger _ _ s
  · rfl

/-! ## The handoff -/

/-- The state with the record in TYER and the bagger's cycle ended. -/
def handedOver (r : LoafRecord) (s : State) : State := endCycle (s.onTt (fun t => { t with bagger := none, tyer := some r }))

theorem handoff_of_ready (ready : s.mbc.bagger = .handoff) (bagged : s.tt.bagger = some r) (empty : s.tt.tyer = none)
    (moves : s.lsc.line ≠ .hold) : handoff s = when ((handedOver r s).tsc.tyer == .idle) startTyer (handedOver r s) := by
  unfold handoff
  rw [bagged, empty]
  exact if_pos (by rw [ready, bne_iff_ne.2 moves]; rfl)

theorem handoff_of_blocked (blocked : s.tt.tyer ≠ none ∨ s.lsc.line = .hold) : handoff s = s := by
  unfold handoff; split
  next bagged empty =>
    have hold : s.lsc.line = .hold := blocked.resolve_left (fun full => full empty)
    exact if_neg (by simp [hold])
  next => rfl

/-- The start of a cycle keeps the records and the bagger. -/
theorem startTyer_tt (s : State) : (startTyer s).tt = s.tt := by simp

theorem startTyer_bagger (s : State) : (startTyer s).mbc.bagger = s.mbc.bagger := by
  unfold startTyer; split
  · unfold airRequest; split
    · rfl
    · split
      · simp [grantTo, grantOther]
      · rfl
  · simp

/-- R92: whether the purge is due. -/
def purgeDue (s : State) : Prop := s.params.purgeInterval ≠ 0 ∧ s.params.purgeInterval ≤ s.tsc.tiesSincePurge

/-- The purge asked for: it waits on its channel, or it holds it and runs. -/
structure PurgeStarts (s t : State) : Prop where
  tyer : t.tsc.tyer = .purgeWait
  asks : ∀ c, (s.params.steering.get .purge).channel = some c → t.ama.waiting.get .purge = some c ∨
    (t.ama.holder.get c = some .purge ∧ t.tsc.purge = some 200 ∧ (s.lsc.line ≠ .stop → t.dou.purge = true))

theorem PurgeStarts.of_kept (starts : PurgeStarts s t) (kept : TyerKept t u) : PurgeStarts s u := by
  obtain ⟨tyer, asks⟩ := starts
  refine ⟨by rw [kept.tsc, tyer], fun c steered => ?_⟩
  obtain waits | ⟨holds, timer, valve⟩ := asks c steered
  · exact .inl (kept.waits.trans waits)
  · exact .inr ⟨kept.holds c holds, by rw [kept.tsc, timer], fun runs => kept.purge.trans (valve runs)⟩

theorem purgeStarts_startTyer (due : purgeDue s) : PurgeStarts s (startTyer s) := by
  have starts : startTyer s = airRequest .purge (s.onTsc (fun t => { t with tyer := .purgeWait })) :=
    if_pos (by simpa [purgeDue] using due)
  rw [starts]
  cases steered : (s.params.steering.get .purge).channel with
  | none =>
    rw [airRequest_unsteered (s := s.onTsc (fun t => { t with tyer := .purgeWait })) steered]
    exact ⟨rfl, fun c named => absurd (steered.symm.trans named) nofun⟩
  | some d =>
    by_cases free : s.ama.pressureLow = false ∧ s.ama.holder.get d = none
    · have granted := airRequest_grants (s := s.onTsc (fun t => { t with tyer := .purgeWait })) (r := .purge) steered free.1 free.2
        (fun same => absurd same (by decide))
      obtain ⟨-, tsc, dou, -⟩ := id granted
      refine ⟨by rw [tsc]; rfl, fun c same => ?_⟩
      obtain rfl : d = c := Option.some.inj (steered.symm.trans same)
      exact .inr ⟨granted.holder, by rw [tsc], fun runs => by rw [dou, if_neg (by exact runs)]⟩
    · have held : s.ama.pressureLow = true ∨ s.ama.holder.get d ≠ none := by
        rwa [not_and_or, Bool.not_eq_false] at free
      rw [airRequest_waits .purge d (s.onTsc (fun t => { t with tyer := .purgeWait })) steered
        (grantable_eq_false (a := s.ama) held)]
      refine ⟨rfl, fun c same => ?_⟩
      obtain rfl : d = c := Option.some.inj (steered.symm.trans same)
      exact .inl rfl

theorem startTyer_of_notDue (notDue : ¬purgeDue s) : startTyer s = enterTwist s := if_neg (by simpa [purgeDue] using notDue)

/-- What a flow does from a handoff that may take place: the record in TYER, and the start of an idle tyer's cycle. -/
structure HandsOver (r : LoafRecord) (s u : State) : Prop where
  tyer : u.tt.tyer = some r
  bagger : u.tt.bagger = none
  ends : u.mbc.bagger ≠ .handoff
  purges : s.tsc.tyer = .idle → purgeDue s → PurgeStarts s u
  twists : s.tsc.tyer = .idle → ¬purgeDue s → 0 < s.tsc.clipCount → u.tsc = { s.tsc with
      tyer := .twist, phaseTimer := some 200, tieTimer := some s.params.tieTimeout, leftHome := false } ∧
    (s.lsc.line ≠ .stop → u.dou.tyer = true)
  waits : s.tsc.tyer = .idle → ¬purgeDue s → s.tsc.clipCount = 0 →
    u.tsc = { s.tsc with tyer := .twist, phaseTimer := none, tieTimer := none } ∧ standing .clipsOut .out u = true

theorem handoff_startsTyer (idle : (handedOver r s).tsc.tyer = .idle) :
    when ((handedOver r s).tsc.tyer == .idle) startTyer (handedOver r s) = startTyer (handedOver r s) := by
  rw [idle]; rfl

theorem handsOver_flow (ready : s.mbc.bagger = .handoff) (bagged : s.tt.bagger = some r) (empty : s.tt.tyer = none)
    (moves : s.lsc.line ≠ .hold) : HandsOver r s (flow s) := by
  have mbc := gapsMade_mbc s
  have tt := gapsMade_tt s
  have lsc : (gapsMade s).lsc = s.lsc := by simp [gapsMade]
  have params : (handedOver r (gapsMade s)).params = s.params := by simp [handedOver, gapsMade]
  have tsc : (handedOver r (gapsMade s)).tsc = s.tsc := by simp [handedOver, gapsMade_tsc]
  have line : (handedOver r (gapsMade s)).lsc = s.lsc := by simp [handedOver, gapsMade]
  have handed := handoff_of_ready (s := gapsMade s) (r := r) (by rw [mbc, ready]) (by rw [tt, bagged]) (by rw [tt, empty])
    (by rw [lsc]; exact moves)
  have tracked : (handoff (gapsMade s)).tt = (handedOver r (gapsMade s)).tt := by
    rw [handed]; exact when_elim (P := fun t => t.tt = (handedOver r (gapsMade s)).tt) rfl fun _ => startTyer_tt _
  have idleBagger : (handoff (gapsMade s)).mbc.bagger = .idle := by
    rw [handed]
    exact when_elim (P := fun t => t.mbc.bagger = .idle) rfl fun _ => startTyer_bagger _
  have kept := tyerKept_flowAfterHandoff (handoff (gapsMade s))
  have starts : s.tsc.tyer = .idle → handoff (gapsMade s) = startTyer (handedOver r (gapsMade s)) := fun idle =>
    handed.trans (handoff_startsTyer (by rw [tsc, idle]))
  have due : purgeDue (handedOver r (gapsMade s)) ↔ purgeDue s := by unfold purgeDue; rw [params, tsc]
  rw [flow_eq]
  refine ⟨?_, ?_, ?_, fun idle purges => ?_, fun idle rests clips => ?_, fun idle rests none => ?_⟩
  · simp [flowAfterHandoff, tracked, handedOver]
  · simp [flowAfterHandoff, selectIfReady_tt_bagger, tracked, handedOver]
  · simpa [flowAfterHandoff] using selectIfReady_bagger idleBagger
  · obtain ⟨tyer, asks⟩ := purgeStarts_startTyer (due.2 purges)
    rw [params, line] at asks
    rw [starts idle] at kept ⊢
    exact PurgeStarts.of_kept ⟨tyer, asks⟩ kept
  · have twist : handoff (gapsMade s) = startTwist (handedOver r (gapsMade s)) := by
      rw [starts idle, startTyer_of_notDue (mt due.1 rests), enterTwist_of_clips (by rw [tsc]; exact clips)]
    rw [kept.tsc, kept.drive, twist, startTwist_tsc, params, tsc]
    exact ⟨rfl, fun runs => startTwist_drive (by rw [line]; exact runs)⟩
  · have twist : handoff (gapsMade s) = enterTwist (handedOver r (gapsMade s)) := by
      rw [starts idle, startTyer_of_notDue (mt due.1 rests)]
    obtain ⟨waits, stands⟩ := enterTwist_waits (s := handedOver r (gapsMade s)) (by rw [tsc]; exact none)
    rw [kept.tsc]
    refine ⟨by rw [twist, waits, tsc], ?_⟩
    exact ((movesFaults_flowAfterHandoff _).pairs .clipsOut .out (by decide)).stays
      (by rw [twist]; exact standing_of_standsWith stands)

/-- What a flow leaves while the handoff waits. -/
theorem flow_of_blocked (ready : s.mbc.bagger = .handoff) (blocked : s.tt.tyer ≠ none ∨ s.lsc.line = .hold) :
    (flow s).tt.tyer = s.tt.tyer ∧ (flow s).tt.bagger = s.tt.bagger ∧ (flow s).mbc.bagger = .handoff ∧ (flow s).tsc = s.tsc := by
  have lsc : (gapsMade s).lsc = s.lsc := by simp [gapsMade]
  have still : handoff (gapsMade s) = gapsMade s := handoff_of_blocked (by rw [gapsMade_tt, lsc]; exact blocked)
  have busy : selectIfReady (gapsMade s) = gapsMade s :=
    selectIfReady_of_busy (by simp [maySelect, gapsMade_mbc, ready])
  rw [flow_eq, still, flowAfterHandoff, busy]
  simp [gapsMade_tt, gapsMade_mbc, gapsMade_tsc, ready]

/-! ## The bagger's moments -/

theorem exec_bagBlastEnd (s : State) :
    exec .bagBlastEnd s = .next (when s.mbc.blast.isSome (fun s => settle (endBlast s)) s) := rfl

theorem endBlast_of_other (other : s.mbc.bagger ≠ .airWait) (ends : BlastEnds s (blastReleased s)) :
    endBlast s = blastReleased s := by
  have still : ((blastReleased s).mbc.bagger == .airWait) = false := by rw [ends.mbc]; exact beq_eq_false_iff_ne.2 other
  rw [endBlast_eq, still]; rfl

theorem BlastEnds.quiet (ends : BlastEnds s t) (quiet : s.ama.waiting.bag = none) : t.ama.waiting.bag = none := by
  cases waits : t.ama.waiting.bag with
  | none => rfl
  | some c => exact absurd (quiet.symm.trans (ends.waits .bag c waits)) nofun

theorem endBlast_of_waiting (waits : s.mbc.bagger = .airWait) (quiet : s.ama.waiting.bag = none)
    (ends : BlastEnds s (blastReleased s)) : endBlast s = airRequest .bag (blastReleased s) := by
  have now : ((blastReleased s).mbc.bagger == .airWait) = true := by rw [ends.mbc]; exact beq_iff_eq.2 waits
  have none : ((blastReleased s).ama.waiting.get .bag).isNone = true := Option.isNone_iff_eq_none.2 (ends.quiet quiet)
  rw [endBlast_eq, now, none]; rfl

/-- R119: whether a channel is to be had after the blast: pressure, and nobody but BAG at it or waiting on it. -/
def freeAfterBlast (c : AirChannel) (s : State) : Prop :=
  s.ama.pressureLow = false ∧ (s.ama.holder.get c = none ∨ s.ama.holder.get c = some .bag) ∧ ∀ r, s.ama.waiting.get r ≠ some c

/-- A request for a bag that finds its channel taken, or no pressure. -/
structure BagWaits (c : AirChannel) (s u : State) : Prop where
  mbc : u.mbc = { s.mbc with blast := none }
  waits : u.ama.waiting.bag = some c
  holdsNone : u.ama.held .bag = none
  valve : u.dou.bagBlast = false

/-- A request for a bag that finds none in the magazine. -/
structure BagMissing (c : AirChannel) (s u : State) : Prop where
  mbc : u.mbc = { s.mbc with bagger := .select, blast := none }
  channel : u.ama.holder.get c = none
  waits : u.ama.waiting.bag = none
  valve : u.dou.bagBlast = false
  told : standsWith .bagsOut .out none u = true

section
variable (ends : BlastEnds s t) (steered : (t.params.steering.get .bag).channel = some c)
include ends steered

theorem request_opens (line : t.lsc = s.lsc) (free : freeAfterBlast c s) (bags : 0 < s.mbc.bagCount) :
    BaggerOpens c s (airRequest .bag t) := by
  obtain ⟨high, mine, nobody⟩ := free
  have granted := airRequest_grants steered (ends.low.trans high) (ends.free c mine nobody)
    (fun _ => by rw [ends.mbc]; exact bags)
  obtain ⟨bagger, count, timer, blast, holds, waits, used, valve⟩ := baggerOpens_of_granted granted
  exact ⟨bagger, count.trans (by rw [ends.mbc]), timer, blast, holds, waits, used.trans (by rw [ends.tu]),
    fun runs => valve (by rw [line]; exact runs)⟩

theorem request_misses (free : freeAfterBlast c s) (empty : s.mbc.bagCount = 0) : BagMissing c s (airRequest .bag t) := by
  obtain ⟨high, mine, nobody⟩ := free
  have channel := ends.free c mine nobody
  have grantable : t.ama.grantable c = true := by simp [AirArbiter.grantable, channel, ends.low, high]
  rw [airRequest_bag_of_none steered grantable (by rw [ends.mbc]; exact empty) fun r waits => nobody r (ends.waits r c waits)]
  have ama : (waitForBags (setWaiting .bag none t)).ama = (setWaiting .bag none t).ama := by simp
  exact ⟨by simp [waitForBags, setWaiting, ends.mbc], by rw [ama]; exact channel, by rw [ama]; rfl,
    by simp [setWaiting, ends.valve], standsWith_raiseFault _ _ _ _⟩

theorem request_waits (taken : s.ama.pressureLow = true ∨ ∃ r, r ≠ .bag ∧ s.ama.holder.get c = some r) :
    BagWaits c s (airRequest .bag t) := by
  have held : t.ama.pressureLow = true ∨ t.ama.holder.get c ≠ none := by
    obtain low | ⟨r, other, holds⟩ := taken
    · exact .inl (ends.low.trans low)
    · exact .inr (by rw [ends.stays c r other holds]; nofun)
  rw [airRequest_waits .bag c t steered (grantable_eq_false held)]
  exact ⟨ends.mbc, rfl, held_eq_none.2 ends.released, ends.valve⟩

end

/-- Settles O49: the ends of the opening, the confirm, its watch and the blast, and the handoff at the first moment of a step. -/
theorem bagCycleRunsItsTimers : Obligations.BagCycleRunsItsTimers := by
  refine fun s => ⟨fun idle => ?_, fun l r timed head runs => ⟨openingOver s, ?_, ?_⟩, fun x next leads => ?_, fun idle => ?_,
    fun r runs inBagger => ⟨bagMissed s, ?_, ?_⟩, fun idle => ?_, fun runs other quiet once => ⟨blastReleased s, ?_, ?_⟩,
    fun c runs waits quiet once steered => ?_, fun r ready bagged empty moves => ?_, flow_of_blocked⟩
  · rw [exec_openingEnd, idle]; rfl
  · rw [exec_openingEnd, Option.isSome_iff_ne_none.2 timed, when_true]
  · obtain ⟨bagger, accum, mbc, pushes, approach, blade, tyer, exit⟩ := pushBegins_openingOver head runs
    exact ⟨bagger, accum, mbc, pushes, approach, blade, tyer, exit⟩
  · rw [exec_bagConfirm next leads]
    refine ⟨fun idle => by rw [idle]; rfl, fun runs => ⟨bagConfirmed (takeEdge .bg s), ?_, ?_⟩⟩
    · rw [Option.isSome_iff_ne_none.2 runs, when_true]
    · obtain ⟨mbc, ends, same⟩ := bagConfirms_bagConfirmed (takeEdge .bg s)
      exact ⟨mbc, ends, same⟩
  · rw [exec_bagConfirmWatchRunOut, idle]; rfl
  · rw [exec_bagConfirmWatchRunOut, Option.isSome_iff_ne_none.2 runs, when_true]
  · obtain ⟨tt, lost, stands, watch, bagger, same⟩ := bagMisses_bagMissed inBagger
    exact ⟨tt, lost, stands, watch, bagger, same⟩
  · rw [exec_bagBlastEnd, idle]; rfl
  · rw [exec_bagBlastEnd, Option.isSome_iff_ne_none.2 runs, when_true,
      endBlast_of_other other (blastEnds_blastReleased quiet once)]
  · have ends := blastEnds_blastReleased quiet once
    exact ⟨ends.mbc, ends.valve, held_eq_none.2 ends.released, ends.tt⟩
  · have ends := blastEnds_blastReleased quiet once
    have steered : ((blastReleased s).params.steering.get .bag).channel = some c := by
      have params : (blastReleased s).params = s.params := by simp [blastReleased, blastOver]
      rw [params]; exact steered
    refine ⟨endBlast s, ?_, by simp, ?_⟩
    · rw [exec_bagBlastEnd, Option.isSome_iff_ne_none.2 runs, when_true]
    · rw [endBlast_of_waiting waits quiet ends]
      refine ⟨fun free bags => ?_, fun free empty => ?_, fun taken => ?_⟩
      · obtain ⟨bagger, count, timer, blast, holds, left, used, valve⟩ :=
          request_opens ends steered (by simp [blastReleased, blastOver]) free bags
        exact ⟨bagger, count, timer, blast, holds, left, used, valve⟩
      · obtain ⟨mbc, channel, left, valve, told⟩ := request_misses ends steered free empty
        exact ⟨mbc, channel, left, valve, told⟩
      · obtain ⟨mbc, asks, holdsNone, valve⟩ := request_waits ends steered taken
        exact ⟨mbc, asks, holdsNone, valve⟩
  · obtain ⟨tyer, bagger, ends, purges, twists, none⟩ := handsOver_flow ready bagged empty moves
    refine ⟨tyer, bagger, ends, fun idle => ⟨fun due => ?_, twists idle, none idle⟩⟩
    obtain ⟨asked, asks⟩ := purges idle due
    exact ⟨asked, asks⟩

end Sys2Proof.Machine
end

section
/-! SUPPORT. The dropped outputs (R136) and a withdrawal of air in STOP (R121): what is off stays off, and a grant starts
nothing there. -/

namespace Sys2Proof.Machine

set_option Elab.async false

variable {s t u : State} {c : AirChannel} {d : DriveUnit} {ms : Nat} {q : Requester}

/-! ## Dropped outputs -/

/-- A valve that is off and waits for nothing is left by its off command as it is. -/
theorem Pusher.off_of_off {v : Valve} {p : Pusher} (off : p.isOn v = false) (quiet : p.waiting = none) (ms : Nat) :
    p.off ms v = p := by
  simp [Pusher.off, quiet, off]

theorem Pusher.drop_isOn (ms : Nat) (v : Valve) (p : Pusher) : (p.drop ms).isOn v = false := by
  have extend : ((p.off ms .extend).off ms .retract).isOn .extend = false :=
    ((p.off ms .extend).off_isOn_other ms .retract).trans (p.off_isOn_same ms .extend)
  have retract : ((p.off ms .extend).off ms .retract).isOn .retract = false := (p.off ms .extend).off_isOn_same ms .retract
  cases v
  · exact extend
  · exact retract

theorem Pusher.drop_off (ms ms' : Nat) (v : Valve) (p : Pusher) : (p.drop ms).off ms' v = p.drop ms :=
  Pusher.off_of_off (p.drop_isOn ms v) rfl ms'

theorem valveOff_dou_of_dropped (dropped : s.dou = d.dropped ms) (l : Lane) (v : Valve) : (valveOff l v s).dou = s.dou := by
  have off : (d.dropped ms).pusher.upd l (Pusher.off s.params.deadTime v) = (d.dropped ms).pusher := by
    cases l <;> simp [DriveUnit.dropped, PerLane.upd, Pusher.drop_off]
  show ({ s.dou with pusher := s.dou.pusher.upd l _ } : DriveUnit) = s.dou
  rw [dropped, off]

theorem setBlade_dou_of_dropped (dropped : s.dou = d.dropped ms) (l : Lane) : (setBlade l false s).dou = s.dou := by
  show ({ s.dou with blade := s.dou.blade.upd l (fun _ => false) } : DriveUnit) = s.dou
  rw [dropped]; cases l <;> rfl

theorem setKnife_dou_of_dropped (dropped : s.dou = d.dropped ms) (l : Lane) : (setKnife l false s).dou = s.dou := by
  show ({ s.dou with knife := s.dou.knife.upd l (fun _ => false) } : DriveUnit) = s.dou
  rw [dropped]; cases l <;> rfl

theorem setShaker_dou_of_dropped (dropped : s.dou = d.dropped ms) (l : Lane) : (setShaker l false s).dou = s.dou := by
  show ({ s.dou with shaker := s.dou.shaker.upd l (fun _ => false) } : DriveUnit) = s.dou
  rw [dropped]; cases l <;> rfl

theorem bladeOff_dou_of_dropped (dropped : s.dou = d.dropped ms) (l : Lane) : (bladeOff l s).dou = s.dou := by
  have same : (when ((s.lic.get l).blade != .off) (changeBlade l .off none) s).dou = s.dou := by simp
  rw [bladeOff, setBlade_dou_of_dropped (same.trans dropped), same]

/-- Every command but TUNNEL_READY's is off. -/
theorem command_of_dropped (dropped : s.dou = d.dropped ms) (o : Output) (drive : o.isDrive = true) : command o s = false := by
  have pusher (l : Lane) (v : Valve) : ((d.dropped ms).pusher.get l).isOn v = false := by
    cases l <;> exact Pusher.drop_isOn ms v _
  unfold command
  rw [dropped]
  cases o with
  | tunnelReady l => exact absurd drive nofun
  | extend l => exact pusher l .extend
  | retract l => exact pusher l .retract
  | infeed l | accum l | blade l | gate l | knife l | shaker l => cases l <;> rfl
  | outfeed | flap | tyer | printer | bagBlast | purge => rfl

/-! ## A withdrawal in STOP -/

/-- No knife waits for air while its crumb cycle is idle. -/
def idleNotWaiting (s : State) : Prop := ∀ l, (s.cc.get l).cycle = .idle → s.ama.waiting.get (knife l) = none

/-- In STOP a grant turns no output on; a knife that waited may begin to blow, in its controller's account alone. -/
structure GrantsInStop (s t : State) : Prop where
  lsc : t.lsc = s.lsc
  dou : t.dou = s.dou
  lic : t.lic = s.lic
  mbc : t.mbc = s.mbc
  tyer : t.tsc.tyer = s.tsc.tyer
  waits : ∀ r, s.ama.waiting.get r = none → t.ama.waiting.get r = none
  cycle : ∀ l, (t.cc.get l).cycle = (s.cc.get l).cycle ∨
    (s.ama.waiting.get (knife l) ≠ none ∧ t.ama.waiting.get (knife l) = none)

theorem GrantsInStop.idleNotWaiting (grants : GrantsInStop s t) (safe : Machine.idleNotWaiting s) : Machine.idleNotWaiting t := by
  intro l idle
  obtain same | ⟨-, left⟩ := grants.cycle l
  · exact grants.waits _ (safe l (same ▸ idle))
  · exact left

theorem GrantsInStop.stays_idle (grants : GrantsInStop s t) {l : Lane} (idle : (s.cc.get l).cycle = .idle)
    (quiet : s.ama.waiting.get (knife l) = none) : (t.cc.get l).cycle = .idle := by
  obtain same | ⟨waits, -⟩ := grants.cycle l
  · exact same.trans idle
  · exact absurd quiet waits

theorem PerRequester.upd_none {r q : Requester} {w : PerRequester (Option AirChannel)} (quiet : w.get r = none) :
    (w.upd q (fun _ => none)).get r = none := by
  by_cases same : r = q
  · rw [same, PerRequester.get_upd_same]
  · rw [PerRequester.get_upd_other _ same, quiet]

theorem grantOther_knife (l : Lane) (c : AirChannel) (s : State) :
    grantOther (knife l) c s = enterBlowing l false (becomeHolder (knife l) c s) := by cases l <;> rfl

theorem eq_purge_or_knife {r : Requester} (other : r ≠ .bag) : r = .purge ∨ ∃ l, r = knife l := by
  cases r with
  | bag => exact absurd rfl other
  | purge => exact .inl rfl
  | kna => exact .inr ⟨.a, rfl⟩
  | knb => exact .inr ⟨.b, rfl⟩

theorem grantsInStop_grantOther {r : Requester} (other : r ≠ .bag) (stop : s.lsc.line = .stop)
    (waits : s.ama.waiting.get r ≠ none) : GrantsInStop s (grantOther r c s) := by
  have left : ∀ q, s.ama.waiting.get q = none → (grantOther r c s).ama.waiting.get q = none := by
    intro q quiet
    rw [grantOther_ama, becomeHolder_waiting]
    exact PerRequester.upd_none quiet
  obtain rfl | ⟨l, rfl⟩ := eq_purge_or_knife other
  · have dou : (grantOther .purge c s).dou = s.dou :=
      (startPurge_dou _).trans ((if_pos (by simpa using stop)).trans (by simp))
    exact ⟨by simp, dou, by simp, by simp, by simp [grantOther], left, fun _ => .inl (by simp [grantOther])⟩
  · obtain ⟨cc, dou, -⟩ := enterBlowing_blows l false (becomeHolder (knife l) c s)
    have line : (becomeHolder (knife l) c s).lsc.line = .stop := by simpa using stop
    refine ⟨by simp, ?_, by simp, by simp, ?_, left, fun m => ?_⟩
    · rw [grantOther_knife, dou, if_pos line]; simp
    · rw [grantOther_knife]; simp
    · by_cases same : m = l
      · rw [same]
        exact .inr ⟨waits, by rw [grantOther_ama, becomeHolder_waiting, PerRequester.get_upd_same]⟩
      · refine .inl ?_
        rw [grantOther_knife, cc, PerLane.get_upd_other _ same]
        simp

theorem grantsInStop_grantAfterBag (c : AirChannel) (stop : s.lsc.line = .stop) : GrantsInStop s (grantAfterBag c s) := by
  obtain same | ⟨r, other, waits, granted⟩ := grantAfterBag_cases c s
  · rw [same]
    exact ⟨rfl, rfl, rfl, rfl, rfl, fun _ => id, fun _ => .inl rfl⟩
  · rw [granted]
    exact grantsInStop_grantOther other stop (by rw [waits]; nofun)

/-- In STOP, with no request of BAG open, a withdrawal takes the requester's wait and hands on what it held. -/
theorem grantsInStop_airWithdraw (stop : s.lsc.line = .stop) (quiet : (setWaiting q none s).ama.waiting.get .bag = none) :
    GrantsInStop (setWaiting q none s) (airWithdraw q s) := by
  unfold airWithdraw airRelease; split
  next c held =>
    rw [releaseChannel_of_bagNotWaiting c quiet]
    obtain ⟨lsc, dou, lic, mbc, tyer, waits, cycle⟩ :=
      grantsInStop_grantAfterBag (s := setHolder c none (setWaiting q none s)) c stop
    exact ⟨lsc, dou, lic, mbc, tyer, waits, cycle⟩
  next => exact ⟨rfl, rfl, rfl, rfl, rfl, fun _ => id, fun _ => .inl rfl⟩

end Sys2Proof.Machine
end

section
/-! SUPPORT. The entry to STOP (R130, LOG 18): what each block leaves as it abandons its work, and when the line comes to STOP. -/

namespace Sys2Proof.Machine

set_option Elab.async false

variable {s t u : State} {d : DriveUnit} {ms : Nat} {l : Lane}

/-! ## The lanes -/

/-- Each lane's blade OFF and its TUNNEL_READY off. -/
def lanesOff (s : State) : Prop := ∀ l, (s.lic.get l).blade = .off ∧ (s.lic.get l).tunnelReady = false

theorem tunnelReadyOf_of_stop (stop : s.lsc.line = .stop) (l : Lane) (high : Bool) : tunnelReadyOf l high s = false := by
  simp [tunnelReadyOf, stop]

theorem syncLane_tunnelReady (stop : s.lsc.line = .stop) (l : Lane) : ((syncLane l s).lic.get l).tunnelReady = false := by
  rw [syncLane_lic_same]
  exact tunnelReadyOf_of_stop stop l _

theorem lanesOff_syncLane (stop : s.lsc.line = .stop) (off : lanesOff s) (l : Lane) : lanesOff (syncLane l s) := by
  intro m
  by_cases same : m = l
  · rw [same]
    exact ⟨by simp [(off l).1], syncLane_tunnelReady stop l⟩
  · rw [syncLane_lic_other same]
    exact off m

theorem bladeOff_lic_other {m : Lane} (other : m ≠ l) (s : State) : (bladeOff l s).lic.get m = s.lic.get m := by
  have kept : (bladeOff l s).lic = (when ((s.lic.get l).blade != .off) (changeBlade l .off none) s).lic := by simp [bladeOff]
  rw [kept]
  refine when_elim (P := fun t => t.lic.get m = s.lic.get m) rfl fun _ => ?_
  have same : (changeBlade l .off none s).lic = (syncLane l (s.onLane l (fun i => { i with blade := .off, spinWait := none }))).lic := by
    simp [changeBlade]
  rw [same, syncLane_lic_other other, State.onLane]
  exact PerLane.get_upd_other _ other _

theorem lanesOff_bladesOff (stop : s.lsc.line = .stop) : lanesOff (syncLanes (bladeOff .b (bladeOff .a s))) := by
  have blade : ∀ m, ((bladeOff .b (bladeOff .a s)).lic.get m).blade = .off := by
    intro m
    cases m with
    | a => rw [bladeOff_lic_other (by decide), bladeOff_blade]
    | b => exact bladeOff_blade _ _
  have line : (bladeOff .b (bladeOff .a s)).lsc.line = .stop := by simpa using stop
  intro m
  refine ⟨by simp [blade m], ?_⟩
  cases m with
  | a =>
    rw [syncLanes, syncLane_lic_other (by decide)]
    exact syncLane_tunnelReady line .a
  | b => exact syncLane_tunnelReady (s := syncLane .a _) (by simpa using line) .b

/-! ## The blocks in STOP -/

/-- In STOP, with the outputs of `d` dropped and the lanes off. -/
structure Stopped (d : DriveUnit) (ms : Nat) (s : State) : Prop where
  line : s.lsc.line = .stop
  dou : s.dou = d.dropped ms
  lanes : lanesOff s

theorem Stopped.of_same (stopped : Stopped d ms s) (lsc : t.lsc = s.lsc) (dou : t.dou = s.dou) (lic : t.lic = s.lic) :
    Stopped d ms t :=
  ⟨by rw [lsc, stopped.line], dou.trans stopped.dou, fun l => by rw [lic]; exact stopped.lanes l⟩

theorem Stopped.of_grants (stopped : Stopped d ms s) (grants : GrantsInStop s t) : Stopped d ms t :=
  stopped.of_same grants.lsc grants.dou grants.lic

theorem Stopped.syncLane (stopped : Stopped d ms s) (l : Lane) : Stopped d ms (syncLane l s) :=
  ⟨by simpa using stopped.line, (by simpa using stopped.dou), lanesOff_syncLane stopped.line stopped.lanes l⟩

/-- The state that the blades leave to the stations at the entry to STOP. -/
def bladesStopped (s : State) : State :=
  syncLanes (bladeOff .b (bladeOff .a (stopMarking (dropOutputs (leaveHold (changeLine .stop s))))))

theorem enterStop_eq (s : State) : enterStop s =
    abandonCrumb .b (abandonCrumb .a (abandonTyer (abandonBagger (bladesStopped s)))) := rfl

theorem stopped_bladesStopped (s : State) : Stopped s.dou s.params.deadTime (bladesStopped s) := by
  have marked : (stopMarking (dropOutputs (leaveHold (changeLine .stop s)))).dou = s.dou.dropped s.params.deadTime := by
    simp [dropOutputs, leaveHold, changeLine]
  have line : (stopMarking (dropOutputs (leaveHold (changeLine .stop s)))).lsc.line = .stop := by simp [leaveHold, changeLine]
  have first := bladeOff_dou_of_dropped marked .a
  have second := bladeOff_dou_of_dropped (first.trans marked) .b
  refine ⟨by simpa [bladesStopped] using line, ?_, lanesOff_bladesOff line⟩
  have synced : (bladesStopped s).dou =
      (bladeOff .b (bladeOff .a (stopMarking (dropOutputs (leaveHold (changeLine .stop s)))))).dou := by simp [bladesStopped]
  rw [synced, second, first, marked]

/-! ## The stations -/

/-- The bagger's block with its cycle abandoned. -/
def MergeBag.abandoned (m : MergeBag) : MergeBag := { m with
  bagger := .idle, route := none, selected := none, phase := .none, strokeTimer := none, flapTimer := none, openTimer := none
  confirmWatch := none, confirmed := false, blast := none, stopped := false }

/-- The bagger at rest, its outputs off, its request not yet withdrawn. -/
def baggerCleared (s : State) : State := valveOff .a .retract (valveOff .a .extend (valveOff .b .retract (valveOff .b .extend
  (setFlap false (setBagBlast false (s.onMbc MergeBag.abandoned))))))

theorem abandonBagger_eq (s : State) : abandonBagger s = airWithdraw .bag (baggerCleared s) := rfl

theorem baggerCleared_bagger (s : State) : (baggerCleared s).mbc.bagger = .idle := by
  simp [baggerCleared, MergeBag.abandoned]

theorem baggerCleared_dou (dropped : s.dou = d.dropped ms) : (baggerCleared s).dou = s.dou := by
  have flat : (setFlap false (setBagBlast false (s.onMbc MergeBag.abandoned))).dou = s.dou := by
    show ({ ({ s.dou with bagBlast := false } : DriveUnit) with flap := false } : DriveUnit) = s.dou
    rw [dropped]; rfl
  have be := valveOff_dou_of_dropped (flat.trans dropped) .b .extend
  have br := valveOff_dou_of_dropped (be.trans (flat.trans dropped)) .b .retract
  have ae := valveOff_dou_of_dropped (br.trans (be.trans (flat.trans dropped))) .a .extend
  have ar := valveOff_dou_of_dropped (ae.trans (br.trans (be.trans (flat.trans dropped)))) .a .retract
  exact ar.trans (ae.trans (br.trans (be.trans flat)))

/-- What the bagger's abandonment in STOP leaves. -/
structure BaggerRests (d : DriveUnit) (ms : Nat) (s t : State) : Prop where
  stopped : Stopped d ms t
  idle : t.mbc.bagger = .idle
  quiet : t.ama.waiting.get .bag = none
  knives : idleNotWaiting s → idleNotWaiting t

theorem idleNotWaiting_setWaiting {q : Requester} (safe : idleNotWaiting s) (cc : t.cc = s.cc) (ama : t.ama = s.ama) :
    idleNotWaiting (setWaiting q none t) := by
  intro l idle
  refine PerRequester.upd_none ?_
  rw [ama]
  exact safe l (by rw [← cc]; exact idle)

theorem baggerRests_abandonBagger (stopped : Stopped d ms s) : BaggerRests d ms s (abandonBagger s) := by
  have cleared : Stopped d ms (baggerCleared s) :=
    stopped.of_same (by simp [baggerCleared]) (baggerCleared_dou stopped.dou) (by simp [baggerCleared])
  have grants := grantsInStop_airWithdraw (q := .bag) (s := baggerCleared s) cleared.line rfl
  rw [abandonBagger_eq]
  refine ⟨Stopped.of_grants (s := setWaiting .bag none (baggerCleared s)) ⟨cleared.line, cleared.dou, cleared.lanes⟩ grants, ?_,
    grants.waits .bag rfl, fun safe => grants.idleNotWaiting ?_⟩
  · rw [grants.mbc]; exact baggerCleared_bagger s
  · exact idleNotWaiting_setWaiting safe (by simp [baggerCleared]) (by simp [baggerCleared])

/-- The tyer at rest, its outputs off, its request not yet withdrawn. -/
def tyerCleared (s : State) : State := setPurge false (setPrinter none (setTyer false (s.onTsc (fun t =>
  { t with tyer := .idle, purge := none, phaseTimer := none, tieTimer := none, code := none }))))

theorem abandonTyer_eq (s : State) : abandonTyer s = airWithdraw .purge (tyerCleared s) := rfl

theorem tyerCleared_dou (dropped : s.dou = d.dropped ms) : (tyerCleared s).dou = s.dou := by
  show ({ ({ ({ s.dou with tyer := false } : DriveUnit) with printer := none } : DriveUnit) with purge := false } : DriveUnit) = s.dou
  rw [dropped]; rfl

/-- What the tyer's abandonment, after the bagger's, leaves. -/
structure StationsRest (d : DriveUnit) (ms : Nat) (s t : State) : Prop where
  stopped : Stopped d ms t
  bagger : t.mbc = s.mbc
  tyer : t.tsc.tyer = .idle
  quiet : t.ama.waiting.get .bag = none
  knives : idleNotWaiting s → idleNotWaiting t

theorem stationsRest_abandonTyer (stopped : Stopped d ms s) (quiet : s.ama.waiting.get .bag = none) :
    StationsRest d ms s (abandonTyer s) := by
  have cleared : Stopped d ms (tyerCleared s) :=
    stopped.of_same (by simp [tyerCleared]) (tyerCleared_dou stopped.dou) (by simp [tyerCleared])
  have noBag : (setWaiting .purge none (tyerCleared s)).ama.waiting.get .bag = none := by
    have ama : (tyerCleared s).ama = s.ama := by simp [tyerCleared]
    show (tyerCleared s).ama.waiting.get .bag = none
    rw [ama, quiet]
  have grants := grantsInStop_airWithdraw (q := .purge) (s := tyerCleared s) cleared.line noBag
  rw [abandonTyer_eq]
  refine ⟨Stopped.of_grants (s := setWaiting .purge none (tyerCleared s)) ⟨cleared.line, cleared.dou, cleared.lanes⟩ grants, ?_, ?_,
    grants.waits .bag noBag, fun safe => grants.idleNotWaiting ?_⟩
  · rw [grants.mbc]; simp [tyerCleared]
  · rw [grants.tyer]; simp [tyerCleared]
  · exact idleNotWaiting_setWaiting safe (by simp [tyerCleared]) (by simp [tyerCleared])

/-! ## The crumb controllers -/

/-- A crumb controller's block with its cycle abandoned. -/
def Crumb.abandoned (c : Crumb) : Crumb :=
  { c with cycle := .idle, cause := none, shakerOnly := false, airWait := none, phaseTimer := none, backoff := none }

/-- A crumb cycle at rest, its outputs off, its knife's request not yet withdrawn. -/
def crumbCleared (l : Lane) (s : State) : State := setShaker l false (setKnife l false (s.onCrumb l Crumb.abandoned))

theorem abandonCrumb_eq (l : Lane) (s : State) : abandonCrumb l s = when ((s.cc.get l).cycle != .idle)
    (fun s => syncLane l (airWithdraw (knife l) (crumbCleared l s))) s := rfl

theorem crumbCleared_dou (dropped : s.dou = d.dropped ms) (l : Lane) : (crumbCleared l s).dou = s.dou := by
  have knifeOff := setKnife_dou_of_dropped (s := s.onCrumb l Crumb.abandoned) dropped l
  exact (setShaker_dou_of_dropped (knifeOff.trans dropped) l).trans knifeOff

theorem crumbCleared_cycle (l m : Lane) (s : State) :
    ((crumbCleared l s).cc.get m).cycle = if m = l then .idle else (s.cc.get m).cycle := by
  have cc : (crumbCleared l s).cc = s.cc.upd l Crumb.abandoned := by simp [crumbCleared, State.onCrumb]
  rw [cc]; split
  next same => rw [same, PerLane.get_upd_same]; rfl
  next other => rw [PerLane.get_upd_other _ other]

/-- What a crumb controller's abandonment in STOP leaves. -/
structure CrumbRests (l : Lane) (d : DriveUnit) (ms : Nat) (s t : State) : Prop where
  stopped : Stopped d ms t
  bagger : t.mbc = s.mbc
  tyer : t.tsc.tyer = s.tsc.tyer
  quiet : t.ama.waiting.get .bag = none
  knives : idleNotWaiting s → idleNotWaiting t
  idle : idleNotWaiting s → ∀ m, (m = l ∨ (s.cc.get m).cycle = .idle) → (t.cc.get m).cycle = .idle

theorem crumbRests_abandonCrumb (stopped : Stopped d ms s) (quiet : s.ama.waiting.get .bag = none) (l : Lane) :
    CrumbRests l d ms s (abandonCrumb l s) := by
  rw [abandonCrumb_eq]
  by_cases atRest : (s.cc.get l).cycle = .idle
  · rw [bne_eq_false_iff_eq.2 atRest, when_false]
    exact ⟨stopped, rfl, rfl, quiet, id, fun _ m idle => idle.elim (fun same => same ▸ atRest) id⟩
  rw [bne_iff_ne.2 atRest, when_true]
  have cleared : Stopped d ms (crumbCleared l s) :=
    stopped.of_same (by simp [crumbCleared]) (crumbCleared_dou stopped.dou l) (by simp [crumbCleared])
  have ama : (crumbCleared l s).ama = s.ama := by simp [crumbCleared]
  have noBag : (setWaiting (knife l) none (crumbCleared l s)).ama.waiting.get .bag = none :=
    PerRequester.upd_none (by rw [ama]; exact quiet)
  have grants := grantsInStop_airWithdraw (q := knife l) (s := crumbCleared l s) cleared.line noBag
  have after : Stopped d ms (airWithdraw (knife l) (crumbCleared l s)) :=
    Stopped.of_grants (s := setWaiting (knife l) none (crumbCleared l s)) ⟨cleared.line, cleared.dou, cleared.lanes⟩ grants
  have safe : idleNotWaiting s → idleNotWaiting (setWaiting (knife l) none (crumbCleared l s)) := by
    intro safe m idle
    by_cases same : m = l
    · rw [same]; simp [setWaiting]
    · refine PerRequester.upd_none ?_
      rw [ama]
      exact safe m (by simpa [setWaiting, crumbCleared_cycle, same] using idle)
  have synced : (syncLane l (airWithdraw (knife l) (crumbCleared l s))).cc = (airWithdraw (knife l) (crumbCleared l s)).cc := by simp
  have syncedAma : (syncLane l (airWithdraw (knife l) (crumbCleared l s))).ama = (airWithdraw (knife l) (crumbCleared l s)).ama := by simp
  refine ⟨after.syncLane l, ?_, ?_, ?_, fun knives => ?_, fun knives m idle => ?_⟩
  · have kept : (syncLane l (airWithdraw (knife l) (crumbCleared l s))).mbc = (airWithdraw (knife l) (crumbCleared l s)).mbc := by simp
    rw [kept, grants.mbc]
    simp [crumbCleared]
  · simp [crumbCleared]
  · rw [syncedAma]
    exact grants.waits .bag noBag
  · intro m idle
    rw [syncedAma]
    rw [synced] at idle
    exact grants.idleNotWaiting (safe knives) m idle
  · have was : ((setWaiting (knife l) none (crumbCleared l s)).cc.get m).cycle = .idle := by
      show ((crumbCleared l s).cc.get m).cycle = .idle
      rw [crumbCleared_cycle]; split
      · rfl
      next other => exact idle.resolve_left other
    rw [synced]
    exact grants.stays_idle was (safe knives m was)

end Sys2Proof.Machine
end

section
/-! SUPPORT. The obligation about the entry to STOP (R25, R130, R134, R136). -/

namespace Sys2Proof.Machine

set_option Elab.async false

variable {s t : State}

/-! ## The state after the entry -/

/-- What the entry to STOP leaves of the drives and the stations. -/
structure EntersStop (s t : State) : Prop where
  stopped : Stopped s.dou s.params.deadTime t
  bagger : t.mbc.bagger = .idle
  tyer : t.tsc.tyer = .idle
  cycles : idleNotWaiting s → ∀ l, (t.cc.get l).cycle = .idle

theorem entersStop_enterStop (s : State) : EntersStop s (enterStop s) := by
  have rested := baggerRests_abandonBagger (stopped_bladesStopped s)
  have tied := stationsRest_abandonTyer rested.stopped rested.quiet
  have first := crumbRests_abandonCrumb tied.stopped tied.quiet .a
  have second := crumbRests_abandonCrumb first.stopped first.quiet .b
  rw [enterStop_eq]
  refine ⟨second.stopped, ?_, ?_, fun safe l => ?_⟩
  · rw [second.bagger, first.bagger, tied.bagger, rested.idle]
  · rw [second.tyer, first.tyer, tied.tyer]
  · have cc : (bladesStopped s).cc = s.cc := by simp [bladesStopped, leaveHold, changeLine]
    have ama : (bladesStopped s).ama = s.ama := by simp [bladesStopped, leaveHold, changeLine]
    have start : idleNotWaiting (bladesStopped s) := fun m idle => by
      rw [ama]
      exact safe m (by rw [← cc]; exact idle)
    have before := tied.knives (rested.knives start)
    refine second.idle (first.knives before) l ?_
    cases l with
    | a => exact .inr (first.idle before .a (.inl rfl))
    | b => exact .inl rfl

theorem idleNotWaiting_of_knivesSafe (safe : knivesSafe s = true) : idleNotWaiting s := by
  intro l idle
  have lane := List.all_eq_true.1 safe l (by cases l <;> decide)
  simp only [idle, Bool.and_eq_true, Bool.or_eq_true] at lane
  obtain ⟨-, quiet⟩ := lane
  simpa using quiet

theorem enterStop_lsc (s : State) : (enterStop s).lsc =
    { s.lsc with line := .stop, previous := some s.lsc.line, returnState := none, holdHost := false } := by
  simp [enterStop, leaveHold, changeLine]

/-- The marking of a record in BLADE or ACCUM (R25). -/
theorem stopMarked_eq : LoafRecord.stopMarked =
    fun r => { r with condition := if r.condition = .sound then .uncertain else r.condition } := by
  funext r
  by_cases sound : r.condition = .sound
  · simp [LoafRecord.stopMarked, sound]
  · simp [LoafRecord.stopMarked, sound]

theorem enterStop_tt (s : State) : (enterStop s).tt = (stopMarking s).tt := by
  simp [enterStop, leaveHold, changeLine, stopMarking]

theorem enterStop_reports_lineState (s : State) : Reported .lineState (enterStop s) :=
  abandonCrumb_reported .b (abandonCrumb_reported .a (abandonTyer_reported (abandonBagger_reported (syncLanes_reported
    (bladeOff_reported .b (bladeOff_reported .a (stopMarking_reported (dropOutputs_reported (leaveHold_reported
      (reported_raised .lineState _))))))))))

/-! ## When the line comes to STOP -/

theorem settle_lsc (s : State) : (settle s).lsc = (advanceLine s).lsc := by simp [settle]

theorem stopIfFaulted_stops (runs : s.lsc.line = .spinUp ∨ s.lsc.line = .run ∨ s.lsc.line = .hold ∨ s.lsc.line = .drain)
    (faulted : stopFault s = true) : stopIfFaulted s = enterStop s := by
  obtain line | line | line | line := runs <;> simp only [stopIfFaulted, line, faulted, when_true]

theorem stopIfFaulted_of_clear (clear : stopFault s = false) : stopIfFaulted s = s := by
  unfold stopIfFaulted; split <;> simp [clear]

/-- R130: from a line that runs or holds, a stop fault leads to STOP, and no later move of the step leads out of it. -/
theorem advanceLine_stops (runs : s.lsc.line = .spinUp ∨ s.lsc.line = .run ∨ s.lsc.line = .hold ∨ s.lsc.line = .drain)
    (faulted : stopFault s = true) : (advanceLine s).lsc = (enterStop s).lsc := by
  have followed : (bladeFollow .b (bladeFollow .a (enterStop s))).lsc = (enterStop s).lsc := by simp
  have stop : (bladeFollow .b (bladeFollow .a (enterStop s))).lsc.line = .stop := by rw [followed, enterStop_lsc]
  rw [advanceLine, stopIfFaulted_stops runs faulted, runIfSpun_of_line (by rw [stop]; decide),
    standbyIfDrained_of_line (by rw [stop]; decide), followed]

theorem enterRun_line (s : State) : (enterRun s).lsc.line = .run := by
  simp [enterRun, leaveHold, changeLine]

theorem runIfSpun_line (moves : s.lsc.line ≠ .stop) : (runIfSpun s).lsc.line ≠ .stop :=
  when_elim (P := fun t => t.lsc.line ≠ .stop) moves fun _ => by rw [enterRun_line]; decide

theorem standbyIfDrained_line (moves : s.lsc.line ≠ .stop) : (standbyIfDrained s).lsc.line ≠ .stop :=
  when_elim (P := fun t => t.lsc.line ≠ .stop) moves fun _ => by rw [enterStandby_lsc]; nofun

theorem advanceLine_moves (clear : stopFault s = false) (moves : s.lsc.line ≠ .stop) : (advanceLine s).lsc.line ≠ .stop := by
  have followed : (bladeFollow .b (bladeFollow .a s)).lsc = s.lsc := by simp
  rw [advanceLine, stopIfFaulted_of_clear clear]
  exact standbyIfDrained_line (runIfSpun_line (by rw [followed]; exact moves))

/-! ## The obligation -/

theorem Stopped.command {d : DriveUnit} {ms : Nat} (stopped : Stopped d ms s) (o : Output) : command o s = false := by
  by_cases drive : o.isDrive = true
  · exact command_of_dropped stopped.dou o drive
  · cases o with
    | tunnelReady l => exact (stopped.lanes l).2
    | _ => exact absurd rfl drive

/-- Settles O56: the entry to STOP block by block, each later block keeping what the earlier ones have turned off. -/
theorem stopDropsEveryDriveOutput : Obligations.StopDropsEveryDriveOutput := by
  refine ⟨fun o s => ?_, fun s => ⟨enterStop_lsc s, ?_, enterStop_reports_lineState s, fun runs faulted => ?_, fun clear moves => ?_⟩⟩
  · obtain ⟨stopped, bagger, tyer, cycles⟩ := entersStop_enterStop s
    refine ⟨rfl, stopped.line, stopped.command o, bagger, tyer, fun l => ⟨?_, ?_, (stopped.lanes l).1⟩,
      fun safe => cycles (idleNotWaiting_of_knivesSafe safe)⟩
    · rw [stopped.dou]; cases l <;> rfl
    · rw [stopped.dou]; cases l <;> rfl
  · rw [enterStop_tt, stopMarking, stopMarked_eq]; rfl
  · rw [settle_lsc, advanceLine_stops runs faulted, enterStop_lsc]
    exact ⟨rfl, rfl⟩
  · rw [settle_lsc]
    exact advanceLine_moves clear moves

end Sys2Proof.Machine
end

section
/-! SUPPORT. The users of manifold air (R87, R92, R110, R112, R117): what each keeps to, clause by clause, and what of a state
each of them rests on. -/

namespace Sys2Proof.Machine

set_option Elab.async false

/-- Those whose places at the air manifold, or whose outputs, follow their own state: the bagger, the tyer, each lane's crumb
cycle, and each lane's knife valve and shaker. -/
inductive AirUser
  | bagger
  | tyer
  | crumb (l : Lane)
  | outputs (l : Lane)

/-- The requester that a user waits as. -/
def AirUser.requester : AirUser → Requester
  | .bagger => .bag
  | .tyer => .purge
  | .crumb l => knife l
  | .outputs l => knife l

/-- The bagger state that a stroke phase belongs to (R82 to R85). -/
def StrokePhase.bagger : StrokePhase → BaggerState
  | .homing | .flapSettle => .select
  | _ => .pushing

/-- `baggerSafe`, clause by clause. -/
structure BaggerFits (m : MergeBag) (loaded : Bool) : Prop where
  phase : m.phase ≠ .none → m.bagger = m.phase.bagger
  flap : m.flapTimer.isSome = true → m.phase = .flapSettle
  opening : m.openTimer.isSome = true → m.bagger = .opening
  stopped : m.stopped = true → m.bagger = .pushing ∧ m.phase = .none
  empty : loaded = true → m.bagger ≠ .select ∧ m.bagger ≠ .airWait ∧ m.bagger ≠ .opening

/-- The records of the pool that have not come to TYER. -/
def beforeTyer (t : Tracking) : List LoafRecord :=
  t.approach.a ++ t.approach.b ++ t.blade.a.toList ++ t.blade.b.toList ++ t.accum.a ++ t.accum.b ++ t.bagger.toList

/-- No record before TYER is jammed (R96). -/
def Unjammed (t : Tracking) : Prop := ∀ r ∈ beforeTyer t, r.jammed = false

/-- The tyer's own part of `tyerSafe`, clause by clause. -/
structure TyerFits (t : TieStation) (jammed : Bool) : Prop where
  tie : t.tieTimer.isSome = true → t.tyer ≠ .idle ∧ t.tyer ≠ .purgeWait
  purge : t.purge.isSome = true → t.tyer = .purgeWait
  jammed : jammed = true → t.tyer = .idle

/-- A requester holds one channel at most, and waits and holds only while its owner may. -/
structure Placed (r : Requester) (holds waits : Prop) (a : AirArbiter) : Prop where
  once : ¬(a.holder.air0 = some r ∧ a.holder.air1 = some r)
  holds : ∀ c, a.holder.get c = some r → holds
  waits : (a.waiting.get r).isSome = true → waits

/-- R110, R112: a lane's knife valve and shaker are on only in BLOWING, and its knife waits only in AIR_WAIT. -/
structure OutputsFit (l : Lane) (s : State) : Prop where
  blowing : s.dou.knife.get l = true ∨ s.dou.shaker.get l = true → (s.cc.get l).cycle = .blowing
  waits : (s.ama.waiting.get (knife l)).isSome = true → (s.cc.get l).cycle = .airWait

/-- Whether a user is in the state in which it waits for air. -/
def AirUser.Waits : AirUser → State → Prop
  | .bagger, s => s.mbc.bagger = .airWait ∧ s.mbc.blast.isSome = false
  | .tyer, s => s.tsc.tyer = .purgeWait ∧ s.tsc.purge.isSome = false
  | .crumb l, s | .outputs l, s => (s.cc.get l).cycle = .airWait

/-- What a user keeps to. -/
def AirUser.Fits : AirUser → State → Prop
  | .bagger, s => BaggerFits s.mbc s.tt.bagger.isSome ∧
    Placed .bag (s.mbc.blast.isSome = true) (AirUser.bagger.Waits s) s.ama
  | .tyer, s => (TyerFits s.tsc (s.tt.tyer.any (·.jammed)) ∧ Unjammed s.tt) ∧
    Placed .purge (s.tsc.purge.isSome = true) (AirUser.tyer.Waits s) s.ama
  | .crumb l, s => Placed (knife l) ((s.cc.get l).cycle = .blowing) ((AirUser.crumb l).Waits s) s.ama
  | .outputs l, s => OutputsFit l s

theorem AirUser.Fits.waits {u : AirUser} {s : State} (h : u.Fits s) (waiting : (s.ama.waiting.get u.requester).isSome = true) :
    u.Waits s := by
  cases u with
  | bagger => exact h.2.waits waiting
  | tyer => exact h.2.waits waiting
  | crumb l => exact Placed.waits h waiting
  | outputs l => exact OutputsFit.waits h waiting

/-! ## The invariants of the statement -/

/-- An absent value satisfies anything; a present one what is asked of it. -/
theorem isNone_or_iff {α : Type} {o : Option α} {b : Bool} {p : Prop} (hb : b = true ↔ p) :
    (o.isNone || b) = true ↔ (o.isSome = true → p) := by
  cases o <;> simp [hb]

theorem bnot_or_iff {a b : Bool} {p : Prop} (hb : b = true ↔ p) : (!a || b) = true ↔ (a = true → p) := by
  cases a <;> simp [hb]

theorem phase_ok_iff (p : StrokePhase) (b : BaggerState) :
    (p == .none || (if p == .homing || p == .flapSettle then b == .select else b == .pushing)) = true
      ↔ (p ≠ .none → b = p.bagger) := by
  cases p <;> simp [StrokePhase.bagger]

theorem baggerSafe_iff (s : State) : baggerSafe s = true ↔ BaggerFits s.mbc s.tt.bagger.isSome := by
  have empty : (!(s.mbc.bagger == .select || s.mbc.bagger == .airWait || s.mbc.bagger == .opening)) = true ↔
      s.mbc.bagger ≠ .select ∧ s.mbc.bagger ≠ .airWait ∧ s.mbc.bagger ≠ .opening := by
    simp [and_assoc]
  have stopped : (s.mbc.bagger == .pushing && s.mbc.phase == .none) = true ↔ s.mbc.bagger = .pushing ∧ s.mbc.phase = .none := by
    simp
  simp only [baggerSafe, Bool.and_eq_true, phase_ok_iff, isNone_or_iff beq_iff_eq, isNone_or_iff empty,
    bnot_or_iff stopped]
  exact ⟨fun ⟨⟨⟨⟨phase, flap⟩, opening⟩, stopped⟩, empty⟩ => ⟨phase, flap, opening, stopped, empty⟩,
    fun ⟨phase, flap, opening, stopped, empty⟩ => ⟨⟨⟨⟨phase, flap⟩, opening⟩, stopped⟩, empty⟩⟩

theorem tyerSafe_iff (s : State) :
    tyerSafe s = true ↔ TyerFits s.tsc (s.tt.tyer.any (·.jammed)) ∧ Unjammed s.tt := by
  have tie : (!(s.tsc.tyer == .idle || s.tsc.tyer == .purgeWait)) = true ↔ s.tsc.tyer ≠ .idle ∧ s.tsc.tyer ≠ .purgeWait := by
    simp
  have line : (beforeTyer s.tt).all (fun r => !r.jammed) = true ↔ Unjammed s.tt := by simp [Unjammed]
  rw [← line]
  simp only [tyerSafe, Bool.and_eq_true, isNone_or_iff tie, isNone_or_iff beq_iff_eq, bnot_or_iff beq_iff_eq]
  exact ⟨fun ⟨⟨⟨tie, purge⟩, jammed⟩, line⟩ => ⟨⟨tie, purge, jammed⟩, line⟩,
    fun ⟨⟨tie, purge, jammed⟩, line⟩ => ⟨⟨⟨tie, purge⟩, jammed⟩, line⟩⟩

theorem held_isNone_or_iff {r : Requester} {a : AirArbiter} {b : Bool} {p : Prop} (hb : b = true ↔ p) :
    ((a.held r).isNone || b) = true ↔ ∀ c, a.holder.get c = some r → p := by
  rw [Bool.or_eq_true, Option.isNone_iff_eq_none, held_eq_none, hb]
  constructor
  · rintro (free | fits) c held
    · exact absurd held (free c)
    · exact fits
  · intro fits
    by_cases free : ∀ d, a.holder.get d ≠ some r
    · exact .inl free
    · obtain ⟨d, held⟩ := not_forall.1 free
      exact .inr (fits d (not_not.1 held))

/-- A requester that waits only where it does not hold is placed once just when it does not hold both channels. -/
theorem placed_iff {r : Requester} {holds waits : Prop} {h w : Bool} {a : AirArbiter} (hh : h = true ↔ holds)
    (hw : w = true ↔ waits) (apart : holds → ¬waits) : (a.placedOnce r = true ∧ ((a.held r).isNone || h) = true ∧
      ((a.waiting.get r).isNone || w) = true) ↔ Placed r holds waits a := by
  rw [held_isNone_or_iff hh, isNone_or_iff hw]
  have once : (!(a.holder.air0 == some r && a.holder.air1 == some r)) = true ↔
      ¬(a.holder.air0 = some r ∧ a.holder.air1 = some r) := by rw [not_and_or]; simp
  have places : a.placedOnce r = true ↔ ¬(a.holder.air0 = some r ∧ a.holder.air1 = some r) ∧
      (∀ c, a.holder.get c = some r → a.waiting.get r = none) := by
    rw [AirArbiter.placedOnce, Bool.and_eq_true, once, held_isNone_or_iff Option.isNone_iff_eq_none]
  rw [places]
  constructor
  · rintro ⟨⟨once, -⟩, holds, waits⟩
    exact ⟨once, holds, waits⟩
  · rintro ⟨once, holds, waits⟩
    refine ⟨⟨once, fun c held => ?_⟩, holds, waits⟩
    by_contra waiting
    exact apart (holds c held) (waits (Option.isSome_iff_ne_none.2 waiting))

/-- `airSafe` is what the bagger, the tyer and the two crumb cycles keep to. -/
theorem airSafe_iff (s : State) : airSafe s = true ↔
    AirUser.bagger.Fits s ∧ AirUser.tyer.Fits s ∧ ∀ l, (AirUser.crumb l).Fits s := by
  have blast : s.mbc.blast.isSome = true → ¬AirUser.bagger.Waits s := fun runs waits => by simp [AirUser.Waits, runs] at waits
  have purge : s.tsc.purge.isSome = true → ¬AirUser.tyer.Waits s := fun runs waits => by simp [AirUser.Waits, runs] at waits
  have cycle (l : Lane) : (s.cc.get l).cycle = .blowing → ¬(AirUser.crumb l).Waits s := fun blows waits => by
    simp [AirUser.Waits, blows] at waits
  have bag : (s.ama.placedOnce .bag = true ∧ ((s.ama.held .bag).isNone || s.mbc.blast.isSome) = true ∧
      (s.ama.waiting.bag.isNone || (s.mbc.bagger == .airWait && s.mbc.blast.isNone)) = true) ↔ Placed .bag _ _ s.ama :=
    placed_iff Iff.rfl (by simp [AirUser.Waits]) blast
  have purge : (s.ama.placedOnce .purge = true ∧ ((s.ama.held .purge).isNone || s.tsc.purge.isSome) = true ∧
      (s.ama.waiting.purge.isNone || (s.tsc.tyer == .purgeWait && s.tsc.purge.isNone)) = true) ↔ Placed .purge _ _ s.ama :=
    placed_iff Iff.rfl (by simp [AirUser.Waits]) purge
  have crumb (l : Lane) : (s.ama.placedOnce (knife l) = true ∧
      ((s.ama.held (knife l)).isNone || (s.cc.get l).cycle == .blowing) = true ∧
      ((s.ama.waiting.get (knife l)).isNone || (s.cc.get l).cycle == .airWait) = true) ↔ (AirUser.crumb l).Fits s :=
    placed_iff beq_iff_eq beq_iff_eq (cycle l)
  simp only [AirUser.Fits, ← baggerSafe_iff, ← tyerSafe_iff, ← bag, ← purge] at crumb ⊢
  simp only [← crumb, airSafe, List.all_cons, List.all_nil, Bool.and_eq_true, Bool.and_true]
  constructor
  · rintro ⟨⟨⟨⟨⟨⟨⟨bagger, tyer⟩, bagOnce, purgeOnce, aOnce, bOnce⟩, bagHolds⟩, bagWaits⟩, purgeHolds⟩, purgeWaits⟩,
      ⟨aHolds, aWaits⟩, bHolds, bWaits⟩
    refine ⟨⟨bagger, bagOnce, bagHolds, bagWaits⟩, ⟨tyer, purgeOnce, purgeHolds, purgeWaits⟩, fun l => ?_⟩
    cases l with
    | a => exact ⟨aOnce, aHolds, aWaits⟩
    | b => exact ⟨bOnce, bHolds, bWaits⟩
  · rintro ⟨⟨bagger, bagOnce, bagHolds, bagWaits⟩, ⟨tyer, purgeOnce, purgeHolds, purgeWaits⟩, lanes⟩
    obtain ⟨aOnce, aHolds, aWaits⟩ := lanes .a
    obtain ⟨bOnce, bHolds, bWaits⟩ := lanes .b
    exact ⟨⟨⟨⟨⟨⟨⟨bagger, tyer⟩, bagOnce, purgeOnce, aOnce, bOnce⟩, bagHolds⟩, bagWaits⟩, purgeHolds⟩, purgeWaits⟩,
      ⟨aHolds, aWaits⟩, bHolds, bWaits⟩

/-- `knivesSafe` is what the outputs of the two lanes keep to. -/
theorem knivesSafe_iff (s : State) : knivesSafe s = true ↔ ∀ l, (AirUser.outputs l).Fits s := by
  have lane (l : Lane) : (((!(s.dou.knife.get l) && !(s.dou.shaker.get l)) || (s.cc.get l).cycle == .blowing)
      && ((s.ama.waiting.get (knife l)).isNone || (s.cc.get l).cycle == .airWait)) = true ↔ OutputsFit l s := by
    rw [Bool.and_eq_true, isNone_or_iff beq_iff_eq, ← Bool.not_or, bnot_or_iff beq_iff_eq, Bool.or_eq_true]
    exact ⟨fun ⟨blowing, waits⟩ => ⟨blowing, waits⟩, fun ⟨blowing, waits⟩ => ⟨blowing, waits⟩⟩
  simp only [knivesSafe, List.all_cons, List.all_nil, Bool.and_eq_true, Bool.and_true, lane]
  exact ⟨fun ⟨a, b⟩ l => by cases l <;> assumption, fun lanes => ⟨lanes .a, lanes .b⟩⟩

end Sys2Proof.Machine
end

section
/-! SUPPORT. What keeps the users of manifold air in order: an operation beside a user's own state, and the grants, requests,
releases and withdrawals of the arbiter (R119 to R121). -/

namespace Sys2Proof.Machine

set_option Elab.async false

variable {s t v : State} {u : AirUser} {c : AirChannel} {r : Requester}

/-! ## Operations beside a user's own state -/

/-- The bagger's own state is as it was. -/
structure BaggerAsWas (s t : State) : Prop where
  bagger : t.mbc.bagger = s.mbc.bagger
  phase : t.mbc.phase = s.mbc.phase
  flap : t.mbc.flapTimer.isSome = s.mbc.flapTimer.isSome
  opening : t.mbc.openTimer.isSome = s.mbc.openTimer.isSome
  blast : t.mbc.blast.isSome = s.mbc.blast.isSome
  stopped : t.mbc.stopped = s.mbc.stopped
  loaded : t.tt.bagger.isSome = true → s.tt.bagger.isSome = true

/-- The tyer's own state is as it was, and no record has become jammed. -/
structure TyerAsWas (s t : State) : Prop where
  tyer : t.tsc.tyer = s.tsc.tyer
  tie : t.tsc.tieTimer.isSome = s.tsc.tieTimer.isSome
  purge : t.tsc.purge.isSome = s.tsc.purge.isSome
  jammed : t.tt.tyer.any (·.jammed) = true → s.tt.tyer.any (·.jammed) = true
  line : Unjammed s.tt → Unjammed t.tt

/-- A lane's crumb cycle, knife valve and shaker are as they were. -/
structure CrumbAsWas (l : Lane) (s t : State) : Prop where
  cycle : (t.cc.get l).cycle = (s.cc.get l).cycle
  knife : t.dou.knife.get l = s.dou.knife.get l
  shaker : t.dou.shaker.get l = s.dou.shaker.get l

/-- A user's own state is as it was. -/
def AirUser.Own : AirUser → State → State → Prop
  | .bagger => BaggerAsWas
  | .tyer => TyerAsWas
  | .crumb l | .outputs l => CrumbAsWas l

/-- A user's own state is as it was, and it has come to no new place at the arbiter. -/
structure AirUser.Kept (u : AirUser) (s t : State) : Prop where
  own : u.Own s t
  waits : (t.ama.waiting.get u.requester).isSome = true → (s.ama.waiting.get u.requester).isSome = true
  holds : ∀ c, t.ama.holder.get c = some u.requester → s.ama.holder.get c = some u.requester

theorem BaggerAsWas.fits (k : BaggerAsWas s t) (h : BaggerFits s.mbc s.tt.bagger.isSome) :
    BaggerFits t.mbc t.tt.bagger.isSome := by
  obtain ⟨phase, flap, opening, stopped, empty⟩ := h
  exact ⟨by rw [k.phase, k.bagger]; exact phase, by rw [k.flap, k.phase]; exact flap, by rw [k.opening, k.bagger]; exact opening,
    by rw [k.stopped, k.bagger, k.phase]; exact stopped, fun loaded => by rw [k.bagger]; exact empty (k.loaded loaded)⟩

theorem TyerAsWas.fits (k : TyerAsWas s t) (h : TyerFits s.tsc (s.tt.tyer.any (·.jammed)) ∧ Unjammed s.tt) :
    TyerFits t.tsc (t.tt.tyer.any (·.jammed)) ∧ Unjammed t.tt := by
  obtain ⟨⟨tie, purge, jammed⟩, line⟩ := h
  exact ⟨⟨by rw [k.tie, k.tyer]; exact tie, by rw [k.purge, k.tyer]; exact purge,
    fun now => by rw [k.tyer]; exact jammed (k.jammed now)⟩, k.line line⟩

theorem Placed.mono {holds waits holds' waits' : Prop} {a b : AirArbiter} (h : Placed r holds waits a)
    (wait : (b.waiting.get r).isSome = true → (a.waiting.get r).isSome = true)
    (hold : ∀ c, b.holder.get c = some r → a.holder.get c = some r) (hh : holds → holds') (hw : waits → waits') :
    Placed r holds' waits' b :=
  ⟨fun ⟨air0, air1⟩ => h.once ⟨hold .air0 air0, hold .air1 air1⟩, fun c held => hh (h.holds c (hold c held)),
    fun waiting => hw (h.waits (wait waiting))⟩

/-- A user keeps to its rules while its own state is as it was and it comes to no new place. -/
theorem AirUser.Fits.keep (h : u.Fits s) (k : u.Kept s t) : u.Fits t := by
  obtain ⟨own, waits, holds⟩ := k
  cases u with
  | bagger =>
    have own : BaggerAsWas s t := own
    refine ⟨own.fits h.1, h.2.mono waits holds (fun runs => own.blast ▸ runs) fun wait => ?_⟩
    exact ⟨own.bagger.trans wait.1, own.blast.trans wait.2⟩
  | tyer =>
    have own : TyerAsWas s t := own
    refine ⟨own.fits h.1, h.2.mono waits holds (fun runs => own.purge ▸ runs) fun wait => ?_⟩
    exact ⟨own.tyer.trans wait.1, own.purge.trans wait.2⟩
  | crumb l =>
    have own : CrumbAsWas l s t := own
    exact Placed.mono h waits holds own.cycle.trans own.cycle.trans
  | outputs l =>
    have own : CrumbAsWas l s t := own
    have h : OutputsFit l s := h
    exact ⟨fun on => own.cycle.trans (h.blowing (own.knife ▸ own.shaker ▸ on)),
      fun wait => own.cycle.trans (h.waits (waits wait))⟩

theorem AirUser.Own.trans (first : u.Own s t) (second : u.Own t v) : u.Own s v := by
  cases u with
  | bagger =>
    have first : BaggerAsWas s t := first
    have second : BaggerAsWas t v := second
    exact ⟨second.bagger.trans first.bagger, second.phase.trans first.phase, second.flap.trans first.flap,
      second.opening.trans first.opening, second.blast.trans first.blast, second.stopped.trans first.stopped,
      first.loaded ∘ second.loaded⟩
  | tyer =>
    have first : TyerAsWas s t := first
    have second : TyerAsWas t v := second
    exact ⟨second.tyer.trans first.tyer, second.tie.trans first.tie, second.purge.trans first.purge,
      first.jammed ∘ second.jammed, second.line ∘ first.line⟩
  | crumb l | outputs l =>
    have first : CrumbAsWas l s t := first
    have second : CrumbAsWas l t v := second
    exact ⟨second.cycle.trans first.cycle, second.knife.trans first.knife, second.shaker.trans first.shaker⟩

theorem AirUser.Own.refl (u : AirUser) (s : State) : u.Own s s := by
  cases u with
  | bagger => exact ⟨rfl, rfl, rfl, rfl, rfl, rfl, id⟩
  | tyer => exact ⟨rfl, rfl, rfl, id, id⟩
  | crumb l | outputs l => exact ⟨rfl, rfl, rfl⟩

theorem AirUser.Kept.refl (u : AirUser) (s : State) : u.Kept s s := ⟨.refl u s, id, fun _ => id⟩

theorem AirUser.Kept.trans (first : u.Kept s t) (second : u.Kept t v) : u.Kept s v :=
  ⟨first.own.trans second.own, first.waits ∘ second.waits, fun c held => first.holds c (second.holds c held)⟩

/-- An operation that keeps every user's own state and the places at the arbiter. -/
theorem AirUser.Kept.of_frames (bagger : BaggerAsWas s t := by constructor <;> simp)
    (tyer : TyerAsWas s t := by constructor <;> simp [Unjammed, beforeTyer])
    (crumb : ∀ l, CrumbAsWas l s t := by intro l; constructor <;> simp) (waiting : t.ama.waiting = s.ama.waiting := by simp)
    (holder : t.ama.holder = s.ama.holder := by simp) : u.Kept s t := by
  refine ⟨?_, fun wait => by rwa [waiting] at wait, fun c held => by rwa [holder] at held⟩
  cases u with
  | bagger => exact bagger
  | tyer => exact tyer
  | crumb l | outputs l => exact crumb l

/-! ## Grants -/

theorem knife_ne {l m : Lane} (other : m ≠ l) : knife m ≠ knife l := by
  cases l with
  | a => cases m with
    | a => exact absurd rfl other
    | b => decide
  | b => cases m with
    | a => decide
    | b => exact absurd rfl other

theorem AirUser.Kept.of_upd (own : u.Own s t) (other : u.requester ≠ r) (x : Option AirChannel)
    (waiting : t.ama.waiting = s.ama.waiting.upd r (fun _ => x))
    (holder : t.ama.holder = s.ama.holder.upd c (fun _ => some r) ∨ t.ama.holder = s.ama.holder) : u.Kept s t := by
  refine ⟨own, fun wait => ?_, fun d held => ?_⟩
  · rwa [waiting, PerRequester.get_upd_other _ other] at wait
  · obtain holder | holder := holder
    · exact upd_holder_ne other.symm d _ (holder ▸ held)
    · rwa [holder] at held

/-- A grant to another requester leaves a user as it was. -/
theorem kept_grantOther (notBag : r ≠ .bag) (other : u.requester ≠ r) (c : AirChannel) (s : State) :
    u.Kept s (grantOther r c s) := by
  refine .of_upd ?_ other none (by rw [grantOther_ama, becomeHolder_waiting]) (.inl (grantOther_holder r c s))
  cases u with
  | bagger => constructor <;> simp
  | tyer => constructor <;> cases r <;> simp_all [grantOther, AirUser.requester, Unjammed, beforeTyer]
  | crumb l | outputs l =>
    obtain rfl | ⟨m, rfl⟩ := eq_purge_or_knife notBag
    · constructor <;> simp [grantOther]
    · have lanes : l ≠ m := fun same => other (congrArg knife same)
      obtain ⟨cc, dou, -⟩ := enterBlowing_blows m false (becomeHolder (knife m) c s)
      rw [grantOther_knife]
      constructor
      · rw [cc, PerLane.get_upd_other _ lanes]; simp
      · rw [dou]; split <;> simp [PerLane.get_upd_other _ lanes]
      · rw [dou]; split <;> simp [PerLane.get_upd_other _ lanes]

theorem AirUser.requester_ne_bag (other : u ≠ .bagger) : u.requester ≠ .bag := by
  cases u with
  | bagger => exact absurd rfl other
  | tyer => exact nofun
  | crumb l | outputs l => cases l <;> exact nofun

/-- A grant to a waiting bagger leaves the others as they were. -/
theorem kept_openBag (other : u ≠ .bagger) (c : AirChannel) (s : State) : u.Kept s (openBag (becomeHolder .bag c s)) := by
  have ama : (openBag (becomeHolder .bag c s)).ama = (becomeHolder .bag c s).ama := by simp
  refine .of_upd ?_ (AirUser.requester_ne_bag other) none (by rw [ama, becomeHolder_waiting])
      (.inl (by rw [ama, becomeHolder_eq]))
  cases u with
  | bagger => exact absurd rfl other
  | tyer => constructor <;> simp [Unjammed, beforeTyer]
  | crumb l | outputs l => constructor <;> simp

/-- A bagger that finds no bag leaves the others as they were. -/
theorem kept_waitForBags (other : u ≠ .bagger) (s : State) : u.Kept s (waitForBags (setWaiting .bag none s)) := by
  have ama : (waitForBags (setWaiting .bag none s)).ama = (setWaiting .bag none s).ama := by simp
  refine .of_upd (c := .air0) ?_ (AirUser.requester_ne_bag other) none (by rw [ama]; rfl) (.inr (by rw [ama]; rfl))
  cases u with
  | bagger => exact absurd rfl other
  | tyer => constructor <;> simp [Unjammed, beforeTyer]
  | crumb l | outputs l => constructor <;> simp

/-- A free channel that is granted on leaves a user that does not wait as it was. -/
theorem kept_grantAfterBag (quiet : s.ama.waiting.get u.requester = none) (c : AirChannel) : u.Kept s (grantAfterBag c s) := by
  obtain same | ⟨r, notBag, waits, granted⟩ := grantAfterBag_cases c s
  · rw [same]; exact .refl u s
  · rw [granted]
    exact kept_grantOther notBag (fun same => by rw [← same, quiet] at waits; exact absurd waits nofun) c s

theorem kept_grantNext (quiet : s.ama.waiting.get u.requester = none) (c : AirChannel) : u.Kept s (grantNext c s) := by
  obtain after | ⟨waits, granted⟩ := grantNext_cases c s
  · rw [after]; exact kept_grantAfterBag quiet c
  · have other : u ≠ .bagger := fun same => by subst same; exact absurd (quiet.symm.trans waits) nofun
    obtain opened | passed := granted
    · rw [opened]; exact kept_openBag other c s
    · have waited := kept_waitForBags other s
      rw [passed]
      refine waited.trans (kept_grantAfterBag ?_ c)
      exact Option.not_isSome_iff_eq_none.1 fun wait => by simpa [quiet] using waited.waits wait

end Sys2Proof.Machine
end

section
/-! SUPPORT. What a grant, a request, a release and a withdrawal (R119 to R123) leave of a user of manifold air. -/

namespace Sys2Proof.Machine

set_option Elab.async false

variable {s t : State} {u : AirUser} {c : AirChannel} {r : Requester}

/-! ## The user that is granted -/

/-- A requester that may not hold holds one channel alone once it is granted. -/
theorem Placed.granted {holds waits holds' waits' : Prop} {a b : AirArbiter} (h : Placed r holds waits a) (apart : ¬holds)
    (holder : b.holder = a.holder.upd c (fun _ => some r)) (left : b.waiting.get r = none) (hh : holds') :
    Placed r holds' waits' b := by
  refine ⟨fun ⟨air0, air1⟩ => ?_, fun _ _ => hh, fun wait => by rw [left] at wait; exact absurd wait nofun⟩
  rw [holder] at air0 air1
  cases c with
  | air0 => exact apart (h.holds .air1 air1)
  | air1 => exact apart (h.holds .air0 air0)

/-- A requester that waits no more may go on to any state in which it may hold what it holds. -/
theorem Placed.left {holds waits holds' waits' : Prop} {a b : AirArbiter} (h : Placed r holds waits a)
    (left : b.waiting.get r = none) (hold : ∀ c, b.holder.get c = some r → a.holder.get c = some r) (hh : holds → holds') :
    Placed r holds' waits' b :=
  ⟨fun ⟨air0, air1⟩ => h.once ⟨hold .air0 air0, hold .air1 air1⟩, fun c held => hh (h.holds c (hold c held)),
    fun wait => by rw [left] at wait; exact absurd wait nofun⟩

theorem becomeHolder_holder (r : Requester) (c : AirChannel) (s : State) :
    (becomeHolder r c s).ama.holder = s.ama.holder.upd c (fun _ => some r) := by
  rw [becomeHolder_eq]

theorem becomeHolder_left (r : Requester) (c : AirChannel) (s : State) : (becomeHolder r c s).ama.waiting.get r = none := by
  rw [becomeHolder_waiting, PerRequester.get_upd_same]

/-- A grant to PURGE or to a knife that its owner is ready for (R92, R112). -/
theorem fits_grantOther (h : u.Fits s) (notBag : r ≠ .bag) (ready : u.requester = r → u.Waits s) (c : AirChannel) :
    u.Fits (grantOther r c s) := by
  by_cases own : u.requester = r
  · subst own
    have waits := ready rfl
    have left : (grantOther u.requester c s).ama.waiting.get u.requester = none := by
      rw [grantOther_ama, becomeHolder_left]
    have holder := grantOther_holder u.requester c s
    cases u with
    | bagger => exact absurd rfl notBag
    | tyer =>
      obtain ⟨⟨⟨tie, _, jammed⟩, line⟩, placed⟩ := h
      obtain ⟨purgeWait, quiet⟩ := waits
      have tsc : (grantOther .purge c s).tsc = { s.tsc with purge := some 200 } := by simp [grantOther, startPurge_tsc]
      refine ⟨⟨?_, by simpa using line⟩, placed.granted (by simp [quiet]) holder left (by rw [AirUser.requester, tsc]; rfl)⟩
      rw [AirUser.requester, tsc]
      exact ⟨tie, fun _ => purgeWait, by simpa using jammed⟩
    | crumb l =>
      have h : Placed (knife l) _ _ s.ama := h
      have waits : (s.cc.get l).cycle = .airWait := waits
      obtain ⟨cc, -, -⟩ := enterBlowing_blows l false (becomeHolder (knife l) c s)
      refine h.granted (by rw [waits]; exact nofun) holder left ?_
      rw [AirUser.requester, grantOther_knife, cc, PerLane.get_upd_same]
    | outputs l =>
      obtain ⟨cc, -, -⟩ := enterBlowing_blows l false (becomeHolder (knife l) c s)
      have left : ((grantOther (knife l) c s).ama.waiting.get (knife l)) = none := left
      refine ⟨fun _ => ?_, fun wait => by rw [AirUser.requester, left] at wait; exact absurd wait nofun⟩
      rw [AirUser.requester, grantOther_knife, cc, PerLane.get_upd_same]
  · exact h.keep (kept_grantOther notBag own c s)

/-- A bagger in AIR_WAIT has no motion, no opening and no record under way. -/
theorem BaggerFits.of_airWait {m n : MergeBag} {loaded : Bool} (h : BaggerFits m loaded) (waits : m.bagger = .airWait)
    (phase : n.phase = m.phase) (flap : n.flapTimer = m.flapTimer) (stopped : n.stopped = m.stopped)
    (opening : n.openTimer.isSome = true → n.bagger = .opening) : BaggerFits n loaded := by
  have still : m.phase = .none := by
    by_contra moves
    have := h.phase moves
    rw [waits] at this
    revert this
    cases m.phase <;> exact nofun
  have running : m.stopped = false := by
    by_contra stopped
    exact absurd (waits.symm.trans (h.stopped (by simpa using stopped)).1) nofun
  refine ⟨fun moves => absurd (phase.trans still) moves, fun settles => ?_, opening, fun stops => ?_, fun there => ?_⟩
  · exact absurd (still.symm.trans (h.flap (flap ▸ settles))) nofun
  · rw [stopped, running] at stops
    exact absurd stops nofun
  · exact absurd waits (h.empty there).2.1

theorem fits_grantAfterBag (h : u.Fits s) (c : AirChannel) : u.Fits (grantAfterBag c s) := by
  obtain same | ⟨r, notBag, waits, granted⟩ := grantAfterBag_cases c s
  · rw [same]; exact h
  · rw [granted]
    exact fits_grantOther h notBag (fun own => h.waits (by rw [own, waits]; rfl)) c

/-- A grant to BAG that the bagger is ready for: the opening begins (R87). -/
theorem fits_openBag (h : u.Fits s) (ready : u = .bagger → u.Waits s) (c : AirChannel) :
    u.Fits (openBag (becomeHolder .bag c s)) := by
  by_cases own : u = .bagger
  · subst own
    obtain ⟨fits, placed⟩ := h
    obtain ⟨waits, quiet⟩ := ready rfl
    have ama : (openBag (becomeHolder .bag c s)).ama = (becomeHolder .bag c s).ama := by simp
    have mbc := openBag_mbc (becomeHolder .bag c s)
    refine ⟨?_, placed.granted (by simp [quiet]) (by rw [ama, becomeHolder_holder]) (by rw [ama, becomeHolder_left])
        (by rw [mbc]; rfl)⟩
    have tt : (openBag (becomeHolder .bag c s)).tt = s.tt := by simp
    rw [mbc, tt]
    exact fits.of_airWait waits (by simp) (by simp) (by simp) (fun _ => rfl)
  · exact h.keep (kept_openBag own c s)

/-- A bagger that finds no bag goes back to SELECT (R86, R87). -/
theorem fits_waitForBags (h : u.Fits s) (ready : u = .bagger → u.Waits s) :
    u.Fits (waitForBags (setWaiting .bag none s)) := by
  by_cases own : u = .bagger
  · subst own
    obtain ⟨fits, placed⟩ := h
    obtain ⟨waits, -⟩ := ready rfl
    have ama : (waitForBags (setWaiting .bag none s)).ama = (setWaiting .bag none s).ama := by simp
    have tt : (waitForBags (setWaiting .bag none s)).tt = s.tt := by simp
    refine ⟨?_, placed.left (by rw [ama]; rfl) (by rw [ama]; exact fun _ => id) (by simp)⟩
    rw [tt]
    refine fits.of_airWait waits (by simp) (by simp) (by simp) fun runs => ?_
    exact absurd (waits.symm.trans (fits.opening (by simpa using runs))) nofun
  · exact h.keep (kept_waitForBags own s)

theorem fits_grantBag (h : u.Fits s) (ready : u = .bagger → u.Waits s) (c : AirChannel) : u.Fits (grantBag c s) := by
  unfold grantBag; split
  · exact fits_openBag h ready c
  · exact fits_grantAfterBag (fits_waitForBags h ready) c

/-! ## Requests, releases and withdrawals -/

theorem fits_grantNext (h : u.Fits s) (c : AirChannel) : u.Fits (grantNext c s) := by
  obtain after | ⟨waits, granted⟩ := grantNext_cases c s
  · rw [after]; exact fits_grantAfterBag h c
  · have ready : u = .bagger → u.Waits s := fun own => h.waits (by subst own; exact waits ▸ rfl)
    obtain opened | passed := granted
    · rw [opened]; exact fits_openBag h ready c
    · rw [passed]; exact fits_grantAfterBag (fits_waitForBags h ready) c

theorem AirUser.eq_bagger_of_requester (named : u.requester = .bag) : u = .bagger := by
  by_contra other
  exact AirUser.requester_ne_bag other named

theorem fits_grantTo (h : u.Fits s) (ready : u.requester = r → u.Waits s) (c : AirChannel) : u.Fits (grantTo r c s) := by
  by_cases bag : r = .bag
  · subst bag
    exact fits_grantBag h (fun own => ready (by rw [own]; rfl)) c
  · rw [grantTo_of_other bag]
    exact fits_grantOther h bag ready c

theorem AirUser.own_onAma (u : AirUser) (f : AirArbiter → AirArbiter) (s : State) : u.Own s (s.onAma f) := by
  cases u with
  | bagger => exact ⟨rfl, rfl, rfl, rfl, rfl, rfl, id⟩
  | tyer => exact ⟨rfl, rfl, rfl, id, id⟩
  | crumb l | outputs l => exact ⟨rfl, rfl, rfl⟩

theorem Placed.waiting {holds waits : Prop} {a b : AirArbiter} (h : Placed r holds waits a) (now : waits)
    (holder : b.holder = a.holder) : Placed r holds waits b :=
  ⟨by rw [holder]; exact h.once, by rw [holder]; exact h.holds, fun _ => now⟩

/-- A requester comes to wait, or changes its channel, when its owner is ready for that. -/
theorem fits_setWaiting (h : u.Fits s) (x : Option AirChannel) (ready : x.isSome = true → u.requester = r → u.Waits s) :
    u.Fits (setWaiting r x s) := by
  have own : u.Own s (setWaiting r x s) := AirUser.own_onAma u _ s
  by_cases named : u.requester = r
  · subst named
    cases some : x.isSome with
    | false =>
      refine h.keep ⟨own, fun wait => ?_, fun _ => id⟩
      simp only [setWaiting, onAma_ama, PerRequester.get_upd_same, some] at wait
      exact absurd wait nofun
    | true =>
      have now := ready some rfl
      cases u with
      | bagger => exact ⟨h.1, h.2.waiting now rfl⟩
      | tyer => exact ⟨h.1, h.2.waiting now rfl⟩
      | crumb l => exact Placed.waiting h now rfl
      | outputs l =>
        have h : OutputsFit l s := h
        exact ⟨h.blowing, fun _ => now⟩
  · exact h.keep (.of_upd (c := .air0) own named x rfl (.inr rfl))

/-- A request of an owner that is in its waiting state (R119). -/
theorem fits_airRequest (h : u.Fits s) (ready : u.requester = r → u.Waits s) : u.Fits (airRequest r s) := by
  unfold airRequest; split
  · exact h
  next c _ =>
    split
    · exact fits_grantTo h ready c
    · exact fits_setWaiting h _ (fun _ => ready)

theorem upd_none_holder {q : Requester} (d : AirChannel) (p : PerAir (Option Requester))
    (held : (p.upd c (fun _ => none)).get d = some q) : p.get d = some q := by
  by_cases same : d = c
  · rw [same, PerAir.get_upd_same] at held
    exact absurd held nofun
  · rwa [PerAir.get_upd_other _ same] at held

theorem kept_setHolder_none (u : AirUser) (c : AirChannel) (s : State) : u.Kept s (setHolder c none s) := by
  exact ⟨AirUser.own_onAma u _ s, fun wait => wait, fun d held => upd_none_holder d _ held⟩

theorem fits_releaseChannel (h : u.Fits s) (c : AirChannel) : u.Fits (releaseChannel c s) :=
  fits_grantNext (h.keep (kept_setHolder_none u c s)) c

theorem fits_airRelease (h : u.Fits s) : u.Fits (airRelease r s) := by
  unfold airRelease; split
  next c _ => exact fits_releaseChannel h c
  next => exact h

theorem fits_airWithdraw (h : u.Fits s) : u.Fits (airWithdraw r s) :=
  fits_airRelease (fits_setWaiting h none nofun)

/-! ## A user that leaves its place -/

/-- A release leaves a user that does not wait as it was. -/
theorem kept_airRelease (quiet : s.ama.waiting.get u.requester = none) : u.Kept s (airRelease r s) := by
  unfold airRelease; split
  next c _ => exact (kept_setHolder_none u c s).trans (kept_grantNext (s := setHolder c none s) quiet c)
  next => exact .refl u s

/-- A user that does not wait holds nothing once it has released. -/
theorem free_airRelease (quiet : s.ama.waiting.get u.requester = none)
    (once : ¬(s.ama.holder.air0 = some u.requester ∧ s.ama.holder.air1 = some u.requester)) (d : AirChannel) :
    (airRelease u.requester s).ama.holder.get d ≠ some u.requester := by
  unfold airRelease; split
  next c held =>
    intro there
    have there := (kept_grantNext (s := setHolder c none s) quiet c).holds d there
    by_cases same : d = c
    · rw [same] at there
      simp [setHolder] at there
    · exact holder_of_held_other once held same (by simpa [setHolder, PerAir.get_upd_other _ same] using there)
  next none => exact held_eq_none.1 none d

/-- A user out of its places, its own state as before. -/
structure AirUser.Freed (u : AirUser) (s t : State) : Prop where
  own : u.Own s t
  quiet : t.ama.waiting.get u.requester = none
  free : ¬(s.ama.holder.air0 = some u.requester ∧ s.ama.holder.air1 = some u.requester) →
    ∀ d, t.ama.holder.get d ≠ some u.requester

theorem freed_airRelease (quiet : s.ama.waiting.get u.requester = none) : u.Freed s (airRelease u.requester s) := by
  have kept := kept_airRelease (r := u.requester) quiet
  exact ⟨kept.own, Option.not_isSome_iff_eq_none.1 fun wait => by simpa [quiet] using kept.waits wait, free_airRelease quiet⟩

theorem freed_airWithdraw (u : AirUser) (s : State) : u.Freed s (airWithdraw u.requester s) := by
  have quiet : (setWaiting u.requester none s).ama.waiting.get u.requester = none := by simp [setWaiting]
  obtain ⟨own, quiet, free⟩ := freed_airRelease quiet
  exact ⟨(AirUser.own_onAma u _ s).trans own, quiet, free⟩

theorem Placed.of_free {holds waits : Prop} {a : AirArbiter} (quiet : a.waiting.get r = none)
    (free : ∀ d, a.holder.get d ≠ some r) : Placed r holds waits a :=
  ⟨fun ⟨air0, _⟩ => free .air0 air0, fun c held => absurd held (free c),
      fun wait => by rw [quiet] at wait; exact absurd wait nofun⟩

end Sys2Proof.Machine
end

section
/-! SUPPORT. The crumb cycles (R107 to R115) and the changes of steering and pressure (R122, R123) keep the users of manifold
air in order. -/

namespace Sys2Proof.Machine

set_option Elab.async false

variable {s t v : State} {u : AirUser} {l : Lane}

/-! ## One lane's cycle and outputs -/

theorem AirUser.of_requester_knife (named : u.requester = knife l) : u = .crumb l ∨ u = .outputs l := by
  have lanes {m : Lane} (same : knife m = knife l) : m = l := by
    by_contra other
    exact knife_ne other same
  cases u with
  | bagger => cases l <;> exact absurd named nofun
  | tyer => cases l <;> exact absurd named nofun
  | crumb m => exact .inl (congrArg AirUser.crumb (lanes named))
  | outputs m => exact .inr (congrArg AirUser.outputs (lanes named))

theorem AirUser.waits_of_cycle (named : u.requester = knife l) (waits : (s.cc.get l).cycle = .airWait) : u.Waits s := by
  obtain rfl | rfl := AirUser.of_requester_knife named
  · exact waits
  · exact waits

/-- A knife does not wait outside AIR_WAIT. -/
theorem AirUser.Fits.quiet (h : u.Fits s) (notWaiting : (s.cc.get l).cycle ≠ .airWait) (named : u.requester = knife l) :
    s.ama.waiting.get (knife l) = none := by
  refine Option.not_isSome_iff_eq_none.1 fun wait => notWaiting ?_
  have waits := h.waits (named ▸ wait)
  obtain rfl | rfl := AirUser.of_requester_knife named
  · exact waits
  · exact waits

theorem kept_of_lane (other : u.requester ≠ knife l) (bagger : BaggerAsWas s t := by constructor <;> simp)
    (tyer : TyerAsWas s t := by constructor <;> simp [Unjammed, beforeTyer]) (lanes : ∀ m, m ≠ l → CrumbAsWas m s t)
    (ama : t.ama = s.ama := by simp) : u.Kept s t := by
  refine ⟨?_, fun wait => by rwa [ama] at wait, fun c held => by rwa [ama] at held⟩
  have lane {m : Lane} (named : knife m ≠ knife l) : CrumbAsWas m s t := lanes m fun same => named (congrArg knife same)
  cases u with
  | bagger => exact bagger
  | tyer => exact tyer
  | crumb m | outputs m => exact lane other

theorem kept_onCrumb (other : u.requester ≠ knife l) (f : Crumb → Crumb) (s : State) : u.Kept s (s.onCrumb l f) := by
  refine kept_of_lane other (lanes := fun m lanes => ?_)
  constructor <;> simp [State.onCrumb, PerLane.get_upd_other _ lanes]

/-- A lane whose cycle neither blows nor waits for air goes on to any state of its cycle. -/
theorem fits_onCrumb (h : u.Fits s) (notBlowing : (s.cc.get l).cycle ≠ .blowing)
    (quiet : u.requester = knife l → s.ama.waiting.get (knife l) = none) (f : Crumb → Crumb) : u.Fits (s.onCrumb l f) := by
  by_cases named : u.requester = knife l
  · have still : (s.onCrumb l f).ama.waiting.get (knife l) = none := quiet named
    obtain rfl | rfl := AirUser.of_requester_knife named
    · have h : Placed (knife l) _ _ s.ama := h
      exact h.left still (fun _ => id) (fun blows => absurd blows notBlowing)
    · have h : OutputsFit l s := h
      exact ⟨fun on => absurd (h.blowing on) notBlowing, fun wait => by rw [still] at wait; exact absurd wait nofun⟩
  · exact h.keep (kept_onCrumb named f s)

/-- A crumb controller changed in nothing but what its cycle's state does not show. -/
theorem kept_onCrumb_same (u : AirUser) (l : Lane) {f : Crumb → Crumb} (same : ∀ c, (f c).cycle = c.cycle) (s : State) :
    u.Kept s (s.onCrumb l f) := by
  have cycle (m : Lane) : CrumbAsWas m s (s.onCrumb l f) :=
    ⟨PerLane.upd_related (P := fun c d : Crumb => c.cycle = d.cycle) (fun _ => rfl) (same _) m, rfl, rfl⟩
  exact .of_frames (crumb := cycle)

theorem fits_onCrumb_same (h : u.Fits s) (l : Lane) {f : Crumb → Crumb} (same : ∀ c, (f c).cycle = c.cycle) :
    u.Fits (s.onCrumb l f) := h.keep (kept_onCrumb_same u l same s)

/-- BLOWING may begin in a lane whose knife does not wait (R112). -/
theorem fits_enterBlowing (h : u.Fits s) (quiet : u.requester = knife l → s.ama.waiting.get (knife l) = none) (alone : Bool) :
    u.Fits (enterBlowing l alone s) := by
  obtain ⟨cc, dou, -⟩ := enterBlowing_blows l alone s
  have ama : (enterBlowing l alone s).ama = s.ama := by simp
  by_cases named : u.requester = knife l
  · have still : (enterBlowing l alone s).ama.waiting.get (knife l) = none := by rw [ama, quiet named]
    have blows : ((enterBlowing l alone s).cc.get l).cycle = .blowing := by rw [cc, PerLane.get_upd_same]
    obtain rfl | rfl := AirUser.of_requester_knife named
    · have h : Placed (knife l) _ _ s.ama := h
      exact h.left still (by rw [ama]; exact fun _ => id) (fun _ => blows)
    · exact ⟨fun _ => blows, fun wait => by rw [still] at wait; exact absurd wait nofun⟩
  · refine h.keep (kept_of_lane named (lanes := fun m other => ?_))
    constructor
    · rw [cc, PerLane.get_upd_other _ other]
    · rw [dou]; split
      · rfl
      · cases alone <;> simp [PerLane.get_upd_other _ other]
    · rw [dou]; split
      · rfl
      · exact PerLane.get_upd_other _ other _

/-- A lane whose cycle leaves BLOWING or AIR_WAIT, its outputs off, once its knife is out of its places. -/
theorem fits_of_freed (h : u.Fits s) (others : u.requester ≠ knife l → u.Kept s v) (holder : v.ama.holder = s.ama.holder)
    (off : u = .outputs l → v.dou.knife.get l = false ∧ v.dou.shaker.get l = false)
    (freed : u.requester = knife l → u.Freed v t) (pass : u.Fits v → u.Fits t) : u.Fits t := by
  by_cases named : u.requester = knife l
  · obtain ⟨own, quiet, free⟩ := freed named
    obtain rfl | rfl := AirUser.of_requester_knife named
    · exact Placed.of_free quiet (free (by rw [holder]; exact Placed.once h))
    · obtain ⟨knifeOff, shakerOff⟩ := off rfl
      have own : CrumbAsWas l v t := own
      have quiet : t.ama.waiting.get (knife l) = none := quiet
      exact ⟨fun on => by rw [own.knife, own.shaker, knifeOff, shakerOff] at on; simp at on,
        fun wait => by rw [quiet] at wait; exact absurd wait nofun⟩
  · exact pass (h.keep (others named))

/-! ## The moments of a cycle -/

theorem fits_syncLane (h : u.Fits s) (l : Lane) : u.Fits (syncLane l s) := h.keep .of_frames

/-- A clear is requested from IDLE or BACKOFF (R107, R108). -/
theorem fits_requestClear (h : u.Fits s) (notBlowing : (s.cc.get l).cycle ≠ .blowing)
    (notWaiting : (s.cc.get l).cycle ≠ .airWait) (cause : CycleCause) : u.Fits (requestClear l cause s) :=
  fits_syncLane (fits_onCrumb h notBlowing (h.quiet notWaiting) _) l

theorem fits_clearTest (h : u.Fits s) (l : Lane) (holds : Bool) (cause : CycleCause) : u.Fits (clearTest l holds cause s) := by
  refine when_elim h fun tested => ?_
  have idle : (s.cc.get l).cycle = .idle := by
    simp only [Bool.and_eq_true, beq_iff_eq] at tested
    exact tested.2
  exact fits_requestClear h (by rw [idle]; exact nofun) (by rw [idle]; exact nofun) cause

theorem fits_estimateTest (h : u.Fits s) (l : Lane) : u.Fits (estimateTest l s) := fits_clearTest h l _ _

theorem fits_entryTest (h : u.Fits s) (l : Lane) : u.Fits (entryTest l s) := by
  unfold entryTest; dsimp only; split
  · exact fits_clearTest h l _ _
  · exact fits_clearTest h l _ _

theorem fits_crumbResult (h : u.Fits s) (l : Lane) (result : Nat) : u.Fits (crumbResult l result s) := by
  have stored := fits_onCrumb_same h l (f := fun c => { c with lastLevel := result, levelSince := true }) fun _ => rfl
  unfold crumbResult; dsimp only; split
  · exact stored
  · exact fits_clearTest (stored.keep .of_frames) l _ _

/-- A requested cycle asks for its channel, or blows with the shaker alone (R110). -/
theorem fits_requestKnife (h : u.Fits s) (requested : (s.cc.get l).cycle = .requested) : u.Fits (requestKnife l s) := by
  have notBlowing : (s.cc.get l).cycle ≠ .blowing := by rw [requested]; exact nofun
  have quiet := h.quiet (l := l) (by rw [requested]; exact nofun)
  unfold requestKnife; split
  · exact fits_enterBlowing h quiet true
  · refine fits_airRequest (fits_onCrumb h notBlowing quiet _) fun named => AirUser.waits_of_cycle named ?_
    simp [State.onCrumb]

theorem fits_makeGap (h : u.Fits s) (l : Lane) : u.Fits (makeGap l s) := by
  refine when_elim h fun gap => fits_requestKnife h ?_
  simp only [Bool.and_eq_true, beq_iff_eq] at gap
  exact gap.1.1

theorem kept_outputsOff (other : u.requester ≠ knife l) (s : State) :
    u.Kept s (setShaker l false (setKnife l false s)) := by
  refine kept_of_lane other (lanes := fun m lanes => ?_)
  constructor <;> simp [setShaker, setKnife, PerLane.get_upd_other _ lanes]

theorem outputsOff (l : Lane) (s : State) : (setShaker l false (setKnife l false s)).dou.knife.get l = false ∧
    (setShaker l false (setKnife l false s)).dou.shaker.get l = false := by
  simp [setShaker, setKnife]

/-- BLOWING ends (R112). -/
theorem fits_endBlowing (h : u.Fits s) (blows : (s.cc.get l).cycle = .blowing) : u.Fits (endBlowing l s) := by
  have quiet := h.quiet (l := l) (by rw [blows]; exact nofun)
  unfold endBlowing; dsimp only
  refine fits_of_freed (l := l) h (fun other => (kept_outputsOff other s).trans (kept_onCrumb other _ _)) (by simp)
    (fun _ => outputsOff l s) (fun named => ?_) fits_airRelease
  exact named ▸ freed_airRelease (by simpa [named] using quiet named)

/-- The air wait times out (R111). -/
theorem fits_backOff (h : u.Fits s) (waits : (s.cc.get l).cycle = .airWait) : u.Fits (backOff l s) := by
  have stopped := fits_onCrumb_same h l (f := fun c => { c with airWait := none }) fun _ => rfl
  have cycle : ((s.onCrumb l (fun c => { c with airWait := none })).cc.get l).cycle = .airWait := by
    simpa [State.onCrumb] using waits
  unfold backOff; dsimp only
  generalize s.onCrumb l (fun c => { c with airWait := none }) = v at stopped cycle
  obtain ⟨own, quiet, -⟩ := freed_airWithdraw (.crumb l) v
  have own : CrumbAsWas l v (airWithdraw (knife l) v) := own
  have quiet : (airWithdraw (knife l) v).ama.waiting.get (knife l) = none := quiet
  have withdrawn : u.Fits (airWithdraw (knife l) v) := fits_airWithdraw stopped
  have told : u.Fits (raiseFault .airTimeout (laneSubject l) (some ((airWithdraw (knife l) v).sc.result.get .airp))
    (airWithdraw (knife l) v)) := withdrawn.keep .of_frames
  refine fits_syncLane (fits_onCrumb told ?_ (fun _ => by simpa using quiet) _) l
  simp [own.cycle, cycle]

/-- The entry to HOLD takes a waiting cycle back to REQUESTED (R114). -/
theorem fits_holdCrumb (h : u.Fits s) (l : Lane) : u.Fits (holdCrumb l s) := by
  refine when_elim h fun waits => ?_
  have waits : (s.cc.get l).cycle = .airWait := by simpa using waits
  refine fits_of_freed (l := l) h (fun other => kept_onCrumb other _ _) (by simp) (fun own => ?_)
      (fun named => ?_) fits_airWithdraw
  · subst own
    have h : OutputsFit l s := h
    have off : ¬(s.dou.knife.get l = true ∨ s.dou.shaker.get l = true) := fun on =>
      absurd (waits.symm.trans (h.blowing on)) nofun
    simpa [not_or] using off
  · exact named ▸ freed_airWithdraw u _

/-- The entry to STOP abandons a cycle (R115). -/
theorem fits_abandonCrumb (h : u.Fits s) (l : Lane) : u.Fits (abandonCrumb l s) := by
  refine when_elim h fun _ => ?_
  dsimp only
  refine fits_syncLane (fits_of_freed (l := l) h (fun other => (kept_onCrumb other _ s).trans (kept_outputsOff other _)) (by simp)
    (fun _ => outputsOff l _) (fun named => ?_) fits_airWithdraw) l
  exact named ▸ freed_airWithdraw u _

/-- A clear is completed (R113). -/
theorem fits_completeClear (h : u.Fits s) (settles : (s.cc.get l).cycle = .settle) : u.Fits (completeClear l s) := by
  have counted := fits_onCrumb_same h l (f := fun c =>
    { c with estimate := 0, levelSince := false, lastClear := c.cause.map (fun k => (k, c.shakerOnly)) }) fun _ => rfl
  have cycle : ((s.onCrumb l (fun c =>
    { c with estimate := 0, levelSince := false, lastClear := c.cause.map (fun k => (k, c.shakerOnly)) })).cc.get l).cycle =
      .settle := by
    simpa [State.onCrumb] using settles
  unfold completeClear; dsimp only
  generalize s.onCrumb l _ = v at counted cycle
  have told : u.Fits (raiseKey (.crumbCleared l) (clearCompletedNotice l
    (countLine (fun b => { b with crumbClears := b.crumbClears.upd l bump }) v))) := counted.keep .of_frames
  have cycle : ((raiseKey (.crumbCleared l) (clearCompletedNotice l
    (countLine (fun b => { b with crumbClears := b.crumbClears.upd l bump }) v))).cc.get l).cycle = .settle := by
    simpa using cycle
  exact fits_syncLane (fits_onCrumb told (by rw [cycle]; exact nofun) (told.quiet (by rw [cycle]; exact nofun)) _) l

/-- BACKOFF ends (R111). -/
theorem fits_endBackOff (h : u.Fits s) (backsOff : (s.cc.get l).cycle = .backoff) : u.Fits (endBackOff l s) :=
  fits_entryTest (fits_onCrumb h (by rw [backsOff]; exact nofun) (h.quiet (by rw [backsOff]; exact nofun)) _) l

/-! ## Changes of steering and pressure -/

theorem kept_steeredTo (u : AirUser) (r : Requester) (e : Steer) (s : State) : u.Kept s (steeredTo r e s) :=
  .of_frames ⟨rfl, rfl, rfl, rfl, rfl, rfl, id⟩ ⟨rfl, rfl, rfl, id, id⟩ (fun _ => ⟨rfl, rfl, rfl⟩) rfl rfl

/-- A waiting requester steered elsewhere asks again there, or stops waiting (R122). -/
theorem fits_steer (h : u.Fits s) (r : Requester) (e : Steer) : u.Fits (steer r e s) := by
  have steered := h.keep (kept_steeredTo u r e s)
  cases waits : s.ama.waiting.get r with
  | none => rw [steer_of_quiet waits]; exact steered
  | some c =>
    have ready : u.requester = r → u.Waits (steeredTo r e s) := fun named => steered.waits (by
      show (s.ama.waiting.get u.requester).isSome = true
      rw [named, waits]; rfl)
    cases names : e.channel with
    | some d =>
      by_cases new : c = d
      · rw [steer_of_same waits (names.trans (congrArg some new.symm))]; exact steered
      · rw [steer_of_new waits names new]; split
        · exact fits_grantTo steered ready d
        · exact fits_setWaiting steered _ (fun _ => ready)
    | none =>
      have left : u.Fits (setWaiting r none (steeredTo r e s)) := fits_setWaiting steered none nofun
      have same : steer r e s = (match r with
          | .kna => enterBlowing .a true
          | .knb => enterBlowing .b true
          | _ => id) (setWaiting r none (steeredTo r e s)) := by
        unfold steer
        simp only [onParams_ama, waits, names]
        cases r <;> rfl
      rw [same]
      cases r with
      | bag | purge => exact left
      | kna => exact fits_enterBlowing (l := .a) left (fun _ => rfl) true
      | knb => exact fits_enterBlowing (l := .b) left (fun _ => rfl) true

theorem fits_airPressure (h : u.Fits s) (result : Nat) : u.Fits (airPressure result s) := by
  unfold airPressure; split
  · exact h.keep .of_frames
  · split
    · exact fits_grantNext (fits_grantNext (h.keep .of_frames) .air0) .air1
    · exact h

end Sys2Proof.Machine
end

section
/-! SUPPORT. The moves of the Tracking Table's records beside the users of manifold air: no record becomes jammed before TYER
(R4 to R27). -/

namespace Sys2Proof.Machine

set_option Elab.async false

variable {s t : State} {u : AirUser} {l : Lane} {q : List LoafRecord} {f : LoafRecord → LoafRecord}

/-! ## Queues without a jammed record -/

/-- A queue without a jammed record. -/
def Clean (q : List LoafRecord) : Prop := ∀ r ∈ q, r.jammed = false

theorem Clean.tail (h : Clean q) : Clean q.tail := fun r there => h r (List.mem_of_mem_tail there)

theorem Clean.snoc (h : Clean q) {r : LoafRecord} (sound : r.jammed = false) : Clean (q ++ [r]) := by
  intro x there
  obtain there | there := List.mem_append.1 there
  · exact h x there
  · rw [List.mem_singleton.1 there, sound]

theorem Clean.mapHead (h : Clean q) (same : ∀ r, (f r).jammed = r.jammed) : Clean (mapHead f q) := by
  cases q with
  | nil => exact h
  | cons r rest =>
    intro x there
    obtain rfl | there := List.mem_cons.1 there
    · rw [same]; exact h r List.mem_cons_self
    · exact h x (List.mem_cons_of_mem _ there)

theorem Clean.map (h : Clean q) (same : ∀ r, (f r).jammed = r.jammed) : Clean (q.map f) := by
  intro x there
  obtain ⟨r, mem, rfl⟩ := List.mem_map.1 there
  rw [same]; exact h r mem

theorem Clean.optionMap {o : Option LoafRecord} (h : Clean o.toList) (same : ∀ r, (f r).jammed = r.jammed) :
    Clean (o.map f).toList := by
  cases o with
  | none => exact h
  | some r => exact Clean.map (q := [r]) h same

theorem clean_singleton {r : LoafRecord} (sound : r.jammed = false) : Clean (some r).toList := by
  intro x there
  rw [List.mem_singleton.1 there, sound]

theorem clean_none : Clean (none : Option LoafRecord).toList := fun _ there => absurd there List.not_mem_nil

/-- `Unjammed`, zone by zone. -/
structure ZonesClean (t : Tracking) : Prop where
  approach : ∀ l, Clean (t.approach.get l)
  blade : ∀ l, Clean (t.blade.get l).toList
  accum : ∀ l, Clean (t.accum.get l)
  bagger : Clean t.bagger.toList

theorem unjammed_iff (t : Tracking) : Unjammed t ↔ ZonesClean t := by
  simp only [Unjammed, beforeTyer, List.mem_append]
  constructor
  · intro h
    refine ⟨fun l => ?_, fun l => ?_, fun l => ?_, fun r there => h r (by simp [there])⟩ <;> cases l <;>
      exact fun r there => h r (by simp_all [PerLane.get])
  · rintro h r ((((((there | there) | there) | there) | there) | there) | there)
    · exact h.approach .a r there
    · exact h.approach .b r there
    · exact h.blade .a r there
    · exact h.blade .b r there
    · exact h.accum .a r there
    · exact h.accum .b r there
    · exact h.bagger r there

/-! ## Moves of records -/

/-- Records that move before TYER, none of them jammed on the way. -/
theorem AirUser.Kept.of_line (line : ZonesClean s.tt → ZonesClean t.tt) (tyer : t.tt.tyer = s.tt.tyer := by simp)
    (bagger : BaggerAsWas s t := by constructor <;> simp) (tsc : t.tsc = s.tsc := by simp)
    (crumb : ∀ l, CrumbAsWas l s t := by intro l; constructor <;> simp) (waiting : t.ama.waiting = s.ama.waiting := by simp)
    (holder : t.ama.holder = s.ama.holder := by simp) : u.Kept s t :=
  .of_frames bagger ⟨by rw [tsc], by rw [tsc], by rw [tsc], by rw [tyer]; exact id, by simpa only [unjammed_iff] using line⟩ crumb
    waiting holder

/-- What holds at every place still does after the change of one, when it holds of what is changed to. -/
theorem PerLane.upd_all {α : Type} {P : α → Prop} {f : α → α} {l : Lane} {p : PerLane α} (all : ∀ m, P (p.get m))
    (changed : P (p.get l) → P (f (p.get l))) (m : Lane) : P ((PerLane.upd l f p).get m) :=
  PerLane.upd_related (P := fun x y => P y → P x) (fun _ => id) changed m (all m)

theorem kept_onAccum (u : AirUser) (l : Lane) {f : List LoafRecord → List LoafRecord} (clean : ∀ {q}, Clean q → Clean (f q))
    (s : State) : u.Kept s (s.onAccum l f) :=
  .of_line (fun h => ⟨h.approach, h.blade, PerLane.upd_all h.accum clean, h.bagger⟩) rfl ⟨rfl, rfl, rfl, rfl, rfl, rfl, id⟩ rfl
    (fun _ => ⟨rfl, rfl, rfl⟩) rfl rfl

theorem kept_onBladeZone (u : AirUser) (l : Lane) {f : Option LoafRecord → Option LoafRecord}
    (clean : ∀ {o : Option LoafRecord}, Clean o.toList → Clean (f o).toList) (s : State) : u.Kept s (s.onBladeZone l f) :=
  .of_line (fun h => ⟨h.approach, PerLane.upd_all (P := fun o : Option LoafRecord => Clean o.toList) h.blade clean, h.accum,
      h.bagger⟩)
    rfl ⟨rfl, rfl, rfl, rfl, rfl, rfl, id⟩ rfl (fun _ => ⟨rfl, rfl, rfl⟩) rfl rfl

theorem kept_onApproach (u : AirUser) (l : Lane) {f : List LoafRecord → List LoafRecord} (clean : ∀ {q}, Clean q → Clean (f q))
    (s : State) : u.Kept s (s.onApproach l f) :=
  .of_line (fun h => ⟨PerLane.upd_all h.approach clean, h.blade, h.accum, h.bagger⟩) rfl ⟨rfl, rfl, rfl, rfl, rfl, rfl, id⟩ rfl
    (fun _ => ⟨rfl, rfl, rfl⟩) rfl rfl

theorem kept_when {c : Bool} {g : State → State} (yes : c = true → u.Kept s (g s)) : u.Kept s (when c g s) :=
  when_elim (.refl u s) yes

variable (u l)

theorem kept_startMergeWindow (s : State) : u.Kept s (startMergeWindow l s) := by
  unfold startMergeWindow; split
  · refine kept_when fun _ => kept_onAccum u l (fun h => ?_) s
    exact h.mapHead fun _ => rfl
  · exact .refl u s

theorem kept_accumHeadLeft (left : LoafRecord) (s : State) : u.Kept s (accumHeadLeft l left s) := by
  have told : u.Kept s (syncLane l s) := .of_frames
  unfold accumHeadLeft; dsimp only; split
  · exact told.trans .of_frames
  · exact told.trans (kept_startMergeWindow u l _)

theorem kept_removeAccumHead (s : State) : u.Kept s (removeAccumHead l s) := kept_onAccum u l Clean.tail s

theorem kept_loseAccumHead (s : State) : u.Kept s (loseAccumHead l s) := by
  unfold loseAccumHead; split
  next r _ _ =>
    have lost : u.Kept (removeAccumHead l s) (lose (laneSubject l) r (removeAccumHead l s)) := .of_frames
    exact ((kept_removeAccumHead u l s).trans lost).trans (kept_accumHeadLeft u l r _)
  · exact .refl u s

theorem kept_loseBlade (s : State) : u.Kept s (loseBlade l s) := by
  unfold loseBlade; split
  · exact (kept_onBladeZone u l (f := fun _ => none) (fun _ => clean_none) s).trans .of_frames
  · exact .refl u s

theorem kept_createRecord (x : Edge) (s : State) : u.Kept s (createRecord l x s) := by
  unfold createRecord; split
  · have tagged : u.Kept s (s.onTt (fun t => { t with nextTag := if issuedTag s = 65535 then 1 else issuedTag s + 1 })) :=
      .of_frames
    have joined := kept_onApproach u l (f := (· ++ [newRecord (issuedTag s) l x.length x.stamp])) (fun h => h.snoc rfl)
    exact (tagged.trans (joined _)).trans .of_frames
  · exact .of_frames

theorem kept_slicerLeading (x : Edge) (s : State) : u.Kept s (slicerLeading l x s) := by
  have watched : u.Kept s (startWatch (slicerEye l) x.stamp s) := .of_frames
  unfold slicerLeading; dsimp only; split
  · have matched := kept_onBladeZone u l (f := Option.map LoafRecord.matched) (fun h => h.optionMap fun _ => rfl)
    exact (watched.trans (matched _)).trans .of_frames
  · exact watched.trans .of_frames

theorem kept_mergeLeading (x : Edge) (s : State) : u.Kept s (mergeLeading l x s) := by
  unfold mergeLeading; split
  · exact (kept_onAccum u l (f := mapHead LoafRecord.matched) (fun h => h.mapHead fun _ => rfl) s).trans .of_frames
  · have watched : u.Kept s (when (candidate l s).isNone (startWatch (mergeEye l) x.stamp) s) := kept_when fun _ => .of_frames
    exact watched.trans .of_frames

/-- The BLADE record joins ACCUM as it is (R13). -/
theorem kept_slicerTrailing (s : State) : u.Kept s (slicerTrailing l s) := by
  unfold slicerTrailing; split
  next r blade =>
    split
    · have moved : u.Kept s ((s.onBladeZone l (fun _ => none)).onAccum l (· ++ [{ r with arrived := false }])) := by
        refine .of_line (fun h => ?_) rfl ⟨rfl, rfl, rfl, rfl, rfl, rfl, id⟩ rfl (fun _ => ⟨rfl, rfl, rfl⟩) rfl rfl
        have sound : r.jammed = false := h.blade l r (by simp [blade])
        exact ⟨h.approach, PerLane.upd_all (P := fun o : Option LoafRecord => Clean o.toList) h.blade (fun _ => clean_none),
          PerLane.upd_all h.accum (fun clean => clean.snoc sound), h.bagger⟩
      dsimp only
      generalize (s.onBladeZone l _).onAccum l _ = t at moved
      have told : u.Kept t (bladeEmptied l t) := .of_frames
      exact (moved.trans told).trans (kept_startMergeWindow u l _)
    · exact .refl u s
  · exact .refl u s

/-- The APPROACH head passes into BLADE as it is (R69). -/
theorem kept_passGate {r record : LoafRecord} {rest : List LoafRecord} (head : s.tt.approach.get l = r :: rest)
    (same : record.jammed = r.jammed) : u.Kept s ((s.onApproach l List.tail).onBladeZone l (fun _ => some record)) := by
  refine .of_line (fun h => ?_) rfl ⟨rfl, rfl, rfl, rfl, rfl, rfl, id⟩ rfl (fun _ => ⟨rfl, rfl, rfl⟩) rfl rfl
  have sound : r.jammed = false := h.approach l r (by simp [head])
  exact ⟨PerLane.upd_all h.approach Clean.tail, PerLane.upd_all (P := fun o : Option LoafRecord => Clean o.toList) h.blade
    (fun _ => clean_singleton (same.trans sound)), h.accum, h.bagger⟩

theorem kept_loseExitHead (s : State) : u.Kept s (loseExitHead s) := by
  unfold loseExitHead; split
  · exact .of_frames
  · exact .refl u s

/-- STOP marking leaves a record's jam as it is (R25). -/
theorem kept_stopMarking (s : State) : u.Kept s (stopMarking s) := by
  have marked (r : LoafRecord) : r.stopMarked.jammed = r.jammed := by unfold LoafRecord.stopMarked; split <;> rfl
  have tyer : (stopMarking s).tt.tyer.any (·.jammed) = s.tt.tyer.any (·.jammed) := by
    simp only [stopMarking, onTt_tt]
    cases s.tt.tyer <;> rfl
  refine .of_frames ⟨rfl, rfl, rfl, rfl, rfl, rfl, by simp [stopMarking]⟩ ⟨rfl, rfl, rfl, by rw [tyer]; exact id, ?_⟩
    (fun _ => ⟨rfl, rfl, rfl⟩) rfl rfl
  simp only [unjammed_iff]
  intro h
  refine ⟨h.approach, fun m => ?_, fun m => ?_, h.bagger.optionMap fun _ => rfl⟩
  · cases m with
    | a => exact (h.blade .a).optionMap marked
    | b => exact (h.blade .b).optionMap marked
  · cases m with
    | a => exact (h.accum .a).map marked
    | b => exact (h.accum .b).map marked

/-- The purge empties every zone (R27). -/
theorem kept_purgePool (s : State) : u.Kept s (purgePool s) := by
  have empty : u.Kept s (s.onTt (fun t => { t with approach := ⟨[], []⟩, blade := ⟨none, none⟩, accum := ⟨[], []⟩, bagger := none,
                                                   tyer := none, exit := [] })) :=
    .of_frames ⟨rfl, rfl, rfl, rfl, rfl, rfl, nofun⟩ ⟨rfl, rfl, rfl, nofun, fun _ _ there => absurd there List.not_mem_nil⟩
        (fun _ => ⟨rfl, rfl, rfl⟩) rfl rfl
  have counted : ∀ (gone : List LoafRecord) (t : State),
      u.Kept t (gone.foldl (fun s r => when r.admitted (countLost r) s) t) := by
    intro gone
    induction gone with
    | nil => exact .refl u
    | cons r gone ih =>
      intro t
      have one : u.Kept t (when r.admitted (countLost r) t) := kept_when fun _ => .of_frames
      exact one.trans (ih _)
  unfold purgePool; dsimp only
  exact (empty.trans (counted s.records _)).trans .of_frames

theorem kept_discardBagger (s : State) : u.Kept s (discardBagger s) := by
  unfold discardBagger; split
  · split
    · exact .of_line (fun h => ⟨by simpa using h.approach, by simpa using h.blade, by simpa using h.accum,
        by simpa using clean_none⟩)
    · exact .refl u s
  · exact .refl u s

theorem kept_discardTyer (s : State) : u.Kept s (discardTyer s) := by
  unfold discardTyer; split
  · split
    · exact .of_frames
    · exact .refl u s
  · exact .refl u s

end Sys2Proof.Machine
end

section
/-! SUPPORT. The tyer's cycle (R92 to R97, R103) keeps the users of manifold air in order. -/

namespace Sys2Proof.Machine

set_option Elab.async false

variable {s t v : State} {u : AirUser}

/-! ## The tyer's own moves -/

/-- A tyer outside PURGE_WAIT has no purge and does not wait for one. -/
theorem AirUser.Fits.noPurge (h : AirUser.tyer.Fits s) (state : s.tsc.tyer ≠ .purgeWait) :
    s.tsc.purge.isSome = false ∧ s.ama.waiting.get .purge = none := by
  constructor
  · exact Bool.eq_false_iff.2 fun runs => state (h.1.1.purge runs)
  · refine Option.not_isSome_iff_eq_none.1 fun wait => state ?_
    exact (h.2.waits wait).1

theorem kept_of_tyer (other : u ≠ .tyer) (bagger : BaggerAsWas s t := by constructor <;> simp)
    (crumb : ∀ l, CrumbAsWas l s t := by intro l; constructor <;> simp) (waiting : t.ama.waiting = s.ama.waiting := by simp)
    (holder : t.ama.holder = s.ama.holder := by simp) : u.Kept s t := by
  refine ⟨?_, fun wait => by rwa [waiting] at wait, fun c held => by rwa [holder] at held⟩
  cases u with
  | bagger => exact bagger
  | tyer => exact absurd rfl other
  | crumb l | outputs l => exact crumb l

/-- A move of the tyer while it neither purges nor waits for air. -/
theorem AirUser.Fits.by_tyer (h : u.Fits s) (quiet : u = .tyer → s.tsc.purge.isSome = false ∧ s.ama.waiting.get .purge = none)
    (purge : t.tsc.purge = s.tsc.purge := by simp)
    (own : u = .tyer → (t.tsc.tieTimer.isSome = true → t.tsc.tyer ≠ .idle ∧ t.tsc.tyer ≠ .purgeWait) ∧
      (t.tt.tyer.any (·.jammed) = true → t.tsc.tyer = .idle))
    (line : Unjammed s.tt → Unjammed t.tt := by simp [Unjammed, beforeTyer])
    (bagger : BaggerAsWas s t := by constructor <;> simp) (crumb : ∀ l, CrumbAsWas l s t := by intro l; constructor <;> simp)
    (waiting : t.ama.waiting = s.ama.waiting := by simp) (holder : t.ama.holder = s.ama.holder := by simp) : u.Fits t := by
  by_cases tyer : u = .tyer
  · obtain ⟨noPurge, still⟩ := quiet tyer
    obtain ⟨tie, jammed⟩ := own tyer
    subst tyer
    obtain ⟨⟨_, clean⟩, placed⟩ := h
    refine ⟨⟨⟨tie, fun runs => ?_, jammed⟩, line clean⟩, placed.left (waiting ▸ still) (by rw [holder]; exact fun _ => id)
        (by rw [purge]; exact id)⟩
    rw [purge, noPurge] at runs
    exact absurd runs nofun
  · exact h.keep (kept_of_tyer tyer bagger crumb waiting holder)

theorem fits_startTwist (h : u.Fits s) (quiet : u = .tyer → s.tsc.purge.isSome = false ∧ s.ama.waiting.get .purge = none)
    (sound : u = .tyer → s.tt.tyer.any (·.jammed) = false) : u.Fits (startTwist s) := by
  refine h.by_tyer quiet (by simp) fun tyer => ⟨fun _ => by simp [startTwist], fun jammed => ?_⟩
  simp [sound tyer] at jammed

/-- The entry to TWIST (R93) of a tyer that neither purges nor waits, with no jammed record. -/
theorem fits_enterTwist (h : u.Fits s) (quiet : u = .tyer → s.tsc.purge.isSome = false ∧ s.ama.waiting.get .purge = none)
    (sound : u = .tyer → s.tt.tyer.any (·.jammed) = false) : u.Fits (enterTwist s) := by
  unfold enterTwist; split
  · exact fits_startTwist h quiet sound
  · refine h.by_tyer quiet (by simp) fun tyer => ⟨by simp, fun jammed => ?_⟩
    simp [sound tyer] at jammed

/-- An idle tyer with a sound record starts its cycle (R92). -/
theorem fits_startTyer (h : u.Fits s) (idle : s.tsc.tyer = .idle) (sound : u = .tyer → s.tt.tyer.any (·.jammed) = false) :
    u.Fits (startTyer s) := by
  have quiet : u = .tyer → s.tsc.purge.isSome = false ∧ s.ama.waiting.get .purge = none := fun own => by
    subst own; exact h.noPurge (by rw [idle]; exact nofun)
  unfold startTyer; split
  · have waits : u.Fits (s.onTsc (fun t => { t with tyer := .purgeWait })) := by
      refine h.by_tyer quiet rfl fun own => ⟨fun runs => ?_, fun jammed => ?_⟩
      · subst own
        exact absurd idle (h.1.1.tie runs).1
      · simp [sound own] at jammed
    refine fits_airRequest waits fun named => ?_
    cases u with
    | tyer => exact ⟨rfl, (quiet rfl).1⟩
    | bagger => exact absurd named nofun
    | crumb l | outputs l => cases l <;> exact absurd named nofun
  · exact fits_enterTwist h quiet sound

theorem fits_enterClip (h : u.Fits s) (twist : s.tsc.tyer = .twist) : u.Fits (enterClip s) := by
  refine h.by_tyer (fun own => ?_) (by simp [enterClip]) fun own => ⟨fun _ => by simp [enterClip], fun jammed => ?_⟩
  · subst own; exact h.noPurge (by rw [twist]; exact nofun)
  · subst own
    exact absurd (twist.symm.trans (h.1.1.jammed (by simpa using jammed))) nofun

/-- The completion of a tie (R95). -/
theorem fits_completeTie (h : u.Fits s) (state : s.tsc.tyer ≠ .purgeWait) : u.Fits (completeTie s) := by
  have idle : (completeTie s).tsc.tyer = .idle ∧ (completeTie s).tsc.tieTimer = none := by simp [completeTie]
  refine h.by_tyer (fun own => by subst own; exact h.noPurge state) (by simp) fun _ => ⟨?_, fun _ => idle.1⟩
  rw [idle.2]; exact nofun

theorem fits_tieIfHome (h : u.Fits s) : u.Fits (tieIfHome s) := by
  refine when_elim h fun home => fits_completeTie h ?_
  simp only [Bool.and_eq_true, beq_iff_eq] at home
  rw [home.1.1]; exact nofun

/-- The end of CLIP (R95). -/
theorem fits_enterHomeWait (h : u.Fits s) (clip : s.tsc.tyer = .clip) : u.Fits (enterHomeWait s) := by
  refine fits_tieIfHome (h.by_tyer (fun own => ?_) (by simp) fun own => ⟨fun _ => by simp, fun jammed => ?_⟩)
  · subst own; exact h.noPurge (by rw [clip]; exact nofun)
  · subst own
    exact absurd (clip.symm.trans (h.1.1.jammed (by simpa using jammed))) nofun

/-- The tie timer runs out: the jammed record rests in an idle tyer (R96). -/
theorem fits_jamTyer (h : u.Fits s) (runs : s.tsc.tieTimer.isSome = true) : u.Fits (jamTyer s) := by
  have idle : (jamTyer s).tsc.tyer = .idle ∧ (jamTyer s).tsc.tieTimer = none := by simp [jamTyer]
  refine h.by_tyer (fun own => ?_) (by simp) fun _ => ⟨?_, fun _ => idle.1⟩
  · subst own; exact h.noPurge (h.1.1.tie runs).2
  · rw [idle.2]; exact nofun

/-- A retie of a jammed record (R97). -/
theorem fits_retie (h : u.Fits s) (jammed : s.tt.tyer.any (·.jammed) = true) : u.Fits (retie s) := by
  have sound (o : Option LoafRecord) : (o.map (fun r => { r with jammed := false })).any (·.jammed) = false := by
    cases o <;> rfl
  have cleared : u.Kept s (s.onTt (fun t => { t with tyer := t.tyer.map (fun r => { r with jammed := false }) })) :=
    .of_frames ⟨rfl, rfl, rfl, rfl, rfl, rfl, id⟩ ⟨rfl, rfl, rfl, fun jams => absurd ((sound _).symm.trans jams) nofun, id⟩
      (fun _ => ⟨rfl, rfl, rfl⟩) rfl rfl
  refine fits_enterTwist ((h.keep cleared).keep .of_frames) (fun own => ?_) fun _ => by simpa using sound s.tt.tyer
  subst own
  obtain ⟨purge, quiet⟩ := h.noPurge (by rw [h.1.1.jammed jammed]; exact nofun)
  exact ⟨by simpa using purge, by simpa using quiet⟩

theorem fits_clipsLoaded (h : u.Fits s) : u.Fits (clipsLoaded s) := by
  have checked : u.Fits (when (s.tsc.tyer == .twist && s.tsc.phaseTimer.isNone) startTwist s) := by
    refine when_elim h fun waits => ?_
    have twist : s.tsc.tyer = .twist := by
      simp only [Bool.and_eq_true, beq_iff_eq] at waits
      exact waits.1
    refine fits_startTwist h (fun own => ?_) fun own => ?_
    · subst own; exact h.noPurge (by rw [twist]; exact nofun)
    · subst own
      exact Bool.eq_false_iff.2 fun jammed => absurd (twist.symm.trans (h.1.1.jammed jammed)) nofun
  unfold clipsLoaded
  exact checked.keep .of_frames

/-! ## The tyer leaves its place at the arbiter -/

/-- The tyer ends what it had the air for, or waited for, and is out of its places. -/
theorem fits_of_tyerFreed (h : u.Fits s) (others : u ≠ .tyer → u.Kept s v) (holder : v.ama.holder = s.ama.holder)
    (fits : AirUser.tyer.Fits s → TyerFits v.tsc (v.tt.tyer.any (·.jammed)) ∧ Unjammed v.tt)
    (freed : AirUser.tyer.Fits s → AirUser.tyer.Freed v t) (pass : u.Fits v → u.Fits t) : u.Fits t := by
  by_cases tyer : u = .tyer
  · subst tyer
    obtain ⟨own, quiet, free⟩ := freed h
    have own : TyerAsWas v t := own
    exact ⟨own.fits (fits h), Placed.of_free quiet (free (by rw [holder]; exact h.2.once))⟩
  · exact pass (h.keep (others tyer))

/-- The end of a purge (R92). -/
theorem fits_endPurge (h : u.Fits s) (purges : s.tsc.purge.isSome = true) : u.Fits (endPurge s) := by
  have tsc : (purgeOver s).tsc = { s.tsc with purge := none, tiesSincePurge := 0 } := by simp [purgeOver]
  have quiet (own : AirUser.tyer.Fits s) : (purgeOver s).ama.waiting.get .purge = none := by
    refine Option.not_isSome_iff_eq_none.1 fun wait => ?_
    have waits := own.2.waits (by simpa [purgeOver] using wait)
    exact absurd (waits.2.symm.trans purges) nofun
  have freed (own : AirUser.tyer.Fits s) : AirUser.tyer.Freed (purgeOver s) (airRelease .purge (purgeOver s)) :=
    freed_airRelease (u := .tyer) (quiet own)
  have released : u.Fits (airRelease .purge (purgeOver s)) := by
    refine fits_of_tyerFreed h (fun other => ?_) (by simp [purgeOver]) (fun own => ?_) freed fits_airRelease
    · exact kept_of_tyer other (by constructor <;> simp [purgeOver]) (fun l => by constructor <;> simp [purgeOver])
        (by simp [purgeOver]) (by simp [purgeOver])
    · obtain ⟨⟨⟨tie, _, jammed⟩, line⟩, _⟩ := own
      rw [tsc]
      exact ⟨⟨tie, nofun, by simpa [purgeOver] using jammed⟩, by simpa [purgeOver] using line⟩
  rw [endPurge_eq]
  refine fits_enterTwist released (fun own => ?_) fun own => ?_
  · subst own
    obtain ⟨own, quiet, -⟩ := freed h
    exact ⟨(TyerAsWas.purge own).trans (by rw [tsc]; rfl), quiet⟩
  · subst own
    obtain ⟨own, -, -⟩ := freed h
    refine Bool.eq_false_iff.2 fun jams => ?_
    have idle := h.1.1.jammed (by simpa [purgeOver] using TyerAsWas.jammed own jams)
    exact absurd (idle.symm.trans (h.1.1.purge purges)) nofun

/-- The tyer abandons its cycle (R103). -/
theorem fits_abandonTyer (h : u.Fits s) : u.Fits (abandonTyer s) := by
  have tsc : (tyerCleared s).tsc =
      { s.tsc with tyer := .idle, purge := none, phaseTimer := none, tieTimer := none, code := none } := by
    simp [tyerCleared]
  rw [abandonTyer_eq]
  refine fits_of_tyerFreed h (fun other => ?_) (by simp [tyerCleared]) (fun own => ?_)
    (fun _ => freed_airWithdraw .tyer _) fits_airWithdraw
  · exact kept_of_tyer other (by constructor <;> simp [tyerCleared]) (fun l => by constructor <;> simp [tyerCleared])
      (by simp [tyerCleared]) (by simp [tyerCleared])
  · rw [tsc]
    exact ⟨⟨nofun, nofun, fun _ => rfl⟩, by simpa [tyerCleared] using own.1.2⟩

end Sys2Proof.Machine
end

section
/-! SUPPORT. The bagger's cycle (R80 to R91, R99, R102) and the handoff (R91) keep the users of manifold air in order. -/

namespace Sys2Proof.Machine

set_option Elab.async false

variable {s t v : State} {u : AirUser} {m n : MergeBag} {loaded : Bool}

/-! ## The bagger's states -/

/-- No motion, no settling flap, no opening and no stopped stroke. -/
structure MergeBag.Resting (m : MergeBag) : Prop where
  phase : m.phase = .none
  flap : m.flapTimer.isSome = false
  opening : m.openTimer.isSome = false
  stopped : m.stopped = false

theorem BaggerFits.noFlap (h : BaggerFits m loaded) (phase : m.phase ≠ .flapSettle) : m.flapTimer.isSome = false :=
  Bool.eq_false_iff.2 fun settles => phase (h.flap settles)

theorem BaggerFits.noOpening (h : BaggerFits m loaded) (state : m.bagger ≠ .opening) : m.openTimer.isSome = false :=
  Bool.eq_false_iff.2 fun opens => state (h.opening opens)

theorem BaggerFits.notStopped (h : BaggerFits m loaded) (moves : m.bagger ≠ .pushing ∨ m.phase ≠ .none) : m.stopped = false :=
  Bool.eq_false_iff.2 fun stops => moves.elim (fun state => state (h.stopped stops).1) (fun phase => phase (h.stopped stops).2)

theorem BaggerFits.noMotion (h : BaggerFits m loaded) (select : m.bagger ≠ .select) (pushing : m.bagger ≠ .pushing) :
    m.phase = .none := by
  by_contra moves
  have at_ := h.phase moves
  revert at_
  cases m.phase with
  | homing | flapSettle => exact select
  | none | extend | dwell | retract => exact pushing

/-- Between its motions and openings a bagger rests. -/
theorem BaggerFits.resting (h : BaggerFits m loaded) (select : m.bagger ≠ .select) (pushing : m.bagger ≠ .pushing)
    (opening : m.bagger ≠ .opening) : m.Resting :=
  have phase := h.noMotion select pushing
  ⟨phase, h.noFlap (by rw [phase]; exact nofun), h.noOpening opening, h.notStopped (.inl pushing)⟩

/-- The states in which BAGGER may hold a record. -/
theorem MergeBag.Resting.fits (h : m.Resting)
    (empty : loaded = true → m.bagger ≠ .select ∧ m.bagger ≠ .airWait ∧ m.bagger ≠ .opening) :
    BaggerFits m loaded :=
  ⟨fun moves => absurd h.phase moves, fun settles => absurd (h.flap.symm.trans settles) nofun,
    fun opens => absurd (h.opening.symm.trans opens) nofun, fun stops => absurd (h.stopped.symm.trans stops) nofun, empty⟩

/-- A motion that another takes the place of, in one bagger state. -/
theorem BaggerFits.move (h : BaggerFits m loaded) (bagger : n.bagger = m.bagger)
    (phase : n.phase ≠ .none → m.bagger = n.phase.bagger)
    (flap : n.flapTimer.isSome = true → n.phase = .flapSettle) (opening : n.openTimer.isSome = true → m.openTimer.isSome = true)
    (stopped : n.stopped = true → m.bagger = .pushing ∧ n.phase = .none) : BaggerFits n loaded :=
  ⟨by rw [bagger]; exact phase, flap, by rw [bagger]; exact h.opening ∘ opening, by rw [bagger]; exact stopped,
    by rw [bagger]; exact h.empty⟩

/-! ## Moves of the bagger beside the other users -/

theorem kept_of_bagger (other : u ≠ .bagger) (tyer : TyerAsWas s t := by constructor <;> simp [Unjammed, beforeTyer])
    (crumb : ∀ l, CrumbAsWas l s t := by intro l; constructor <;> simp) (waiting : t.ama.waiting = s.ama.waiting := by simp)
    (holder : t.ama.holder = s.ama.holder := by simp) : u.Kept s t := by
  refine ⟨?_, fun wait => by rwa [waiting] at wait, fun c held => by rwa [holder] at held⟩
  cases u with
  | bagger => exact absurd rfl other
  | tyer => exact tyer
  | crumb l | outputs l => exact crumb l

/-- A move of the bagger that leaves its blast and its places as they are. One that waits for air goes on waiting. -/
theorem AirUser.Fits.by_bagger (h : u.Fits s) (own : u = .bagger → BaggerFits s.mbc s.tt.bagger.isSome →
      BaggerFits t.mbc t.tt.bagger.isSome ∧ (s.mbc.bagger = .airWait → t.mbc.bagger = .airWait))
    (blast : t.mbc.blast.isSome = s.mbc.blast.isSome := by simp)
    (others : u ≠ .bagger → u.Kept s t := by exact fun other => kept_of_bagger other)
    (waiting : t.ama.waiting = s.ama.waiting := by simp) (holder : t.ama.holder = s.ama.holder := by simp) : u.Fits t := by
  by_cases bagger : u = .bagger
  · subst bagger
    obtain ⟨fits, stays⟩ := own rfl h.1
    refine ⟨fits, h.2.mono (by rw [waiting]; exact id) (by rw [holder]; exact fun _ => id)
        (fun runs => blast ▸ runs) fun waits => ?_⟩
    exact ⟨stays waits.1, blast.trans waits.2⟩
  · exact h.keep (others bagger)

/-- A resting bagger goes to IDLE, CONFIRM or HANDOFF. -/
theorem fits_onMbc_of_resting (h : u.Fits s) (ready : u = .bagger → s.mbc.Resting ∧ s.mbc.bagger ≠ .airWait)
    {f : MergeBag → MergeBag} (rests : (f s.mbc).bagger ≠ .select ∧ (f s.mbc).bagger ≠ .airWait ∧ (f s.mbc).bagger ≠ .opening)
    (same : s.mbc.Resting → (f s.mbc).Resting) (blast : (f s.mbc).blast = s.mbc.blast) : u.Fits (s.onMbc f) := by
  refine h.by_bagger (fun own fits => ?_) (by rw [onMbc_mbc, blast])
  obtain ⟨resting, notWaiting⟩ := ready own
  exact ⟨(same resting).fits fun _ => rests, fun waits => absurd waits notWaiting⟩

theorem fits_endCycle (h : u.Fits s) (ready : u = .bagger → s.mbc.Resting ∧ s.mbc.bagger ≠ .airWait) : u.Fits (endCycle s) :=
  fits_onMbc_of_resting h ready ⟨nofun, nofun, nofun⟩ (fun ⟨phase, flap, opening, stopped⟩ => ⟨phase, flap, opening, stopped⟩) rfl

/-! ## Selection and route -/

/-- In SELECT with no motion the bagger asks for a bag (R86, R87). -/
theorem fits_requestBag (h : u.Fits s) (ready : u = .bagger → s.mbc.bagger = .select ∧ s.mbc.phase = .none) :
    u.Fits (requestBag s) := by
  have waits : u.Fits (s.onMbc (fun m => { m with bagger := .airWait })) := by
    refine h.by_bagger fun own fits => ⟨?_, fun _ => rfl⟩
    obtain ⟨select, still⟩ := ready own
    have resting : s.mbc.Resting := ⟨still, fits.noFlap (by rw [still]; exact nofun),
        fits.noOpening (by rw [select]; exact nofun),
      fits.notStopped (.inl (by rw [select]; exact nofun))⟩
    obtain ⟨phase, flap, opening, stopped⟩ := resting
    exact MergeBag.Resting.fits ⟨phase, flap, opening, stopped⟩ fun there => absurd select (fits.empty there).1
  unfold requestBag; dsimp only; split
  · exact waits
  next quiet =>
    refine fits_airRequest waits fun named => ?_
    obtain rfl := AirUser.eq_bagger_of_requester named
    exact ⟨rfl, Bool.eq_false_iff.2 quiet⟩

theorem fits_bagCheck (h : u.Fits s) (ready : u = .bagger → s.mbc.bagger = .select ∧ s.mbc.phase = .none) :
    u.Fits (bagCheck s) := by
  unfold bagCheck; split
  · exact fits_requestBag h ready
  · have back : (waitForBags s).mbc.bagger = .select := by simp [waitForBags]
    refine h.by_bagger fun own fits => ?_
    obtain ⟨select, still⟩ := ready own
    have tt : (waitForBags s).tt = s.tt := by simp
    rw [tt]
    refine ⟨fits.move (back.trans select.symm) (fun moves => absurd (by simpa using still) moves) (fun settles => ?_)
        (by simp) ?_,
      fun waits => absurd (select.symm.trans waits) nofun⟩
    · simpa using fits.flap (by simpa using settles)
    · simpa using fits.stopped

/-- The route goes on from SELECT (R82, R85, R86). -/
theorem fits_startRoute (h : u.Fits s) (ready : u = .bagger → s.mbc.bagger = .select ∧ s.mbc.phase = .none) :
    u.Fits (startRoute s) := by
  unfold startRoute; split
  · refine h.by_bagger fun own fits => ?_
    obtain ⟨select, still⟩ := ready own
    have stopped := fits.notStopped (.inl (by rw [select]; exact nofun))
    refine ⟨?_, by simp⟩
    simpa using fits.move (n := { s.mbc with phase := .flapSettle, flapTimer := some 100 }) rfl (fun _ => select)
        (fun _ => rfl) id
      (fun stops => absurd (stopped.symm.trans stops) nofun)
  · exact fits_bagCheck h ready

/-- The homing motion begins in SELECT (R82). -/
theorem fits_startHoming (h : u.Fits s) (ready : u = .bagger → s.mbc.bagger = .select ∧ s.mbc.phase = .none) (l : Lane) :
    u.Fits (startHoming l s) := by
  refine h.by_bagger fun own fits => ?_
  obtain ⟨select, still⟩ := ready own
  have stopped := fits.notStopped (.inl (by rw [select]; exact nofun))
  have noFlap := fits.noFlap (by rw [still]; exact nofun)
  have mbc : (startHoming l s).mbc = { s.mbc with phase := .homing, strokeTimer := some s.params.strokeTimeout } := by
    simp [startHoming]
  have tt : (startHoming l s).tt = s.tt := by simp
  rw [mbc, tt]
  exact ⟨fits.move rfl (fun _ => select) (fun settles => absurd (noFlap.symm.trans settles) nofun) id
    (fun stops => absurd (stopped.symm.trans stops) nofun), id⟩

/-- A selection by an idle bagger with nothing in BAGGER (R80 to R82). -/
theorem fits_selectLane (h : u.Fits s) (idle : s.mbc.bagger = .idle) (empty : s.tt.bagger = none) (l : Lane) (r : LoafRecord) :
    u.Fits (selectLane l r s) := by
  have marked : u.Fits (s.onAccum l (mapHead .selected)) := by
    refine h.keep (kept_onAccum u l (fun clean => clean.mapHead fun r => ?_) s)
    unfold LoafRecord.selected; split <;> rfl
  have mbc : (s.onAccum l (mapHead .selected)).mbc = s.mbc := rfl
  have none : (s.onAccum l (mapHead .selected)).tt.bagger = none := empty
  unfold selectLane; dsimp only
  generalize s.onAccum l (mapHead .selected) = v at marked mbc none
  have selected : u.Fits (v.onMbc
      (fun m => { m with bagger := .select, route := some (routeOf r), selected := some (l, r.tag), lastServed := some l })) := by
    refine marked.by_bagger fun own fits => ?_
    obtain ⟨phase, flap, opening, stopped⟩ := fits.resting (by rw [mbc, idle]; exact nofun) (by rw [mbc, idle]; exact nofun)
      (by rw [mbc, idle]; exact nofun)
    refine ⟨MergeBag.Resting.fits ⟨phase, flap, opening, stopped⟩ fun there => ?_, fun waits => ?_⟩
    · simp [none] at there
    · rw [mbc, idle] at waits
      exact absurd waits nofun
  have still : u = .bagger → v.mbc.phase = .none := fun own => by
    subst own
    exact marked.1.noMotion (by rw [mbc, idle]; exact nofun) (by rw [mbc, idle]; exact nofun)
  split
  · exact fits_startRoute selected fun own => ⟨rfl, still own⟩
  · exact fits_startHoming selected (fun own => ⟨rfl, still own⟩) l

theorem fits_selectIfReady (h : u.Fits s) : u.Fits (selectIfReady s) := by
  unfold selectIfReady; split
  next l r _ =>
    refine when_elim h fun may => ?_
    simp only [maySelect, Bool.and_eq_true, beq_iff_eq, Option.isNone_iff_eq_none] at may
    obtain ⟨⟨_, idle⟩, empty⟩ := may
    exact fits_selectLane h idle empty l r
  · exact h

/-! ## The end of a stroke -/

/-- A record freed at the pusher's home, and the end of its cycle (R85). -/
theorem fits_freeRejected (h : u.Fits s) (ready : u = .bagger → s.mbc.Resting ∧ s.mbc.bagger ≠ .airWait) :
    u.Fits (freeRejected s) := by
  unfold freeRejected; dsimp only; split
  next l r _ =>
    have removed := h.keep (kept_removeAccumHead u l s)
    have counted : u.Fits (countRejected r (rejectCounter r) (removeAccumHead l s)) := removed.keep .of_frames
    have left := counted.keep (kept_accumHeadLeft u l r _)
    exact fits_endCycle (left.keep .of_frames) (by simpa using ready)
  · exact fits_endCycle (h.keep .of_frames) (by simpa using ready)

theorem fits_strokeDone (h : u.Fits s) (ready : u = .bagger → s.mbc.Resting ∧ s.mbc.bagger ≠ .airWait) :
    u.Fits (strokeDone s) := by
  have goes {b : BaggerState} (rests : b ≠ .select ∧ b ≠ .airWait ∧ b ≠ .opening) :
      u.Fits (s.onMbc (fun m => { m with bagger := b })) :=
    fits_onMbc_of_resting h ready rests (fun ⟨phase, flap, opening, stopped⟩ => ⟨phase, flap, opening, stopped⟩) rfl
  unfold strokeDone; split
  · exact fits_freeRejected h ready
  · split
    · exact goes ⟨nofun, nofun, nofun⟩
    · split
      · exact goes ⟨nofun, nofun, nofun⟩
      · exact fits_endCycle h ready

/-- A motion other than the flap's ends. -/
theorem fits_motionHome (h : u.Fits s) (moves : s.mbc.phase ≠ .none) (notFlap : s.mbc.phase ≠ .flapSettle) (l : Lane) :
    u.Fits (motionHome l s) := by
  refine h.by_bagger (fun _ fits => ?_) (by rw [motionHome_mbc])
  have noFlap := fits.noFlap notFlap
  have stopped := fits.notStopped (.inr moves)
  have tt : (motionHome l s).tt = s.tt := by simp
  rw [motionHome_mbc, tt]
  exact ⟨fits.move rfl (fun moves => absurd rfl moves) (fun settles => absurd (noFlap.symm.trans settles) nofun) id
    (fun stops => absurd (stopped.symm.trans stops) nofun), id⟩

/-- A pusher comes home in HOMING or RETRACT (R82, R83). -/
theorem fits_pusherHome (h : u.Fits s) (l : Lane) : u.Fits (pusherHome l s) := by
  unfold pusherHome; split
  · exact h
  · split
    next homing =>
      refine fits_startRoute (fits_motionHome h (by rw [homing]; exact nofun) (by rw [homing]; exact nofun) l) fun own => ?_
      subst own
      rw [motionHome_mbc]
      exact ⟨(h.1.phase (by rw [homing]; exact nofun)).trans (by rw [homing]; rfl), rfl⟩
    next retract =>
      refine fits_strokeDone (fits_motionHome h (by rw [retract]; exact nofun) (by rw [retract]; exact nofun) l) fun own => ?_
      subst own
      have pushing : s.mbc.bagger = .pushing := (h.1.phase (by rw [retract]; exact nofun)).trans (by rw [retract]; rfl)
      rw [motionHome_mbc]
      exact ⟨⟨rfl, h.1.noFlap (by rw [retract]; exact nofun), h.1.noOpening (by rw [pushing]; exact nofun),
        h.1.notStopped (.inr (by rw [retract]; exact nofun))⟩, by rw [pushing]; exact nofun⟩
    · exact h

/-- The removal of BAGGER_JAM ends a stopped cycle (R84). -/
theorem fits_endStopped (h : u.Fits s) : u.Fits (endStopped s) := by
  refine when_elim h fun stops => ?_
  have freed : u.Fits (s.onMbc (fun m => { m with stopped := false })) :=
    h.by_bagger fun _ fits => ⟨fits.move rfl fits.phase fits.flap id nofun, id⟩
  refine fits_strokeDone freed fun own => ?_
  subst own
  obtain ⟨pushing, still⟩ := h.1.stopped stops
  exact ⟨⟨still, h.1.noFlap (by rw [still]; exact nofun), h.1.noOpening (by rw [pushing]; exact nofun), rfl⟩, by
    rw [onMbc_mbc, pushing]; exact nofun⟩

end Sys2Proof.Machine
end

section
/-! SUPPORT. The push stroke, the bag confirm, the blast, the abandoned bagger and the handoff keep the users of manifold air in
order (R83 to R91, R99, R102). -/

namespace Sys2Proof.Machine

set_option Elab.async false

variable {s t v : State} {u : AirUser}

/-! ## The push stroke -/

theorem startStroke_mbc (s : State) : (startStroke s).mbc =
    { s.mbc with bagger := .pushing, phase := .extend, strokeTimer := some s.params.strokeTimeout } := by
  unfold startStroke; dsimp only; split
  · simp
  · rfl

/-- The stroke that follows the flap's settling (R85). -/
theorem fits_flapSettled (h : u.Fits s) (settles : s.mbc.flapTimer.isSome = true) : u.Fits (flapSettled s) := by
  have mbc : (flapSettled s).mbc =
      { s.mbc with flapTimer := none, bagger := .pushing, phase := .extend, strokeTimer := some s.params.strokeTimeout } := by
    simp [flapSettled, startStroke_mbc]
  refine h.by_bagger (fun _ fits => ?_) (by rw [mbc])
  have settling := fits.flap settles
  have select : s.mbc.bagger = .select := (fits.phase (by rw [settling]; exact nofun)).trans (by rw [settling]; rfl)
  have noOpening := fits.noOpening (by rw [select]; exact nofun)
  have stopped := fits.notStopped (.inl (by rw [select]; exact nofun))
  rw [mbc]
  refine ⟨⟨fun _ => rfl, nofun, fun opens => ?_, fun stops => ?_, fun _ => ⟨nofun, nofun, nofun⟩⟩, fun waits => ?_⟩
  · exact absurd (noOpening.symm.trans opens) nofun
  · exact absurd (stopped.symm.trans stops) nofun
  · exact absurd (select.symm.trans waits) nofun

theorem selectedHead_mem {l : Lane} {r : LoafRecord} (head : selectedHead s = some (l, r)) : r ∈ s.tt.accum.get l := by
  unfold selectedHead at head
  split at head
  next m tag _ =>
    split at head
    next q rest queue =>
      split at head
      · cases head
        rw [queue]; exact List.mem_cons_self
      · cases head
    · cases head
  · cases head

/-- The selected record moves to BAGGER as it is (R88). -/
theorem kept_bagged (other : u ≠ .bagger) {l : Lane} {r : LoafRecord} (there : r ∈ s.tt.accum.get l) :
    u.Kept s ((removeAccumHead l s).onTt
      (fun t => { t with bagger := some { r with arrived := false, departure := none } })) := by
  refine kept_of_bagger other ⟨rfl, rfl, rfl, id, ?_⟩ (fun _ => ⟨rfl, rfl, rfl⟩) rfl rfl
  simp only [unjammed_iff]
  intro h
  exact ⟨h.approach, h.blade, PerLane.upd_all h.accum Clean.tail, clean_singleton (h.accum l r there)⟩

/-- The end of the opening (R88). -/
theorem fits_openingOver (h : u.Fits s) (opens : s.mbc.openTimer.isSome = true) : u.Fits (openingOver s) := by
  have closed : u.Fits (s.onMbc (fun m => { m with openTimer := none })) :=
    h.by_bagger fun _ fits => ⟨fits.move rfl fits.phase fits.flap nofun fits.stopped, id⟩
  have resting : u = .bagger → (s.onMbc (fun m => { m with openTimer := none })).mbc.Resting ∧ s.mbc.bagger = .opening := by
    intro own
    subst own
    have opening := h.1.opening opens
    have phase := h.1.noMotion (by rw [opening]; exact nofun) (by rw [opening]; exact nofun)
    exact ⟨⟨phase, h.1.noFlap (by rw [phase]; exact nofun), rfl, h.1.notStopped (.inl (by rw [opening]; exact nofun))⟩, opening⟩
  unfold openingOver; dsimp only; split
  next l r head =>
    have there := selectedHead_mem head
    refine closed.by_bagger (fun own fits => ?_) (by simp) (fun other => ?_)
    · obtain ⟨⟨_, flap, opening, stopped⟩, state⟩ := resting own
      have mbc (v : State) : (startStroke v).mbc.bagger = .pushing ∧ (startStroke v).mbc.phase = .extend := by
        rw [startStroke_mbc]; exact ⟨rfl, rfl⟩
      refine ⟨⟨fun _ => ?_, fun settles => ?_, fun opens => ?_, fun stops => ?_, fun _ => ?_⟩, fun waits => ?_⟩
      · simp [mbc, StrokePhase.bagger]
      · exact absurd (flap.symm.trans (by simpa using settles)) Bool.false_ne_true
      · simp at opens
      · exact absurd (stopped.symm.trans (by simpa using stops)) Bool.false_ne_true
      · simp [mbc]
      · exact absurd (state.symm.trans waits) nofun
    · have left := (kept_bagged other there).trans (kept_accumHeadLeft u l r _)
      generalize accumHeadLeft l r _ = v at left ⊢
      exact left.trans (kept_of_bagger other)
  · exact fits_endCycle closed fun own => ⟨(resting own).1, by rw [onMbc_mbc, (resting own).2]; exact nofun⟩

/-- RETRACT follows DWELL (R83). -/
theorem fits_startRetract (h : u.Fits s) (dwell : s.mbc.phase = .dwell) : u.Fits (startRetract s) := by
  refine h.by_bagger fun _ fits => ⟨fits.move rfl (fun _ => ?_) (fun settles => ?_) id (fun stops => ?_), id⟩
  · exact (fits.phase (by rw [dwell]; exact nofun)).trans (by rw [dwell]; rfl)
  · exact absurd (dwell.symm.trans (fits.flap settles)) nofun
  · exact absurd (dwell.symm.trans (fits.stopped stops).2) nofun

/-- The extended switch closes in EXTEND (R83). -/
theorem fits_endExtend (h : u.Fits s) (extend : s.mbc.phase = .extend) (l : Lane) : u.Fits (endExtend l s) := by
  have dwells : u.Fits (s.onMbc (fun m => { m with phase := .dwell, strokeTimer := none })) := by
    refine h.by_bagger fun _ fits => ⟨fits.move rfl (fun _ => ?_) (fun settles => ?_) id (fun stops => ?_), id⟩
    · exact (fits.phase (by rw [extend]; exact nofun)).trans (by rw [extend]; rfl)
    · exact absurd (extend.symm.trans (fits.flap settles)) nofun
    · exact absurd (extend.symm.trans (fits.stopped stops).2) nofun
  have valves : u.Fits (valveOn l .retract (valveOff l .extend
      (s.onMbc (fun m => { m with phase := .dwell, strokeTimer := none })))) :=
    dwells.keep .of_frames
  exact when_elim valves fun _ => fits_startRetract valves (by simp)

theorem fits_deadTimeOver (h : u.Fits s) (l : Lane) : u.Fits (deadTimeOver l s) := by
  have ended : u.Fits (s.onPusher l Pusher.deadEnd) := h.keep .of_frames
  refine when_elim ended fun retracts => fits_startRetract ended ?_
  simp only [Bool.and_eq_true, beq_iff_eq] at retracts
  simpa using retracts.1.2

/-- A homing motion that fails ends the cycle (R82). -/
theorem fits_homingOver (h : u.Fits s) (homing : s.mbc.phase = .homing) :
    u.Fits (endCycle (raiseFault .baggerJam .out none (s.onMbc (fun m => { m with phase := .none, strokeTimer := none })))) := by
  have noFlap (fits : BaggerFits s.mbc s.tt.bagger.isSome) := fits.noFlap (by rw [homing]; exact nofun)
  have stopped (fits : BaggerFits s.mbc s.tt.bagger.isSome) := fits.notStopped (.inr (by rw [homing]; exact nofun))
  have still : u.Fits (s.onMbc (fun m => { m with phase := .none, strokeTimer := none })) :=
    h.by_bagger fun _ fits => ⟨fits.move rfl (fun moves => absurd rfl moves)
      (fun settles => absurd ((noFlap fits).symm.trans settles) nofun) id
      (fun stops => absurd ((stopped fits).symm.trans stops) nofun), id⟩
  refine fits_endCycle (still.keep .of_frames) fun own => ?_
  subst own
  have select : s.mbc.bagger = .select := (h.1.phase (by rw [homing]; exact nofun)).trans (by rw [homing]; rfl)
  have mbc : (raiseFault .baggerJam .out none (s.onMbc (fun m => { m with phase := .none, strokeTimer := none }))).mbc =
      { s.mbc with phase := .none, strokeTimer := none } := by simp
  rw [mbc]
  exact ⟨⟨rfl, noFlap h.1, h.1.noOpening (by rw [select]; exact nofun), stopped h.1⟩, by rw [select]; exact nofun⟩

/-- The stroke timer runs out in HOMING (R82). -/
theorem fits_homingFailed (h : u.Fits s) (homing : s.mbc.phase = .homing) : u.Fits (homingFailed s) := by
  unfold homingFailed; dsimp only; split
  next l _ =>
    have closed : u.Fits (valveOff l .retract s) := h.keep .of_frames
    exact fits_homingOver closed (by simpa using homing)
  next => exact fits_homingOver h homing

/-- The stroke timer runs out (R82, R83). -/
theorem fits_strokeRunOut (h : u.Fits s) : u.Fits (strokeRunOut s) := by
  have stopped (stroke : s.mbc.phase = .extend ∨ s.mbc.phase = .retract) : u.Fits (strokeStopped s) := by
    have moves : s.mbc.phase ≠ .none ∧ s.mbc.phase ≠ .flapSettle ∧ s.mbc.phase.bagger = .pushing := by
      obtain phase | phase := stroke <;> rw [phase] <;> exact ⟨nofun, nofun, rfl⟩
    have mbc : (strokeStopped s).mbc = { s.mbc with phase := .none, strokeTimer := none, stopped := true } := by
      simp only [strokeStopped]; split <;> simp
    refine h.by_bagger (fun _ fits => ?_) (by rw [mbc])
    have tt : (strokeStopped s).tt = s.tt := by simp
    have noFlap := fits.noFlap moves.2.1
    rw [mbc, tt]
    exact ⟨fits.move rfl (fun moves => absurd rfl moves) (fun settles => absurd (noFlap.symm.trans settles) nofun) id
      (fun _ => ⟨(fits.phase moves.1).trans moves.2.2, rfl⟩), id⟩
  unfold strokeRunOut; split
  next extend => exact stopped (.inl extend)
  next retract => exact stopped (.inr retract)
  next homing => exact fits_homingFailed h homing
  · exact h.keep .of_frames

/-! ## The bag confirm and the blast -/

/-- A leading edge at BG (R89, R91). -/
theorem fits_bagConfirmed (h : u.Fits s) : u.Fits (bagConfirmed s) := by
  have noted : u.Fits (bagConfirmNotice (s.onMbc (fun m => { m with confirmed := true, confirmWatch := none }))) :=
      h.keep .of_frames
  unfold bagConfirmed; dsimp only
  generalize bagConfirmNotice _ = v at noted
  refine when_elim noted fun confirms => ?_
  have confirm : v.mbc.bagger = .confirm := by simpa using confirms
  refine fits_onMbc_of_resting noted (fun own => ?_) ⟨nofun, nofun, nofun⟩
    (fun ⟨phase, flap, opening, stopped⟩ => ⟨phase, flap, opening, stopped⟩) rfl
  subst own
  exact ⟨noted.1.resting (by rw [confirm]; exact nofun) (by rw [confirm]; exact nofun) (by rw [confirm]; exact nofun),
    by rw [confirm]; exact nofun⟩

/-- A missed bag ends a cycle in CONFIRM (R89). -/
theorem fits_endConfirm (h : u.Fits s) : u.Fits (when (s.mbc.bagger == .confirm) endCycle s) := by
  refine when_elim h fun confirms => fits_endCycle h fun own => ?_
  subst own
  have confirm := beq_iff_eq.1 confirms
  exact ⟨h.1.resting (by rw [confirm]; exact nofun) (by rw [confirm]; exact nofun) (by rw [confirm]; exact nofun),
    by rw [confirm]; exact nofun⟩

/-- The bag confirm watch runs out (R89). -/
theorem fits_bagMissed (h : u.Fits s) : u.Fits (bagMissed s) := by
  have watched : u.Fits (s.onMbc (fun m => { m with confirmWatch := none })) := h.keep .of_frames
  unfold bagMissed; dsimp only; split
  · refine fits_endConfirm (watched.keep (.of_line (fun h => ⟨?_, ?_, ?_, ?_⟩)))
    · simpa using h.approach
    · simpa using h.blade
    · simpa using h.accum
    · simpa using clean_none
  · exact fits_endConfirm watched

/-- The bagger ends what it had the air for, or waited for, and is out of its places. -/
theorem fits_of_baggerFreed (h : u.Fits s) (others : u ≠ .bagger → u.Kept s v) (holder : v.ama.holder = s.ama.holder)
    (fits : AirUser.bagger.Fits s → BaggerFits v.mbc v.tt.bagger.isSome)
    (freed : AirUser.bagger.Fits s → AirUser.bagger.Freed v t) (pass : u.Fits v → u.Fits t) : u.Fits t := by
  by_cases bagger : u = .bagger
  · subst bagger
    obtain ⟨own, quiet, free⟩ := freed h
    have own : BaggerAsWas v t := own
    exact ⟨own.fits (fits h), Placed.of_free quiet (free (by rw [holder]; exact h.2.once))⟩
  · exact pass (h.keep (others bagger))

/-- The end of the blast (R90), with the request that waited for it (R87). -/
theorem fits_endBlast (h : u.Fits s) (runs : s.mbc.blast.isSome = true) : u.Fits (endBlast s) := by
  have mbc : (blastOver s).mbc = { s.mbc with blast := none } := by simp [blastOver]
  have freed (own : AirUser.bagger.Fits s) : AirUser.bagger.Freed (blastOver s) (blastReleased s) := by
    refine freed_airRelease (u := .bagger) (Option.not_isSome_iff_eq_none.1 fun wait => ?_)
    have waits := own.2.waits (by simpa [blastOver, AirUser.requester] using wait)
    exact absurd (waits.2.symm.trans runs) nofun
  have released : u.Fits (blastReleased s) := by
    refine fits_of_baggerFreed h (fun other => ?_) (by simp [blastOver]) (fun own => ?_) freed fits_airRelease
    · exact kept_of_bagger other (by constructor <;> simp [blastOver, Unjammed, beforeTyer])
        (fun l => by constructor <;> simp [blastOver]) (by simp [blastOver]) (by simp [blastOver])
    · have tt : (blastOver s).tt = s.tt := by simp [blastOver]
      rw [mbc, tt]
      exact own.1.move rfl own.1.phase own.1.flap id own.1.stopped
  rw [endBlast_eq]
  refine when_elim released fun waits => fits_airRequest released fun named => ?_
  obtain rfl := AirUser.eq_bagger_of_requester named
  simp only [Bool.and_eq_true, beq_iff_eq] at waits
  have ended : (blastReleased s).mbc.blast.isSome = false := by
    rw [BaggerAsWas.blast (freed h).own, mbc]; rfl
  exact ⟨waits.1, ended⟩

/-- The bagger abandons its cycle (R102). -/
theorem fits_abandonBagger (h : u.Fits s) : u.Fits (abandonBagger s) := by
  have mbc : (baggerCleared s).mbc = s.mbc.abandoned := by simp [baggerCleared]
  rw [abandonBagger_eq]
  refine fits_of_baggerFreed h (fun other => ?_) (by simp [baggerCleared]) (fun own => ?_)
    (fun _ => freed_airWithdraw .bagger _) fits_airWithdraw
  · exact kept_of_bagger other (by constructor <;> simp [baggerCleared, Unjammed, beforeTyer])
      (fun l => by constructor <;> simp [baggerCleared]) (by simp [baggerCleared]) (by simp [baggerCleared])
  · rw [mbc]
    exact MergeBag.Resting.fits ⟨rfl, rfl, rfl, rfl⟩ fun _ => ⟨nofun, nofun, nofun⟩

theorem fits_bagsLoaded (h : u.Fits s) : u.Fits (bagsLoaded s) := by
  have checked : u.Fits (when (s.mbc.bagger == .select && s.mbc.route == some .bag && s.mbc.phase == .none) requestBag s) := by
    refine when_elim h fun waits => fits_requestBag h fun _ => ?_
    simp only [Bool.and_eq_true, beq_iff_eq] at waits
    exact ⟨waits.1.1, waits.2⟩
  unfold bagsLoaded
  exact checked.keep .of_frames

/-! ## The handoff -/

/-- A sound record passes from BAGGER to an empty TYER (R91). -/
theorem fits_handedOver (h : u.Fits s) {r : LoafRecord} (ready : s.mbc.bagger = .handoff) (bagged : s.tt.bagger = some r) :
    u.Fits (handedOver r s) := by
  have sound (clean : Unjammed s.tt) : r.jammed = false := ((unjammed_iff _).1 clean).bagger r (by simp [bagged])
  have moved : u.Fits (s.onTt (fun t => { t with bagger := none, tyer := some r })) := by
    by_cases tyer : u = .tyer
    · subst tyer
      obtain ⟨⟨⟨tie, purge, _⟩, clean⟩, placed⟩ := h
      refine ⟨⟨⟨tie, purge, fun jams => ?_⟩, ?_⟩, placed⟩
      · exact absurd ((sound clean).symm.trans (by simpa using jams)) Bool.false_ne_true
      · rw [unjammed_iff] at clean ⊢
        exact ⟨clean.approach, clean.blade, clean.accum, clean_none⟩
    · exact h.keep (kept_of_tyer tyer)
  refine fits_endCycle moved fun own => ?_
  subst own
  have state : (s.onTt (fun t => { t with bagger := none, tyer := some r })).mbc.bagger = .handoff := ready
  exact ⟨moved.1.resting (by rw [state]; exact nofun) (by rw [state]; exact nofun) (by rw [state]; exact nofun),
    by rw [state]; exact nofun⟩

/-- The handoff, and the tyer cycle that it starts (R91, R92). -/
theorem fits_handoff (h : u.Fits s) : u.Fits (handoff s) := by
  by_cases ready : s.mbc.bagger = .handoff ∧ s.lsc.line ≠ .hold ∧ s.tt.tyer = none
  · obtain ⟨ready, moves, empty⟩ := ready
    cases bagged : s.tt.bagger with
    | none =>
      have same : handoff s = s := by simp [handoff, bagged]
      rw [same]; exact h
    | some r =>
      have handed := fits_handedOver h ready bagged
      rw [handoff_of_ready ready bagged empty moves]
      refine when_elim handed fun idle => fits_startTyer handed (beq_iff_eq.1 idle) fun own => ?_
      subst own
      have sound : r.jammed = false := ((unjammed_iff _).1 h.1.2).bagger r (by simp [bagged])
      simpa [handedOver] using sound
  · have same : handoff s = s := by
      unfold handoff; split
      next r _ empty =>
        refine if_neg fun goes => ready ?_
        simp only [Bool.and_eq_true, beq_iff_eq, bne_iff_ne] at goes
        exact ⟨goes.1, goes.2, empty⟩
      · rfl
    rw [same]; exact h

end Sys2Proof.Machine
end

section
/-! SUPPORT. The line's moves and the requests of the host keep the users of manifold air in order. -/

namespace Sys2Proof.Machine

set_option Elab.async false

variable {s t : State} {u : AirUser}

/-! ## The lanes -/

theorem fits_bladeFollow (h : u.Fits s) (l : Lane) : u.Fits (bladeFollow l s) := h.keep .of_frames

theorem fits_spinUpEnd (h : u.Fits s) (l : Lane) : u.Fits (spinUpEnd l s) := h.keep .of_frames

theorem fits_tensionResult (h : u.Fits s) (l : Lane) (result : Nat) : u.Fits (tensionResult l result s) := h.keep .of_frames

theorem kept_countProduct (u : AirUser) (code : Nat) (f : Counters → Counters) (s : State) : u.Kept s (countProduct code f s) :=
  .of_frames

theorem kept_countLine (u : AirUser) (f : LineBlock → LineBlock) (s : State) : u.Kept s (countLine f s) := .of_frames

/-- The head's passage of the gate (R69): it moves as it is, counted, with its crumbs on the estimate. -/
theorem kept_passHead (u : AirUser) (l : Lane) {r : LoafRecord} {rest : List LoafRecord} (head : s.tt.approach.get l = r :: rest)
    (slot : Nat) : u.Kept s (passHead l r slot s) := by
  have counted : u.Kept s (countAdmission (passesOffSize r.length (recipeAt slot s)) (recipeAt slot s).code s) :=
    ((kept_when fun _ => kept_countProduct u _ _ s).trans (kept_countLine u _ _)).trans (kept_countProduct u _ _ _)
  have same (offSize : Bool) (code : Nat) : (countAdmission offSize code s).tt = s.tt := by rw [countAdmission_eq]
  unfold passHead; dsimp only
  generalize recipeAt slot s = recipe at counted ⊢
  have dusted := counted.trans (kept_onCrumb_same u l (f := fun c => { c with estimate := min (c.estimate + recipe.crumb) 65535 })
    (fun _ => rfl) _)
  exact dusted.trans (kept_passGate u l (rest := rest)
    ((congrArg (fun t : Tracking => t.approach.get l) (same _ _)).trans head) rfl)

theorem admission_passes (l : Lane) (r : LoafRecord) (s : State) : admission l r s = estimateTest l (syncLane l (armGate l
    (passHead l r (((applyPending l r.tag s).lic.get l).active.getD 0) (applyPending l r.tag s)))) := by
  unfold admission passHead
  simp only [passesOffSize_eq]
  rfl

/-- An admission (R69): the head passes the gate, and the estimate's test may request a clear. -/
theorem fits_admission (h : u.Fits s) (l : Lane) {r : LoafRecord} {rest : List LoafRecord}
    (head : s.tt.approach.get l = r :: rest) : u.Fits (admission l r s) := by
  have applied : u.Fits (applyPending l r.tag s) := h.keep .of_frames
  rw [admission_passes]
  have passed := applied.keep (kept_passHead u l (by simpa using head) (((applyPending l r.tag s).lic.get l).active.getD 0))
  exact fits_estimateTest (passed.keep .of_frames) l

theorem fits_admitIfReady (h : u.Fits s) (l : Lane) : u.Fits (admitIfReady l s) := by
  unfold admitIfReady; split
  next head => exact when_elim h fun _ => fits_admission h l head
  · exact h

/-! ## The line states -/

theorem fits_crumbEntry (h : u.Fits s) (was : LineState) : u.Fits (crumbEntry was s) := by
  have tested : u.Fits (entryTest .b (entryTest .a s)) := fits_entryTest (fits_entryTest h .a) .b
  cases was with
  | init | spinUp | stop => exact tested
  | standby | run | hold | drain => exact h

/-- The stop drop turns the knives and the shakers off (R136). -/
theorem fits_dropOutputs (h : u.Fits s) : u.Fits (dropOutputs s) := by
  cases u with
  | bagger | tyer | crumb l => exact h
  | outputs l =>
    have h : OutputsFit l s := h
    refine ⟨fun on => ?_, h.waits⟩
    cases l <;> simp [dropOutputs, DriveUnit.dropped, PerLane.get] at on

theorem fits_enterStop (h : u.Fits s) : u.Fits (enterStop s) := by
  have left : u.Fits (leaveHold (changeLine .stop s)) := h.keep .of_frames
  have marked := (fits_dropOutputs left).keep (kept_stopMarking u _)
  have off : u.Fits (syncLanes (bladeOff .b (bladeOff .a (stopMarking (dropOutputs (leaveHold (changeLine .stop s))))))) :=
    marked.keep .of_frames
  exact fits_abandonCrumb (fits_abandonCrumb (fits_abandonTyer (fits_abandonBagger off)) .a) .b

theorem fits_enterStandby (h : u.Fits s) : u.Fits (enterStandby s) := by
  have off : u.Fits (syncLanes (bladeOff .b (bladeOff .a (removeWatches
      (setConveyors false (leaveHold (changeLine .standby s))))))) :=
    h.keep .of_frames
  have abandoned := fits_abandonTyer (fits_abandonBagger off)
  unfold enterStandby; dsimp only
  generalize abandonTyer _ = v at abandoned
  have queued : u.Fits (when (s.lsc.line == .drain || s.lsc.line == .hold || s.lsc.line == .stop) requestCheckpoint v) :=
    when_elim abandoned fun _ => abandoned.keep .of_frames
  exact fits_crumbEntry queued _

theorem fits_enterSpinUp (h : u.Fits s) : u.Fits (enterSpinUp s) := h.keep .of_frames

theorem fits_enterRun (h : u.Fits s) : u.Fits (enterRun s) := by
  have runs : u.Fits (syncLanes (setConveyors true (leaveHold (changeLine .run s)))) := h.keep .of_frames
  exact fits_crumbEntry runs _

theorem fits_enterDrain (h : u.Fits s) : u.Fits (enterDrain s) := h.keep .of_frames

theorem fits_enterHold (h : u.Fits s) (back : LineState) : u.Fits (enterHold back s) := by
  have held : u.Fits (syncLanes (setConveyors false ((changeLine .hold s).onLsc
      (fun c => { c with returnState := some back, holdHost := true })))) := h.keep .of_frames
  exact fits_holdCrumb (fits_holdCrumb held .a) .b

theorem fits_advanceLine (h : u.Fits s) : u.Fits (advanceLine s) := by
  have stopped : u.Fits (stopIfFaulted s) := by
    unfold stopIfFaulted
    cases s.lsc.line with
    | init | standby | stop => exact h
    | spinUp | run | hold | drain => exact when_elim h fun _ => fits_enterStop h
  have followed := fits_bladeFollow (fits_bladeFollow stopped .a) .b
  have running : u.Fits (runIfSpun (bladeFollow .b (bladeFollow .a (stopIfFaulted s)))) :=
    when_elim followed fun _ => fits_enterRun followed
  exact when_elim running fun _ => fits_enterStandby running

theorem fits_flow (h : u.Fits s) : u.Fits (flow s) := by
  have gaps := fits_handoff (fits_makeGap (fits_makeGap h .a) .b)
  have admitted := fits_admitIfReady (fits_admitIfReady (fits_selectIfReady gaps) .a) .b
  unfold flow; dsimp only
  exact admitted.keep .of_frames

theorem fits_settle (h : u.Fits s) : u.Fits (settle s) := fits_flow (fits_advanceLine h)

/-! ## Requests -/

/-- What an owner makes of a state in order is in order. -/
def AirUser.KeptBy (u : AirUser) (own : State → Answer × State) : Prop := ∀ s, u.Fits s → u.Fits (own s).2

theorem fits_queueReply (h : u.Fits s) (type tok : Byte) (a : Answer) : u.Fits (queueReply type tok a s) := h.keep .of_frames

theorem fits_answerRequest (h : u.Fits s) (type tok : Byte) {own : State → Answer × State} {after : State → State}
    (hown : u.KeptBy own) (hafter : ∀ {s}, u.Fits s → u.Fits (after s)) : u.Fits (answerRequest type tok own after s) := by
  have replied := fits_queueReply (hown s h) type tok (own s).1
  exact when_elim replied fun _ => hafter replied

theorem fits_serveRequest (h : u.Fits s) (type tok : Byte) {own : State → Answer × State} {after : State → State}
    (hown : u.KeptBy own) (hafter : ∀ {s}, u.Fits s → u.Fits (after s)) : u.Fits (serveRequest type tok own after s) := by
  unfold serveRequest; split
  · exact fits_queueReply h type tok _
  · split
    · exact fits_queueReply h type tok _
    · exact fits_answerRequest h type tok hown hafter

theorem fits_takeRequest (h : u.Fits s) (type tok : Byte) {own : State → Answer × State} {after : State → State}
    (hown : u.KeptBy own) (hafter : ∀ {s}, u.Fits s → u.Fits (after s)) : u.Fits (takeRequest type tok own after s) := by
  unfold takeRequest; split
  · exact fits_serveRequest h type tok hown hafter
  · exact h

/-- An owner that answers from the state alone keeps it in order. -/
theorem keptBy_of_same {own : State → Answer × State} (same : ∀ s, (own s).2 = s) : u.KeptBy own :=
  fun s h => (same s).symm ▸ h

/-- An owner that works beside the users of air keeps them in order. -/
theorem keptBy_of_kept {own : State → Answer × State} (kept : ∀ s, u.Kept s (own s).2) : u.KeptBy own :=
  fun s h => h.keep (kept s)

end Sys2Proof.Machine
end

section
/-! SUPPORT. The owners of the requests (R179 to R188) keep the users of manifold air in order. -/

namespace Sys2Proof.Machine

set_option Elab.async false

variable {s : State} {u : AirUser}

/-! ## Owners that work beside the users of air -/

theorem keptBy_identify : u.KeptBy identifyOwn := keptBy_of_same fun _ => rfl

theorem keptBy_status : u.KeptBy statusOwn := keptBy_of_same fun _ => rfl

theorem keptBy_logIndex : u.KeptBy logIndexOwn := keptBy_of_same fun _ => rfl

theorem keptBy_configGet (id index : Byte) : u.KeptBy (configGetOwn id index) :=
  keptBy_of_same fun _ => by unfold configGetOwn; split <;> rfl

theorem keptBy_recipeRead (slot : Byte) : u.KeptBy (recipeReadOwn slot) :=
  keptBy_of_same fun _ => by unfold recipeReadOwn; dsimp only; split <;> rfl

theorem keptBy_faultList (first : Byte) : u.KeptBy (faultListOwn first) :=
  keptBy_of_same fun _ => by unfold faultListOwn; dsimp only; split <;> rfl

theorem keptBy_trackList (zone lane : Byte) : u.KeptBy (trackListOwn zone lane) :=
  keptBy_of_same fun _ => by unfold trackListOwn; split <;> rfl

theorem keptBy_loafQuery (tag : BitVec 16) : u.KeptBy (loafQueryOwn tag) :=
  keptBy_of_same fun _ => by unfold loafQueryOwn; (repeat' split) <;> rfl

theorem keptBy_totalsRead (part : Byte) : u.KeptBy (totalsReadOwn part) :=
  keptBy_of_same fun _ => by unfold totalsReadOwn; dsimp only; (repeat' split) <;> rfl

theorem keptBy_sensorRead (channel : Byte) : u.KeptBy (sensorReadOwn channel) :=
  keptBy_of_same fun _ => by unfold sensorReadOwn; split <;> rfl

theorem keptBy_restart : u.KeptBy restartOwn :=
  keptBy_of_kept fun s => by unfold restartOwn; (repeat' split) <;> exact .of_frames

theorem keptBy_clockSet (day : BitVec 16) (second : BitVec 32) : u.KeptBy (clockSetOwn day second) := by
  refine keptBy_of_kept fun s => ?_
  unfold clockSetOwn; dsimp only; split
  · exact .refl u s
  · have dated : u.Kept s (s.onCal (fun _ => { day := day.toNat, second := second.toNat, phase := 0, valid := true })) :=
      .of_frames
    exact dated.trans (kept_when fun _ => .of_frames)

theorem keptBy_recipeWrite (slot : Byte) (f : RecipeFields) : u.KeptBy (recipeWriteOwn slot f) :=
  keptBy_of_kept fun s => by unfold recipeWriteOwn; dsimp only; (repeat' split) <;> exact .of_frames

theorem keptBy_recipeSave : u.KeptBy recipeSaveOwn :=
  keptBy_of_kept fun s => show u.Kept s (requestJob _ s) from .of_frames

theorem keptBy_shiftClose : u.KeptBy shiftCloseOwn :=
  keptBy_of_kept fun s => by unfold shiftCloseOwn; (repeat' split) <;> exact .of_frames

theorem keptBy_shiftRead (number : BitVec 16) (part : Byte) : u.KeptBy (shiftReadOwn number part) :=
  keptBy_of_kept fun s => by unfold shiftReadOwn; (repeat' split) <;> exact .of_frames

theorem keptBy_laneSelect (lane slot : Byte) : u.KeptBy (laneSelectOwn lane slot) :=
  keptBy_of_kept fun s => by unfold laneSelectOwn; split <;> dsimp only <;> (repeat' split) <;> exact .of_frames

/-! ## The line and the lanes -/

theorem keptBy_lineStart : u.KeptBy lineStartOwn := by
  intro s h
  unfold lineStartOwn; dsimp only
  split
  · exact h
  · split
    · exact h
    · exact fits_advanceLine (fits_enterSpinUp h)

theorem keptBy_lineHold : u.KeptBy lineHoldOwn := by
  intro s h
  have held := fits_advanceLine (fits_enterHold h s.lsc.line)
  unfold lineHoldOwn
  split
  · dsimp only; exact held
  · dsimp only; exact held
  · exact h
  · exact h

theorem keptBy_lineResume : u.KeptBy lineResumeOwn := by
  intro s h
  unfold lineResumeOwn; dsimp only
  split
  · apply fits_advanceLine
    split
    · exact fits_enterDrain h
    · exact fits_enterRun h
  · split
    · exact h
    · have discarded : u.Fits (resumeDiscard s) := h.keep ((kept_discardBagger u s).trans (kept_discardTyer u _))
      exact fits_advanceLine (fits_enterSpinUp discarded)
  · exact h

theorem keptBy_lineDrain : u.KeptBy lineDrainOwn := by
  intro s h
  unfold lineDrainOwn; dsimp only
  split
  · exact fits_advanceLine (fits_enterDrain h)
  · exact h
  · exact h

theorem keptBy_lineStandby : u.KeptBy lineStandbyOwn := by
  intro s h
  have stands := fits_enterStandby (h.keep (kept_purgePool u s))
  unfold lineStandbyOwn; dsimp only
  split
  · exact stands
  · exact stands
  · exact h

theorem keptBy_laneEnable (lane on : Byte) : u.KeptBy (laneEnableOwn lane on) := by
  intro s h
  unfold laneEnableOwn; dsimp only
  split
  · exact h
  · split
    · exact h
    · split
      · exact h
      · exact fits_advanceLine (h.keep .of_frames)

/-- CRUMB_CLEAR (R108) requests a clear in a lane whose cycle neither blows nor waits for air. -/
theorem keptBy_crumbClear (lane : Byte) : u.KeptBy (crumbClearOwn lane) := by
  intro s h
  unfold crumbClearOwn; dsimp only
  split
  · exact h
  · split
    · exact h
    · split
      · exact h
      next l _ _ free =>
        refine fits_requestClear h (fun blows => free ?_) (fun waits => free ?_) .host
        · rw [blows]; rfl
        · rw [waits]; rfl

/-! ## The stations -/

theorem keptBy_magazineLoad (which : Byte) (count : BitVec 16) : u.KeptBy (magazineLoadOwn which count) := by
  intro s h
  have bags : u.Fits (setBagCount count.toNat s) := h.keep .of_frames
  have clips : u.Fits (setClipCount count.toNat s) := h.keep .of_frames
  unfold magazineLoadOwn; dsimp only
  split
  · exact h
  · split
    · exact when_elim bags fun _ => fits_bagsLoaded bags
    · exact when_elim clips fun _ => fits_clipsLoaded clips

theorem kept_discardJammed (u : AirUser) (r : LoafRecord) (s : State) : u.Kept s (discardJammed r s) := by
  unfold discardJammed
  exact .of_frames

theorem keptBy_tyerResolve (action : Byte) : u.KeptBy (tyerResolveOwn action) := by
  intro s h
  unfold tyerResolveOwn
  split
  · exact h
  · split
    next r tyer =>
      split
      · exact h
      next jammed =>
        split
        · exact fits_advanceLine (h.keep (kept_discardJammed u r s))
        · split
          · exact h
          · exact fits_advanceLine (fits_retie h (by simpa [tyer] using jammed))
    · exact h

theorem keptBy_faultClear : u.KeptBy faultClearOwn := by
  intro s h
  unfold faultClearOwn; dsimp only
  split
  · exact h
  next e _ =>
    split
    · exact h
    · have cleared : u.Fits (clearPresented e s) := h.keep .of_frames
      exact fits_advanceLine (when_elim cleared fun _ => fits_endStopped cleared)

/-! ## Parameters -/

theorem fits_paramActs (h : u.Fits s) (id index v : Nat) : u.Fits (paramActs id index v s) := by
  unfold paramActs; split
  · split
    · exact h.keep .of_frames
    · exact h
  · split
    · exact fits_syncLane h _
    · exact h
  · split
    · exact fits_syncLane h _
    · exact h
  · exact fits_estimateTest (fits_estimateTest h .a) .b
  · split <;> exact h.keep .of_frames
  · exact when_elim h fun _ => h.keep .of_frames
  · split
    · exact fits_steer h _ _
    · exact h
  · exact h

theorem keptBy_configSet (id index : Byte) (value : BitVec 16) : u.KeptBy (configSetOwn id index value) := by
  intro s h
  unfold configSetOwn; dsimp only
  split
  · exact h
  · split
    · exact h
    · split
      · exact h
      · exact fits_paramActs (h.keep .of_frames) _ _ _

end Sys2Proof.Machine
end

section
/-! PROOF. Every step keeps the knives in BLOWING, and the users of manifold air in order. -/

namespace Sys2Proof.Machine

set_option Elab.async false

variable {s : State} {u : AirUser}

/-! ## The dispatcher -/

/-- What the catalogue names for a TYPE keeps the users of air in order. -/
theorem keptBy_catalogue {type : Byte} {body : List Byte} {c : Handler} (found : catalogue type body = some c) :
    u.KeptBy c.own ∧ ∀ {s}, u.Fits s → u.Fits (c.after s) := by
  have queried : ∀ {s : State}, u.Fits s → u.Fits (id s) := fun h => h
  have flows : ∀ {s : State}, u.Fits s → u.Fits (flow s) := fits_flow
  have settles : ∀ {s : State}, u.Fits s → u.Fits (settle s) := fits_settle
  unfold catalogue at found
  split at found
  case h_29 => cases found
  all_goals obtain rfl := Option.some.inj found; dsimp only
  · exact ⟨keptBy_identify, queried⟩
  · exact ⟨keptBy_status, queried⟩
  · exact ⟨keptBy_restart, queried⟩
  · exact ⟨keptBy_clockSet _ _, queried⟩
  · exact ⟨keptBy_configSet _ _ _, settles⟩
  · exact ⟨keptBy_configGet _ _, queried⟩
  · refine ⟨fun s h => ?_, queried⟩
    show u.Fits (recipeWriteBody body s).2
    unfold recipeWriteBody; split
    · exact keptBy_recipeWrite _ _ s h
    · exact h
  · exact ⟨keptBy_recipeRead _, queried⟩
  · exact ⟨keptBy_recipeSave, queried⟩
  · exact ⟨keptBy_laneSelect _ _, settles⟩
  · exact ⟨keptBy_lineStart, flows⟩
  · exact ⟨keptBy_lineHold, flows⟩
  · exact ⟨keptBy_lineResume, flows⟩
  · exact ⟨keptBy_lineDrain, flows⟩
  · exact ⟨keptBy_lineStandby, flows⟩
  · exact ⟨keptBy_laneEnable _ _, flows⟩
  · exact ⟨keptBy_crumbClear _, flows⟩
  · exact ⟨keptBy_magazineLoad _ _, settles⟩
  · exact ⟨keptBy_tyerResolve _, flows⟩
  · exact ⟨keptBy_faultList _, queried⟩
  · exact ⟨keptBy_faultClear, flows⟩
  · exact ⟨keptBy_trackList _ _, queried⟩
  · exact ⟨keptBy_loafQuery _, queried⟩
  · exact ⟨keptBy_totalsRead _, queried⟩
  · exact ⟨keptBy_shiftClose, queried⟩
  · exact ⟨keptBy_shiftRead _ _, queried⟩
  · exact ⟨keptBy_logIndex, queried⟩
  · exact ⟨keptBy_sensorRead _, queried⟩

theorem fits_takeFrame (h : u.Fits s) (type tok : Byte) (body : List Byte) : u.Fits (takeFrame type tok body s) := by
  unfold takeFrame; split
  · exact fits_queueReply h type tok _
  next found =>
    obtain ⟨hown, hafter⟩ := keptBy_catalogue found
    split
    · exact fits_serveRequest h type tok hown hafter
    · (repeat' split) <;> exact fits_queueReply h type tok _

theorem fits_dispatch (h : u.Fits s) : u.Fits (dispatch s) := by
  unfold dispatch; split
  · split
    · exact fits_takeFrame (h.keep .of_frames) _ _ _
    · exact h
  · exact h

/-! ## Edges and the Scan Converter -/

theorem fits_withEdge (h : u.Fits s) (e : Eye) (leading : Bool) {f : Edge → State → State}
    (hf : ∀ x {s}, u.Fits s → u.Fits (f x s)) : u.Fits (withEdge e leading f s) := by
  unfold withEdge; split
  · split
    · exact hf _ (h.keep .of_frames)
    · exact h
  · exact h

/-- An edge whose effect leaves the users of air as they were. -/
theorem fits_onEdge (h : u.Fits s) (e : Eye) (leading : Bool) {f : Edge → State → State} (hf : ∀ x s, u.Kept s (f x s)) :
    u.Fits (onEdge e leading f s) :=
  fits_withEdge h e leading fun x _ ht => fits_settle (ht.keep (kept_when fun _ => hf x _))

theorem fits_onTrailing (h : u.Fits s) (e : TrackedEye) {f : State → State} (hf : ∀ s, u.Kept s (f s)) :
    u.Fits (onTrailing e f s) := by
  refine fits_withEdge h _ _ fun _ t ht => fits_settle ?_
  have cleared : u.Fits (eyeCleared e t) := ht.keep .of_frames
  exact cleared.keep (kept_when fun _ => hf _)

theorem kept_exitLeading (u : AirUser) (x : Edge) (s : State) : u.Kept s (exitLeading x s) := by
  unfold exitLeading; dsimp only; split <;> exact .of_frames

theorem kept_compareExitHead (u : AirUser) (fuel : Nat) (s : State) : u.Kept s (compareExitHead fuel s) := .of_frames

theorem kept_exitTrailing (u : AirUser) (s : State) : u.Kept s (exitTrailing s) := .of_frames

theorem fits_handResult (h : u.Fits s) (c : Channel) (result : Nat) : u.Fits (handResult c result s) := by
  cases c with
  | tna => exact fits_tensionResult h .a result
  | tnb => exact fits_tensionResult h .b result
  | airp => exact fits_airPressure h result
  | cra => exact fits_crumbResult h .a result
  | crb => exact fits_crumbResult h .b result

theorem fits_completeConversion (h : u.Fits s) (c : Channel) (result : Nat) : u.Fits (completeConversion c result s) := by
  unfold completeConversion; dsimp only
  generalize stored : s.onSc _ = v
  have kept : u.Fits v := by subst stored; exact h.keep .of_frames
  have handed := fits_handResult kept c result
  exact handed.keep .of_frames

/-! ## Start-up -/

/-- The scan restores the counts of the bags and clips, and the crumb estimates (R190). -/
theorem kept_restoreCounts (u : AirUser) (c : List Byte) (s : State) : u.Kept s (restoreCounts c s) := by
  have crumbs (l : Lane) : CrumbAsWas l s (restoreCounts c s) := by
    cases l with
    | a => exact ⟨rfl, rfl, rfl⟩
    | b => exact ⟨rfl, rfl, rfl⟩
  exact .of_frames (by unfold restoreCounts; constructor <;> simp) (by unfold restoreCounts; constructor <;> simp) crumbs rfl rfl

theorem kept_scanRestores (u : AirUser) (s : State) : u.Kept s (scanRestores s) := by
  cases accepted : acceptsCheckpoint s.rs.index (s.rs.classify 24) with
  | false => rw [scanRestores_rejected accepted]; exact .refl u s
  | true =>
    rw [scanRestores_accepted accepted]
    have counted := kept_restoreCounts u (s.rs.content 24) s
    generalize restoreCounts (s.rs.content 24) s = v at counted ⊢
    exact counted.trans .of_frames

theorem fits_completeScan (h : u.Fits s) : u.Fits (completeScan s) := by
  have set : u.Kept s (scanSets s) := .of_frames
  have restored : u.Fits (scanRestores (scanSets s)) := h.keep (set.trans (kept_scanRestores u _))
  have checked : u.Fits (raiseKey .startup (endOfInitCheck .b (endOfInitCheck .a (evalClipLow (evalBagLow
      (scanRestores (scanSets s))))))) := restored.keep .of_frames
  exact fits_enterStandby checked

/-- Out of a reset no user of air waits, holds, or has anything under way. -/
theorem fits_resetMachine (u : AirUser) (baud1 baud0 : Bool) (tear : Tear) (s : State) :
    u.Fits (resetMachine baud1 baud0 tear s) := by
  obtain ⟨bagger, tyer, crumb⟩ := (airSafe_iff (resetMachine baud1 baud0 tear s)).1 rfl
  cases u with
  | bagger => exact bagger
  | tyer => exact tyer
  | crumb l => exact crumb l
  | outputs l => exact (knivesSafe_iff (resetMachine baud1 baud0 tear s)).1 rfl l

/-! ## The steps -/

/-- A command of a moment: nothing before it, else the effect and the rest of the step. -/
theorem fits_settled {c : Bool} {f : State → State} (h : u.Fits s) (hf : c = true → u.Fits (f s)) :
    u.Fits (when c (fun s => settle (f s)) s) :=
  when_elim h fun due => fits_settle (hf due)

/-- A command of a moment that finds its owner in one state with a timer running. -/
theorem state_of_due {α : Type} [BEq α] [LawfulBEq α] {x y : α} {b : Bool} (due : (x == y && b) = true) : x = y :=
  beq_iff_eq.1 (Bool.and_eq_true_iff.1 due).1

theorem fits_pusherHomeSwitch (h : u.Fits s) (l : Lane) (closed : Bool) {t : State}
    (run : exec (.pusherHomeSwitchChange l closed) s = .next t) : u.Fits t := by
  cases run
  have noticed : u.Fits (noticeCause .baggerJam .out (pusherOut { s.pins with home := s.pins.home.upd l (fun _ => closed) })
      (s.onPins (fun p => { p with home := p.home.upd l (fun _ => closed) }))) := h.keep .of_frames
  exact fits_settle (when_elim noticed fun _ => fits_pusherHome noticed l)

theorem fits_tyerHomeSwitch (h : u.Fits s) (closed : Bool) {t : State}
    (run : exec (.tyerHomeSwitchChange closed) s = .next t) : u.Fits t := by
  cases run
  apply fits_settle; split
  · exact fits_tieIfHome (h.keep .of_frames)
  · exact h.keep .of_frames

/-- The safety inputs force the pushers' valves alone (R137, R140). -/
theorem kept_takeSafety (u : AirUser) (estopOpen guardOpen : Bool) (s : State) : u.Kept s (takeSafety estopOpen guardOpen s) := by
  refine .of_frames (crumb := fun l => ?_)
  unfold takeSafety
  exact when_elim (P := CrumbAsWas l s) ⟨rfl, rfl, rfl⟩ fun _ => ⟨rfl, rfl, rfl⟩

theorem fits_exec (i : Instr) (s t : State) (h : u.Fits s) (run : exec i s = .next t) : u.Fits t := by
  cases i with
  | identify tok => cases run; exact fits_takeRequest h _ _ keptBy_identify id
  | status tok => cases run; exact fits_takeRequest h _ _ keptBy_status id
  | restart tok => cases run; exact fits_takeRequest h _ _ keptBy_restart id
  | clockSet tok day second => cases run; exact fits_takeRequest h _ _ (keptBy_clockSet _ _) id
  | configSet tok p index value => cases run; exact fits_takeRequest h _ _ (keptBy_configSet _ _ _) fits_settle
  | configGet tok p index => cases run; exact fits_takeRequest h _ _ (keptBy_configGet _ _) id
  | recipeWrite tok slot fields => cases run; exact fits_takeRequest h _ _ (keptBy_recipeWrite _ _) id
  | recipeRead tok slot => cases run; exact fits_takeRequest h _ _ (keptBy_recipeRead _) id
  | recipeSave tok => cases run; exact fits_takeRequest h _ _ keptBy_recipeSave id
  | laneSelect tok lane slot => cases run; exact fits_takeRequest h _ _ (keptBy_laneSelect _ _) fits_settle
  | lineStart tok => cases run; exact fits_takeRequest h _ _ keptBy_lineStart fits_flow
  | lineHold tok => cases run; exact fits_takeRequest h _ _ keptBy_lineHold fits_flow
  | lineResume tok => cases run; exact fits_takeRequest h _ _ keptBy_lineResume fits_flow
  | lineDrain tok => cases run; exact fits_takeRequest h _ _ keptBy_lineDrain fits_flow
  | lineStandby tok => cases run; exact fits_takeRequest h _ _ keptBy_lineStandby fits_flow
  | laneEnable tok lane on => cases run; exact fits_takeRequest h _ _ (keptBy_laneEnable _ _) fits_flow
  | crumbClear tok lane => cases run; exact fits_takeRequest h _ _ (keptBy_crumbClear _) fits_flow
  | magazineLoad tok which count => cases run; exact fits_takeRequest h _ _ (keptBy_magazineLoad _ _) fits_settle
  | tyerResolve tok action => cases run; exact fits_takeRequest h _ _ (keptBy_tyerResolve _) fits_flow
  | faultList tok first => cases run; exact fits_takeRequest h _ _ (keptBy_faultList _) id
  | faultClear tok => cases run; exact fits_takeRequest h _ _ keptBy_faultClear fits_flow
  | trackList tok zone lane => cases run; exact fits_takeRequest h _ _ (keptBy_trackList _ _) id
  | loafQuery tok tag => cases run; exact fits_takeRequest h _ _ (keptBy_loafQuery _) id
  | totalsRead tok part => cases run; exact fits_takeRequest h _ _ (keptBy_totalsRead _) id
  | shiftClose tok => cases run; exact fits_takeRequest h _ _ keptBy_shiftClose id
  | shiftRead tok number part => cases run; exact fits_takeRequest h _ _ (keptBy_shiftRead _ _) id
  | logIndex tok => cases run; exact fits_takeRequest h _ _ keptBy_logIndex id
  | sensorRead tok channel => cases run; exact fits_takeRequest h _ _ (keptBy_sensorRead _) id
  | reset b1 b0 tear => cases run; exact fits_resetMachine u b1 b0 tear s
  | startUpScanComplete => cases run; exact fits_settled h fun _ => fits_completeScan h
  | byteReceived byte stopBit => cases run; exact h.keep (kept_when fun _ => .of_frames)
  | assemblerTakesByte => cases run; exact h.keep .of_frames
  | gapTimerRunOut => cases run; exact h.keep (kept_when fun _ => .of_frames)
  | dispatchFrame => cases run; exact fits_dispatch h
  | transmitStart txHold =>
    cases run
    have held : u.Kept s (s.onPins (fun p => { p with txHold := txHold })) := .of_frames
    exact h.keep (held.trans (kept_when fun _ => .of_frames))
  | frameSent b1 b0 =>
    cases run; split
    · exact h
    · split
      · exact fits_resetMachine u b1 b0 _ s
      · exact h.keep .of_frames
  | eyeSample e level => cases run; exact h.keep .of_frames
  | debounceConfirm e => cases run; exact h.keep (kept_when fun _ => .of_frames)
  | encoderCount b phaseA phaseB => cases run; exact h.keep .of_frames
  | infeedTrailingEdge l => cases run; exact fits_onEdge h _ _ (kept_createRecord u l)
  | slicerLeadingEdge l => cases run; exact fits_onEdge h _ _ (kept_slicerLeading u l)
  | slicerTrailingEdge l => cases run; exact fits_onTrailing h _ (kept_slicerTrailing u l)
  | mergeLeadingEdge l => cases run; exact fits_onEdge h _ _ (kept_mergeLeading u l)
  | mergeTrailingEdge l => cases run; exact fits_onTrailing h _ (kept_startMergeWindow u l)
  | exitLeadingEdge => cases run; exact fits_onEdge h _ _ (kept_exitLeading u)
  | exitTrailingEdge => cases run; exact fits_onTrailing h _ (kept_exitTrailing u)
  | bagConfirm =>
    cases run
    exact fits_withEdge h _ _ fun _ _ ht => fits_settle (when_elim ht fun _ => fits_bagConfirmed ht)
  | headAtGate l =>
    cases run
    have admitted := fits_admitIfReady h l
    exact when_elim h fun _ => admitted.keep .of_frames
  | bladeWindowRunOut l => cases run; exact fits_settled h fun _ => h.keep (kept_loseBlade u l s)
  | mergeWindowRunOut l => cases run; exact fits_settled h fun _ => h.keep (kept_loseAccumHead u l s)
  | exitWindowRunOut =>
    cases run
    exact fits_settled (f := fun s => exitHeadChanged (loseExitHead s)) h fun _ =>
      h.keep ((kept_loseExitHead u s).trans (kept_compareExitHead u 3 _))
  | stuckLimitExceeded e => cases run; exact fits_settled h fun _ => h.keep .of_frames
  | scanTimerExpiry => cases run; exact h.keep .of_frames
  | conversionComplete result =>
    cases run; split
    · exact fits_settle (fits_completeConversion h _ _)
    · exact h
  | spinUpWaitEnd l => cases run; exact fits_settled h fun _ => fits_spinUpEnd h l
  | gateStrokeEnd l => cases run; exact fits_settled h fun _ => h.keep .of_frames
  | pushStrokeTimerRunOut => cases run; exact fits_settled h fun _ => fits_strokeRunOut h
  | flapSettleEnd => cases run; exact fits_settled h (fits_flapSettled h)
  | openingEnd => cases run; exact fits_settled h (fits_openingOver h)
  | bagConfirmWatchRunOut => cases run; exact fits_settled h fun _ => fits_bagMissed h
  | bagBlastEnd => cases run; exact fits_settled h (fits_endBlast h)
  | extendedSwitchCloses l => cases run; exact when_elim h fun due => fits_endExtend h (state_of_due due) l
  | pusherHomeSwitchChange l closed => exact fits_pusherHomeSwitch h l closed run
  | deadTimeEnd l => cases run; exact when_elim h fun _ => fits_deadTimeOver h l
  | purgeEnd => cases run; exact fits_settled h (fits_endPurge h)
  | twistEnd => cases run; exact fits_settled h fun due => fits_enterClip h (state_of_due due)
  | clipEnd => cases run; exact fits_settled h fun due => fits_enterHomeWait h (state_of_due due)
  | tyerHomeSwitchChange closed => exact fits_tyerHomeSwitch h closed run
  | tieTimerRunOut => cases run; exact fits_settled h (fits_jamTyer h)
  | airWaitTimerRunOut l => cases run; exact fits_settled h fun due => fits_backOff h (state_of_due due)
  | blowingEnd l => cases run; exact fits_settled h fun due => fits_endBlowing h (state_of_due due)
  | settleEnd l => cases run; exact fits_settled h fun due => fits_completeClear h (state_of_due due)
  | backoffEnd l => cases run; exact fits_settled h fun due => fits_endBackOff h (state_of_due due)
  | safetySample estopOpen guardOpen =>
    cases run
    have taken := h.keep (kept_takeSafety u estopOpen guardOpen s)
    apply fits_settle
    exact taken.keep .of_frames
  | calendarTick => cases run; exact h.keep .of_frames
  | lineTimeSecond k => cases run; exact h.keep (kept_when fun _ => .of_frames)
  | pageProgramComplete verified =>
    cases run; split
    · split <;> exact h.keep .of_frames
    · exact h

theorem Timer.tick_isSome (t : Timer) : t.tick.isSome = t.isSome := by
  cases t <;> rfl

theorem kept_tick (u : AirUser) (s : State) : u.Kept s (tick s) := by
  refine .of_frames ⟨rfl, rfl, Timer.tick_isSome _, Timer.tick_isSome _, Timer.tick_isSome _, rfl, id⟩
    ⟨rfl, Timer.tick_isSome _, Timer.tick_isSome _, id, id⟩ (fun l => ?_) rfl rfl
  cases l with
  | a => exact ⟨rfl, rfl, rfl⟩
  | b => exact ⟨rfl, rfl, rfl⟩

theorem fits_step {t : State} (h : u.Fits s) (run : step s = .next t) : u.Fits t := by
  unfold step at run; split at run
  · exact fits_exec _ _ _ (h.keep .of_frames) run
  · split at run
    · exact fits_exec _ _ _ (h.keep .of_frames) run
    · cases run; exact h.keep (kept_tick u s)

/-- Settles O10: what the two invariants compute is said user by user (`airSafe_iff`, `knivesSafe_iff`), and every command keeps
each user of manifold air to its rules by itself: it waits and holds only in the state of its owner that may. -/
theorem everyStepKeepsTheKnivesInBlowing : Obligations.EveryStepKeepsTheKnivesInBlowing := by
  constructor
  · intro s t safe run
    rw [knivesSafe_iff] at safe ⊢
    exact fun l => fits_step (safe l) run
  · intro s t safe run
    rw [airSafe_iff] at safe ⊢
    obtain ⟨bagger, tyer, crumb⟩ := safe
    exact ⟨fits_step bagger run, fits_step tyer run, fun l => fits_step (crumb l) run⟩

end Sys2Proof.Machine
end

section
/-! SUPPORT. What the grants of the arbiter (R119 to R121) leave of a lane's crumb controller, and the gap that the flow of a step
makes (R109). -/

namespace Sys2Proof.Machine

set_option Elab.async false

variable {s t v : State} {l : Lane} {r : Requester}

/-! ## A lane's crumb controller beside the arbiter -/

/-- A lane's crumb controller is as it was, or its knife waited and blows now. -/
def CrumbGranted (l : Lane) (s t : State) : Prop :=
  t.cc.get l = s.cc.get l ∨ (s.ama.waiting.get (knife l) ≠ none ∧ (t.cc.get l).cycle = .blowing)

theorem crumbGranted_of_same (cc : t.cc = s.cc := by simp) : CrumbGranted l s t := .inl (by rw [cc])

/-- A controller that goes on from where an operation beside the knives left it. -/
theorem CrumbGranted.after (granted : CrumbGranted l t v) (cc : t.cc = s.cc)
    (waits : t.ama.waiting.get (knife l) = s.ama.waiting.get (knife l)) : CrumbGranted l s v := by
  unfold CrumbGranted at granted ⊢
  rwa [cc, waits] at granted

theorem CrumbGranted.quiet (granted : CrumbGranted l s t) (quiet : s.ama.waiting.get (knife l) = none) :
    t.cc.get l = s.cc.get l :=
  granted.resolve_right fun ⟨waits, _⟩ => waits quiet

/-- A request of a clear does not come from the arbiter. -/
theorem CrumbGranted.requested (granted : CrumbGranted l s t) (requested : (t.cc.get l).cycle = .requested) :
    (s.cc.get l).cycle = .requested := by
  obtain same | ⟨-, blows⟩ := granted
  · rwa [same] at requested
  · exact absurd (blows.symm.trans requested) nofun

theorem crumbGranted_grantOther (notBag : r ≠ .bag) (c : AirChannel) (waits : s.ama.waiting.get r = some c) :
    CrumbGranted l s (grantOther r c s) := by
  obtain rfl | ⟨m, rfl⟩ := eq_purge_or_knife notBag
  · exact crumbGranted_of_same (by simp [grantOther])
  · obtain ⟨cc, -, -⟩ := enterBlowing_blows m false (becomeHolder (knife m) c s)
    unfold CrumbGranted
    rw [grantOther_knife, cc]
    by_cases same : l = m
    · subst same
      exact .inr ⟨by rw [waits]; exact nofun, by rw [PerLane.get_upd_same]⟩
    · exact .inl (by rw [PerLane.get_upd_other _ same]; simp)

theorem crumbGranted_grantAfterBag (l : Lane) (c : AirChannel) (s : State) : CrumbGranted l s (grantAfterBag c s) := by
  obtain same | ⟨r, notBag, waits, granted⟩ := grantAfterBag_cases c s
  · rw [same]; exact .inl rfl
  · rw [granted]; exact crumbGranted_grantOther notBag c waits

/-- A bagger that finds no bag leaves the channel to another. -/
theorem crumbGranted_passed (l : Lane) (c : AirChannel) (s : State) :
    CrumbGranted l s (grantAfterBag c (waitForBags (setWaiting .bag none s))) := by
  have ama : (waitForBags (setWaiting .bag none s)).ama = (setWaiting .bag none s).ama := by simp
  refine (crumbGranted_grantAfterBag l c _).after (by simp) ?_
  rw [ama]
  cases l <;> rfl

theorem crumbGranted_grantBag (l : Lane) (c : AirChannel) (s : State) : CrumbGranted l s (grantBag c s) := by
  unfold grantBag; split
  · exact crumbGranted_of_same
  · exact crumbGranted_passed l c s

theorem crumbGranted_grantNext (l : Lane) (c : AirChannel) (s : State) : CrumbGranted l s (grantNext c s) := by
  unfold grantNext; split
  · exact crumbGranted_grantBag l c s
  · exact crumbGranted_grantAfterBag l c s

theorem crumbGranted_airRelease (l : Lane) (r : Requester) (s : State) : CrumbGranted l s (airRelease r s) := by
  unfold airRelease; split
  · exact (crumbGranted_grantNext l _ _).after rfl rfl
  · exact .inl rfl

/-- A withdrawal leaves the crumb controller of the knife that is withdrawn as it was. -/
theorem airWithdraw_cc (l : Lane) (s : State) : (airWithdraw (knife l) s).cc.get l = s.cc.get l :=
  (crumbGranted_airRelease l (knife l) (setWaiting (knife l) none s)).quiet (by simp [setWaiting])

theorem crumbGranted_requestBag (l : Lane) (s : State) : CrumbGranted l s (requestBag s) := by
  unfold requestBag airRequest; dsimp only; split
  · exact .inl rfl
  · split
    · exact .inl rfl
    · split
      · exact (crumbGranted_grantBag l _ _).after rfl rfl
      · exact .inl rfl

/-! ## The gap of a requested cycle (R109) -/

/-- Where a lane's cycle stands in REQUESTED, BLADE holds a record or the line is in HOLD. -/
def GapMade (l : Lane) (s : State) : Prop :=
  (s.cc.get l).cycle = .requested → s.tt.blade.get l ≠ none ∨ s.lsc.line = .hold

theorem GapMade.keep (h : GapMade l s) (cycle : (t.cc.get l).cycle = .requested → (s.cc.get l).cycle = .requested)
    (blade : t.tt.blade = s.tt.blade := by simp) (line : t.lsc.line = s.lsc.line := by simp) : GapMade l t := by
  intro requested
  rw [blade, line]
  exact h (cycle requested)

/-- The moment in which a requested cycle gets its gap. -/
def GapMet (l : Lane) (s : State) : Prop :=
  (s.cc.get l).cycle = .requested ∧ s.tt.blade.get l = none ∧ s.lsc.line ≠ .hold

theorem makeGap_of_met (met : GapMet l s) : makeGap l s = requestKnife l s := by
  obtain ⟨requested, empty, moves⟩ := met
  simp [makeGap, requested, empty, bne_iff_ne.2 moves]

theorem makeGap_of_unmet (unmet : ¬GapMet l s) : makeGap l s = s := by
  have skip : ((s.cc.get l).cycle == .requested && (s.tt.blade.get l).isNone && s.lsc.line != .hold) = false := by
    rw [Bool.eq_false_iff]
    intro met
    simp only [Bool.and_eq_true, beq_iff_eq, Option.isNone_iff_eq_none, bne_iff_ne] at met
    obtain ⟨⟨requested, empty⟩, moves⟩ := met
    exact unmet ⟨requested, empty, moves⟩
  rw [makeGap, skip, when_false]

theorem requestKnife_shaker (steered : s.params.steering.get (knife l) = .none) : requestKnife l s = enterBlowing l true s := by
  simp [requestKnife, steering, steered]

/-- A lane's cycle in AIR_WAIT, before the arbiter answers (R110). -/
def awaitAir (l : Lane) (s : State) : State :=
  s.onCrumb l (fun c => { c with cycle := .airWait, shakerOnly := false, airWait := some s.params.airWaitMs })

theorem requestKnife_air {c : AirChannel} (steered : (s.params.steering.get (knife l)).channel = some c) :
    requestKnife l s = airRequest (knife l) (awaitAir l s) := by
  have named : s.params.steering.get (knife l) ≠ .none := fun none => by rw [none] at steered; exact absurd steered nofun
  simp [requestKnife, steering, named, awaitAir]

theorem Blows.of_awaitAir (blows : Blows l false (awaitAir l s) t) : Blows l false s t := by
  obtain ⟨cc, dou, same⟩ := blows
  refine ⟨?_, dou, congrArg (fun u : State => { u with cc := s.cc }) same⟩
  rw [cc, awaitAir, State.onCrumb, onCc_cc, upd_upd]
  rfl

theorem Granted.of_awaitAir {c : AirChannel} (granted : Granted (knife l) c (awaitAir l s) t) : Granted (knife l) c s t := by
  obtain ⟨ama, blows⟩ := granted
  refine ⟨ama, ?_⟩
  cases l with
  | a => exact Blows.of_awaitAir blows
  | b => exact Blows.of_awaitAir blows

/-- A requested cycle whose gap is made blows, with the shaker alone or with its knife granted, or waits for its channel. -/
theorem requestKnife_cases (l : Lane) (s : State) : requestKnife l s = enterBlowing l true s ∨
    ∃ c, requestKnife l s = enterBlowing l false (becomeHolder (knife l) c (awaitAir l s)) ∨
      requestKnife l s = setWaiting (knife l) (some c) (awaitAir l s) := by
  cases steered : (s.params.steering.get (knife l)).channel with
  | none =>
    refine .inl (requestKnife_shaker ?_)
    cases named : s.params.steering.get (knife l) with
    | none => rfl
    | air0 | air1 => rw [named] at steered; exact absurd steered nofun
  | some c =>
    refine .inr ⟨c, ?_⟩
    rw [requestKnife_air steered]
    cases free : s.ama.grantable c with
    | true => exact .inl ((airRequest_granted _ c (awaitAir l s) steered free).trans (grantTo_knife l c _))
    | false => exact .inr (airRequest_waits _ c (awaitAir l s) steered free)

theorem requestKnife_cycle (l : Lane) (s : State) : ((requestKnife l s).cc.get l).cycle ≠ .requested := by
  have blows (alone : Bool) (v : State) : ((enterBlowing l alone v).cc.get l).cycle ≠ .requested := by
    obtain ⟨cc, -, -⟩ := enterBlowing_blows l alone v
    rw [cc, PerLane.get_upd_same]
    exact nofun
  obtain same | ⟨c, same | same⟩ := requestKnife_cases l s
  · rw [same]; exact blows true s
  · rw [same]; exact blows false _
  · rw [same]
    simp [setWaiting, awaitAir, State.onCrumb]

theorem requestKnife_other {m : Lane} (other : l ≠ m) (s : State) : (requestKnife m s).cc.get l = s.cc.get l := by
  have waits : (awaitAir m s).cc.get l = s.cc.get l := by simp [awaitAir, State.onCrumb, PerLane.get_upd_other _ other]
  have blows (alone : Bool) (v : State) : (enterBlowing m alone v).cc.get l = v.cc.get l := by
    obtain ⟨cc, -, -⟩ := enterBlowing_blows m alone v
    rw [cc, PerLane.get_upd_other _ other]
  obtain same | ⟨c, same | same⟩ := requestKnife_cases m s
  · rw [same, blows]
  · rw [same, blows]
    simpa using waits
  · rw [same]
    exact waits

theorem gapMade_makeGap (l : Lane) (s : State) : GapMade l (makeGap l s) := by
  by_cases met : GapMet l s
  · rw [makeGap_of_met met]
    exact fun requested => absurd requested (requestKnife_cycle l s)
  · rw [makeGap_of_unmet met]
    intro requested
    by_contra none
    rw [not_or, not_not] at none
    exact met ⟨requested, none⟩

theorem GapMade.makeGap_other (h : GapMade l s) {m : Lane} (other : l ≠ m) : GapMade l (makeGap m s) := by
  refine h.keep fun requested => ?_
  have same : (makeGap m s).cc.get l = s.cc.get l :=
    when_elim (P := fun t => t.cc.get l = s.cc.get l) rfl fun _ => requestKnife_other other s
  rwa [same] at requested

theorem gapMade_gapsMade (l : Lane) (s : State) : GapMade l (gapsMade s) := by
  cases l with
  | a => exact (gapMade_makeGap .a s).makeGap_other (by decide)
  | b => exact gapMade_makeGap .b _

/-! ## The rest of the flow -/

theorem GapMade.handoff (h : GapMade l s) : GapMade l (handoff s) := by
  have starts (v : State) : (startTyer v).cc = v.cc := by
    unfold startTyer; split
    · unfold airRequest; split
      · rfl
      · split
        · simp [grantTo, grantOther]
        · rfl
    · simp
  have same : (Machine.handoff s).cc = s.cc := by
    unfold Machine.handoff; split
    · split
      · simp [when_cc starts]
      · rfl
    · rfl
  exact h.keep (by rw [same]; exact id)

theorem crumbGranted_startRoute (l : Lane) (s : State) : CrumbGranted l s (startRoute s) := by
  unfold startRoute; split
  · exact crumbGranted_of_same
  · unfold bagCheck; split
    · exact crumbGranted_requestBag l s
    · exact crumbGranted_of_same

theorem crumbGranted_selectIfReady (l : Lane) (s : State) : CrumbGranted l s (selectIfReady s) := by
  have selects (m : Lane) (r : LoafRecord) : CrumbGranted l s (selectLane m r s) := by
    unfold selectLane; dsimp only; split
    · exact (crumbGranted_startRoute l _).after rfl rfl
    · exact crumbGranted_of_same (by simp [startHoming])
  unfold selectIfReady; split
  · exact when_elim (P := CrumbGranted l s) (.inl rfl) fun _ => selects _ _
  · exact .inl rfl

/-- The test of a lane's estimate leaves the other lane's controller as it was. -/
theorem estimateTest_other {m : Lane} (other : l ≠ m) (s : State) : (estimateTest m s).cc.get l = s.cc.get l :=
  when_elim (P := fun t => t.cc.get l = s.cc.get l) rfl fun _ => by
    simp [requestClear, State.onCrumb, PerLane.get_upd_other _ other]

theorem admission_blade (l : Lane) (r : LoafRecord) (s : State) : (admission l r s).tt.blade.get l ≠ none := by
  rw [admission_passes]
  simp [passHead_eq]

/-- An admission leaves the other lane's BLADE and crumb controller as they were. -/
theorem admission_other {m : Lane} (other : l ≠ m) (r : LoafRecord) (s : State) :
    (admission m r s).cc.get l = s.cc.get l ∧ (admission m r s).tt.blade.get l = s.tt.blade.get l := by
  rw [admission_passes, estimateTest_other other]
  simp [passHead_eq, PerLane.get_upd_other _ other]

theorem GapMade.admitIfReady (h : GapMade l s) (m : Lane) : GapMade l (admitIfReady m s) := by
  unfold Machine.admitIfReady; split
  · refine when_elim h fun _ => ?_
    by_cases same : l = m
    · subst same
      exact fun _ => .inl (admission_blade l _ s)
    · obtain ⟨cc, blade⟩ := admission_other same _ s
      intro requested
      rw [cc] at requested
      rw [blade, show (admission m _ s).lsc = s.lsc by simp]
      exact h requested
  · exact h

/-- After the flow of a step no lane stands in REQUESTED with its gap there to be made (R109). -/
theorem gapMade_flow (l : Lane) (s : State) : GapMade l (flow s) := by
  have offered := (gapMade_gapsMade l s).handoff
  have selected : GapMade l (selectIfReady (handoff (gapsMade s))) :=
    offered.keep (crumbGranted_selectIfReady l _).requested
  have admitted := (selected.admitIfReady .a).admitIfReady .b
  rw [flow_eq, flowAfterHandoff]
  exact admitted.keep (by simp)

end Sys2Proof.Machine
end

section
/-! PROOF. A clear cycle (R107 to R113): CRUMB_CLEAR, the gap, and the ends of the cycle's states. -/

namespace Sys2Proof.Machine

set_option Elab.async false

variable {s t : State} {l : Lane}

/-! ## A request of a clear (R107, R108) -/

theorem syncLane_crumbGap (l : Lane) (s : State) :
    ((syncLane l s).lic.get l).closure.crumbGap = (s.cc.get l).cycle.needsGap := by
  rw [syncLane_lic_same]; rfl

theorem requestClear_cc (l : Lane) (cause : CycleCause) (s : State) : (requestClear l cause s).cc =
    s.cc.upd l (fun c => { c with cycle := .requested, cause := some cause, backoff := none }) := by
  simp [requestClear, State.onCrumb]

theorem requestClear_crumbGap (l : Lane) (cause : CycleCause) (s : State) :
    ((requestClear l cause s).lic.get l).closure.crumbGap = true := by
  rw [requestClear, syncLane_crumbGap]
  simp [State.onCrumb, CycleState.needsGap]

/-- Nothing has changed but the crumb controllers, the lanes' flags and the reports. -/
def CrumbOnly (s t : State) : Prop := { t with cc := s.cc, lic := s.lic, ml := { t.ml with reports := s.ml.reports } } = s

theorem crumbOnly_requestClear (l : Lane) (cause : CycleCause) (s : State) : CrumbOnly s (requestClear l cause s) := by
  apply State.eq_of_blocks
  case ml => exact MessageLink.eq_but_reports
  all_goals simp [requestClear]

/-! ## CRUMB_CLEAR (R108) -/

section
variable {tok lane : Byte} (serving : serves s = true)
include serving

theorem exec_crumbClear_beyond (beyond : 1 < lane.toNat) :
    exec (.crumbClear tok lane) s = .next (queueReply 0x28 tok ⟨3, []⟩ s) := by
  have answer : crumbClearOwn lane s = (⟨3, []⟩, s) := by simp [crumbClearOwn, laneOf_beyond beyond, badValue]
  exact congrArg _ (takeRequest_refused serving answer (by decide) 0x28 tok flow)

variable (named : laneOf lane = some l)
include named

theorem exec_crumbClear_wrongState (stands : s.lsc.line = .spinUp ∨ s.lsc.line = .stop) :
    exec (.crumbClear tok lane) s = .next (queueReply 0x28 tok ⟨4, []⟩ s) := by
  have answer : crumbClearOwn lane s = (⟨4, []⟩, s) := by
    obtain line | line := stands <;> simp [crumbClearOwn, named, line, wrongState]
  exact congrArg _ (takeRequest_refused serving answer (by decide) 0x28 tok flow)

variable (up : s.lsc.line ≠ .spinUp) (moves : s.lsc.line ≠ .stop)
include up moves

theorem exec_crumbClear_already (gap : (s.cc.get l).cycle.needsGap = true) : exec (.crumbClear tok lane) s =
    .next (queueReply 0x28 tok ⟨10, clearContent l s⟩ s) := by
  have answer : crumbClearOwn lane s = (⟨10, clearContent l s⟩, s) := by
    simp [crumbClearOwn, named, up, moves, gap, alreadyAnswer]
  have refused : (⟨10, clearContent l s⟩ : Answer).status ≠ 0 := show (10 : Byte) ≠ 0 by decide
  exact congrArg _ (takeRequest_refused serving answer refused 0x28 tok flow)

theorem exec_crumbClear_accepted (gap : (s.cc.get l).cycle.needsGap = false) : exec (.crumbClear tok lane) s =
    .next (flow (queueReply 0x28 tok ⟨0, [1] ++ u16 (s.cc.get l).estimate ++ u16 (s.cc.get l).lastLevel⟩
        (requestClear l .host s))) := by
  have content : clearContent l (requestClear l .host s) =
      [1] ++ u16 (s.cc.get l).estimate ++ u16 (s.cc.get l).lastLevel := by
    rw [clearContent, requestClear_cc, PerLane.get_upd_same]
    rfl
  have answer : crumbClearOwn lane s = (⟨0, [1] ++ u16 (s.cc.get l).estimate ++ u16 (s.cc.get l).lastLevel⟩,
      requestClear l .host s) := by
    rw [← content]
    simp [crumbClearOwn, named, up, moves, gap, answerOk]
  exact congrArg _ (takeRequest_accepted serving answer 0x28 tok flow)

end

/-! ## The ends of the cycle's states -/

/-- The end of a state of the cycle whose timer does not run, or that the cycle is not in. -/
theorem not_due {x y : CycleState} {timer : Timer} (away : x ≠ y ∨ timer = none) : (x == y && timer.isSome) = false := by
  obtain other | idle := away
  · rw [beq_eq_false_iff_ne.2 other, Bool.false_and]
  · rw [idle]; exact Bool.and_false _

theorem due_of {x y : CycleState} {timer : Timer} (stands : x = y) (runs : timer ≠ none) : (x == y && timer.isSome) = true := by
  rw [stands, Option.isSome_iff_ne_none.2 runs]
  simp

/-! ### AIR_WAIT (R111) -/

/-- A cycle whose air wait has timed out, its knife withdrawn. -/
def airLeft (l : Lane) (s : State) : State := airWithdraw (knife l) (s.onCrumb l (fun c => { c with airWait := none }))

theorem airLeft_cc (l : Lane) (s : State) : (airLeft l s).cc.get l = { s.cc.get l with airWait := none } := by
  rw [airLeft, airWithdraw_cc]
  simp [State.onCrumb]

theorem airLeft_waiting (l : Lane) (s : State) : (airLeft l s).ama.waiting.get (knife l) = none :=
  (freed_airWithdraw (.crumb l) _).quiet

/-- A cycle that has left its air wait goes into BACKOFF, with AIR_TIMEOUT raised. -/
def backingOff (l : Lane) (s : State) : State :=
  syncLane l ((raiseFault .airTimeout (laneSubject l) (some (s.sc.result.get .airp)) s).onCrumb l
    (fun c => { c with cycle := .backoff, backoff := some (s.params.backoffS * 1000) }))

theorem backOff_eq (l : Lane) (s : State) : backOff l s = backingOff l (airLeft l s) := by
  simp only [backOff, backingOff, airLeft, raiseFault_keeps]

theorem backOff_cc (l : Lane) (s : State) : (backOff l s).cc.get l =
    { s.cc.get l with cycle := .backoff, airWait := none, backoff := some (s.params.backoffS * 1000) } := by
  have params : (airLeft l s).params = s.params := by simp [airLeft]
  rw [backOff_eq, backingOff, params]
  simp [State.onCrumb, airLeft_cc]

theorem backOff_waiting (l : Lane) (s : State) : (backOff l s).ama.waiting.get (knife l) = none := by
  rw [backOff_eq, backingOff, ← airLeft_waiting l s]
  simp

theorem backOff_crumbGap (l : Lane) (s : State) : ((backOff l s).lic.get l).closure.crumbGap = false := by
  rw [backOff_eq, backingOff, syncLane_crumbGap]
  simp [State.onCrumb, CycleState.needsGap]

theorem backOff_fault (l : Lane) (s : State) :
    standsWith .airTimeout (laneSubject l) (some (s.sc.result.get .airp)) (backOff l s) = true := by
  have sc : (airLeft l s).sc = s.sc := by simp [airLeft]
  rw [backOff_eq, backingOff, standsWith_congr
    (s := raiseFault .airTimeout (laneSubject l) (some ((airLeft l s).sc.result.get .airp)) (airLeft l s)) (by simp), sc]
  exact standsWith_raiseFault _ _ _ _

/-! ### BLOWING (R112) -/

/-- A cycle at the end of its blowing, its outputs off, before its channel is released. -/
def blown (l : Lane) (s : State) : State :=
  (setShaker l false (setKnife l false s)).onCrumb l (fun c => { c with cycle := .settle, phaseTimer := some 500 })

theorem endBlowing_eq (l : Lane) (s : State) : endBlowing l s = airRelease (knife l) (blown l s) := rfl

theorem blown_ama (l : Lane) (s : State) : (blown l s).ama = s.ama := by simp [blown]

theorem endBlowing_cc (quiet : s.ama.waiting.get (knife l) = none) :
    (endBlowing l s).cc.get l = { s.cc.get l with cycle := .settle, phaseTimer := some 500 } := by
  rw [endBlowing_eq, (crumbGranted_airRelease l (knife l) (blown l s)).quiet (by rw [blown_ama, quiet])]
  simp [blown, State.onCrumb]

theorem endBlowing_outputs (quiet : s.ama.waiting.get (knife l) = none) :
    (endBlowing l s).dou.knife.get l = false ∧ (endBlowing l s).dou.shaker.get l = false := by
  have quiet : (blown l s).ama.waiting.get (knife l) = none := by rw [blown_ama, quiet]
  have own : CrumbAsWas l (blown l s) (endBlowing l s) := (freed_airRelease (u := .crumb l) quiet).own
  obtain ⟨knifeOff, shakerOff⟩ := outputsOff l s
  exact ⟨own.knife.trans knifeOff, own.shaker.trans shakerOff⟩

theorem endBlowing_held (quiet : s.ama.waiting.get (knife l) = none)
    (once : ¬(s.ama.holder.air0 = some (knife l) ∧ s.ama.holder.air1 = some (knife l))) :
    (endBlowing l s).ama.held (knife l) = none := by
  have quiet : (blown l s).ama.waiting.get (knife l) = none := by rw [blown_ama, quiet]
  exact held_eq_none.2 ((freed_airRelease (u := .crumb l) quiet).free (by rw [blown_ama]; exact once))

/-! ### SETTLE (R113) -/

/-- R113, R151: the completed clear takes the lane's AIR_TIMEOUT. -/
theorem clearCompletedNotice_ends (l : Lane) (s : State) :
    standing .airTimeout (laneSubject l) (clearCompletedNotice l s) = false := by
  rw [Bool.eq_false_iff]
  intro stands
  obtain ⟨f, left, pair⟩ := List.any_eq_true.1 stands
  exact absurd (pair.symm.trans (noticeRemoval_left left)) nofun

theorem lineCounts_removeAll (entries : List FaultEntry) (s : State) : lineCounts (removeAll entries s) = lineCounts s := by
  induction entries generalizing s with
  | nil => rfl
  | cons e rest ih => exact (ih _).trans (lineCounts_removeEntry s e.kind e.subject)

theorem lineCounts_noticeRemoval (hit : FaultEntry → Bool) (s : State) : lineCounts (noticeRemoval hit s) = lineCounts s := by
  unfold noticeRemoval; split
  · rfl
  · rw [lineCounts_tableChanged, lineCounts_removeAll]

/-- A lane's clear counted, before its notices (R113). -/
def clearCounted (l : Lane) (s : State) : State :=
  countLine (fun b => { b with crumbClears := b.crumbClears.upd l bump }) (s.onCrumb l (fun c =>
    { c with estimate := 0, levelSince := false, lastClear := c.cause.map (fun k => (k, c.shakerOnly)) }))

/-- A counted clear told, and its cycle back in IDLE. -/
def clearTold (l : Lane) (s : State) : State :=
  syncLane l ((raiseKey (.crumbCleared l) (clearCompletedNotice l s)).onCrumb l
    (fun c => { c with cause := none, shakerOnly := false, phaseTimer := none, cycle := .idle }))

theorem completeClear_eq (l : Lane) (s : State) : completeClear l s = clearTold l (clearCounted l s) := rfl

theorem completeClear_cc (l : Lane) (s : State) : (completeClear l s).cc = s.cc.upd l (fun c => { c with
    cycle := .idle, cause := none, shakerOnly := false, phaseTimer := none, estimate := 0, levelSince := false
    lastClear := c.cause.map (fun k => (k, c.shakerOnly)) }) := by
  simp [completeClear, State.onCrumb, upd_upd, Function.comp_def]

theorem completeClear_count (l : Lane) (s : State) :
    (completeClear l s).tu.live.line.crumbClears = s.tu.live.line.crumbClears.upd l bump := by
  have told : (clearTold l (clearCounted l s)).tu =
      (noticeRemoval (FaultEntry.isPair .airTimeout (laneSubject l)) (clearCounted l s)).tu := by
    simp [clearTold, clearCompletedNotice]
  have same := congrArg LineBlock.crumbClears
    (lineCounts_noticeRemoval (FaultEntry.isPair .airTimeout (laneSubject l)) (clearCounted l s))
  rw [completeClear_eq, told]
  exact same

theorem completeClear_crumbGap (l : Lane) (s : State) : ((completeClear l s).lic.get l).closure.crumbGap = false := by
  unfold completeClear; dsimp only
  rw [syncLane_crumbGap]
  simp [State.onCrumb, CycleState.needsGap]

theorem completeClear_told (l : Lane) (s : State) : Reported (.crumbCleared l) (completeClear l s) := by
  rw [completeClear_eq, clearTold]
  exact syncLane_reported l (reported_raised _ _)

theorem completeClear_fault (l : Lane) (s : State) : standing .airTimeout (laneSubject l) (completeClear l s) = false := by
  rw [completeClear_eq, standing_congr (s := clearCompletedNotice l (clearCounted l s)) (by simp [clearTold])]
  exact clearCompletedNotice_ends l _

theorem completeClear_frame (l : Lane) (s : State) : { completeClear l s with
    cc := s.cc, lic := s.lic, ft := s.ft, tu := s.tu, ml := { (completeClear l s).ml with reports := s.ml.reports } } = s := by
  apply State.eq_of_blocks
  case ml => exact MessageLink.eq_but_reports
  all_goals simp [completeClear]

/-! ### BACKOFF (R111) -/

/-- The line states in which a test requests a clear by itself (R107). -/
abbrev LineTests (s : State) : Prop :=
  s.lsc.line = .standby ∨ s.lsc.line = .run ∨ s.lsc.line = .drain ∨ s.lsc.line = .hold

theorem testsClear_iff (s : State) : testsClear s = true ↔ LineTests s := by
  unfold testsClear LineTests
  cases s.lsc.line <;> simp

/-- A lane's estimate calls for a clear (R107). -/
abbrev EstimateHigh (l : Lane) (s : State) : Prop := s.params.eClear ≤ (s.cc.get l).estimate

/-- A lane's level since its last clear calls for a clear (R107). -/
abbrev LevelHigh (l : Lane) (s : State) : Prop := (s.cc.get l).levelSince = true ∧ s.params.lClear ≤ (s.cc.get l).lastLevel

/-- A crumb controller that requests a clear (R107). -/
def Crumb.requests (cause : CycleCause) (c : Crumb) : Crumb :=
  { c with cycle := .requested, cause := some cause, backoff := none }

theorem clearTest_requests {holds : Bool} (high : holds = true) (tests : LineTests s) (idle : (s.cc.get l).cycle = .idle)
    (cause : CycleCause) : (clearTest l holds cause s).cc = s.cc.upd l (Crumb.requests cause) := by
  rw [clearTest, high, (testsClear_iff s).2 tests, idle]
  exact requestClear_cc l cause s

theorem clearTest_skips {holds : Bool} (not : ¬(LineTests s ∧ holds = true)) (cause : CycleCause) :
    clearTest l holds cause s = s := by
  have skip : (holds && testsClear s) = false := by
    rw [Bool.eq_false_iff]
    intro both
    obtain ⟨high, tests⟩ := Bool.and_eq_true_iff.1 both
    exact not ⟨(testsClear_iff s).1 tests, high⟩
  rw [clearTest, skip, Bool.false_and, when_false]

/-- R107: the entry test of an idle controller requests a clear by its estimate, else by its level. -/
theorem entryTest_estimate (idle : (s.cc.get l).cycle = .idle) (tests : LineTests s) (high : EstimateHigh l s) :
    (entryTest l s).cc = s.cc.upd l (Crumb.requests .estimate) := by
  rw [entryTest, if_pos (by exact high), clearTest_requests rfl tests idle]

theorem entryTest_level (idle : (s.cc.get l).cycle = .idle) (tests : LineTests s) (low : ¬EstimateHigh l s)
    (high : LevelHigh l s) :
    (entryTest l s).cc = s.cc.upd l (Crumb.requests .level) := by
  obtain ⟨since, level⟩ := high
  rw [entryTest, if_neg (by exact low), clearTest_requests (by simp [since, level]) tests idle]

theorem entryTest_skips (not : ¬(LineTests s ∧ (EstimateHigh l s ∨ LevelHigh l s))) : entryTest l s = s := by
  unfold entryTest; dsimp only; split
  next high => exact clearTest_skips (fun both => not ⟨both.1, .inl high⟩) _
  next => exact clearTest_skips (fun ⟨tests, level⟩ => not ⟨tests, .inr (by simpa [LevelHigh] using level)⟩) _

/-- A lane's controller at the end of its BACKOFF, before the test. -/
def backedOff (l : Lane) (s : State) : State := s.onCrumb l (fun c => { c with cycle := .idle, cause := none, backoff := none })

theorem backedOff_idle (l : Lane) (s : State) : ((backedOff l s).cc.get l).cycle = .idle := by simp [backedOff, State.onCrumb]

theorem backedOff_estimateHigh : EstimateHigh l (backedOff l s) ↔ EstimateHigh l s := by
  simp [EstimateHigh, backedOff, State.onCrumb]

theorem backedOff_levelHigh : LevelHigh l (backedOff l s) ↔ LevelHigh l s := by
  simp [LevelHigh, backedOff, State.onCrumb]

theorem backedOff_requests (l : Lane) (cause : CycleCause) (s : State) : (backedOff l s).cc.upd l (Crumb.requests cause) =
    s.cc.upd l (fun c => { c with cycle := .requested, cause := some cause, backoff := none }) := by
  rw [backedOff, State.onCrumb, onCc_cc, upd_upd]
  rfl

/-- R111: the end of BACKOFF requests a clear where the line tests and the estimate is high. -/
theorem endBackOff_estimate (tests : LineTests s) (high : EstimateHigh l s) : (endBackOff l s).cc =
    s.cc.upd l (fun c => { c with cycle := .requested, cause := some .estimate, backoff := none }) :=
  (entryTest_estimate (backedOff_idle l s) tests (backedOff_estimateHigh.2 high)).trans (backedOff_requests l _ s)

theorem endBackOff_level (tests : LineTests s) (low : ¬EstimateHigh l s) (high : LevelHigh l s) : (endBackOff l s).cc =
    s.cc.upd l (fun c => { c with cycle := .requested, cause := some .level, backoff := none }) :=
  (entryTest_level (backedOff_idle l s) tests (mt backedOff_estimateHigh.1 low) (backedOff_levelHigh.2 high)).trans
    (backedOff_requests l _ s)

theorem endBackOff_idle (not : ¬(LineTests s ∧ (EstimateHigh l s ∨ LevelHigh l s))) : endBackOff l s = backedOff l s :=
  entryTest_skips (s := backedOff l s) (by rw [backedOff_estimateHigh, backedOff_levelHigh]; exact not)

/-! ## The obligation -/

/-- R109, R110: a requested cycle with its gap goes to the air of its channel, or to the shaker alone. -/
theorem makeGap_shaker (met : GapMet l s) (steered : s.params.steering.get (knife l) = .none) :
    Blows l true s (makeGap l s) ∧ (makeGap l s).ama = s.ama := by
  rw [makeGap_of_met met, requestKnife_shaker steered]
  exact ⟨enterBlowing_blows l true s, by simp⟩

section
variable {c : AirChannel} (met : GapMet l s) (steered : (s.params.steering.get (knife l)).channel = some c)
include met steered

theorem makeGap_granted (high : s.ama.pressureLow = false) (free : s.ama.holder.get c = none) :
    Granted (knife l) c s (makeGap l s) := by
  rw [makeGap_of_met met, requestKnife_air steered]
  have notBag : knife l = .bag → 0 < (awaitAir l s).mbc.bagCount := by cases l <;> exact nofun
  exact (airRequest_grants (s := awaitAir l s) steered high free notBag).of_awaitAir

theorem makeGap_waits (held : s.ama.pressureLow = true ∨ s.ama.holder.get c ≠ none) :
    makeGap l s = setWaiting (knife l) (some c) (awaitAir l s) := by
  rw [makeGap_of_met met, requestKnife_air steered]
  exact airRequest_waits _ c (awaitAir l s) steered (grantable_eq_false (a := s.ama) held)

end

/-- R111: what the end of BACKOFF makes of the controllers, in the three outcomes of its test. -/
theorem endBackOff_cc (l : Lane) (s : State) [Decidable (LineTests s)] [Decidable (EstimateHigh l s)]
    [Decidable (LevelHigh l s)] :
    (endBackOff l s).cc = s.cc.upd l (fun c => { c with
      backoff := none
      cycle := if LineTests s ∧ (EstimateHigh l s ∨ LevelHigh l s) then .requested else .idle
      cause := if LineTests s ∧ EstimateHigh l s then some .estimate
        else if LineTests s ∧ LevelHigh l s then some .level else none }) := by
  by_cases tests : LineTests s
  · by_cases high : EstimateHigh l s
    · simp only [endBackOff_estimate tests high, tests, high, true_and, true_or, if_true]
    · by_cases level : LevelHigh l s
      · simp only [endBackOff_level tests high level, tests, high, eq_true level, true_and, or_true, if_true, if_false]
      · have not : ¬(LineTests s ∧ (EstimateHigh l s ∨ LevelHigh l s)) := fun both => both.2.elim high level
        simp only [endBackOff_idle not, high, level, and_false, or_false, if_false]
        rfl
  · simp only [endBackOff_idle fun both => tests both.1, tests, false_and, if_false]
    rfl

theorem crumbOnly_endBackOff (l : Lane) (s : State) : CrumbOnly s (endBackOff l s) := by
  apply State.eq_of_blocks
  case ml => exact MessageLink.eq_but_reports
  all_goals simp [endBackOff]

theorem exec_airWaitTimerRunOut (l : Lane) (s : State) : exec (.airWaitTimerRunOut l) s =
    .next (when ((s.cc.get l).cycle == .airWait && (s.cc.get l).airWait.isSome) (fun s => settle (backOff l s)) s) := rfl

theorem exec_blowingEnd (l : Lane) (s : State) : exec (.blowingEnd l) s =
    .next (when ((s.cc.get l).cycle == .blowing && (s.cc.get l).phaseTimer.isSome) (fun s => settle (endBlowing l s)) s) := rfl

theorem exec_settleEnd (l : Lane) (s : State) : exec (.settleEnd l) s =
    .next (when ((s.cc.get l).cycle == .settle && (s.cc.get l).phaseTimer.isSome) (fun s => settle (completeClear l s)) s) := rfl

theorem exec_backoffEnd (l : Lane) (s : State) : exec (.backoffEnd l) s =
    .next (when ((s.cc.get l).cycle == .backoff && (s.cc.get l).backoff.isSome) (fun s => settle (endBackOff l s)) s) := rfl

/-- Settles O51: each end of the cycle's states by its own equations, and the gaps by what the rest of a step's flow leaves of
them (`gapMade_flow`). -/
theorem crumbCycleRunsItsStates : Obligations.CrumbCycleRunsItsStates := by
  intro l s
  refine ⟨fun tok lane serving named => ⟨exec_crumbClear_wrongState serving named, exec_crumbClear_already serving named,
      fun up moves gap => ⟨_, exec_crumbClear_accepted serving named up moves gap, requestClear_cc l .host s,
        requestClear_crumbGap l .host s, crumbOnly_requestClear l .host s⟩⟩,
    fun tok lane => exec_crumbClear_beyond,
    ⟨makeGap_of_unmet, makeGap_shaker, fun c met steered => ⟨makeGap_granted met steered, makeGap_waits met steered⟩,
      gapMade_flow l s⟩,
    fun away => by rw [exec_airWaitTimerRunOut, not_due away, when_false], fun stands runs => ?_,
    fun away => by rw [exec_blowingEnd, not_due away, when_false], fun stands runs quiet once => ?_,
    fun away => by rw [exec_settleEnd, not_due away, when_false], fun stands runs => ?_,
    fun away => by rw [exec_backoffEnd, not_due away, when_false], fun stands runs => ?_⟩
  · exact ⟨backOff l s, by rw [exec_airWaitTimerRunOut, due_of stands runs, when_true], backOff_cc l s, backOff_waiting l s,
      backOff_crumbGap l s,
      backOff_fault l s⟩
  · obtain ⟨knifeOff, shakerOff⟩ := endBlowing_outputs quiet
    exact ⟨endBlowing l s, by rw [exec_blowingEnd, due_of stands runs, when_true], endBlowing_cc quiet, knifeOff, shakerOff,
      endBlowing_held quiet once⟩
  · exact ⟨completeClear l s, by rw [exec_settleEnd, due_of stands runs, when_true], completeClear_cc l s,
      completeClear_count l s,
      completeClear_crumbGap l s, completeClear_told l s, completeClear_fault l s, completeClear_frame l s⟩
  · exact ⟨endBackOff l s, by rw [exec_backoffEnd, due_of stands runs, when_true], endBackOff_cc l s, crumbOnly_endBackOff l s⟩

end Sys2Proof.Machine
end

section
/-! PROOF. Every step keeps what `Ordered` says: the exclusion of the pushers' valves (R140), the service order of the Fault
Table (R146) and the single place of each report key (R182). -/

namespace Sys2Proof.Machine

set_option Elab.async false

variable {K : Orders} {s : State}

/-! ## Requests -/

/-- What an owner makes of an ordered state is ordered. -/
def OwnKeepsOrder (K : Orders) (own : State → Answer × State) : Prop := ∀ s, Ordered K s → Ordered K (own s).2

theorem ordered_serveRequest (type tok : Byte) {own : State → Answer × State} {after : State → State}
    (hown : OwnKeepsOrder K own) (hafter : ∀ s, Ordered K s → Ordered K (after s)) (h : Ordered K s) :
    Ordered K (serveRequest type tok own after s) := by
  unfold serveRequest; split
  · exact ordered_queueReply _ _ _ h
  · split
    · exact ordered_queueReply _ _ _ h
    · exact ordered_when hafter _ (ordered_queueReply _ _ _ (hown s h))

theorem ordered_takeRequest (type tok : Byte) {own : State → Answer × State} {after : State → State}
    (hown : OwnKeepsOrder K own) (hafter : ∀ s, Ordered K s → Ordered K (after s)) (h : Ordered K s) :
    Ordered K (takeRequest type tok own after s) := by
  unfold takeRequest; split
  · exact ordered_serveRequest type tok hown hafter h
  · exact h

/-- An owner that answers from the state alone keeps the order. -/
theorem ownKeepsOrder_of_same {own : State → Answer × State} (same : ∀ s, (own s).2 = s) : OwnKeepsOrder K own :=
  fun s h => (same s).symm ▸ h

theorem ordered_configGetOwn (id index : Byte) : OwnKeepsOrder K (configGetOwn id index) :=
  ownKeepsOrder_of_same fun _ => by unfold configGetOwn; split <;> rfl

theorem ordered_recipeReadOwn (slot : Byte) : OwnKeepsOrder K (recipeReadOwn slot) :=
  ownKeepsOrder_of_same fun _ => by unfold recipeReadOwn; dsimp only; split <;> rfl

theorem ordered_faultListOwn (first : Byte) : OwnKeepsOrder K (faultListOwn first) :=
  ownKeepsOrder_of_same fun _ => by unfold faultListOwn; dsimp only; split <;> rfl

theorem ordered_trackListOwn (zone lane : Byte) : OwnKeepsOrder K (trackListOwn zone lane) :=
  ownKeepsOrder_of_same fun _ => by unfold trackListOwn; split <;> rfl

theorem ordered_loafQueryOwn (tag : BitVec 16) : OwnKeepsOrder K (loafQueryOwn tag) :=
  ownKeepsOrder_of_same fun _ => by unfold loafQueryOwn; (repeat' split) <;> rfl

theorem ordered_totalsReadOwn (part : Byte) : OwnKeepsOrder K (totalsReadOwn part) :=
  ownKeepsOrder_of_same fun _ => by unfold totalsReadOwn; dsimp only; (repeat' split) <;> rfl

theorem ordered_sensorReadOwn (channel : Byte) : OwnKeepsOrder K (sensorReadOwn channel) :=
  ownKeepsOrder_of_same fun _ => by unfold sensorReadOwn; split <;> rfl

theorem ordered_restartOwn : OwnKeepsOrder K restartOwn := by
  intro s h
  unfold restartOwn
  (repeat' split) <;> simp [h]

theorem ordered_clockSetOwn (day : BitVec 16) (second : BitVec 32) : OwnKeepsOrder K (clockSetOwn day second) := by
  intro s h
  unfold clockSetOwn; dsimp only
  split
  · exact h
  · exact ordered_when (fun _ => ordered_onLive _) _ (ordered_onCal _ h)

theorem ordered_configSetOwn (id index : Byte) (value : BitVec 16) : OwnKeepsOrder K (configSetOwn id index value) := by
  intro s h
  unfold configSetOwn; dsimp only
  (repeat' split) <;> simp [h]

theorem ordered_recipeWriteOwn (slot : Byte) (f : RecipeFields) : OwnKeepsOrder K (recipeWriteOwn slot f) := by
  intro s h
  unfold recipeWriteOwn; dsimp only
  (repeat' split) <;> simp [h]

theorem ordered_recipeWriteBody (body : List Byte) : OwnKeepsOrder K (recipeWriteBody body) := by
  intro s h
  unfold recipeWriteBody; split
  · exact ordered_recipeWriteOwn _ _ s h
  · exact h

theorem ordered_laneSelectOwn (lane slot : Byte) : OwnKeepsOrder K (laneSelectOwn lane slot) := by
  intro s h
  unfold laneSelectOwn; dsimp only
  (repeat' split) <;> simp [h]

theorem ordered_lineStartOwn : OwnKeepsOrder K lineStartOwn := by
  intro s h
  unfold lineStartOwn; dsimp only
  (repeat' split) <;> simp [h]

theorem ordered_lineHoldOwn : OwnKeepsOrder K lineHoldOwn := by
  intro s h
  unfold lineHoldOwn; dsimp only
  split <;> simp [h]

theorem ordered_lineResumeOwn : OwnKeepsOrder K lineResumeOwn := by
  intro s h
  unfold lineResumeOwn; dsimp only
  split
  · apply ordered_advanceLine
    split
    · exact ordered_enterDrain h
    · exact ordered_enterRun h
  · split
    · exact h
    · exact ordered_advanceLine (ordered_enterSpinUp (ordered_resumeDiscard h))
  · exact h

theorem ordered_lineDrainOwn : OwnKeepsOrder K lineDrainOwn := by
  intro s h
  unfold lineDrainOwn; dsimp only
  split <;> simp [h]

theorem ordered_lineStandbyOwn : OwnKeepsOrder K lineStandbyOwn := by
  intro s h
  unfold lineStandbyOwn; dsimp only
  split <;> simp [h]

theorem ordered_laneEnableOwn (lane on : Byte) : OwnKeepsOrder K (laneEnableOwn lane on) := by
  intro s h
  unfold laneEnableOwn; dsimp only
  split
  · exact h
  · split
    · exact h
    · split
      · exact h
      · exact ordered_advanceLine (ordered_raiseKey _ (ordered_syncLane _ (ordered_onLane _ _ h)))

theorem ordered_crumbClearOwn (lane : Byte) : OwnKeepsOrder K (crumbClearOwn lane) := by
  intro s h
  unfold crumbClearOwn; dsimp only
  (repeat' split) <;> simp [h]

theorem ordered_magazineLoadOwn (which : Byte) (count : BitVec 16) : OwnKeepsOrder K (magazineLoadOwn which count) := by
  intro s h
  unfold magazineLoadOwn; dsimp only
  split
  · exact h
  · split
    · exact ordered_when (fun _ => ordered_bagsLoaded) _ (ordered_setBagCount _ h)
    · exact ordered_when (fun _ => ordered_clipsLoaded) _ (ordered_setClipCount _ h)

theorem ordered_tyerResolveOwn (action : Byte) : OwnKeepsOrder K (tyerResolveOwn action) := by
  intro s h
  unfold tyerResolveOwn
  (repeat' split) <;> simp [h]

theorem ordered_faultClearOwn : OwnKeepsOrder K faultClearOwn := by
  intro s h
  unfold faultClearOwn; dsimp only
  split
  · exact h
  · split
    · exact h
    · exact ordered_advanceLine (ordered_when (fun _ => ordered_endStopped) _ (ordered_clearPresented _ h))

theorem ordered_shiftCloseOwn : OwnKeepsOrder K shiftCloseOwn := by
  intro s h
  unfold shiftCloseOwn
  (repeat' split) <;> simp [h]

theorem ordered_shiftReadOwn (number : BitVec 16) (part : Byte) : OwnKeepsOrder K (shiftReadOwn number part) := by
  intro s h
  unfold shiftReadOwn
  (repeat' split) <;> simp [h]

theorem ordered_recipeSaveOwn : OwnKeepsOrder K recipeSaveOwn :=
  fun _ h => ordered_requestJob _ h

/-! ## The dispatcher -/

/-- What the catalogue names for a TYPE keeps the order. -/
theorem ordered_catalogue {type : Byte} {body : List Byte} {c : Handler} (found : catalogue type body = some c) :
    OwnKeepsOrder K c.own ∧ ∀ s, Ordered K s → Ordered K (c.after s) := by
  have queried : ∀ s, Ordered K s → Ordered K (id s) := fun _ h => h
  have flows : ∀ s, Ordered K s → Ordered K (flow s) := fun _ => ordered_flow
  have settles : ∀ s, Ordered K s → Ordered K (settle s) := fun _ => ordered_settle
  unfold catalogue at found
  split at found
  case h_29 => cases found
  all_goals obtain rfl := Option.some.inj found; dsimp only
  · exact ⟨ownKeepsOrder_of_same fun _ => rfl, queried⟩
  · exact ⟨ownKeepsOrder_of_same fun _ => rfl, queried⟩
  · exact ⟨ordered_restartOwn, queried⟩
  · exact ⟨ordered_clockSetOwn _ _, queried⟩
  · exact ⟨ordered_configSetOwn _ _ _, settles⟩
  · exact ⟨ordered_configGetOwn _ _, queried⟩
  · exact ⟨ordered_recipeWriteBody _, queried⟩
  · exact ⟨ordered_recipeReadOwn _, queried⟩
  · exact ⟨ordered_recipeSaveOwn, queried⟩
  · exact ⟨ordered_laneSelectOwn _ _, settles⟩
  · exact ⟨ordered_lineStartOwn, flows⟩
  · exact ⟨ordered_lineHoldOwn, flows⟩
  · exact ⟨ordered_lineResumeOwn, flows⟩
  · exact ⟨ordered_lineDrainOwn, flows⟩
  · exact ⟨ordered_lineStandbyOwn, flows⟩
  · exact ⟨ordered_laneEnableOwn _ _, flows⟩
  · exact ⟨ordered_crumbClearOwn _, flows⟩
  · exact ⟨ordered_magazineLoadOwn _ _, settles⟩
  · exact ⟨ordered_tyerResolveOwn _, flows⟩
  · exact ⟨ordered_faultListOwn _, queried⟩
  · exact ⟨ordered_faultClearOwn, flows⟩
  · exact ⟨ordered_trackListOwn _ _, queried⟩
  · exact ⟨ordered_loafQueryOwn _, queried⟩
  · exact ⟨ordered_totalsReadOwn _, queried⟩
  · exact ⟨ordered_shiftCloseOwn, queried⟩
  · exact ⟨ordered_shiftReadOwn _ _, queried⟩
  · exact ⟨ownKeepsOrder_of_same fun _ => rfl, queried⟩
  · exact ⟨ordered_sensorReadOwn _, queried⟩

theorem ordered_takeFrame (type tok : Byte) (body : List Byte) (h : Ordered K s) :
    Ordered K (takeFrame type tok body s) := by
  unfold takeFrame; split
  · exact ordered_queueReply _ _ _ h
  next found =>
    obtain ⟨hown, hafter⟩ := ordered_catalogue (K := K) found
    split
    · exact ordered_serveRequest type tok hown hafter h
    · (repeat' split) <;> exact ordered_queueReply _ _ _ h

theorem ordered_dispatch (h : Ordered K s) : Ordered K (dispatch s) := by
  unfold dispatch; split
  · split
    · apply ordered_takeFrame
      exact ordered_onMl (f := fun m => { m with assembler := .hunt }) (fun _ => rfl) h
    · exact h
  · exact h

/-! ## The events -/

/-- A command of a moment: nothing before it, else the effect and the rest of the step. -/
theorem ordered_settled {c : Bool} {f : State → State} (hf : ∀ s, Ordered K s → Ordered K (f s)) (h : Ordered K s) :
    Ordered K (when c (fun s => settle (f s)) s) :=
  ordered_when (fun s h => ordered_settle (hf s h)) c h

theorem ordered_completeScan (h : Ordered K s) : Ordered K (completeScan s) := by
  have set := ordered_evalClipLow (ordered_evalBagLow (ordered_scanRestores (ordered_scanSets h)))
  exact ordered_enterStandby (ordered_raiseKey _ (ordered_endOfInitCheck _ (ordered_endOfInitCheck _ set)))

theorem ordered_countSecond (k : LineTime) (h : Ordered K s) :
    Ordered K (countLine (LineBlock.addSecond k) (s.onLsc (LineControl.takeSecond k))) :=
  ordered_countLine _ (ordered_onLsc _ h)

theorem ordered_exec (i : Instr) (s t : State) (h : Ordered K s) (run : exec i s = .next t) : Ordered K t := by
  have queried : ∀ s, Ordered K s → Ordered K (id s) := fun _ h => h
  have flows : ∀ s, Ordered K s → Ordered K (flow s) := fun _ => ordered_flow
  have settles : ∀ s, Ordered K s → Ordered K (settle s) := fun _ => ordered_settle
  cases i with
  | identify tok => cases run; exact ordered_takeRequest _ _ (ownKeepsOrder_of_same fun _ => rfl) queried h
  | status tok => cases run; exact ordered_takeRequest _ _ (ownKeepsOrder_of_same fun _ => rfl) queried h
  | restart tok => cases run; exact ordered_takeRequest _ _ ordered_restartOwn queried h
  | clockSet tok day second => cases run; exact ordered_takeRequest _ _ (ordered_clockSetOwn _ _) queried h
  | configSet tok p index value => cases run; exact ordered_takeRequest _ _ (ordered_configSetOwn _ _ _) settles h
  | configGet tok p index => cases run; exact ordered_takeRequest _ _ (ordered_configGetOwn _ _) queried h
  | recipeWrite tok slot fields => cases run; exact ordered_takeRequest _ _ (ordered_recipeWriteOwn _ _) queried h
  | recipeRead tok slot => cases run; exact ordered_takeRequest _ _ (ordered_recipeReadOwn _) queried h
  | recipeSave tok => cases run; exact ordered_takeRequest _ _ ordered_recipeSaveOwn queried h
  | laneSelect tok lane slot => cases run; exact ordered_takeRequest _ _ (ordered_laneSelectOwn _ _) settles h
  | lineStart tok => cases run; exact ordered_takeRequest _ _ ordered_lineStartOwn flows h
  | lineHold tok => cases run; exact ordered_takeRequest _ _ ordered_lineHoldOwn flows h
  | lineResume tok => cases run; exact ordered_takeRequest _ _ ordered_lineResumeOwn flows h
  | lineDrain tok => cases run; exact ordered_takeRequest _ _ ordered_lineDrainOwn flows h
  | lineStandby tok => cases run; exact ordered_takeRequest _ _ ordered_lineStandbyOwn flows h
  | laneEnable tok lane on => cases run; exact ordered_takeRequest _ _ (ordered_laneEnableOwn _ _) flows h
  | crumbClear tok lane => cases run; exact ordered_takeRequest _ _ (ordered_crumbClearOwn _) flows h
  | magazineLoad tok which count => cases run; exact ordered_takeRequest _ _ (ordered_magazineLoadOwn _ _) settles h
  | tyerResolve tok action => cases run; exact ordered_takeRequest _ _ (ordered_tyerResolveOwn _) flows h
  | faultList tok first => cases run; exact ordered_takeRequest _ _ (ordered_faultListOwn _) queried h
  | faultClear tok => cases run; exact ordered_takeRequest _ _ ordered_faultClearOwn flows h
  | trackList tok zone lane => cases run; exact ordered_takeRequest _ _ (ordered_trackListOwn _ _) queried h
  | loafQuery tok tag => cases run; exact ordered_takeRequest _ _ (ordered_loafQueryOwn _) queried h
  | totalsRead tok part => cases run; exact ordered_takeRequest _ _ (ordered_totalsReadOwn _) queried h
  | shiftClose tok => cases run; exact ordered_takeRequest _ _ ordered_shiftCloseOwn queried h
  | shiftRead tok number part => cases run; exact ordered_takeRequest _ _ (ordered_shiftReadOwn _ _) queried h
  | logIndex tok => cases run; exact ordered_takeRequest _ _ (ownKeepsOrder_of_same fun _ => rfl) queried h
  | sensorRead tok channel => cases run; exact ordered_takeRequest _ _ (ordered_sensorReadOwn _) queried h
  | reset b1 b0 tear => cases run; exact ordered_resetMachine b1 b0 tear s
  | startUpScanComplete => cases run; exact ordered_settled (fun _ => ordered_completeScan) h
  | byteReceived byte stopBit => cases run; exact ordered_when (fun _ => ordered_receiveByte byte) _ h
  | assemblerTakesByte => cases run; exact ordered_takeByte h
  | gapTimerRunOut => cases run; exact ordered_when (fun _ => ordered_dropFrame) _ h
  | dispatchFrame => cases run; exact ordered_dispatch h
  | transmitStart txHold => cases run; exact ordered_when (fun _ => ordered_startFrame) _ (ordered_onPins _ h)
  | frameSent b1 b0 =>
    cases run; split
    · exact h
    · split
      · exact ordered_resetMachine b1 b0 _ s
      · exact ordered_frameOut _ h
  | eyeSample e level => cases run; exact ordered_sampleEye e _ h
  | debounceConfirm e => cases run; exact ordered_when (fun _ => ordered_confirmChange e) _ h
  | encoderCount b phaseA phaseB => cases run; exact ordered_sampleEncoder b phaseA phaseB h
  | infeedTrailingEdge l => cases run; exact ordered_onEdge (fun x _ => ordered_createRecord l x) _ _ h
  | slicerLeadingEdge l => cases run; exact ordered_onEdge (fun x _ => ordered_slicerLeading l x) _ _ h
  | slicerTrailingEdge l => cases run; exact ordered_onTrailing (fun _ => ordered_slicerTrailing l) _ h
  | mergeLeadingEdge l => cases run; exact ordered_onEdge (fun x _ => ordered_mergeLeading l x) _ _ h
  | mergeTrailingEdge l => cases run; exact ordered_onTrailing (fun _ => ordered_startMergeWindow l) _ h
  | exitLeadingEdge => cases run; exact ordered_onEdge (fun x _ => ordered_exitLeading x) _ _ h
  | exitTrailingEdge => cases run; exact ordered_onTrailing (fun _ => ordered_exitTrailing) _ h
  | bagConfirm =>
    cases run
    exact ordered_withEdge (fun _ _ h => ordered_settle (ordered_when (fun _ => ordered_bagConfirmed) _ h)) _ _ h
  | headAtGate l =>
    cases run
    exact ordered_when (fun _ h => ordered_infeedFollow l (ordered_admitIfReady l h)) _ h
  | bladeWindowRunOut l => cases run; exact ordered_settled (fun _ => ordered_loseBlade l) h
  | mergeWindowRunOut l => cases run; exact ordered_settled (fun _ => ordered_loseAccumHead l) h
  | exitWindowRunOut =>
    cases run
    exact ordered_settled (f := fun s => exitHeadChanged (loseExitHead s))
      (fun _ h => ordered_exitHeadChanged (ordered_loseExitHead h)) h
  | stuckLimitExceeded e => cases run; exact ordered_settled (fun _ => ordered_raiseStuck e) h
  | scanTimerExpiry => cases run; exact ordered_scanTriggers (ordered_onSc _ h)
  | conversionComplete result =>
    cases run; split
    · exact ordered_settle (ordered_completeConversion _ _ h)
    · exact h
  | spinUpWaitEnd l => cases run; exact ordered_settled (fun _ => ordered_spinUpEnd l) h
  | gateStrokeEnd l => cases run; exact ordered_settled (fun _ => ordered_disarmGate l) h
  | pushStrokeTimerRunOut => cases run; exact ordered_settled (fun _ => ordered_strokeRunOut) h
  | flapSettleEnd => cases run; exact ordered_settled (fun _ => ordered_flapSettled) h
  | openingEnd => cases run; exact ordered_settled (fun _ => ordered_openingOver) h
  | bagConfirmWatchRunOut => cases run; exact ordered_settled (fun _ => ordered_bagMissed) h
  | bagBlastEnd => cases run; exact ordered_settled (fun _ => ordered_endBlast) h
  | extendedSwitchCloses l => cases run; exact ordered_when (fun _ => ordered_endExtend l) _ h
  | pusherHomeSwitchChange l closed =>
    cases run
    exact ordered_settle (ordered_when (fun _ => ordered_pusherHome l) _ (ordered_noticeCause _ _ _ (ordered_onPins _ h)))
  | deadTimeEnd l => cases run; exact ordered_when (fun _ => ordered_deadTimeOver l) _ h
  | purgeEnd => cases run; exact ordered_settled (fun _ => ordered_endPurge) h
  | twistEnd => cases run; exact ordered_settled (fun _ => ordered_enterClip) h
  | clipEnd => cases run; exact ordered_settled (fun _ => ordered_enterHomeWait) h
  | tyerHomeSwitchChange closed =>
    cases run
    apply ordered_settle; split
    · exact ordered_tieIfHome (ordered_onPins _ h)
    · exact ordered_onTsc _ (ordered_onPins _ h)
  | tieTimerRunOut => cases run; exact ordered_settled (fun _ => ordered_jamTyer) h
  | airWaitTimerRunOut l => cases run; exact ordered_settled (fun _ => ordered_backOff l) h
  | blowingEnd l => cases run; exact ordered_settled (fun _ => ordered_endBlowing l) h
  | settleEnd l => cases run; exact ordered_settled (fun _ => ordered_completeClear l) h
  | backoffEnd l => cases run; exact ordered_settled (fun _ => ordered_endBackOff l) h
  | safetySample estopOpen guardOpen =>
    cases run
    exact ordered_settle (ordered_inputTaken _ _ _ (ordered_inputTaken _ _ _ (ordered_takeSafety _ _ h)))
  | calendarTick => cases run; exact ordered_onCal _ h
  | lineTimeSecond k => cases run; exact ordered_when (fun _ => ordered_countSecond k) _ h
  | pageProgramComplete verified =>
    cases run; split
    · split
      · exact ordered_programVerified _ h
      · exact ordered_programFailed _ h
    · exact h

/-! ## The steps -/

theorem ordered_withPending (q : List Instr) (h : Ordered K s) : Ordered K (s.withPending q) :=
  ⟨h.pushers, h.faults, h.reports⟩

theorem ordered_step {t : State} (h : Ordered K s) (run : step s = .next t) : Ordered K t := by
  unfold step at run; split at run
  · exact ordered_exec _ _ _ (ordered_withPending _ h) run
  · split at run
    · exact ordered_exec _ _ _ (ordered_choiceUsed h) run
    · cases run; exact ordered_tick h

/-- Settles O8: of the three orders that every command keeps, the pushers' alone is spoken of. A valve goes on in `Pusher.on`
and `Pusher.deadEnd` alone, and there the other one is off. -/
theorem everyStepKeepsTheValvesApart : Obligations.EveryStepKeepsTheValvesApart := by
  intro s t safe run
  have apart : Ordered { pushers := true, faults := false, reports := false } s := ⟨fun _ => safe, nofun, nofun⟩
  exact (ordered_step apart run).pushers rfl

end Sys2Proof.Machine
end

section
/-! SUPPORT. The moves that the line makes by itself (R126, R129, R130): the conveyors and the line state at each entry, the stop
fault, and how a step goes on in each line state while no stop fault stands. -/

namespace Sys2Proof.Machine

set_option Elab.async false

variable {s t : State} {l : Lane} {b : Bool}

/-! ## The conveyors (R135) -/

/-- The outfeed and the accumulation conveyors are all on, or all off. -/
structure Conveys (b : Bool) (s : State) : Prop where
  outfeed : s.dou.outfeed = b
  accum : s.dou.accum = ⟨b, b⟩

theorem Conveys.accum_get (h : Conveys b s) (l : Lane) : s.dou.accum.get l = b := by
  rw [h.accum]; cases l <;> rfl

theorem Conveys.of_same (h : Conveys b s) (outfeed : t.dou.outfeed = s.dou.outfeed := by simp)
    (accum : t.dou.accum = s.dou.accum := by simp) : Conveys b t :=
  ⟨outfeed.trans h.outfeed, accum.trans h.accum⟩

theorem conveys_enterSpinUp (s : State) : Conveys false (enterSpinUp s) :=
  ⟨by simp [enterSpinUp, setConveyors], by simp [enterSpinUp, setConveyors]⟩

theorem conveys_enterRun (s : State) : Conveys true (enterRun s) :=
  ⟨by simp [enterRun, setConveyors], by simp [enterRun, setConveyors]⟩

theorem conveys_enterDrain (s : State) : Conveys true (enterDrain s) :=
  ⟨by simp [enterDrain, setConveyors], by simp [enterDrain, setConveyors]⟩

theorem conveys_enterHold (back : LineState) (s : State) : Conveys false (enterHold back s) :=
  ⟨by simp [enterHold, setConveyors], by simp [enterHold, setConveyors]⟩

theorem conveys_enterStandby (s : State) : Conveys false (enterStandby s) :=
  ⟨by simp [enterStandby, setConveyors], by simp [enterStandby, setConveyors]⟩

/-! ## The line state at its entries -/

theorem enterSpinUp_lsc (s : State) : (enterSpinUp s).lsc = { s.lsc with line := .spinUp, previous := some s.lsc.line } := by
  simp [enterSpinUp, changeLine]

theorem enterRun_lsc (s : State) : (enterRun s).lsc =
    { s.lsc with line := .run, previous := some s.lsc.line, returnState := none, holdHost := false } := by
  simp [enterRun, leaveHold, changeLine]

theorem enterDrain_lsc (s : State) : (enterDrain s).lsc =
    { s.lsc with line := .drain, previous := some s.lsc.line, returnState := none, holdHost := false } := by
  simp [enterDrain, leaveHold, changeLine]

theorem enterHold_lsc (back : LineState) (s : State) : (enterHold back s).lsc =
    { s.lsc with line := .hold, previous := some s.lsc.line, returnState := some back, holdHost := true } := by
  simp [enterHold, changeLine]

theorem changeLine_told (new : LineState) (s : State) : Reported .lineState (changeLine new s) := reported_raised _ _

theorem enterSpinUp_told (s : State) : Reported .lineState (enterSpinUp s) :=
  syncLanes_reported (when_reported (fun _ => startWatches_reported) _ (setConveyors_reported _ (changeLine_told ..)))

/-! ## The stop fault (R148) -/

theorem stopFault_congr (ft : t.ft = s.ft) : stopFault t = stopFault s := by
  unfold stopFault holdCount; rw [ft]

theorem stopFault_eq_false : stopFault s = false ↔ ∀ e ∈ s.ft.entries, actionOf e.kind e.subject ≠ .lineStop := by
  simp [stopFault, holdCount]

/-- Where only kinds that do not stop the line have moved, no stop fault has come. -/
theorem MovesFaults.clear {ks : List FaultKind} (moves : MovesFaults ks s t)
    (harmless : ∀ k ∈ ks, ∀ subj, actionOf k subj ≠ .lineStop) (clear : stopFault s = false) : stopFault t = false := by
  rw [stopFault_eq_false] at clear ⊢
  intro e standing stops
  by_cases moved : e.kind ∈ ks
  · exact harmless _ moved _ stops
  · exact clear e ((moves.pairs e.kind e.subject moved).old e standing (by simp [FaultEntry.isPair])) stops

/-! ## The blades beside the spun flags (R62, R124) -/

theorem spun_of_same (enabled : (t.lic.get l).enabled = (s.lic.get l).enabled) (blade : (t.lic.get l).blade = (s.lic.get l).blade) :
    spun l t = spun l s := by
  unfold spun; rw [enabled, blade]

theorem startSpinUp_blade (l : Lane) (s : State) : ((startSpinUp l s).lic.get l).blade = .spinning := by
  simp [startSpinUp, changeBlade_blade]

/-- In SPIN_UP a blade's demand leaves its spun flag: the blade of an enabled lane starts, that of another stops. -/
theorem spun_bladeFollow_same (line : s.lsc.line = .spinUp) (l : Lane) : spun l (bladeFollow l s) = spun l s := by
  have enabled : ((bladeFollow l s).lic.get l).enabled = (s.lic.get l).enabled := by simp
  have demanded : bladeDemanded l s = (s.lic.get l).enabled := by simp [bladeDemanded, line]
  unfold spun
  rw [enabled]
  unfold bladeFollow
  rw [line, demanded]
  cases on : (s.lic.get l).enabled <;> cases blade : (s.lic.get l).blade <;>
    simp [blade, startSpinUp_blade]

theorem spun_bladeFollow (line : s.lsc.line = .spinUp) (l m : Lane) : spun m (bladeFollow l s) = spun m s := by
  by_cases same : m = l
  · rw [same, spun_bladeFollow_same line]
  · have kept := (keepsLane_bladeFollow same s).lane
    exact spun_of_same (by rw [kept]) (by rw [kept])

/-! ## The moves without a stop fault -/

theorem advanceLine_of_clear (clear : stopFault s = false) :
    advanceLine s = standbyIfDrained (runIfSpun (bladeFollow .b (bladeFollow .a s))) := by
  rw [advanceLine, stopIfFaulted_of_clear clear]

/-- SPIN_UP ends at once when both lanes are spun (R126). -/
theorem advanceLine_of_spinUp (line : s.lsc.line = .spinUp) (clear : stopFault s = false) :
    advanceLine s = when (spun .a s && spun .b s) enterRun (bladeFollow .b (bladeFollow .a s)) := by
  have lineA : (bladeFollow .a s).lsc.line = .spinUp := by simp [line]
  have lineB : (bladeFollow .b (bladeFollow .a s)).lsc.line = .spinUp := by simp [line]
  have flags (m : Lane) : spun m (bladeFollow .b (bladeFollow .a s)) = spun m s :=
    (spun_bladeFollow lineA .b m).trans (spun_bladeFollow line .a m)
  have runs : runIfSpun (bladeFollow .b (bladeFollow .a s))
      = when (spun .a s && spun .b s) enterRun (bladeFollow .b (bladeFollow .a s)) := by
    rw [runIfSpun, lineB, beq_self_eq_true, Bool.true_and, flags, flags]
  rw [advanceLine_of_clear clear, runs]
  refine standbyIfDrained_of_line ?_
  exact when_elim (P := fun t => t.lsc.line ≠ .drain) (by rw [lineB]; decide) fun _ => by rw [enterRun_line]; decide

/-- In HOLD the blades alone follow their demand. -/
theorem advanceLine_of_hold (line : s.lsc.line = .hold) (clear : stopFault s = false) :
    advanceLine s = bladeFollow .b (bladeFollow .a s) := by
  have followed : (bladeFollow .b (bladeFollow .a s)).lsc.line = .hold := by simp [line]
  rw [advanceLine_of_clear clear, runIfSpun_of_line (by rw [followed]; decide),
    standbyIfDrained_of_line (by rw [followed]; decide)]

/-- DRAIN ends at once with an empty pool (R129). -/
theorem advanceLine_of_drain (line : s.lsc.line = .drain) (clear : stopFault s = false) :
    advanceLine s = when (poolEmpty s) enterStandby (bladeFollow .b (bladeFollow .a s)) := by
  have followed : (bladeFollow .b (bladeFollow .a s)).lsc.line = .drain := by simp [line]
  have pool : poolEmpty (bladeFollow .b (bladeFollow .a s)) = poolEmpty s := by simp [poolEmpty, State.records]
  rw [advanceLine_of_clear clear, runIfSpun_of_line (by rw [followed]; decide), standbyIfDrained, followed, pool,
    beq_self_eq_true, Bool.true_and]

end Sys2Proof.Machine
end

section
/-! PROOF. The clocks: CALENDAR_TICK (R163) and LINE_TIME_SECOND (R133). -/

namespace Sys2Proof.Machine

set_option Elab.async false

variable {s : State}

/-- One second of the Calendar: the second wraps at the day's end, and the day after the last that 16 bits hold. -/
theorem Calendar.tick_of_day {c : Calendar} (day : c.day ≤ 65535) :
    c.tick = { c with
      phase := 0
      second := if c.second = 86399 then 0 else c.second + 1
      day := if c.second = 86399 then (if c.day = 65535 then 0 else c.day + 1) else c.day } := by
  unfold Calendar.tick
  by_cases wraps : c.second = 86399
  · by_cases last : c.day = 65535
    · simp [wraps, last]
    · have room : (c.day + 1) % 65536 = c.day + 1 := Nat.mod_eq_of_lt (by omega)
      simp [wraps, last, room]
  · simp [wraps]

/-- A second counted: 1000 ms of its accumulator, and one more in its counter. -/
theorem countSecond_eq (k : LineTime) (s : State) :
    countLine (LineBlock.addSecond k) (s.onLsc (LineControl.takeSecond k)) = { s with
      lsc := s.lsc.takeSecond k
      tu := { s.tu with live := { s.tu.live with line := s.tu.live.line.addSecond k } } } := rfl

/-- LINE_TIME_SECOND of a kind that the line accrues, or whose accumulator has reached its second. -/
theorem exec_lineTimeSecond_counts {k : LineTime} (due : timeKind s.lsc.line = some k ∨ 1000 ≤ accumulator k s.lsc) :
    exec (.lineTimeSecond k) s = .next (countLine (LineBlock.addSecond k) (s.onLsc (LineControl.takeSecond k))) := by
  have c : (timeKind s.lsc.line == some k || decide (1000 ≤ accumulator k s.lsc)) = true := by simpa using due
  show Host.Outcome.next (when _ _ s) = _
  rw [c, when_true]

/-- LINE_TIME_SECOND of any other kind. -/
theorem exec_lineTimeSecond_early {k : LineTime} (other : timeKind s.lsc.line ≠ some k) (early : accumulator k s.lsc < 1000) :
    exec (.lineTimeSecond k) s = .next s := by
  have c : (timeKind s.lsc.line == some k || decide (1000 ≤ accumulator k s.lsc)) = false := by simpa using ⟨other, early⟩
  show Host.Outcome.next (when _ _ s) = _
  rw [c, when_false]

theorem timeKind_eq_run : timeKind s.lsc.line = some .run ↔ s.lsc.line = .run ∨ s.lsc.line = .drain := by
  cases s.lsc.line <;> simp [timeKind]

theorem timeKind_eq_hold : timeKind s.lsc.line = some .hold ↔ s.lsc.line = .hold := by
  cases s.lsc.line <;> simp [timeKind]

theorem timeKind_eq_stop : timeKind s.lsc.line = some .stop ↔ s.lsc.line = .stop := by
  cases s.lsc.line <;> simp [timeKind]

/-- Settles O53: the Calendar by its wraps, and each kind of line time by the line states that accrue it. -/
theorem clocksCountSeconds : Obligations.ClocksCountSeconds := by
  intro s
  refine ⟨fun _ day => ?_, fun due => ?_, fun due => ?_, fun due => ?_, fun run drain early => ?_, fun hold early => ?_,
    fun stop early => ?_⟩
  · show Host.Outcome.next (s.onCal Calendar.tick) = _
    rw [State.onCal, Calendar.tick_of_day day]
  · have kind : timeKind s.lsc.line = some .run ∨ 1000 ≤ accumulator .run s.lsc := by rw [timeKind_eq_run, or_assoc]; exact due
    simp only [exec_lineTimeSecond_counts kind, countSecond_eq, LineControl.takeSecond, LineBlock.addSecond]
  · have kind : timeKind s.lsc.line = some .hold ∨ 1000 ≤ accumulator .hold s.lsc := by rw [timeKind_eq_hold]; exact due
    simp only [exec_lineTimeSecond_counts kind, countSecond_eq, LineControl.takeSecond, LineBlock.addSecond]
  · have kind : timeKind s.lsc.line = some .stop ∨ 1000 ≤ accumulator .stop s.lsc := by rw [timeKind_eq_stop]; exact due
    simp only [exec_lineTimeSecond_counts kind, countSecond_eq, LineControl.takeSecond, LineBlock.addSecond]
  · exact exec_lineTimeSecond_early (k := .run) (by rw [Ne, timeKind_eq_run, not_or]; exact ⟨run, drain⟩) early
  · exact exec_lineTimeSecond_early (k := .hold) (by rw [Ne, timeKind_eq_hold]; exact hold) early
  · exact exec_lineTimeSecond_early (k := .stop) (by rw [Ne, timeKind_eq_stop]; exact stop) early

end Sys2Proof.Machine
end

section
/-! PROOF. LINE_START (R126, R135). -/

namespace Sys2Proof.Machine

set_option Elab.async false

variable {s t : State} {l : Lane}

/-! ## SPIN_UP, and RUN at once where both lanes are spun -/

/-- The line state that the entry to SPIN_UP reaches. -/
abbrev lineAfterSpinUp (s : State) : LineState := if spun .a s && spun .b s then .run else .spinUp

theorem advanceLine_enterSpinUp (clear : stopFault s = false) : advanceLine (enterSpinUp s)
    = when (spun .a s && spun .b s) enterRun (bladeFollow .b (bladeFollow .a (enterSpinUp s))) := by
  have line : (enterSpinUp s).lsc.line = .spinUp := by rw [enterSpinUp_lsc]
  have flags (m : Lane) : spun m (enterSpinUp s) = spun m s := spun_of_same (by simp) (by simp)
  rw [advanceLine_of_spinUp line ((stopFault_congr (by simp)).trans clear), flags, flags]

theorem advanceLine_enterSpinUp_line (clear : stopFault s = false) :
    (advanceLine (enterSpinUp s)).lsc.line = lineAfterSpinUp s := by
  rw [advanceLine_enterSpinUp clear, lineAfterSpinUp]
  split
  next both => rw [both, when_true, enterRun_lsc]
  next early => rw [eq_false_of_ne_true early, when_false]; simp [enterSpinUp_lsc]

theorem advanceLine_enterSpinUp_previous (clear : stopFault s = false) : (advanceLine (enterSpinUp s)).lsc.previous
    = some (if spun .a s && spun .b s then .spinUp else s.lsc.line) := by
  rw [advanceLine_enterSpinUp clear]
  split
  next both => rw [both, when_true, enterRun_lsc]; simp [enterSpinUp_lsc]
  next early => rw [eq_false_of_ne_true early, when_false]; simp [enterSpinUp_lsc]

theorem advanceLine_enterSpinUp_clear (clear : stopFault s = false) : stopFault (advanceLine (enterSpinUp s)) = false := by
  have ft : (advanceLine (enterSpinUp s)).ft = s.ft := by
    rw [advanceLine_enterSpinUp clear, when_ft (by simp)]; simp
  exact (stopFault_congr ft).trans clear

theorem conveys_advanceLine_enterSpinUp (clear : stopFault s = false) :
    Conveys (spun .a s && spun .b s) (advanceLine (enterSpinUp s)) := by
  rw [advanceLine_enterSpinUp clear]
  cases spun .a s && spun .b s with
  | false => exact (conveys_enterSpinUp s).of_same
  | true => exact conveys_enterRun _

/-- In SPIN_UP the blade of an enabled lane that stands OFF spins up (R62). -/
theorem spinsUp_bladeFollow (line : s.lsc.line = .spinUp) (enabled : (s.lic.get l).enabled = true)
    (off : (s.lic.get l).blade = .off) : SpinsUp l (spinUpMs (s.params.spinCode.get l)) (bladeFollow l s) := by
  have starts : bladeFollow l s = startSpinUp l s := by simp [bladeFollow, bladeDemanded, line, enabled, off]
  rw [starts]
  exact spinsUp_startSpinUp (by simp [stopDrop, line])

/-- A blade that stands OFF on an enabled lane keeps the line in SPIN_UP. -/
theorem spinsUp_advanceLine_enterSpinUp (clear : stopFault s = false) (enabled : (s.lic.get l).enabled = true)
    (off : (s.lic.get l).blade = .off) : SpinsUp l (spinUpMs (s.params.spinCode.get l)) (advanceLine (enterSpinUp s)) := by
  have waits : (spun .a s && spun .b s) = false := by cases l <;> simp [spun, enabled, off]
  have line : (enterSpinUp s).lsc.line = .spinUp := by rw [enterSpinUp_lsc]
  rw [advanceLine_enterSpinUp clear, waits, when_false]
  cases l with
  | a =>
    have spins := spinsUp_bladeFollow (s := enterSpinUp s) (l := .a) line (by simp [enabled]) (by simp [off])
    exact SpinsUp.of_keepsLane (by simpa using spins) (keepsLane_bladeFollow (by decide) _)
  | b =>
    have kept := (keepsLane_bladeFollow (l := .a) (m := .b) (by decide) (enterSpinUp s)).lane
    have spins := spinsUp_bladeFollow (s := bladeFollow .a (enterSpinUp s)) (l := .b) (by simp [line]) (by simp [enabled])
      (by rw [kept]; simp [off])
    simpa using spins

theorem advanceLine_enterSpinUp_told (clear : stopFault s = false) :
    Reported .lineState (advanceLine (enterSpinUp s)) := by
  have told : Reported .lineState (bladeFollow .b (bladeFollow .a (enterSpinUp s))) :=
    bladeFollow_reported _ (bladeFollow_reported _ (enterSpinUp_told s))
  rw [advanceLine_enterSpinUp clear]
  exact when_elim told fun _ => enterRun_reported told

/-! ## The request -/

theorem queueReply_told {key : ReportKey} (told : Reported key s) (type tok : Byte) (a : Answer) :
    Reported key (queueReply type tok a s) := told

@[simp] theorem queueReply_replies (type tok : Byte) (a : Answer) (s : State) :
    (queueReply type tok a s).ml.replies = s.ml.replies ++ [⟨type, tok, a.status, a.content⟩] := rfl

theorem lineStart_refused (wrong : s.lsc.line ≠ .standby ∨ stopFault s = true) :
    lineStartOwn s = (⟨4, startContent s⟩, s) := by
  rw [lineStartOwn, if_pos (by simpa using wrong)]
  rfl

theorem lineStart_clockUnset (line : s.lsc.line = .standby) (clear : stopFault s = false) (unset : s.cal.valid = false) :
    lineStartOwn s = (⟨9, [1, 0]⟩, s) := by
  have content : startContent s = [1, 0] := by rw [startContent, line, clear]; rfl
  rw [← content]
  simp [lineStartOwn, line, clear, unset, clockUnset]

theorem lineStart_starts (line : s.lsc.line = .standby) (clear : stopFault s = false) (set : s.cal.valid = true) :
    lineStartOwn s = (⟨0, [if spun .a s && spun .b s then 3 else 2, 0]⟩, advanceLine (enterSpinUp s)) := by
  have content : startContent (advanceLine (enterSpinUp s)) = [if spun .a s && spun .b s then 3 else 2, 0] := by
    rw [startContent, advanceLine_enterSpinUp_line clear, advanceLine_enterSpinUp_clear clear, lineAfterSpinUp]
    cases spun .a s && spun .b s <;> rfl
  rw [← content]
  simp [lineStartOwn, line, clear, set, answerOk]

theorem exec_lineStart (tok : Byte) (s : State) :
    exec (.lineStart tok) s = .next (takeRequest 0x20 tok lineStartOwn flow s) := rfl

/-- Settles O25: the two refusals, then the line's move to SPIN_UP or to RUN, kept by the flow after the reply. -/
theorem lineStartSpinsUp : Obligations.LineStartSpinsUp := by
  intro tok s serving
  refine ⟨fun wrong => ?_, fun line clear unset => ?_, fun line clear set => ?_⟩
  · rw [exec_lineStart, takeRequest_refused serving (lineStart_refused wrong) (show (4 : Byte) ≠ 0 by decide)]
    rfl
  · rw [exec_lineStart, takeRequest_refused serving (lineStart_clockUnset line clear unset) (by decide)]
  · have conveys := conveys_advanceLine_enterSpinUp clear
    rw [exec_lineStart, takeRequest_accepted serving (lineStart_starts line clear set)]
    refine ⟨_, rfl, ?_, ?_, ?_, ?_, fun l => ?_, fun l enabled off => ?_, ?_⟩
    · simp [advanceLine_enterSpinUp_line clear, lineAfterSpinUp]
    · simp [advanceLine_enterSpinUp_previous clear, line]
    · simp
    · simp [conveys.outfeed]
    · simpa using conveys.accum_get l
    · obtain ⟨blade, drive, wait⟩ := spinsUp_advanceLine_enterSpinUp clear enabled off
      exact ⟨by simp [blade], by simp [drive], by simp [wait]⟩
    · exact flow_reported (queueReply_told (advanceLine_enterSpinUp_told clear) ..)

end Sys2Proof.Machine
end

section
/-! PROOF. LINE_HOLD and LINE_DRAIN (R127 to R129). -/

namespace Sys2Proof.Machine

set_option Elab.async false

variable {s t : State} {l m : Lane}

/-! ## The entry to HOLD: its faults and its crumb cycles (R112, R128) -/

theorem movesFaults_airWithdraw (r : Requester) (s : State) : MovesFaults bagKinds s (airWithdraw r s) := by
  have next (c : AirChannel) (t : State) : MovesFaults bagKinds t (grantNext c t) := by
    unfold grantNext; split
    · exact movesFaults_grantBag c t
    · exact .of_same (by simp)
  unfold airWithdraw airRelease; split
  · exact (next _ _).after rfl
  · exact .of_same rfl

theorem bagKinds_harmless : ∀ k ∈ bagKinds, ∀ subj, actionOf k subj ≠ .lineStop := by
  intro k mem subj
  simp only [bagKinds, List.mem_cons, List.not_mem_nil, or_false] at mem
  obtain rfl | rfl := mem <;> exact nofun

theorem movesFaults_holdCrumb (l : Lane) (s : State) : MovesFaults bagKinds s (holdCrumb l s) :=
  when_elim (.of_same rfl) fun _ => (movesFaults_airWithdraw _ _).after rfl

theorem enterHold_clear (back : LineState) (clear : stopFault s = false) : stopFault (enterHold back s) = false := by
  have moves : MovesFaults bagKinds s (enterHold back s) :=
    ((movesFaults_holdCrumb .a _).after (by simp [State.onLsc])).trans (movesFaults_holdCrumb .b _)
  exact moves.clear bagKinds_harmless clear

/-- A crumb cycle beside AIR_WAIT does not come to it by a grant. -/
theorem CrumbGranted.notAwaited (granted : CrumbGranted l s t) (quiet : (s.cc.get l).cycle ≠ .airWait) :
    (t.cc.get l).cycle ≠ .airWait := by
  obtain same | ⟨-, blows⟩ := granted
  · rwa [same]
  · rw [blows]; exact nofun

/-- A hold takes its lane's crumb cycle out of AIR_WAIT. -/
theorem holdCrumb_leaves (l : Lane) (s : State) : ((holdCrumb l s).cc.get l).cycle ≠ .airWait := by
  unfold holdCrumb
  cases waits : (s.cc.get l).cycle == .airWait with
  | false => exact beq_eq_false_iff_ne.1 waits
  | true =>
    rw [when_true, airWithdraw_cc]
    simp [State.onCrumb]

theorem holdCrumb_other (other : m ≠ l) (quiet : (s.cc.get m).cycle ≠ .airWait) :
    ((holdCrumb l s).cc.get m).cycle ≠ .airWait := by
  refine when_elim (P := fun t => (t.cc.get m).cycle ≠ .airWait) quiet fun _ => ?_
  refine CrumbGranted.notAwaited (crumbGranted_airRelease m (knife l) _) ?_
  simpa [setWaiting, State.onCrumb, PerLane.get_upd_other _ other] using quiet

theorem enterHold_cycle (back : LineState) (s : State) (l : Lane) : ((enterHold back s).cc.get l).cycle ≠ .airWait := by
  cases l with
  | a => exact holdCrumb_other (by decide) (holdCrumb_leaves .a _)
  | b => exact holdCrumb_leaves .b _

/-! ## The flow in HOLD -/

/-- In HOLD the flow makes no gap, hands nothing over and selects no lane. -/
theorem flow_of_hold (line : s.lsc.line = .hold) :
    flow s = infeedFollow .b (infeedFollow .a (admitIfReady .b (admitIfReady .a s))) := by
  have noGap (m : Lane) : makeGap m s = s := makeGap_of_unmet fun met => met.2.2 line
  have idle : selectIfReady s = s := selectIfReady_of_busy (by simp [maySelect, producing, line])
  rw [flow_eq, gapsMade, noGap, noGap, handoff_of_blocked (.inr line), flowAfterHandoff, idle]

theorem clearTest_cycle {holds : Bool} {cause : CycleCause} (quiet : (s.cc.get m).cycle ≠ .airWait) :
    ((clearTest l holds cause s).cc.get m).cycle ≠ .airWait := by
  refine when_elim (P := fun t => (t.cc.get m).cycle ≠ .airWait) quiet fun _ => ?_
  rw [requestClear_cc]
  by_cases same : m = l
  · rw [same, PerLane.get_upd_same]; exact nofun
  · rwa [PerLane.get_upd_other _ same]

theorem admitIfReady_cycle (quiet : (s.cc.get m).cycle ≠ .airWait) (l : Lane) :
    ((admitIfReady l s).cc.get m).cycle ≠ .airWait := by
  unfold admitIfReady; split
  next r rest _ =>
    refine when_elim (P := fun t => (t.cc.get m).cycle ≠ .airWait) quiet fun _ => ?_
    rw [admission_passes]
    refine clearTest_cycle ?_
    simpa [passHead_eq] using quiet
  next => exact quiet

theorem flow_cycle (line : s.lsc.line = .hold) (quiet : (s.cc.get m).cycle ≠ .airWait) :
    ((flow s).cc.get m).cycle ≠ .airWait := by
  have admitted := admitIfReady_cycle (admitIfReady_cycle quiet .a) .b
  rw [flow_of_hold line]
  simpa using admitted

theorem infeedFollow_off (rests : producing s = false) (l : Lane) :
    (infeedFollow l s).dou = { s.dou with infeed := s.dou.infeed.upd l (fun _ => false) } := by
  rw [infeedFollow, rests]; rfl

/-- Outside RUN and DRAIN the flow leaves the infeed belts off. -/
theorem flow_infeed (rests : producing s = false) (l : Lane) : (flow s).dou.infeed.get l = false := by
  have still (t : State) (lsc : t.lsc = s.lsc) : producing t = false := by
    unfold producing at rests ⊢; rwa [lsc]
  rw [flow_eq, flowAfterHandoff, infeedFollow_off (still _ (by simp [gapsMade])), infeedFollow_off (still _ (by simp [gapsMade]))]
  cases l <;> rfl

/-! ## TUNNEL_READY outside RUN (R74) -/

/-- The line is not in RUN, and each lane's TUNNEL_READY is off. -/
structure TunnelsShut (s : State) : Prop where
  line : s.lsc.line ≠ .run
  shut : ∀ l, (s.lic.get l).tunnelReady = false

/-- FAULT_HOLD has no part in TUNNEL_READY. -/
theorem TunnelsShut.of_aside (h : TunnelsShut s) (lsc : t.lsc = s.lsc := by simp)
    (aside : ∀ m, (t.lic.get m).holdAside = (s.lic.get m).holdAside := by simp) : TunnelsShut t := by
  refine ⟨by rw [lsc]; exact h.line, fun m => ?_⟩
  have same : (t.lic.get m).holdAside.tunnelReady = (s.lic.get m).holdAside.tunnelReady := by rw [aside]
  exact same.trans (h.shut m)

theorem tunnelReadyOf_beside (line : s.lsc.line ≠ .run) (l : Lane) (high : Bool) : tunnelReadyOf l high s = false := by
  simp [tunnelReadyOf, line]

theorem syncLane_tunnel (line : s.lsc.line ≠ .run) (l : Lane) : ((syncLane l s).lic.get l).tunnelReady = false := by
  rw [syncLane_lic_same]
  exact tunnelReadyOf_beside line l _

theorem TunnelsShut.syncLane (h : TunnelsShut s) (l : Lane) : TunnelsShut (syncLane l s) := by
  refine ⟨by simpa using h.line, fun m => ?_⟩
  by_cases same : m = l
  · rw [same, syncLane_tunnel h.line]
  · rw [syncLane_lic_other same, h.shut]

theorem tunnelsShut_syncLanes (line : s.lsc.line ≠ .run) : TunnelsShut (syncLanes s) := by
  refine ⟨by simpa using line, fun m => ?_⟩
  cases m with
  | a => rw [syncLanes, syncLane_lic_other (by decide), syncLane_tunnel line]
  | b => exact syncLane_tunnel (s := Machine.syncLane .a s) (by simpa using line) .b

theorem TunnelsShut.onLane (h : TunnelsShut s) {f : LaneInfeed → LaneInfeed} (keeps : ∀ i, (f i).tunnelReady = i.tunnelReady)
    (l : Lane) : TunnelsShut (s.onLane l f) := by
  refine ⟨h.line, fun m => ?_⟩
  by_cases same : m = l
  · rw [same]; simp [State.onLane, keeps, h.shut]
  · simp [State.onLane, PerLane.get_upd_other _ same, h.shut]

theorem TunnelsShut.changeBlade (h : TunnelsShut s) (l : Lane) (b : BladeState) (wait : Timer) :
    TunnelsShut (changeBlade l b wait s) := by
  have set : TunnelsShut (Machine.syncLane l (s.onLane l (fun i => { i with blade := b, spinWait := wait }))) :=
    (h.onLane (by simp) l).syncLane l
  exact set.of_aside (by simp [Machine.changeBlade]) (by simp [Machine.changeBlade])

theorem TunnelsShut.bladeOff (h : TunnelsShut s) (l : Lane) : TunnelsShut (bladeOff l s) := by
  have off : TunnelsShut (when ((s.lic.get l).blade != .off) (Machine.changeBlade l .off none) s) :=
    when_elim h fun _ => h.changeBlade l _ _
  exact off.of_aside (by simp [Machine.bladeOff]) (by simp [Machine.bladeOff])

theorem TunnelsShut.bladeFollow (h : TunnelsShut s) (l : Lane) : TunnelsShut (bladeFollow l s) := by
  have starts : TunnelsShut (startSpinUp l s) :=
    (h.changeBlade l .spinning (some (spinUpMs (s.params.spinCode.get l)))).of_aside (by simp [startSpinUp]) (by simp [startSpinUp])
  unfold Machine.bladeFollow; dsimp only
  cases (s.lic.get l).blade with
  | off => exact when_elim h fun _ => starts
  | spinning => exact when_elim h fun _ => h.bladeOff l
  | ready => exact h

theorem TunnelsShut.clearTest (h : TunnelsShut s) {holds : Bool} {cause : CycleCause} (l : Lane) :
    TunnelsShut (clearTest l holds cause s) :=
  when_elim h fun _ => TunnelsShut.syncLane (h.of_aside (t := s.onCrumb l _)) l

theorem TunnelsShut.entryTest (h : TunnelsShut s) (l : Lane) : TunnelsShut (entryTest l s) := by
  unfold Machine.entryTest; dsimp only; split
  · exact h.clearTest l
  · exact h.clearTest l

theorem TunnelsShut.crumbEntry (h : TunnelsShut s) (was : LineState) : TunnelsShut (crumbEntry was s) := by
  have tested : TunnelsShut (Machine.entryTest .b (Machine.entryTest .a s)) := (h.entryTest .a).entryTest .b
  cases was with
  | init | spinUp | stop => exact tested
  | standby | run | hold | drain => exact h

theorem TunnelsShut.applyPending (h : TunnelsShut s) (l : Lane) (tag : Nat) : TunnelsShut (applyPending l tag s) := by
  unfold Machine.applyPending; split
  next slot _ =>
    have active : TunnelsShut (activate l slot s) := h.onLane (by simp) l
    have tagged : TunnelsShut ((activate l slot s).onLane l (fun i => { i with appliedTag := tag })) := active.onLane (by simp) l
    exact tagged.of_aside (by simp) (by simp)
  next => exact h

theorem TunnelsShut.admitIfReady (h : TunnelsShut s) (l : Lane) : TunnelsShut (admitIfReady l s) := by
  unfold Machine.admitIfReady; split
  next r _ _ =>
    refine when_elim h fun _ => ?_
    rw [admission_passes]
    refine TunnelsShut.clearTest (TunnelsShut.syncLane ?_ l) l
    exact (h.applyPending l r.tag).of_aside (by simp [passHead_eq]) (by simp [passHead_eq])
  next => exact h

/-- Outside RUN no part of the flow turns TUNNEL_READY on. -/
theorem TunnelsShut.flow (h : TunnelsShut s) : TunnelsShut (flow s) := by
  have selected : TunnelsShut (selectIfReady (handoff (gapsMade s))) := h.of_aside (by simp [gapsMade]) (by simp [gapsMade])
  have admitted := (selected.admitIfReady .a).admitIfReady .b
  rw [flow_eq, flowAfterHandoff]
  exact admitted.of_aside (by simp) (by simp)

theorem tunnelsShut_enterDrain (s : State) : TunnelsShut (enterDrain s) :=
  tunnelsShut_syncLanes (by simp [leaveHold, changeLine])

/-- The blades and the lanes as the entry to STANDBY leaves them to the stations. -/
def standbyLanes (s : State) : State :=
  syncLanes (bladeOff .b (bladeOff .a (removeWatches (setConveyors false (leaveHold (changeLine .standby s))))))

/-- The stations at the entry to STANDBY, before the checkpoint. -/
def standbyStations (s : State) : State := abandonTyer (abandonBagger (standbyLanes s))

theorem enterStandby_eq (s : State) : enterStandby s = crumbEntry s.lsc.line
    (when (s.lsc.line == .drain || s.lsc.line == .hold || s.lsc.line == .stop) requestCheckpoint (standbyStations s)) := rfl

theorem standbyLanes_line (s : State) : (standbyLanes s).lsc.line = .standby := by simp [standbyLanes, leaveHold, changeLine]

theorem tunnelsShut_enterStandby (s : State) : TunnelsShut (enterStandby s) := by
  have lanes : TunnelsShut (standbyLanes s) := tunnelsShut_syncLanes (by simp [leaveHold, changeLine])
  have stations : TunnelsShut (standbyStations s) := lanes.of_aside (by simp [standbyStations]) (by simp [standbyStations])
  rw [enterStandby_eq]
  exact (when_elim (P := TunnelsShut) stations fun _ => stations.of_aside (by simp) (by simp)).crumbEntry _

/-! ## LINE_HOLD -/

/-- The line in HOLD, its blades turned after their demand. -/
def heldLine (s : State) : State := bladeFollow .b (bladeFollow .a (enterHold s.lsc.line s))

theorem advanceLine_enterHold (clear : stopFault s = false) : advanceLine (enterHold s.lsc.line s) = heldLine s :=
  advanceLine_of_hold (by rw [enterHold_lsc]) (enterHold_clear _ clear)

theorem heldLine_lsc (s : State) : (heldLine s).lsc =
    { s.lsc with line := .hold, previous := some s.lsc.line, returnState := some s.lsc.line, holdHost := true } := by
  simp [heldLine, enterHold_lsc]

theorem conveys_heldLine (s : State) : Conveys false (heldLine s) :=
  (conveys_enterHold s.lsc.line s).of_same (by simp [heldLine]) (by simp [heldLine])

theorem heldLine_cycle (s : State) (l : Lane) : ((heldLine s).cc.get l).cycle ≠ .airWait := by
  simpa [heldLine] using enterHold_cycle s.lsc.line s l

theorem lineHold_holds (produces : s.lsc.line = .run ∨ s.lsc.line = .drain) (clear : stopFault s = false) :
    lineHoldOwn s = (⟨0, [4, 1] ++ u8 s.lsc.line.code ++ [1]⟩, heldLine s) := by
  have content : holdContent (heldLine s) = [4, 1] ++ u8 s.lsc.line.code ++ [1] := by
    rw [holdContent, holdSources, heldLine_lsc]; rfl
  have held := advanceLine_enterHold clear
  obtain line | line := produces <;> simp only [lineHoldOwn, line, answerOk] at held content ⊢ <;> rw [held, content]

theorem lineHold_already (line : s.lsc.line = .hold) :
    lineHoldOwn s = (⟨10, [4] ++ opt8 (s.lsc.returnState.map LineState.code) ++ flag s.lsc.holdHost⟩, s) := by
  simp only [lineHoldOwn, line, alreadyAnswer, holdContent, holdSources]; rfl

theorem lineHold_wrongState (line : s.lsc.line = .standby ∨ s.lsc.line = .spinUp ∨ s.lsc.line = .stop) :
    lineHoldOwn s = (⟨4, []⟩, s) := by
  obtain line | line | line := line <;> simp only [lineHoldOwn, line] <;> rfl

/-! ## LINE_DRAIN -/

/-- The line after the entry to DRAIN: in STANDBY at once with an empty pool. -/
def drainedLine (s : State) : State := when (poolEmpty s) enterStandby (bladeFollow .b (bladeFollow .a (enterDrain s)))

theorem advanceLine_enterDrain (clear : stopFault s = false) : advanceLine (enterDrain s) = drainedLine s := by
  have pool : poolEmpty (enterDrain s) = poolEmpty s := by simp [poolEmpty, State.records]
  rw [advanceLine_of_drain (by rw [enterDrain_lsc]) ((stopFault_congr (by simp)).trans clear), pool, drainedLine]

theorem drainedLine_line (s : State) : (drainedLine s).lsc.line = if poolEmpty s then .standby else .drain := by
  rw [drainedLine]
  cases poolEmpty s with
  | false => simp [enterDrain_lsc]
  | true => simp [enterStandby_lsc]

theorem tunnelsShut_drainedLine (s : State) : TunnelsShut (drainedLine s) :=
  when_elim (((tunnelsShut_enterDrain s).bladeFollow .a).bladeFollow .b) fun _ => tunnelsShut_enterStandby _

theorem drainedLine_replies (s : State) : (drainedLine s).ml.replies = s.ml.replies := by
  rw [drainedLine, when_replies (by simp)]; simp

theorem lineDrain_drains (line : s.lsc.line = .run) (clear : stopFault s = false) :
    lineDrainOwn s = (⟨0, [if poolEmpty s then 1 else 5]⟩, drainedLine s) := by
  have content : u8 (drainedLine s).lsc.line.code = [if poolEmpty s then 1 else 5] := by
    rw [drainedLine_line]; cases poolEmpty s <;> rfl
  simp only [lineDrainOwn, line, answerOk, advanceLine_enterDrain clear, content]

theorem lineDrain_already (line : s.lsc.line = .drain) : lineDrainOwn s = (⟨10, [5]⟩, s) := by
  simp only [lineDrainOwn, line, alreadyAnswer]; rfl

theorem lineDrain_wrongState (notRun : s.lsc.line ≠ .run) (notDrain : s.lsc.line ≠ .drain) : lineDrainOwn s = (⟨4, []⟩, s) := by
  unfold lineDrainOwn; split
  next line => exact absurd line notRun
  next line => exact absurd line notDrain
  next => rfl

/-! ## The obligation -/

theorem exec_lineHold (tok : Byte) (s : State) : exec (.lineHold tok) s = .next (takeRequest 0x21 tok lineHoldOwn flow s) := rfl

theorem exec_lineDrain (tok : Byte) (s : State) : exec (.lineDrain tok) s = .next (takeRequest 0x23 tok lineDrainOwn flow s) := rfl

/-- Settles O26: the two requests by their own answers. In HOLD the flow makes no gap and keeps the infeed belts off; outside
RUN it keeps TUNNEL_READY off. -/
theorem holdAndDrain : Obligations.HoldAndDrain := by
  intro tok s serving
  refine ⟨fun line => ?_, fun line => ?_, fun produces clear => ?_, fun line => ?_, fun notRun notDrain => ?_,
    fun line clear => ?_⟩
  · rw [exec_lineHold, takeRequest_refused serving (lineHold_already line) (show (10 : Byte) ≠ 0 by decide)]
  · rw [exec_lineHold, takeRequest_refused serving (lineHold_wrongState line) (by decide)]
  · rw [exec_lineHold, takeRequest_accepted serving (lineHold_holds produces clear)]
    have line : (heldLine s).lsc.line = .hold := by rw [heldLine_lsc]
    have conveys := conveys_heldLine s
    refine ⟨_, rfl, ?_, ?_, ?_, ?_, ?_, ?_, fun l => ⟨?_, ?_⟩, fun l => ?_⟩
    · simp [heldLine_lsc]
    · simp [heldLine_lsc]
    · simp [heldLine_lsc]
    · simp [heldLine_lsc]
    · simp [heldLine]
    · simp [conveys.outfeed]
    · simp [conveys.accum_get]
    · exact flow_infeed (by simp [producing, line]) l
    · exact flow_cycle (by simp [line]) (by simpa using heldLine_cycle s l)
  · rw [exec_lineDrain, takeRequest_refused serving (lineDrain_already line) (by decide)]
  · rw [exec_lineDrain, takeRequest_refused serving (lineDrain_wrongState notRun notDrain) (by decide)]
  · rw [exec_lineDrain, takeRequest_accepted serving (lineDrain_drains line clear)]
    have shut : TunnelsShut (queueReply 0x23 tok ⟨0, [if poolEmpty s then 1 else 5]⟩ (drainedLine s)) :=
      (tunnelsShut_drainedLine s).of_aside
    exact ⟨_, rfl, by simp [drainedLine_line], by simp [drainedLine_replies], shut.flow.shut⟩

end Sys2Proof.Machine
end

section
/-! PROOF. LINE_RESUME (R26, R128, R131). -/

namespace Sys2Proof.Machine

set_option Elab.async false

variable {s t : State}

/-! ## The resume out of HOLD -/

/-- The line back in RUN, its blades turned after their demand. -/
def resumedRun (s : State) : State := bladeFollow .b (bladeFollow .a (enterRun s))

theorem advanceLine_enterRun (clear : stopFault s = false) : advanceLine (enterRun s) = resumedRun s :=
  advanceLine_of_run (by rw [enterRun_lsc]) ((stopFault_congr (by simp)).trans clear)

/-- The line that a resume out of HOLD leaves. -/
def resumedLine (s : State) : State := if s.lsc.returnState = some .drain then drainedLine s else resumedRun s

/-- The line state that a resume out of HOLD leaves. -/
abbrev lineBack (s : State) : LineState :=
  if s.lsc.returnState = some .drain then (if poolEmpty s then .standby else .drain) else .run

theorem drainedLine_holdLeft (s : State) : (drainedLine s).lsc.returnState = none ∧ (drainedLine s).lsc.holdHost = false :=
  when_elim (P := fun t => t.lsc.returnState = none ∧ t.lsc.holdHost = false) (by simp [enterDrain_lsc])
    fun _ => by simp [enterStandby_lsc]

theorem conveys_drainedLine (s : State) : Conveys (!poolEmpty s) (drainedLine s) := by
  rw [drainedLine]
  cases poolEmpty s with
  | false => exact (conveys_enterDrain s).of_same
  | true => exact conveys_enterStandby _

theorem resumedLine_line (s : State) : (resumedLine s).lsc.line = lineBack s := by
  unfold resumedLine lineBack; split
  · exact drainedLine_line s
  · simp [resumedRun, enterRun_lsc]

theorem resumedLine_holdLeft (s : State) : (resumedLine s).lsc.returnState = none ∧ (resumedLine s).lsc.holdHost = false := by
  unfold resumedLine; split
  · exact drainedLine_holdLeft s
  · simp [resumedRun, enterRun_lsc]

theorem conveys_resumedLine (s : State) : Conveys (lineBack s != .standby) (resumedLine s) := by
  unfold resumedLine lineBack; split
  · have on : ((if poolEmpty s then .standby else .drain : LineState) != .standby) = !poolEmpty s := by
      cases poolEmpty s <;> rfl
    rw [on]
    exact conveys_drainedLine s
  · exact (conveys_enterRun s).of_same (by simp [resumedRun]) (by simp [resumedRun])

theorem resumedLine_replies (s : State) : (resumedLine s).ml.replies = s.ml.replies := by
  unfold resumedLine; split
  · exact drainedLine_replies s
  · simp [resumedRun]

theorem lineResume_resumes (line : s.lsc.line = .hold) (clear : stopFault s = false) :
    lineResumeOwn s = (⟨0, u8 (lineBack s).code ++ [0, 0, 0]⟩, resumedLine s) := by
  have moved : advanceLine (if s.lsc.returnState == some .drain then enterDrain s else enterRun s) = resumedLine s := by
    rw [resumedLine, apply_ite advanceLine, advanceLine_enterDrain clear, advanceLine_enterRun clear]
    simp only [beq_iff_eq]
  obtain ⟨returns, host⟩ := resumedLine_holdLeft s
  have content : holdContent (resumedLine s) = u8 (lineBack s).code ++ [0, 0, 0] := by
    rw [holdContent, holdSources, resumedLine_line, returns, host, List.append_assoc]; rfl
  simp only [lineResumeOwn, line, answerOk, moved, content]

/-! ## The discards of a resume in STOP (R26) -/

/-- Whether a resume discards what a station holds. -/
abbrev discards (station : Option LoafRecord) : Bool := station.any LoafRecord.stopDiscard

theorem discardBagger_stays (stays : discards s.tt.bagger = false) : discardBagger s = s := by
  unfold discardBagger; split
  next r holds => exact if_neg (by simpa [holds] using stays)
  next => rfl

theorem discardBagger_goes (goes : discards s.tt.bagger = true) :
    ∃ r, discardBagger s = countStopDiscard r (s.onTt (fun t => { t with bagger := none })) := by
  obtain ⟨r, holds, marked⟩ := (Option.any_eq_true _ _).1 goes
  exact ⟨r, by simp [discardBagger, holds, marked]⟩

theorem discardTyer_stays (stays : discards s.tt.tyer = false) : discardTyer s = s := by
  unfold discardTyer; split
  next r holds => exact if_neg (by simpa [holds] using stays)
  next => rfl

theorem discardTyer_goes (goes : discards s.tt.tyer = true) :
    ∃ r, discardTyer s = noticeCause .tyerJam .out false (countStopDiscard r (s.onTt (fun t => { t with tyer := none }))) := by
  obtain ⟨r, holds, marked⟩ := (Option.any_eq_true _ _).1 goes
  exact ⟨r, by simp [discardTyer, holds, marked]⟩

theorem discardBagger_bagger (s : State) :
    (discardBagger s).tt.bagger = if discards s.tt.bagger then none else s.tt.bagger := by
  split
  next goes =>
    obtain ⟨r, counted⟩ := discardBagger_goes goes
    rw [counted]; simp [countStopDiscard]
  next stays => rw [discardBagger_stays (eq_false_of_ne_true stays)]

theorem discardTyer_tyer (s : State) : (discardTyer s).tt.tyer = if discards s.tt.tyer then none else s.tt.tyer := by
  split
  next goes =>
    obtain ⟨r, counted⟩ := discardTyer_goes goes
    rw [counted]; simp [countStopDiscard]
  next stays => rw [discardTyer_stays (eq_false_of_ne_true stays)]

theorem bump_of_room {n : Nat} (room : n + 1 < 4294967296) : bump n = n + 1 := by
  unfold bump; omega

theorem discardBagger_rejected (room : s.tu.live.line.rejected + 1 < 4294967296) :
    (discardBagger s).tu.live.line.rejected = s.tu.live.line.rejected + if discards s.tt.bagger then 1 else 0 := by
  split
  next goes =>
    obtain ⟨r, counted⟩ := discardBagger_goes goes
    rw [counted, countStopDiscard, countRejected_rejected]
    exact bump_of_room room
  next stays => rw [discardBagger_stays (eq_false_of_ne_true stays)]; rfl

theorem discardTyer_rejected (room : s.tu.live.line.rejected + 1 < 4294967296) :
    (discardTyer s).tu.live.line.rejected = s.tu.live.line.rejected + if discards s.tt.tyer then 1 else 0 := by
  split
  next goes =>
    obtain ⟨r, counted⟩ := discardTyer_goes goes
    rw [counted, counter_of_lineCounts LineBlock.rejected (lineCounts_noticeCause ..), countStopDiscard, countRejected_rejected]
    exact bump_of_room room
  next stays => rw [discardTyer_stays (eq_false_of_ne_true stays)]; rfl

theorem movesFaults_resumeDiscard (s : State) : MovesFaults [.tyerJam] s (resumeDiscard s) := by
  refine MovesFaults.after (t := discardBagger s) ?_ (by simp)
  cases goes : discards (discardBagger s).tt.tyer with
  | false => rw [resumeDiscard, discardTyer_stays goes]; exact .of_same rfl
  | true =>
    obtain ⟨r, counted⟩ := discardTyer_goes goes
    rw [resumeDiscard, counted]
    exact (movesFaults_noticeCause (by decide) _ _ _).after (by simp [countStopDiscard])

theorem resumeDiscard_clear (clear : stopFault s = false) : stopFault (resumeDiscard s) = false :=
  (movesFaults_resumeDiscard s).clear (by
    intro k mem subj
    rw [List.mem_singleton] at mem
    rw [mem]; exact nofun) clear

/-! ## The resume out of STOP -/

/-- The line that a resume out of STOP leaves. -/
abbrev restarted (s : State) : State := advanceLine (enterSpinUp (resumeDiscard s))

theorem restarted_line (clear : stopFault s = false) : (restarted s).lsc.line = lineAfterSpinUp s := by
  have flags (m : Lane) : spun m (resumeDiscard s) = spun m s := spun_of_same (by simp) (by simp)
  rw [advanceLine_enterSpinUp_line (resumeDiscard_clear clear), lineAfterSpinUp, lineAfterSpinUp, flags, flags]

theorem restarted_holdLeft (clear : stopFault s = false) (returns : s.lsc.returnState = none) (host : s.lsc.holdHost = false) :
    (restarted s).lsc.returnState = none ∧ (restarted s).lsc.holdHost = false := by
  rw [restarted, advanceLine_enterSpinUp (resumeDiscard_clear clear)]
  exact when_elim (P := fun t => t.lsc.returnState = none ∧ t.lsc.holdHost = false) (by simp [enterSpinUp_lsc, returns, host])
    fun _ => by simp [enterRun_lsc]

/-- The line's restart itself counts nothing. -/
theorem restarted_tu (clear : stopFault s = false) : (restarted s).tu = (resumeDiscard s).tu := by
  rw [restarted, advanceLine_enterSpinUp (resumeDiscard_clear clear), when_tu (by simp)]
  simp

theorem restarted_tt (clear : stopFault s = false) : (restarted s).tt = (enterSpinUp (resumeDiscard s)).tt := by
  rw [restarted, advanceLine_enterSpinUp (resumeDiscard_clear clear), when_tt (by simp)]
  simp

theorem restarted_bagger (clear : stopFault s = false) :
    (restarted s).tt.bagger = if discards s.tt.bagger then none else s.tt.bagger := by
  rw [restarted_tt clear, ← discardBagger_bagger]
  simp [resumeDiscard]

theorem restarted_tyer (clear : stopFault s = false) :
    (restarted s).tt.tyer = if discards s.tt.tyer then none else s.tt.tyer := by
  have tyer : (discardBagger s).tt.tyer = s.tt.tyer := by simp
  have same : (restarted s).tt.tyer = (discardTyer (discardBagger s)).tt.tyer := by rw [restarted_tt clear]; simp [resumeDiscard]
  rw [same, discardTyer_tyer, tyer]

theorem restarted_rejected (clear : stopFault s = false) (room : s.tu.live.line.rejected + 2 < 4294967296) :
    (restarted s).tu.live.line.rejected = s.tu.live.line.rejected + (if discards s.tt.bagger then 1 else 0)
      + (if discards s.tt.tyer then 1 else 0) := by
  have first := discardBagger_rejected (s := s) (by omega)
  have tyer : (discardBagger s).tt.tyer = s.tt.tyer := by simp
  have room : (discardBagger s).tu.live.line.rejected + 1 < 4294967296 := by rw [first]; split <;> omega
  rw [restarted_tu clear, resumeDiscard, discardTyer_rejected room, first, tyer]

theorem lineResume_restarts (line : s.lsc.line = .stop) (clear : stopFault s = false) :
    lineResumeOwn s = (⟨0, holdContent (restarted s)⟩, restarted s) := by
  simp [lineResumeOwn, line, clear, answerOk]

theorem lineResume_wrongState
    (wrong : (s.lsc.line ≠ .hold ∧ s.lsc.line ≠ .stop) ∨ (s.lsc.line = .stop ∧ stopFault s = true)) :
    lineResumeOwn s = (⟨4, []⟩, s) := by
  obtain ⟨notHold, notStop⟩ | ⟨stop, faulted⟩ := wrong
  · unfold lineResumeOwn; split
    next line => exact absurd line notHold
    next line => exact absurd line notStop
    next => rfl
  · simp only [lineResumeOwn, stop, faulted]; rfl

/-! ## The obligation -/

theorem exec_lineResume (tok : Byte) (s : State) :
    exec (.lineResume tok) s = .next (takeRequest 0x22 tok lineResumeOwn flow s) := rfl

/-- Settles O27: out of HOLD the line goes on where it was; out of STOP it restarts after the discards. -/
theorem resumeEndsAHoldOrAStop : Obligations.ResumeEndsAHoldOrAStop := by
  intro tok s serving
  refine ⟨fun wrong => ?_, fun line clear => ?_, fun line clear => ?_⟩
  · rw [exec_lineResume, takeRequest_refused serving (lineResume_wrongState wrong) (by decide)]
  · obtain ⟨returns, host⟩ := resumedLine_holdLeft s
    have conveys := conveys_resumedLine s
    rw [exec_lineResume, takeRequest_accepted serving (lineResume_resumes line clear)]
    refine ⟨_, rfl, ?_, ?_, ?_, ?_, ?_, fun l => ?_⟩
    · simp [resumedLine_line]
    · simp [returns]
    · simp [host]
    · simp [resumedLine_replies]
    · simpa using conveys.outfeed
    · simpa using conveys.accum_get l
  · refine ⟨restarted s, ?_, restarted_line clear, restarted_holdLeft clear, restarted_bagger clear,
      restarted_tyer clear, ?_, ?_, ?_, ?_, restarted_rejected clear⟩
    · rw [exec_lineResume, takeRequest_accepted serving (lineResume_restarts line clear), holdContent, restarted_line clear]
      rfl
    all_goals rw [restarted_tt clear]; simp

end Sys2Proof.Machine
end

section
/-! PROOF. SAFETY_SAMPLE: the safety inputs and the shutdown latch (R132, R137, R138, R140). -/

namespace Sys2Proof.Machine

set_option Elab.async false

variable {s t : State} {k : FaultKind} {was now : Bool}

/-! ## A change of a taken state -/

theorem inputTaken_same (k : FaultKind) (b : Bool) (s : State) : inputTaken k b b s = s := by simp [inputTaken]

theorem inputTaken_changed (change : was ≠ now) :
    inputTaken k was now s = raiseKey .lineState (when now (raiseFault k .line none) (noticeCause k .line now s)) := by
  rw [inputTaken, bne_iff_ne.2 change, when_true]

theorem inputTaken_told (change : was ≠ now) : Reported .lineState (inputTaken k was now s) := by
  rw [inputTaken_changed change]
  exact reported_raised _ _

theorem movesFaults_inputTaken (k : FaultKind) (was now : Bool) (s : State) : MovesFaults [k] s (inputTaken k was now s) := by
  refine movesFaults_when (fun s => ?_) _ s
  have noticed : MovesFaults [k] s (noticeCause k .line now s) := movesFaults_noticeCause (by simp) _ _ _
  have raised := movesFaults_when (movesFaults_raiseFault (List.mem_singleton_self k) .line none) now (noticeCause k .line now s)
  exact (noticed.trans raised).before (by simp)

/-- An input that opens leaves its fault standing. -/
theorem inputTaken_stands (k : FaultKind) (s : State) : StandsOnly k .line none (inputTaken k false true s) := by
  rw [inputTaken_changed (by decide)]
  exact (raiseFault_standsOnly k .line none (noticeCause k .line true s)).congr (by simp)

/-- A safety input's cause follows its taken state. -/
theorem inputTaken_causes (quiet : k.raiseSetsCause = false) (change : was ≠ now) :
    (inputTaken k was now s).ft.causes = s.ft.causes.set k .line now := by
  have told (t : State) : (raiseKey .lineState t).ft = t.ft := by simp
  rw [inputTaken_changed change, told, ← noticeCause_causes]
  exact when_elim (P := fun t => t.ft.causes = (noticeCause k .line now s).ft.causes) rfl
    fun _ => by rw [raiseFault_causes, quiet]; rfl

/-! ## A sample of the inputs -/

theorem SafetyInput.sample_closed (i : SafetyInput) :
    (i.sample false).isOpen = (i.isOpen && !i.closedFor.any (fun n => decide (39 ≤ n))) := by
  obtain ⟨isOpen, closedFor⟩ := i
  cases isOpen with
  | false => rfl
  | true =>
    cases closedFor with
    | none => rfl
    | some n =>
      by_cases long : 39 ≤ n
      · simp [SafetyInput.sample, long]
      · simp [SafetyInput.sample, long]

section
variable (estopOpen guardOpen : Bool) (s : State)

theorem takeSafety_inputs : (takeSafety estopOpen guardOpen s).dou.estop = s.dou.estop.sample estopOpen ∧
    (takeSafety estopOpen guardOpen s).dou.guardIn = s.dou.guardIn.sample guardOpen := by
  unfold takeSafety
  exact when_elim (P := fun t => t.dou.estop = s.dou.estop.sample estopOpen ∧ t.dou.guardIn = s.dou.guardIn.sample guardOpen)
    ⟨rfl, rfl⟩ fun _ => ⟨rfl, rfl⟩

theorem takeSafety_outputs : { (takeSafety estopOpen guardOpen s).dou with
    estop := s.dou.estop, guardIn := s.dou.guardIn, pusher := s.dou.pusher } = s.dou := by
  unfold takeSafety
  exact when_elim (P := fun t => { t.dou with estop := s.dou.estop, guardIn := s.dou.guardIn, pusher := s.dou.pusher } = s.dou)
    rfl fun _ => rfl

theorem Pusher.latched_dead {p : Pusher} {deadTime : Nat} (on : p.extendOn = true ∨ p.retractOn = true) :
    (p.latched deadTime).dead = some deadTime := by
  unfold Pusher.latched; split
  · rfl
  next off => rw [if_pos (on.resolve_left off)]

/-- A latch that a sample sets starts the dead time of a valve that is on (R138, R140). -/
theorem takeSafety_pusher (clear : latch s = false) (set : latch (takeSafety estopOpen guardOpen s) = true) (l : Lane)
    (on : (s.dou.pusher.get l).extendOn = true ∨ (s.dou.pusher.get l).retractOn = true) :
    ((takeSafety estopOpen guardOpen s).dou.pusher.get l).dead = some s.params.deadTime := by
  obtain ⟨estop, guardIn⟩ := takeSafety_inputs estopOpen guardOpen s
  have sets : ((s.dou.estop.sample estopOpen).isOpen || (s.dou.guardIn.sample guardOpen).isOpen) = true := by
    rw [← estop, ← guardIn]; exact set
  have latches : takeSafety estopOpen guardOpen s = State.onDou
      (fun d => { d with pusher := ⟨d.pusher.a.latched s.params.deadTime, d.pusher.b.latched s.params.deadTime⟩ })
      (s.onDou (fun d => { d with estop := d.estop.sample estopOpen, guardIn := d.guardIn.sample guardOpen })) := by
    have comes : (!latch s && latch (s.onDou (fun d =>
        { d with estop := d.estop.sample estopOpen, guardIn := d.guardIn.sample guardOpen }))) = true := by
      rw [clear]; exact sets
    simp only [takeSafety, comes, when_true]
    rfl
  rw [latches]
  cases l with
  | a => exact Pusher.latched_dead on
  | b => exact Pusher.latched_dead on

/-- The inputs' sample with the emergency stop's change taken. -/
def estopTaken : State :=
  inputTaken .estop s.dou.estop.isOpen (s.dou.estop.sample estopOpen).isOpen (takeSafety estopOpen guardOpen s)

/-- The inputs' sample with both changes taken. -/
def safetyTaken : State := inputTaken .guardOpen s.dou.guardIn.isOpen (s.dou.guardIn.sample guardOpen).isOpen
  (estopTaken estopOpen guardOpen s)

theorem exec_safetySample : exec (.safetySample estopOpen guardOpen) s = .next (settle (safetyTaken estopOpen guardOpen s)) := by
  obtain ⟨estop, guardIn⟩ := takeSafety_inputs estopOpen guardOpen s
  have run : exec (.safetySample estopOpen guardOpen) s = .next (settle (inputTaken .guardOpen s.dou.guardIn.isOpen
    (inputTaken .estop s.dou.estop.isOpen (takeSafety estopOpen guardOpen s).dou.estop.isOpen
      (takeSafety estopOpen guardOpen s)).dou.guardIn.isOpen (inputTaken .estop s.dou.estop.isOpen
        (takeSafety estopOpen guardOpen s).dou.estop.isOpen (takeSafety estopOpen guardOpen s)))) := rfl
  have kept : (estopTaken estopOpen guardOpen s).dou = (takeSafety estopOpen guardOpen s).dou := by simp [estopTaken]
  rw [run, estop, ← estopTaken, kept, guardIn]
  rfl

theorem safetyTaken_dou : (safetyTaken estopOpen guardOpen s).dou = (takeSafety estopOpen guardOpen s).dou := by
  simp [safetyTaken, estopTaken]

theorem safetyTaken_inputs : (safetyTaken estopOpen guardOpen s).dou.estop = s.dou.estop.sample estopOpen ∧
    (safetyTaken estopOpen guardOpen s).dou.guardIn = s.dou.guardIn.sample guardOpen := by
  rw [safetyTaken_dou]
  exact takeSafety_inputs estopOpen guardOpen s

theorem safetyTaken_frame : { safetyTaken estopOpen guardOpen s with
    lic := s.lic, dou := s.dou, ft := s.ft, tu := s.tu
    ml := { (safetyTaken estopOpen guardOpen s).ml with reports := s.ml.reports } } = s := by
  rw [safetyTaken, estopTaken]
  apply State.eq_of_blocks
  case ml => exact MessageLink.eq_but_reports
  all_goals simp

end

/-! ## The faults of the two inputs (R132) -/

variable {estopOpen guardOpen : Bool}

/-- What the guard's input takes leaves the emergency stop's fault and cause. -/
theorem movesFaults_guardTaken : MovesFaults [.guardOpen] (estopTaken estopOpen guardOpen s) (safetyTaken estopOpen guardOpen s) :=
  movesFaults_inputTaken _ _ _ _

theorem safetyTaken_estopCause (change : s.dou.estop.isOpen ≠ (s.dou.estop.sample estopOpen).isOpen) :
    (safetyTaken estopOpen guardOpen s).ft.causes.estop = (s.dou.estop.sample estopOpen).isOpen := by
  have kept := movesFaults_guardTaken (s := s) (estopOpen := estopOpen) (guardOpen := guardOpen).causes .estop .line (by decide)
  exact kept.trans (by rw [estopTaken, inputTaken_causes rfl change]; rfl)

theorem safetyTaken_guardCause (change : s.dou.guardIn.isOpen ≠ (s.dou.guardIn.sample guardOpen).isOpen) :
    (safetyTaken estopOpen guardOpen s).ft.causes.guardOpen = (s.dou.guardIn.sample guardOpen).isOpen := by
  rw [safetyTaken, inputTaken_causes rfl change]; rfl

theorem safetyTaken_estopStands (closed : s.dou.estop.isOpen = false) (opens : estopOpen = true) :
    standsWith .estop .line none (safetyTaken estopOpen guardOpen s) = true := by
  have stands : StandsOnly .estop .line none (estopTaken estopOpen guardOpen s) := by
    rw [estopTaken, closed, opens]; exact inputTaken_stands _ _
  exact (stands.of_stays (movesFaults_guardTaken.pairs .estop .line (by decide))).standsWith

theorem safetyTaken_guardStands (closed : s.dou.guardIn.isOpen = false) (opens : guardOpen = true) :
    standsWith .guardOpen .line none (safetyTaken estopOpen guardOpen s) = true := by
  have stands : StandsOnly .guardOpen .line none (safetyTaken estopOpen guardOpen s) := by
    rw [safetyTaken, closed, opens]; exact inputTaken_stands _ _
  exact stands.standsWith

theorem safetyTaken_told (change : s.dou.estop.isOpen ≠ (s.dou.estop.sample estopOpen).isOpen ∨
    s.dou.guardIn.isOpen ≠ (s.dou.guardIn.sample guardOpen).isOpen) :
    Reported .lineState (safetyTaken estopOpen guardOpen s) := by
  obtain estop | guardIn := change
  · exact inputTaken_reported _ _ _ (inputTaken_told estop)
  · exact inputTaken_told guardIn

/-- Settles O52: the two inputs by their samples, their faults as each change is taken, and the pushers by the latch that comes. -/
theorem safetySampleSetsTheLatch : Obligations.SafetySampleSetsTheLatch := by
  intro estopOpen guardOpen s
  obtain ⟨estop, guardIn⟩ := safetyTaken_inputs estopOpen guardOpen s
  have dou := safetyTaken_dou estopOpen guardOpen s
  refine ⟨safetyTaken estopOpen guardOpen s, exec_safetySample estopOpen guardOpen s, ?_, ?_, ?_, ?_, rfl, ?_, ?_, ?_, ?_, ?_, ?_,
    safetyTaken_frame estopOpen guardOpen s, ?_⟩
  · intro opens
    rw [estop, opens]; rfl
  · intro opens
    rw [guardIn, opens]; rfl
  · intro closed
    rw [estop, closed, SafetyInput.sample_closed]
  · intro closed
    rw [guardIn, closed, SafetyInput.sample_closed]
  · intro closed opens
    have stands := safetyTaken_estopStands (guardOpen := guardOpen) closed opens
    have isOpen : (s.dou.estop.sample estopOpen).isOpen = true := by rw [opens]; rfl
    have cause := safetyTaken_estopCause (guardOpen := guardOpen) (by rw [closed, isOpen]; decide)
    exact ⟨stands, cause.trans isOpen, stopFault_of_standsWith stands rfl⟩
  · intro closed opens
    have stands := safetyTaken_guardStands (estopOpen := estopOpen) closed opens
    have isOpen : (s.dou.guardIn.sample guardOpen).isOpen = true := by rw [opens]; rfl
    have cause := safetyTaken_guardCause (estopOpen := estopOpen) (by rw [closed, isOpen]; decide)
    exact ⟨stands, cause.trans isOpen, stopFault_of_standsWith stands rfl⟩
  · intro wasOpen closes
    rw [estop] at closes
    exact (safetyTaken_estopCause (by rw [wasOpen, closes]; decide)).trans closes
  · intro wasOpen closes
    rw [guardIn] at closes
    exact (safetyTaken_guardCause (by rw [wasOpen, closes]; decide)).trans closes
  · intro change
    rw [estop, guardIn] at change
    exact safetyTaken_told (change.imp Ne.symm Ne.symm)
  · intro l clear set on
    rw [dou]
    exact takeSafety_pusher estopOpen guardOpen s clear (by rwa [latch, dou] at set) l on
  · rw [dou]
    exact takeSafety_outputs estopOpen guardOpen s

end Sys2Proof.Machine
end

section
/-! PROOF. LINE_STANDBY: the purge of the pool (R27), the entry to STANDBY and its checkpoint (R131, R170). -/

namespace Sys2Proof.Machine

set_option Elab.async false

variable {s t : State}

/-! ## The purge (R27) -/

/-- Every zone empty. -/
def poolFreed (s : State) : State := s.onTt (fun t => { t with
  approach := ⟨[], []⟩, blade := ⟨none, none⟩, accum := ⟨[], []⟩, bagger := none, tyer := none, exit := [] })

/-- The admitted ones of the freed records counted lost. -/
def lossesCounted (gone : List LoafRecord) (s : State) : State := gone.foldl (fun s r => when r.admitted (countLost r) s) s

/-- The quiet points of the blades that held a record. -/
def bladesQuiet (bladeA bladeB : Bool) (s : State) : State := when bladeB (quietPoint .b) (when bladeA (quietPoint .a) s)

theorem purgePool_eq (s : State) : purgePool s = syncLanes (noticeCause .tyerJam .out false
    (bladesQuiet s.tt.blade.a.isSome s.tt.blade.b.isSome (lossesCounted s.records (poolFreed s)))) := rfl

theorem lossesCounted_tt (gone : List LoafRecord) (s : State) : (lossesCounted gone s).tt = s.tt :=
  foldl_tt (by simp) gone s

theorem purgePool_records (s : State) : (purgePool s).records = [] := by
  have tt : (purgePool s).tt = (poolFreed s).tt := by
    rw [purgePool_eq, ← lossesCounted_tt s.records (poolFreed s)]; simp [bladesQuiet]
  rw [State.records, tt]; rfl

theorem purgePool_tu (s : State) : (purgePool s).tu = (noticeCause .tyerJam .out false
    (bladesQuiet s.tt.blade.a.isSome s.tt.blade.b.isSome (lossesCounted s.records (poolFreed s)))).tu := by
  rw [purgePool_eq]; simp

theorem bladesQuiet_tu (bladeA bladeB : Bool) (s : State) : (bladesQuiet bladeA bladeB s).tu = s.tu := by simp [bladesQuiet]

theorem bump_le (n : Nat) : bump n ≤ 4294967295 := Nat.min_le_right _ _

theorem lossesCounted_lost (gone : List LoafRecord) (bounded : s.tu.live.line.lost ≤ 4294967295) :
    (lossesCounted gone s).tu.live.line.lost = min (s.tu.live.line.lost + gone.countP (·.admitted)) 4294967295 := by
  induction gone generalizing s with
  | nil => exact (min_eq_left bounded).symm
  | cons r rest ih =>
    show (lossesCounted rest (when r.admitted (countLost r) s)).tu.live.line.lost = _
    cases admitted : r.admitted with
    | false => rw [when_false, ih bounded, List.countP_cons_of_neg (by simp [admitted])]
    | true =>
      have lost : (countLost r s).tu.live.line.lost = bump s.tu.live.line.lost := by rw [countLost_line]
      rw [when_true, ih (by rw [lost]; exact bump_le _), lost, List.countP_cons_of_pos (by simp [admitted])]
      unfold bump; omega

theorem purgePool_lost (bounded : s.tu.live.line.lost ≤ 4294967295) :
    (purgePool s).tu.live.line.lost = min (s.tu.live.line.lost + admittedCount s) 4294967295 := by
  rw [purgePool_tu, lost_of_lineCounts (lineCounts_noticeCause ..), bladesQuiet_tu]
  exact lossesCounted_lost (s := poolFreed s) s.records bounded

/-! ### The live shift's number -/

theorem TakesFaults.shift {n : Nat} (taken : TakesFaults n s t) : t.tu.live.shift = s.tu.live.shift := by
  have one (v : TotalsUnit) : v.faultCounted.live.shift = v.live.shift := by
    unfold TotalsUnit.faultCounted; split <;> rfl
  obtain ⟨i, -, taken⟩ := taken
  rw [taken]
  clear taken
  induction i with
  | zero => rfl
  | succ i ih => rw [Function.iterate_succ_apply', one, ih]

theorem countRecord_shift (r : LoafRecord) (f : Counters → Counters) (s : State) :
    (countRecord r f s).tu.live.shift = s.tu.live.shift := by
  unfold countRecord countProduct Totals.count State.onLive; split
  · simp only [onTu_tu]; (repeat' split) <;> rfl
  · rfl

theorem lossesCounted_shift (gone : List LoafRecord) (s : State) :
    (lossesCounted gone s).tu.live.shift = s.tu.live.shift := by
  induction gone generalizing s with
  | nil => rfl
  | cons r rest ih =>
    refine (ih (when r.admitted (countLost r) s)).trans ?_
    exact when_elim (P := fun t => t.tu.live.shift = s.tu.live.shift) rfl fun _ => countRecord_shift r _ _

theorem purgePool_shift (s : State) : (purgePool s).tu.live.shift = s.tu.live.shift := by
  rw [purgePool_tu, (takesFaults_noticeCause ..).shift, bladesQuiet_tu]
  exact lossesCounted_shift s.records (poolFreed s)

/-! ## The entry to STANDBY -/

theorem bladesOff_all (s : State) (l : Lane) :
    ((bladeOff .b (bladeOff .a s)).lic.get l).blade = .off ∧ (bladeOff .b (bladeOff .a s)).dou.blade.get l = false := by
  cases l with
  | a =>
    have kept := keepsLane_bladeOff (m := .a) (l := .b) (by decide) (bladeOff .a s)
    exact ⟨by rw [kept.lane, bladeOff_blade], by rw [kept.drive, bladeOff_drive]⟩
  | b => exact ⟨bladeOff_blade _ _, bladeOff_drive _ _⟩

theorem standbyLanes_blades (s : State) (l : Lane) :
    ((standbyLanes s).lic.get l).blade = .off ∧ (standbyLanes s).dou.blade.get l = false := by
  obtain ⟨blade, drive⟩ := bladesOff_all (removeWatches (setConveyors false (leaveHold (changeLine .standby s)))) l
  exact ⟨by simp [standbyLanes, blade], by simp [standbyLanes, drive]⟩

theorem enterStandby_blades (s : State) (l : Lane) :
    ((enterStandby s).lic.get l).blade = .off ∧ (enterStandby s).dou.blade.get l = false := by
  obtain ⟨blade, drive⟩ := standbyLanes_blades s l
  rw [enterStandby_eq]
  exact ⟨by simp [standbyStations, blade], by simp [standbyStations, drive]⟩

theorem enterStandby_watch (s : State) (e : TrackedEye) : (enterStandby s).tt.watch.get e = none := by
  have watch : (enterStandby s).tt.watch = ⟨none, none, none, none, none⟩ := by
    rw [enterStandby_eq]; simp [standbyStations, standbyLanes, removeWatches]
  rw [watch]
  cases e <;> rfl

theorem enterStandby_idle (s : State) : (enterStandby s).mbc.bagger = .idle ∧ (enterStandby s).tsc.tyer = .idle := by
  obtain ⟨-, -, -, -, quiet⟩ := abandonBagger_books (standbyLanes s)
  have bagger : (standbyStations s).mbc.bagger = .idle := by
    rw [standbyStations, (abandonTyer_books quiet).mbc, abandonBagger_eq, (airWithdraw_keepsBagWork (.inl rfl)).mbc,
      baggerCleared_bagger]
  have tyer : (standbyStations s).tsc.tyer = .idle := by simp [standbyStations, abandonTyer]
  rw [enterStandby_eq]
  exact ⟨by simp [bagger], by simp [tyer]⟩

/-! ## The checkpoint (R167, R170) -/

/-- The job of a checkpoint. -/
def checkpointJob (s : State) : Job := { kind := .checkpoint, number := some s.tu.live.shift, content := checkpointContent s }

theorem requestCheckpoint_rs (s : State) : (requestCheckpoint s).rs = if s.rs.writer.isNone then s.rs.begin (checkpointJob s)
    else { s.rs with queue := s.rs.queue.put (checkpointJob s) } := rfl

theorem requestCheckpoint_starts (idle : s.rs.writer = none) : ∃ w, (requestCheckpoint s).rs.writer = some w ∧
    w.job.kind = .checkpoint ∧ w.job.number = some s.tu.live.shift ∧ w.area = 24 ∧ w.programs = 0 := by
  have rs : (requestCheckpoint s).rs = s.rs.begin (checkpointJob s) := by rw [requestCheckpoint_rs, idle]; rfl
  exact ⟨_, by rw [rs]; rfl, rfl, rfl, rfl, rfl⟩

theorem requestCheckpoint_waits (busy : s.rs.writer ≠ none) : (requestCheckpoint s).rs.writer = s.rs.writer ∧
    ∃ j, (requestCheckpoint s).rs.queue.checkpoint = some j ∧ j.kind = .checkpoint ∧ j.number = some s.tu.live.shift := by
  have rs : (requestCheckpoint s).rs = { s.rs with queue := s.rs.queue.put (checkpointJob s) } := by
    rw [requestCheckpoint_rs, if_neg (by simpa using busy)]
  exact ⟨by rw [rs], checkpointJob s, by rw [rs]; rfl, rfl, rfl⟩

theorem enterStandby_rs (leaves : s.lsc.line = .hold ∨ s.lsc.line = .stop) :
    (enterStandby s).rs = (requestCheckpoint (standbyStations s)).rs := by
  have due : (s.lsc.line == .drain || s.lsc.line == .hold || s.lsc.line == .stop) = true := by
    obtain line | line := leaves <;> rw [line] <;> rfl
  rw [enterStandby_eq, due, when_true]
  simp

theorem standbyStations_kept (s : State) : (standbyStations s).rs = s.rs ∧ (standbyStations s).tu = s.tu := by
  obtain ⟨-, -, -, tu, quiet⟩ := abandonBagger_books (standbyLanes s)
  refine ⟨by simp [standbyStations, standbyLanes], ?_⟩
  rw [standbyStations, (abandonTyer_books quiet).tu, tu]
  simp [standbyLanes]

/-! ## LINE_STANDBY -/

/-- The line in STANDBY, its pool purged. -/
def purgedLine (s : State) : State := enterStandby (purgePool s)

theorem purgedLine_lsc (s : State) : (purgedLine s).lsc =
    { s.lsc with line := .standby, previous := some s.lsc.line, returnState := none, holdHost := false } := by
  rw [purgedLine, enterStandby_lsc]; simp

theorem purgedLine_records (s : State) : (purgedLine s).records = [] := by
  have same : (purgedLine s).records = (purgePool s).records := by simp [purgedLine, State.records, Tracking.records]
  rw [same, purgePool_records]

theorem purgedLine_tu (s : State) : (purgedLine s).tu = (purgePool s).tu := by
  obtain ⟨-, -, -, tu⟩ := enterStandby_books (purgePool s)
  exact tu

section
variable (leaves : s.lsc.line = .hold ∨ s.lsc.line = .stop)
include leaves

theorem purgedLine_rs : (purgedLine s).rs = (requestCheckpoint (standbyStations (purgePool s))).rs :=
  enterStandby_rs (by simpa using leaves)

theorem purgedLine_checkpointStarts (idle : s.rs.writer = none) : ∃ w, (purgedLine s).rs.writer = some w ∧
    w.job.kind = .checkpoint ∧ w.job.number = some s.tu.live.shift ∧ w.area = 24 ∧ w.programs = 0 := by
  obtain ⟨rs, tu⟩ := standbyStations_kept (purgePool s)
  have starts := requestCheckpoint_starts (s := standbyStations (purgePool s)) (by rw [rs]; simpa using idle)
  rwa [← purgedLine_rs leaves, tu, purgePool_shift] at starts

theorem purgedLine_checkpointWaits (busy : s.rs.writer ≠ none) : (purgedLine s).rs.writer = s.rs.writer ∧
    ∃ j, (purgedLine s).rs.queue.checkpoint = some j ∧ j.kind = .checkpoint ∧ j.number = some s.tu.live.shift := by
  obtain ⟨rs, tu⟩ := standbyStations_kept (purgePool s)
  have kept : (standbyStations (purgePool s)).rs = s.rs := by rw [rs]; simp
  have waits := requestCheckpoint_waits (s := standbyStations (purgePool s)) (by rwa [kept])
  rwa [← purgedLine_rs leaves, tu, purgePool_shift, kept] at waits

theorem lineStandby_purges : lineStandbyOwn s = (⟨0, [1]⟩, purgedLine s) := by
  have content : u8 (enterStandby (purgePool s)).lsc.line.code = [1] := by rw [enterStandby_lsc]; rfl
  obtain line | line := leaves <;> simp only [lineStandbyOwn, line, answerOk, content, purgedLine]

end

theorem lineStandby_wrongState (notHold : s.lsc.line ≠ .hold) (notStop : s.lsc.line ≠ .stop) :
    lineStandbyOwn s = (⟨4, []⟩, s) := by
  unfold lineStandbyOwn; split
  next line => exact absurd line notHold
  next line => exact absurd line notStop
  next => rfl

theorem exec_lineStandby (tok : Byte) (s : State) :
    exec (.lineStandby tok) s = .next (takeRequest 0x24 tok lineStandbyOwn flow s) := rfl

/-- Settles O28: the purge frees the pool and counts its losses, and the entry to STANDBY brings the line to rest and requests
the checkpoint. -/
theorem standbyPurgesAndQueuesACheckpoint : Obligations.StandbyPurgesAndQueuesACheckpoint := by
  intro tok s serving
  refine ⟨fun notHold notStop => ?_, fun leaves => ⟨purgedLine s, ?_, ?_⟩⟩
  · rw [exec_lineStandby, takeRequest_refused serving (lineStandby_wrongState notHold notStop) (by decide)]
  · rw [exec_lineStandby, takeRequest_accepted serving (lineStandby_purges leaves)]
  have lsc := purgedLine_lsc s
  have conveys : Conveys false (purgedLine s) := conveys_enterStandby _
  obtain ⟨bagger, tyer⟩ := enterStandby_idle (purgePool s)
  refine ⟨by rw [lsc], by rw [lsc], by rw [lsc], by rw [lsc], purgedLine_records s, ?_, ?_, enterStandby_watch _, fun bounded => ?_,
    fun l => ?_, conveys.outfeed, bagger, tyer, purgedLine_checkpointStarts leaves, purgedLine_checkpointWaits leaves⟩
  · simp [purgedLine]
  · simp [purgedLine]
  · rw [purgedLine_tu, purgePool_lost bounded]
  · obtain ⟨blade, drive⟩ := enterStandby_blades (purgePool s) l
    exact ⟨blade, drive, conveys.accum_get l⟩

end Sys2Proof.Machine
end

section
/-! PROOF. Every step keeps the service order of the Fault Table (R143, R146, R149). -/

namespace Sys2Proof.Machine

set_option Elab.async false

/-- Settles O7: of the three orders that every command keeps, the Fault Table's alone is spoken of. A raise places a new pair by
its urgency, and a removal presents the most urgent pending entry. -/
theorem everyStepKeepsTheServiceOrder : Obligations.EveryStepKeepsTheServiceOrder := by
  intro s t safe run
  have served : Ordered { pushers := false, faults := true, reports := false } s :=
    ⟨nofun, fun _ => (faultsSafe_iff s).1 safe, nofun⟩
  exact (faultsSafe_iff t).2 ((ordered_step served run).faults rfl)

end Sys2Proof.Machine
end

section
/-! PROOF. A raise (R144, R145): where the stamped entry is placed, what the lanes' FAULT_HOLD flags become and which of them are
told, and what a raise leaves alone. -/

namespace Sys2Proof.Machine

set_option Elab.async false

variable {s : State} {e p : FaultEntry} {rest : List FaultEntry} {k : FaultKind} {subj : Subject}

/-! ## Report keys (R182) -/

/-- The report queue after a raise of a key. -/
def keyQueued (q : List ReportKey) (key : ReportKey) : List ReportKey := if key ∈ q then q else q ++ [key]

theorem raiseKey_reports (key : ReportKey) (s : State) : (raiseKey key s).ml.reports = keyQueued s.ml.reports key := by
  unfold raiseKey keyQueued; split <;> rfl

theorem tableChanged_reports (s : State) : (tableChanged s).ml.reports = keyQueued s.ml.reports .faultChange :=
  raiseKey_reports _ _

theorem tableChanged_changeNumber (s : State) : (tableChanged s).ft.changeNumber = s.ft.changeNumber + 1 := by
  simp [tableChanged]

theorem tableChanged_stack (s : State) : (tableChanged s).ft.stack = s.ft.stack := by simp [tableChanged]

theorem tableChanged_lic (s : State) : (tableChanged s).lic = s.lic := by simp

theorem tableChanged_waiting (s : State) : (tableChanged s).ft.waiting = s.ft.waiting := by simp [tableChanged]

/-! ## FAULT_HOLD told (R66, R147) -/

/-- Whether a lane's FAULT_HOLD flag stands behind its hold count. -/
def holdMoves (s : State) (l : Lane) : Bool := (s.lic.get l).closure.faultHold != faultHold l s

theorem syncHold_reports (l : Lane) (s : State) : (syncHold l s).ml.reports =
    if holdMoves s l then keyQueued s.ml.reports (.laneState l) else s.ml.reports := by
  unfold syncHold
  change (when (holdMoves s l) _ _).ml.reports = _
  cases holdMoves s l
  · rfl
  · exact raiseKey_reports _ _

theorem syncHolds_reports (s : State) : (syncHolds s).ml.reports =
    (([Lane.a, .b].filter (holdMoves s)).map ReportKey.laneState).foldl keyQueued s.ml.reports := by
  have b : holdMoves (syncHold .a s) .b = holdMoves s .b := by
    unfold holdMoves
    rw [syncHold_lic_other (by decide), faultHold_congr (s := s) (by simp)]
  rw [syncHolds, syncHold_reports, b, syncHold_reports]
  cases ha : holdMoves s .a <;> cases hb : holdMoves s .b <;> simp [ha, hb]

/-! ## The place of a new entry (R146) -/

/-- An entry on top of the stack, counted as a fault taken. -/
structure OnTop (e : FaultEntry) (s t : State) : Prop where
  stack : t.ft.stack = e :: s.ft.stack
  waiting : t.ft.waiting = s.ft.waiting
  taken : t.tu = s.tu.faultCounted

/-- An entry at the end of the pending ones. -/
structure AtEnd (e : FaultEntry) (s t : State) : Prop where
  stack : t.ft.stack = s.ft.stack
  waiting : t.ft.waiting = s.ft.waiting ++ [e]
  taken : t.tu = s.tu

theorem onTop_countFault {t : State} (stack : t.ft.stack = e :: s.ft.stack) (waiting : t.ft.waiting = s.ft.waiting)
    (tu : t.tu = s.tu) : OnTop e s (countFault t) :=
  ⟨by simpa using stack, by simpa using waiting, by rw [countFault_tu, tu]⟩

theorem onTop_placeEntry_of_empty (empty : s.ft.stack = []) : OnTop e s (placeEntry e s) := by
  simp only [placeEntry, empty]
  exact onTop_countFault (by rw [empty]; rfl) rfl rfl

theorem onTop_placeEntry_of_urgent (stack : s.ft.stack = p :: rest) (urgent : e.priority < p.priority) :
    OnTop e s (placeEntry e s) := by
  simp only [placeEntry, stack, if_pos urgent]
  exact onTop_countFault (by rw [stack]; rfl) rfl rfl

theorem atEnd_placeEntry (stack : s.ft.stack = p :: rest) (later : p.priority ≤ e.priority) : AtEnd e s (placeEntry e s) := by
  simp only [placeEntry, stack, if_neg (Nat.not_lt.2 later)]
  exact ⟨rfl, rfl, rfl⟩

/-! ## The raise of a new pair (R144) -/

/-- The state with the raise counted and the cause flag set by R142's table. -/
def raiseCounted (k : FaultKind) (subj : Subject) (s : State) : State :=
  s.onFt (fun t => { t with raiseCounter := t.raiseCounter + 1,
                            causes := if k.raiseSetsCause then t.causes.set k subj true else t.causes })

/-- The state with a new entry of the pair in its place. -/
def raisePlaced (k : FaultKind) (subj : Subject) (detail : Option Nat) (s : State) : State :=
  placeEntry (stampEntry k subj detail s) (raiseCounted k subj s)

theorem raisePlaced_keeps (k : FaultKind) (subj : Subject) (detail : Option Nat) (s : State) :
    (raisePlaced k subj detail s).lic = s.lic ∧ (raisePlaced k subj detail s).ml = s.ml := by
  simp [raisePlaced, raiseCounted]

section
variable (new : standing k subj s = false) (detail : Option Nat)
include new

theorem raiseFault_new : raiseFault k subj detail s = tableChanged (syncHolds (raisePlaced k subj detail s)) := by
  unfold raiseFault; dsimp only
  rw [new]; rfl

theorem raiseFault_placed : (raiseFault k subj detail s).ft.stack = (raisePlaced k subj detail s).ft.stack ∧
    (raiseFault k subj detail s).ft.waiting = (raisePlaced k subj detail s).ft.waiting ∧
    (raiseFault k subj detail s).tu = (raisePlaced k subj detail s).tu := by
  rw [raiseFault_new new, tableChanged_stack, tableChanged_waiting, syncHolds_table]
  exact ⟨rfl, rfl, by simp⟩

theorem onTop_raiseFault (top : OnTop (stampEntry k subj detail s) (raiseCounted k subj s) (raisePlaced k subj detail s)) :
    OnTop (stampEntry k subj detail s) s (raiseFault k subj detail s) := by
  obtain ⟨stack, waiting, tu⟩ := raiseFault_placed new detail
  exact ⟨stack.trans top.stack, waiting.trans top.waiting, tu.trans top.taken⟩

theorem atEnd_raiseFault (pending : AtEnd (stampEntry k subj detail s) (raiseCounted k subj s) (raisePlaced k subj detail s)) :
    AtEnd (stampEntry k subj detail s) s (raiseFault k subj detail s) := by
  obtain ⟨stack, waiting, tu⟩ := raiseFault_placed new detail
  exact ⟨stack.trans pending.stack, waiting.trans pending.waiting, tu.trans pending.taken⟩

theorem raiseFault_holds (l : Lane) : ((raiseFault k subj detail s).lic.get l).closure.faultHold =
    faultHold l (raisePlaced k subj detail s) := by
  rw [raiseFault_new new, tableChanged_lic, syncHolds_faultHold]

/-- A raise leaves each lane's FAULT_HOLD flag as the standing entries give it, and nothing else of the lane moves (R147). -/
theorem raiseFault_lane (l : Lane) : (raiseFault k subj detail s).lic.get l = { s.lic.get l with
    closure := { (s.lic.get l).closure with
      faultHold := (raiseFault k subj detail s).ft.entries.any (fun f => actionOf f.kind f.subject == .laneHold l) } } := by
  have entries : (raiseFault k subj detail s).ft.entries = (raisePlaced k subj detail s).ft.entries := by
    rw [raiseFault_new new, tableChanged_entries, syncHolds_table]
  rw [entries, ← faultHold_eq, ← raiseFault_holds new]
  exact (eq_of_holdAside (raiseFault_holdAside l s k subj detail).symm).symm

/-- The lanes whose flag moves are told before the change of the table (R144, step 5). -/
theorem raiseFault_told : (raiseFault k subj detail s).ml.reports = (([Lane.a, .b].filter (fun l =>
      (s.lic.get l).closure.faultHold != ((raiseFault k subj detail s).lic.get l).closure.faultHold)).map ReportKey.laneState
    ++ [ReportKey.faultChange]).foldl keyQueued s.ml.reports := by
  obtain ⟨lic, ml⟩ := raisePlaced_keeps k subj detail s
  have moves : (fun l => (s.lic.get l).closure.faultHold != ((raiseFault k subj detail s).lic.get l).closure.faultHold) =
      holdMoves (raisePlaced k subj detail s) := by
    funext l
    rw [raiseFault_holds new, holdMoves, lic]
  rw [moves, raiseFault_new new, tableChanged_reports, syncHolds_reports, ml, List.foldl_append]
  rfl

end

/-! ## The raise of a standing pair (R145) -/

theorem refreshList_kinds (e : FaultEntry) (l : List FaultEntry) :
    (refreshList e l).map FaultEntry.kind = l.map FaultEntry.kind := by
  have kinds (m : List FaultEntry) : m.map FaultEntry.kind = (m.map FaultEntry.pair).map Prod.fst := by
    rw [List.map_map]; rfl
  rw [kinds, refreshList_pair, ← kinds]

theorem raiseFault_refreshes (old : standing k subj s = true) (detail : Option Nat) :
    raiseFault k subj detail s = tableChanged ((raiseCounted k subj s).onFt (fun t => { t with
      stack := refreshList (stampEntry k subj detail s) t.stack
      waiting := refreshList (stampEntry k subj detail s) t.waiting })) := by
  unfold raiseFault; dsimp only
  rw [old]; rfl

/-- A refresh leaves each entry's kind in its place, takes no fault and moves no lane. -/
theorem raiseFault_inPlace (old : standing k subj s = true) (detail : Option Nat) :
    (raiseFault k subj detail s).ft.stack.map FaultEntry.kind = s.ft.stack.map FaultEntry.kind ∧
    (raiseFault k subj detail s).ft.waiting.map FaultEntry.kind = s.ft.waiting.map FaultEntry.kind ∧
    (raiseFault k subj detail s).tu = s.tu ∧ (raiseFault k subj detail s).lic = s.lic := by
  rw [raiseFault_refreshes old, tableChanged_stack, tableChanged_waiting]
  exact ⟨refreshList_kinds _ _, refreshList_kinds _ _, by simp [raiseCounted], by simp [raiseCounted]⟩

/-! ## What every raise does -/

theorem raiseFault_numbers (k : FaultKind) (subj : Subject) (detail : Option Nat) (s : State) :
    (raiseFault k subj detail s).ft.raiseCounter = s.ft.raiseCounter + 1 ∧
    (raiseFault k subj detail s).ft.changeNumber = s.ft.changeNumber + 1 := by
  cases old : standing k subj s
  · rw [raiseFault_new old, tableChanged_changeNumber]
    simp [raisePlaced, raiseCounted]
  · rw [raiseFault_refreshes old, tableChanged_changeNumber]
    simp [raiseCounted]

theorem raiseFault_faultChange (k : FaultKind) (subj : Subject) (detail : Option Nat) (s : State) :
    .faultChange ∈ (raiseFault k subj detail s).ml.reports := by
  unfold raiseFault tableChanged
  exact raiseKey_mem _ _

/-- A pair of which none comes and not all go stands as before. -/
theorem PairStays.standing_eq {t : State} (stays : PairStays k subj s t) : standing k subj t = standing k subj s := by
  rw [Bool.eq_iff_iff]
  refine ⟨fun stands => ?_, stays.stays⟩
  obtain ⟨f, left, pair⟩ := List.any_eq_true.1 stands
  exact List.any_eq_true.2 ⟨f, stays.old f left pair, pair⟩

theorem beq_pair_of_other {j : FaultKind} {q : Subject} (other : ¬(k = j ∧ subj = q)) : (j == k && q == subj) = false := by
  simpa using fun kind subject => other ⟨kind.symm, subject.symm⟩

/-- After a raise the pair stands, and of every other pair what stood. -/
theorem raiseFault_standing (k : FaultKind) (subj : Subject) (detail : Option Nat) (s : State) (j : FaultKind) (q : Subject) :
    standing j q (raiseFault k subj detail s) = (standing j q s || (j == k && q == subj)) := by
  by_cases same : k = j ∧ subj = q
  · obtain ⟨rfl, rfl⟩ := same
    rw [standing_of_standsWith (standsWith_raiseFault k subj detail s)]
    simp
  · rw [(pairStays_raiseFault same detail s).standing_eq, beq_pair_of_other same, Bool.or_false]

theorem raiseFault_frame (k : FaultKind) (subj : Subject) (detail : Option Nat) (s : State) :
    { raiseFault k subj detail s with
      ft := s.ft, tu := s.tu, lic := s.lic, ml := { (raiseFault k subj detail s).ml with reports := s.ml.reports } } = s := by
  apply State.eq_of_blocks
  case ml => exact MessageLink.eq_but_reports
  all_goals simp

/-- Settles O57: a new pair's entry by the place its urgency gives it, a standing pair's by its refresh. -/
theorem raiseCreatesOrRefreshesAnEntry : Obligations.RaiseCreatesOrRefreshesAnEntry := by
  intro k subj detail s
  obtain ⟨raised, changed⟩ := raiseFault_numbers k subj detail s
  have causes := raiseFault_causes k subj detail s
  refine ⟨stampEntry_mem_raiseFault k subj detail s, raised, changed, raiseFault_faultChange k subj detail s,
    raiseFault_standing k subj detail s, fun sets => ?_, fun keeps => ?_, fun new => ⟨fun empty => ?_,
      fun p rest stack urgent => ?_, fun p rest stack later => ?_, raiseFault_lane new detail, raiseFault_told new detail⟩,
    fun old => raiseFault_inPlace old detail, raiseFault_frame k subj detail s⟩
  · rw [causes, if_pos sets]
  · rw [causes, if_neg (Bool.eq_false_iff.1 keeps)]
  · obtain ⟨onTop, waiting, taken⟩ := onTop_raiseFault new detail (onTop_placeEntry_of_empty empty)
    exact ⟨by rw [onTop, empty]; rfl, waiting, taken⟩
  · obtain ⟨onTop, waiting, taken⟩ := onTop_raiseFault new detail (onTop_placeEntry_of_urgent stack urgent)
    exact ⟨by rw [onTop, stack]; rfl, waiting, taken⟩
  · obtain ⟨kept, waiting, taken⟩ := atEnd_raiseFault new detail (atEnd_placeEntry stack later)
    exact ⟨kept, waiting, taken⟩

end Sys2Proof.Machine
end

section
/-! PROOF. FAULT_CLEAR (R149, R150): which pending entry is the best, what the removal of the presented one leaves, and the
owner's answers. -/

namespace Sys2Proof.Machine

set_option Elab.async false

variable {s : State} {e b : FaultEntry} {rest : List FaultEntry} {k : FaultKind} {subj : Subject}

/-! ## The oldest of the most urgent (R143, R149) -/

/-- Between raises less than half the range behind a moment, the signed distance is the difference of their ages. -/
theorem dist_eq_ages {p q now : BitVec 32} (hp : 0 < dist p now) (hq : 0 < dist q now) : dist p q = dist p now - dist q now := by
  have apart : q - p = (now - p) - (now - q) := by bv_omega
  have page : 2 * (now - p).toInt < 2 ^ 32 := BitVec.two_mul_toInt_lt
  have qage : 2 * (now - q).toInt < 2 ^ 32 := BitVec.two_mul_toInt_lt
  unfold dist at hp hq ⊢
  rw [apart, BitVec.toInt_sub]
  exact Int.bmod_eq_of_le (by omega) (by omega)

/-- Of entries less than half the range old, the best is the oldest of its priority. -/
theorem bestPending_oldest {now : BitVec 32} {l : List FaultEntry} (recent : ∀ f ∈ l, 0 < dist f.seq now)
    (best : bestPending l = some b) : ∀ f ∈ l, f.priority = b.priority → dist f.seq now ≤ dist b.seq now := by
  induction l generalizing b with
  | nil => exact nofun
  | cons x l ih =>
    obtain ⟨headRecent, tailRecent⟩ := List.forall_mem_cons.1 recent
    rw [bestPending] at best
    cases found : bestPending l with
    | none =>
      obtain rfl := bestPending_none found
      obtain rfl := Option.some.inj best
      simp
    | some g =>
      have older := ih tailRecent found
      obtain ⟨inTail, urgent⟩ := bestPending_spec found
      have ages := dist_eq_ages (tailRecent g inTail) headRecent
      simp only [found] at best
      split at best
      next before =>
        obtain rfl := Option.some.inj best
        simp only [FaultEntry.before, Bool.or_eq_true, Bool.and_eq_true, decide_eq_true_eq, beq_iff_eq] at before
        refine List.forall_mem_cons.2 ⟨fun same => ?_, older⟩
        omega
      next notBefore =>
        obtain rfl := Option.some.inj best
        simp only [FaultEntry.before, Bool.or_eq_true, Bool.and_eq_true, decide_eq_true_eq, beq_iff_eq, not_or] at notBefore
        refine List.forall_mem_cons.2 ⟨fun _ => Int.le_refl _, fun f inRest same => ?_⟩
        have below := urgent f inRest
        have olderThanRest := older f inRest (by omega)
        omega

/-! ## The next presentation (R149) -/

/-- No pending entry is more urgent than the top of a stack. -/
def Quiet (waiting stack : List FaultEntry) : Prop :=
  ∀ f ∈ waiting, ∃ top, stack.head? = some top ∧ top.priority ≤ f.priority

theorem presentNext_of_quiet (quiet : Quiet s.ft.waiting s.ft.stack) : presentNext s = s := by
  unfold presentNext; split
  next best empty =>
    obtain ⟨top, isTop, -⟩ := quiet _ (bestPending_mem best)
    rw [empty] at isTop
    exact absurd isTop nofun
  next best stack =>
    obtain ⟨top, isTop, below⟩ := quiet _ (bestPending_mem best)
    rw [stack, List.head?_cons, Option.some.injEq] at isTop
    exact if_neg (Nat.not_lt.2 (isTop ▸ below))
  next => rfl

theorem presentNext_of_urgent (urgent : ¬Quiet s.ft.waiting s.ft.stack) :
    ∃ b, bestPending s.ft.waiting = some b ∧ presentNext s = present b s := by
  cases best : bestPending s.ft.waiting with
  | none => exact absurd (fun f waits => by rw [bestPending_none best] at waits; exact absurd waits nofun) urgent
  | some b =>
    refine ⟨b, rfl, ?_⟩
    unfold presentNext
    rw [best]
    cases stack : s.ft.stack with
    | nil => rfl
    | cons top rest =>
      refine if_pos (Nat.lt_of_not_le fun below => urgent fun f waits => ⟨top, by rw [stack]; rfl, ?_⟩)
      exact Nat.le_trans below ((bestPending_spec best).2 f waits)

/-- Where each pair stands once, the entries of the other pairs are the other entries. -/
theorem filter_pair_eq_erase {l : List FaultEntry} (once : (l.map FaultEntry.pair).Nodup) (mem : b ∈ l) :
    l.filter (fun f => !f.isPair b.kind b.subject) = l.erase b := by
  rw [once.of_map.erase_eq_filter]
  refine List.filter_congr fun f inList => ?_
  rw [Bool.eq_iff_iff, Bool.not_eq_true', bne_iff_ne, Bool.eq_false_iff, ne_eq, FaultEntry.isPair_iff]
  exact not_congr ⟨fun pair => List.inj_on_of_nodup_map once inList mem pair, fun same => by rw [same]; rfl⟩

/-! ## The removal of the presented entry (R149) -/

/-- The state with the presented entry out of the table and out of its hold. -/
def presentedGone (rest : List FaultEntry) (s : State) : State := syncHolds (s.onFt (fun t => { t with stack := rest }))

theorem presentedGone_table (rest : List FaultEntry) (s : State) : (presentedGone rest s).ft = { s.ft with stack := rest } := by
  rw [presentedGone, syncHolds_table]; rfl

/-- In a table with one entry for each pair, the removal takes the presented entry alone. -/
theorem removeEntry_presented (served : Served (e :: rest) s.ft.waiting) (stack : s.ft.stack = e :: rest) :
    removeEntry e.kind e.subject s = presentNext (presentedGone rest s) := by
  have itself : e.isPair e.kind e.subject = true := by simp [FaultEntry.isPair]
  obtain ⟨once, -, -⟩ := served
  rw [List.cons_append, List.map_cons, List.nodup_cons] at once
  have others (f : FaultEntry) (left : f ∈ rest ++ s.ft.waiting) : (!f.isPair e.kind e.subject) = true := by
    rw [Bool.not_eq_true', Bool.eq_false_iff, ne_eq, FaultEntry.isPair_iff]
    exact fun pair => once.1 (List.mem_map.2 ⟨f, left, pair⟩)
  have top : s.ft.stack.head?.any (FaultEntry.isPair e.kind e.subject) = true := by rw [stack]; exact itself
  have stackLeft : s.ft.stack.filter (fun f => !f.isPair e.kind e.subject) = rest := by
    rw [stack, List.filter_cons_of_neg (by simp [itself])]
    exact List.filter_eq_self.2 fun f inRest => others f (List.mem_append_left _ inRest)
  have waitingLeft : s.ft.waiting.filter (fun f => !f.isPair e.kind e.subject) = s.ft.waiting :=
    List.filter_eq_self.2 fun f waits => others f (List.mem_append_right _ waits)
  simp only [removeEntry, top, when_true, presentedGone, State.onFt, stackLeft, waitingLeft]

/-- After a removal the pair stands no more, and of every other pair what stood. -/
theorem removeEntry_standing (k : FaultKind) (subj : Subject) (s : State) (j : FaultKind) (q : Subject) :
    standing j q (removeEntry k subj s) = (standing j q s && !(j == k && q == subj)) := by
  by_cases same : k = j ∧ subj = q
  · obtain ⟨rfl, rfl⟩ := same
    rw [removeEntry_gone]
    simp
  · rw [(pairStays_removeEntry same s).standing_eq, beq_pair_of_other same, Bool.not_false, Bool.and_true]

/-! ## The entry cleared (R84, R150) -/

theorem clearPresented_quiet (served : Served (e :: rest) s.ft.waiting) (stack : s.ft.stack = e :: rest)
    (quiet : Quiet s.ft.waiting rest) : (clearPresented e s).ft.stack = rest ∧
      (clearPresented e s).ft.waiting = s.ft.waiting ∧ (clearPresented e s).tu = s.tu := by
  have none : presentNext (presentedGone rest s) = presentedGone rest s :=
    presentNext_of_quiet (by rw [presentedGone_table]; exact quiet)
  rw [clearPresented, removeEntry_presented served stack, none, tableChanged_stack, tableChanged_waiting, presentedGone_table]
  exact ⟨rfl, rfl, by simp [presentedGone]⟩

theorem clearPresented_urgent (served : Served (e :: rest) s.ft.waiting) (stack : s.ft.stack = e :: rest)
    (urgent : ¬Quiet s.ft.waiting rest) : ∃ b, bestPending s.ft.waiting = some b ∧ (clearPresented e s).ft.stack = b :: rest ∧
      (clearPresented e s).ft.waiting = s.ft.waiting.erase b ∧ (clearPresented e s).tu = s.tu.faultCounted := by
  obtain ⟨b, best, next⟩ := presentNext_of_urgent (s := presentedGone rest s) (by rw [presentedGone_table]; exact urgent)
  rw [presentedGone_table] at best
  have once : (s.ft.waiting.map FaultEntry.pair).Nodup :=
    served.once.sublist ((List.sublist_append_right (e :: rest) s.ft.waiting).map _)
  have tu : (present b (presentedGone rest s)).tu = s.tu.faultCounted := by
    rw [present, countFault_tu]
    simp [presentedGone]
  have stackLeft : (present b (presentedGone rest s)).ft.stack = b :: rest := by simp [present, presentedGone_table]
  have waitingLeft : (present b (presentedGone rest s)).ft.waiting =
      s.ft.waiting.filter (fun f => !f.isPair b.kind b.subject) := by simp [present, presentedGone_table]
  refine ⟨b, best, ?_⟩
  rw [clearPresented, removeEntry_presented served stack, next, tableChanged_stack, tableChanged_waiting]
  exact ⟨stackLeft, waitingLeft.trans (filter_pair_eq_erase once (bestPending_mem best)), by simpa using tu⟩

/-- The state after an accepted FAULT_CLEAR's removal, before the line moves. -/
def faultCleared (e : FaultEntry) (s : State) : State := when (e.kind == .baggerJam) endStopped (clearPresented e s)

theorem endStopped_ft (s : State) : (endStopped s).ft = s.ft := by
  unfold endStopped
  cases s.mbc.stopped
  · rfl
  · exact strokeDone_ft _

theorem endStopped_stopped (s : State) : (endStopped s).mbc.stopped = false := by
  unfold endStopped
  cases stopped : s.mbc.stopped
  · exact stopped
  · simp

theorem faultCleared_ft (e : FaultEntry) (s : State) : (faultCleared e s).ft = (clearPresented e s).ft := by
  unfold faultCleared
  cases e.kind == FaultKind.baggerJam
  · rfl
  · exact endStopped_ft _

theorem faultCleared_of_other (other : e.kind ≠ .baggerJam) : faultCleared e s = clearPresented e s := by
  rw [faultCleared, beq_eq_false_iff_ne.2 other, when_false]

theorem faultCleared_of_jam (jam : e.kind = .baggerJam) : faultCleared e s = endStopped (clearPresented e s) := by
  rw [faultCleared, jam, beq_self_eq_true, when_true]

theorem faultCleared_standing (e : FaultEntry) (s : State) (j : FaultKind) (q : Subject) :
    standing j q (faultCleared e s) = (standing j q s && !(j == e.kind && q == e.subject)) := by
  rw [standing_congr (faultCleared_ft e s), ← removeEntry_standing]
  unfold standing clearPresented
  rw [tableChanged_entries]

theorem faultCleared_numbers (e : FaultEntry) (s : State) : (faultCleared e s).ft.changeNumber = s.ft.changeNumber + 1 ∧
    (faultCleared e s).ft.raiseCounter = s.ft.raiseCounter ∧ (faultCleared e s).ft.causes = s.ft.causes := by
  rw [faultCleared_ft, clearPresented, tableChanged_changeNumber]
  simp

theorem faultCleared_told (e : FaultEntry) (s : State) : .faultChange ∈ (faultCleared e s).ml.reports := by
  have told : Reported .faultChange (clearPresented e s) := raiseKey_mem _ _
  exact when_reported (fun _ => endStopped_reported) _ told

theorem faultCleared_lsc (e : FaultEntry) (s : State) : (faultCleared e s).lsc = s.lsc := by simp [faultCleared]

theorem faultCleared_quiet (served : Served (e :: rest) s.ft.waiting) (stack : s.ft.stack = e :: rest)
    (quiet : Quiet s.ft.waiting rest) : (faultCleared e s).ft.stack = rest ∧
      (faultCleared e s).ft.waiting = s.ft.waiting ∧ (e.kind ≠ .baggerJam → (faultCleared e s).tu = s.tu) := by
  obtain ⟨left, waiting, tu⟩ := clearPresented_quiet served stack quiet
  rw [faultCleared_ft]
  exact ⟨left, waiting, fun other => by rw [faultCleared_of_other other, tu]⟩

theorem faultCleared_urgent (served : Served (e :: rest) s.ft.waiting) (stack : s.ft.stack = e :: rest)
    (urgent : ¬Quiet s.ft.waiting rest) : ∃ b ∈ s.ft.waiting, (faultCleared e s).ft.stack = b :: rest ∧
      (faultCleared e s).ft.waiting = s.ft.waiting.erase b ∧
      (e.kind ≠ .baggerJam → (faultCleared e s).tu = s.tu.faultCounted) ∧ (∀ f ∈ s.ft.waiting, b.priority ≤ f.priority) ∧
      ((∀ f ∈ s.ft.waiting, 0 < dist f.seq s.ft.raiseCounter) →
        ∀ f ∈ s.ft.waiting, f.priority = b.priority → 0 ≤ dist b.seq f.seq) := by
  obtain ⟨b, best, presented, waiting, tu⟩ := clearPresented_urgent served stack urgent
  obtain ⟨waits, first⟩ := bestPending_spec best
  rw [faultCleared_ft]
  refine ⟨b, waits, presented, waiting, fun other => by rw [faultCleared_of_other other, tu], first, fun recent f inList same => ?_⟩
  rw [dist_eq_ages (recent b waits) (recent f inList)]
  exact Int.sub_nonneg_of_le (bestPending_oldest recent best f inList same)

/-! ## FAULT_CLEAR (R150) -/

theorem exec_faultClear (tok : Byte) (s : State) : exec (.faultClear tok) s = .next (takeRequest 0x31 tok faultClearOwn flow s) := rfl

theorem faultClear_empty (empty : s.ft.stack = []) :
    faultClearOwn s = (⟨4, [0, 0, 0, 0, 0, 0, 0] ++ u16 s.ft.changeNumber.toNat⟩, s) := by
  have none : s.ft.presented = none := by rw [FaultTable.presented, empty]; rfl
  rw [faultClearOwn, none]
  rfl

section
variable (stack : s.ft.stack = e :: rest)
include stack

theorem faultClear_causePresent (caused : s.ft.causes.get e.kind e.subject = true) : faultClearOwn s =
    (⟨7, namedEntry (some e) ++ namedEntry (some e) ++ u8 s.ft.entries.length ++ u16 s.ft.changeNumber.toNat⟩, s) := by
  have top : s.ft.presented = some e := by rw [FaultTable.presented, stack]; rfl
  simp only [faultClearOwn, FaultTable.causePresent, clearAnswer, top, caused, if_true]

theorem faultClear_accepted (ended : s.ft.causes.get e.kind e.subject = false) : faultClearOwn s =
    (⟨0, clearAnswer e (advanceLine (faultCleared e s))⟩, advanceLine (faultCleared e s)) := by
  have top : s.ft.presented = some e := by rw [FaultTable.presented, stack]; rfl
  simp only [faultClearOwn, FaultTable.causePresent, top, ended, Bool.false_eq_true, if_false]
  rfl

end

/-- Settles O32: the owner's three answers, and of the accepted one the removal with the next presentation. -/
theorem faultClearRemovesThePresented : Obligations.FaultClearRemovesThePresented := by
  intro tok s serving
  refine ⟨fun empty => ?_, fun e rest stack caused => ?_, fun e rest stack ended => ⟨faultCleared e s, ?_, ?_⟩⟩
  · rw [exec_faultClear, takeRequest_refused serving (faultClear_empty empty) (show (4 : Byte) ≠ 0 by decide)]
  · rw [exec_faultClear, takeRequest_refused serving (faultClear_causePresent stack caused) (show (7 : Byte) ≠ 0 by decide)]
  · rw [exec_faultClear, takeRequest_accepted serving (faultClear_accepted stack ended)]
    rfl
  obtain ⟨changed, raises, causes⟩ := faultCleared_numbers e s
  refine ⟨faultCleared_standing e s, fun safe => ?_, changed, raises, causes, faultCleared_told e s, faultCleared_lsc e s,
    fun other => ?_, fun jam => ?_⟩
  · have served : Served (e :: rest) s.ft.waiting := stack ▸ (faultsSafe_iff s).1 safe
    exact ⟨faultCleared_quiet served stack, faultCleared_urgent served stack⟩
  · rw [faultCleared_of_other other]
    simp
  · rw [faultCleared_of_jam jam, endStopped_stopped]

end Sys2Proof.Machine
end

section
/-! PROOF. What the commands leave outside the line's own blocks: the events, edges and switches all but those, the edge list and
the pins (section 1.3), and every command but page programs and resets the non-volatile array (R165). -/

namespace Sys2Proof.Machine

set_option Elab.async false

variable {s t : State}

/-! ## Operations of the line's own events -/

theorem outer_strokeRunOut (s : State) : (strokeRunOut s).outer = s.outer := by
  unfold strokeRunOut; split <;> simp

theorem outer_deadTimeOver (l : Lane) (s : State) : (deadTimeOver l s).outer = s.outer := by
  simp only [deadTimeOver]; rw [outer_when (by simp), outer_onPusher]

theorem outer_handResult (c : Channel) (result : Nat) (s : State) : (handResult c result s).outer = s.outer := by
  cases c <;> simp [handResult]

theorem outer_completeConversion (c : Channel) (result : Nat) (s : State) :
    (completeConversion c result s).outer = s.outer := by
  simp [completeConversion, outer_handResult]

theorem outer_takeSafety (estopOpen guardOpen : Bool) (s : State) : (takeSafety estopOpen guardOpen s).outer = s.outer :=
  when_elim (P := fun t => t.outer = s.outer) rfl fun _ => rfl

/-- An event of a moment: nothing before it, else its effect and the rest of the step. -/
theorem outer_settled {f : State → State} (keeps : ∀ s, (f s).outer = s.outer) (c : Bool) (s : State) :
    (when c (fun s => settle (f s)) s).outer = s.outer :=
  outer_when (fun s => by rw [outer_settle, keeps]) c s

/-- The events of distances, timers, conversions and samples work on the line's own blocks. -/
theorem exec_lineEvent {c : Instr} (event : isLineEvent c = true) (s : State) :
    ∃ t, exec c s = .next t ∧ t.outer = s.outer := by
  cases c with
  | headAtGate l => exact ⟨_, rfl, outer_when (by simp) _ s⟩
  | bladeWindowRunOut l => exact ⟨_, rfl, outer_settled (outer_loseBlade l) _ s⟩
  | mergeWindowRunOut l => exact ⟨_, rfl, outer_settled (outer_loseAccumHead l) _ s⟩
  | exitWindowRunOut =>
    exact ⟨_, rfl, outer_settled (f := fun s => exitHeadChanged (loseExitHead s)) (by simp) _ s⟩
  | stuckLimitExceeded e => exact ⟨_, rfl, outer_settled (outer_raiseStuck e) _ s⟩
  | scanTimerExpiry => exact ⟨_, rfl, by simp⟩
  | conversionComplete result =>
    refine ⟨_, rfl, ?_⟩
    split
    · rw [outer_settle, outer_completeConversion]
    · rfl
  | spinUpWaitEnd l => exact ⟨_, rfl, outer_settled (outer_spinUpEnd l) _ s⟩
  | gateStrokeEnd l => exact ⟨_, rfl, outer_settled (outer_disarmGate l) _ s⟩
  | pushStrokeTimerRunOut => exact ⟨_, rfl, outer_settled outer_strokeRunOut _ s⟩
  | flapSettleEnd => exact ⟨_, rfl, outer_settled outer_flapSettled _ s⟩
  | openingEnd => exact ⟨_, rfl, outer_settled outer_openingOver _ s⟩
  | bagConfirmWatchRunOut => exact ⟨_, rfl, outer_settled outer_bagMissed _ s⟩
  | bagBlastEnd => exact ⟨_, rfl, outer_settled outer_endBlast _ s⟩
  | extendedSwitchCloses l => exact ⟨_, rfl, outer_when (outer_endExtend l) _ s⟩
  | deadTimeEnd l => exact ⟨_, rfl, outer_when (outer_deadTimeOver l) _ s⟩
  | purgeEnd => exact ⟨_, rfl, outer_settled outer_endPurge _ s⟩
  | twistEnd => exact ⟨_, rfl, outer_settled outer_enterClip _ s⟩
  | clipEnd => exact ⟨_, rfl, outer_settled outer_enterHomeWait _ s⟩
  | tieTimerRunOut => exact ⟨_, rfl, outer_settled outer_jamTyer _ s⟩
  | airWaitTimerRunOut l => exact ⟨_, rfl, outer_settled (outer_backOff l) _ s⟩
  | blowingEnd l => exact ⟨_, rfl, outer_settled (outer_endBlowing l) _ s⟩
  | settleEnd l => exact ⟨_, rfl, outer_settled (outer_completeClear l) _ s⟩
  | backoffEnd l => exact ⟨_, rfl, outer_settled (outer_endBackOff l) _ s⟩
  | safetySample estopOpen guardOpen =>
    exact ⟨_, rfl, by rw [outer_settle, outer_inputTaken, outer_inputTaken, outer_takeSafety]⟩
  | lineTimeSecond k => exact ⟨_, rfl, outer_when (by simp) _ s⟩
  | _ => cases event

/-! ## Edges -/

/-- Everything outside the line's own blocks and the list of edges in flight. -/
def EdgesAlone (s t : State) : Prop := { t.outer with eu := s.eu } = s.outer ∧ t.eu.channels = s.eu.channels

theorem edgesAlone_of_outer {u : State} (taken : EdgesAlone s u) (outer : t.outer = u.outer) : EdgesAlone s t := by
  have eu : t.eu = u.eu := (congrArg (·.eu) outer :)
  exact ⟨by rw [outer]; exact taken.1, by rw [eu]; exact taken.2⟩

theorem edgesAlone_takeEdge (e : Eye) (s : State) : EdgesAlone s (takeEdge e s) := ⟨rfl, rfl⟩

theorem edgesAlone_withEdge (e : Eye) (leading : Bool) {f : Edge → State → State} (keeps : ∀ x s, (f x s).outer = s.outer)
    (s : State) : EdgesAlone s (withEdge e leading f s) := by
  unfold withEdge; split
  · split
    · exact edgesAlone_of_outer (edgesAlone_takeEdge e s) (keeps _ _)
    · exact ⟨rfl, rfl⟩
  · exact ⟨rfl, rfl⟩

theorem edgesAlone_onEdge (e : Eye) (leading : Bool) {f : Edge → State → State} (keeps : ∀ x s, (f x s).outer = s.outer)
    (s : State) : EdgesAlone s (onEdge e leading f s) :=
  edgesAlone_withEdge e leading (fun x s => by rw [outer_settle, outer_when (keeps x)]) s

theorem edgesAlone_onTrailing (e : TrackedEye) {f : State → State} (keeps : ∀ s, (f s).outer = s.outer) (s : State) :
    EdgesAlone s (onTrailing e f s) :=
  edgesAlone_withEdge _ _ (fun _ s => by rw [outer_settle, outer_when keeps, outer_eyeCleared]) s

/-- An edge is taken from the list of its eye, and works on the line's own blocks. -/
theorem exec_edge {c : Instr} (edge : isEdge c = true) (s : State) : ∃ t, exec c s = .next t ∧ EdgesAlone s t := by
  cases c with
  | infeedTrailingEdge l => exact ⟨_, rfl, edgesAlone_onEdge _ _ (outer_createRecord l) s⟩
  | slicerLeadingEdge l => exact ⟨_, rfl, edgesAlone_onEdge _ _ (outer_slicerLeading l) s⟩
  | slicerTrailingEdge l => exact ⟨_, rfl, edgesAlone_onTrailing _ (outer_slicerTrailing l) s⟩
  | mergeLeadingEdge l => exact ⟨_, rfl, edgesAlone_onEdge _ _ (outer_mergeLeading l) s⟩
  | mergeTrailingEdge l => exact ⟨_, rfl, edgesAlone_onTrailing _ (outer_startMergeWindow l) s⟩
  | exitLeadingEdge => exact ⟨_, rfl, edgesAlone_onEdge _ _ outer_exitLeading s⟩
  | exitTrailingEdge => exact ⟨_, rfl, edgesAlone_onTrailing _ outer_exitTrailing s⟩
  | bagConfirm =>
    refine ⟨_, rfl, edgesAlone_withEdge _ _ (fun _ s => ?_) s⟩
    rw [outer_settle, outer_when outer_bagConfirmed]
  | _ => cases edge

/-! ## Switches -/

/-- A switch's own pin is taken, and the rest of the step works on the line's own blocks. -/
theorem outer_of_pins {f : Pins → Pins} (outer : t.outer = (s.onPins f).outer) : { t.outer with pins := s.pins } = s.outer := by
  rw [outer]; rfl

theorem exec_pusherHome (l : Lane) (closed : Bool) (s : State) :
    ∃ t, exec (.pusherHomeSwitchChange l closed) s = .next t ∧ { t.outer with pins := s.pins } = s.outer := by
  refine ⟨_, rfl, outer_of_pins (f := fun p => { p with home := p.home.upd l (fun _ => closed) }) ?_⟩
  rw [outer_settle, outer_when (outer_pusherHome l), outer_noticeCause]

theorem exec_tyerHome (closed : Bool) (s : State) :
    ∃ t, exec (.tyerHomeSwitchChange closed) s = .next t ∧ { t.outer with pins := s.pins } = s.outer := by
  refine ⟨_, rfl, outer_of_pins (f := fun p => { p with tyerHome := closed }) ?_⟩
  rw [outer_settle]
  split
  · rw [outer_tieIfHome]
  · rw [outer_onTsc]

/-! ## The array -/

/-- The array and the queue of commands are as they were. -/
structure ArrayAsWas (s t : State) : Prop where
  cells : t.rs.cells = s.rs.cells := by simp
  headers : t.rs.headers = s.rs.headers := by simp
  pending : t.pending = s.pending := by simp

theorem ArrayAsWas.trans {u : State} (first : ArrayAsWas s t) (second : ArrayAsWas t u) : ArrayAsWas s u :=
  ⟨second.cells.trans first.cells, second.headers.trans first.headers, second.pending.trans first.pending⟩

theorem arrayAsWas_when {f : State → State} (keeps : ∀ s, ArrayAsWas s (f s)) (c : Bool) (s : State) :
    ArrayAsWas s (when c f s) := when_elim {} fun _ => keeps s

theorem arrayAsWas_of_outer (outer : t.outer = s.outer) : ArrayAsWas s t :=
  ⟨(congrArg (·.rs.cells) outer :), (congrArg (·.rs.headers) outer :), (congrArg (·.pending) outer :)⟩

theorem arrayAsWas_requestJob (j : Job) (s : State) : ArrayAsWas s (requestJob j s) :=
  arrayAsWas_of_outer (outer_requestJob j s)

theorem arrayAsWas_queueReply (type tok : Byte) (a : Answer) (s : State) : ArrayAsWas s (queueReply type tok a s) := {}

/-! ### The queries leave the state as it is -/

theorem configGetOwn_state (id index : Byte) (s : State) : (configGetOwn id index s).2 = s := by
  unfold configGetOwn; split <;> rfl
theorem recipeReadOwn_state (slot : Byte) (s : State) : (recipeReadOwn slot s).2 = s := by
  unfold recipeReadOwn; dsimp only; split <;> rfl
theorem faultListOwn_state (first : Byte) (s : State) : (faultListOwn first s).2 = s := by
  unfold faultListOwn; dsimp only; split <;> rfl
theorem trackListOwn_state (zone lane : Byte) (s : State) : (trackListOwn zone lane s).2 = s := by
  unfold trackListOwn; split <;> rfl
theorem loafQueryOwn_state (tag : BitVec 16) (s : State) : (loafQueryOwn tag s).2 = s := by
  unfold loafQueryOwn; (repeat' split) <;> rfl
theorem totalsReadOwn_state (part : Byte) (s : State) : (totalsReadOwn part s).2 = s := by
  unfold totalsReadOwn; dsimp only; (repeat' split) <;> rfl
theorem sensorReadOwn_state (channel : Byte) (s : State) : (sensorReadOwn channel s).2 = s := by
  unfold sensorReadOwn; split <;> rfl

/-! ### The owners -/

/-- An owner leaves the array as it was. -/
def OwnKeepsArray (own : State → Answer × State) : Prop := ∀ s, ArrayAsWas s (own s).2

theorem ownKeepsArray_of_same {own : State → Answer × State} (same : ∀ s, (own s).2 = s) : OwnKeepsArray own :=
  fun s => (same s).symm ▸ {}

theorem array_configGet (id index : Byte) : OwnKeepsArray (configGetOwn id index) :=
  ownKeepsArray_of_same (configGetOwn_state id index)
theorem array_recipeRead (slot : Byte) : OwnKeepsArray (recipeReadOwn slot) :=
  ownKeepsArray_of_same (recipeReadOwn_state slot)
theorem array_faultList (first : Byte) : OwnKeepsArray (faultListOwn first) :=
  ownKeepsArray_of_same (faultListOwn_state first)
theorem array_trackList (zone lane : Byte) : OwnKeepsArray (trackListOwn zone lane) :=
  ownKeepsArray_of_same (trackListOwn_state zone lane)
theorem array_loafQuery (tag : BitVec 16) : OwnKeepsArray (loafQueryOwn tag) :=
  ownKeepsArray_of_same (loafQueryOwn_state tag)
theorem array_totalsRead (part : Byte) : OwnKeepsArray (totalsReadOwn part) :=
  ownKeepsArray_of_same (totalsReadOwn_state part)
theorem array_sensorRead (channel : Byte) : OwnKeepsArray (sensorReadOwn channel) :=
  ownKeepsArray_of_same (sensorReadOwn_state channel)

/-- A record that fails its check is marked in the log index, which is no part of the array (R174). -/
theorem array_shiftRead (number : BitVec 16) (part : Byte) : OwnKeepsArray (shiftReadOwn number part) := by
  intro s
  unfold shiftReadOwn; (repeat' split) <;> exact ⟨rfl, rfl, rfl⟩

theorem array_restart : OwnKeepsArray restartOwn := by
  intro s
  unfold restartOwn; (repeat' split) <;> exact {}

theorem array_clockSet (day : BitVec 16) (second : BitVec 32) : OwnKeepsArray (clockSetOwn day second) := by
  intro s
  unfold clockSetOwn; split <;> exact {}

theorem array_recipeWriteBody (body : List Byte) : OwnKeepsArray (recipeWriteBody body) := by
  intro s
  unfold recipeWriteBody recipeWriteOwn; dsimp only; (repeat' split) <;> exact ⟨rfl, rfl, rfl⟩

theorem array_recipeWrite (slot : Byte) (f : RecipeFields) : OwnKeepsArray (recipeWriteOwn slot f) := by
  intro s
  unfold recipeWriteOwn; dsimp only; (repeat' split) <;> exact ⟨rfl, rfl, rfl⟩

/-- A save starts or queues a job; the pages are written by its programs (R56, R166). -/
theorem array_recipeSave : OwnKeepsArray recipeSaveOwn := fun s => arrayAsWas_requestJob _ s

/-- A close starts or queues a job (R161). -/
theorem array_shiftClose : OwnKeepsArray shiftCloseOwn := by
  intro s
  unfold shiftCloseOwn; (repeat' split)
  · exact {}
  · exact {}
  · exact ArrayAsWas.trans (t := (s.onTu _).onRs _) ⟨rfl, rfl, rfl⟩ (arrayAsWas_requestJob _ _)

theorem array_configSet (id index : Byte) (value : BitVec 16) : OwnKeepsArray (configSetOwn id index value) := by
  intro s
  unfold configSetOwn; dsimp only; (repeat' split) <;> exact {}

theorem array_laneSelect (lane slot : Byte) : OwnKeepsArray (laneSelectOwn lane slot) := by
  intro s
  unfold laneSelectOwn; dsimp only; (repeat' split) <;> exact {}

theorem array_laneEnable (lane on : Byte) : OwnKeepsArray (laneEnableOwn lane on) := by
  intro s
  unfold laneEnableOwn; dsimp only; (repeat' split) <;> exact arrayAsWas_of_outer (by simp)

theorem array_lineStart : OwnKeepsArray lineStartOwn := by
  intro s
  unfold lineStartOwn; dsimp only; (repeat' split) <;> exact arrayAsWas_of_outer (by simp)

theorem array_lineHold : OwnKeepsArray lineHoldOwn := by
  intro s
  unfold lineHoldOwn; split <;> exact arrayAsWas_of_outer (by simp)

theorem array_lineResume : OwnKeepsArray lineResumeOwn := by
  intro s
  unfold lineResumeOwn; dsimp only; (repeat' split) <;> exact arrayAsWas_of_outer (by simp)

theorem array_lineDrain : OwnKeepsArray lineDrainOwn := by
  intro s
  unfold lineDrainOwn; split <;> exact arrayAsWas_of_outer (by simp)

theorem array_lineStandby : OwnKeepsArray lineStandbyOwn := by
  intro s
  unfold lineStandbyOwn; split <;> exact arrayAsWas_of_outer (by simp)

theorem array_crumbClear (lane : Byte) : OwnKeepsArray (crumbClearOwn lane) := by
  intro s
  unfold crumbClearOwn; (repeat' split) <;> exact arrayAsWas_of_outer (by simp)

theorem array_magazineLoad (which : Byte) (count : BitVec 16) : OwnKeepsArray (magazineLoadOwn which count) := by
  intro s
  unfold magazineLoadOwn; dsimp only; (repeat' split) <;> exact arrayAsWas_of_outer (by simp [bagsLoaded, clipsLoaded])

theorem array_tyerResolve (action : Byte) : OwnKeepsArray (tyerResolveOwn action) := by
  intro s
  unfold tyerResolveOwn; (repeat' split) <;> exact arrayAsWas_of_outer (by simp [discardJammed, retie])

theorem array_faultClear : OwnKeepsArray faultClearOwn := by
  intro s
  unfold faultClearOwn; dsimp only; (repeat' split) <;> exact arrayAsWas_of_outer (by simp)

/-- What follows an accepted request leaves the array as it was. -/
theorem array_flow (s : State) : ArrayAsWas s (flow s) := arrayAsWas_of_outer (outer_flow s)

theorem array_settle (s : State) : ArrayAsWas s (settle s) := arrayAsWas_of_outer (outer_settle s)

theorem array_serveRequest (type tok : Byte) {own : State → Answer × State} {after : State → State}
    (hown : OwnKeepsArray own) (hafter : ∀ s, ArrayAsWas s (after s)) (s : State) :
    ArrayAsWas s (serveRequest type tok own after s) := by
  unfold serveRequest; split
  · exact arrayAsWas_queueReply _ _ _ s
  · split
    · exact arrayAsWas_queueReply _ _ _ s
    · exact (hown s).trans ((arrayAsWas_queueReply type tok _ _).trans (arrayAsWas_when hafter _ _))

theorem array_takeRequest (type tok : Byte) {own : State → Answer × State} {after : State → State}
    (hown : OwnKeepsArray own) (hafter : ∀ s, ArrayAsWas s (after s)) (s : State) :
    ArrayAsWas s (takeRequest type tok own after s) := by
  unfold takeRequest; split
  · exact array_serveRequest type tok hown hafter s
  · exact {}

/-- What the catalogue names for a TYPE leaves the array as it was. -/
theorem array_catalogue {type : Byte} {body : List Byte} {c : Handler} (found : catalogue type body = some c) :
    OwnKeepsArray c.own ∧ ∀ s, ArrayAsWas s (c.after s) := by
  have queried : ∀ s, ArrayAsWas s (id s) := fun _ => {}
  unfold catalogue at found
  split at found
  case h_29 => cases found
  all_goals obtain rfl := Option.some.inj found; dsimp only
  · exact ⟨ownKeepsArray_of_same fun _ => rfl, queried⟩
  · exact ⟨ownKeepsArray_of_same fun _ => rfl, queried⟩
  · exact ⟨array_restart, queried⟩
  · exact ⟨array_clockSet _ _, queried⟩
  · exact ⟨array_configSet _ _ _, array_settle⟩
  · exact ⟨array_configGet _ _, queried⟩
  · exact ⟨array_recipeWriteBody _, queried⟩
  · exact ⟨array_recipeRead _, queried⟩
  · exact ⟨array_recipeSave, queried⟩
  · exact ⟨array_laneSelect _ _, array_settle⟩
  · exact ⟨array_lineStart, array_flow⟩
  · exact ⟨array_lineHold, array_flow⟩
  · exact ⟨array_lineResume, array_flow⟩
  · exact ⟨array_lineDrain, array_flow⟩
  · exact ⟨array_lineStandby, array_flow⟩
  · exact ⟨array_laneEnable _ _, array_flow⟩
  · exact ⟨array_crumbClear _, array_flow⟩
  · exact ⟨array_magazineLoad _ _, array_settle⟩
  · exact ⟨array_tyerResolve _, array_flow⟩
  · exact ⟨array_faultList _, queried⟩
  · exact ⟨array_faultClear, array_flow⟩
  · exact ⟨array_trackList _ _, queried⟩
  · exact ⟨array_loafQuery _, queried⟩
  · exact ⟨array_totalsRead _, queried⟩
  · exact ⟨array_shiftClose, queried⟩
  · exact ⟨array_shiftRead _ _, queried⟩
  · exact ⟨ownKeepsArray_of_same fun _ => rfl, queried⟩
  · exact ⟨array_sensorRead _, queried⟩

theorem array_takeFrame (type tok : Byte) (body : List Byte) (s : State) : ArrayAsWas s (takeFrame type tok body s) := by
  unfold takeFrame; split
  · exact arrayAsWas_queueReply _ _ _ s
  next found =>
    obtain ⟨hown, hafter⟩ := array_catalogue found
    split
    · exact array_serveRequest type tok hown hafter s
    · (repeat' split) <;> exact arrayAsWas_queueReply _ _ _ s

theorem array_dispatch (s : State) : ArrayAsWas s (dispatch s) := by
  unfold dispatch; split
  · split
    · exact ArrayAsWas.trans (t := s.onMl fun m => { m with assembler := .hunt }) {} (array_takeFrame _ _ _ _)
    · exact {}
  · exact {}

/-- The scan reads the array and writes none of it (R171, R190). -/
theorem array_completeScan (s : State) : ArrayAsWas s (completeScan s) := by
  have set : ArrayAsWas s (scanSets s) := ⟨rfl, rfl, rfl⟩
  exact set.trans (arrayAsWas_of_outer (by simp [completeScan, endOfInitCheck]))

/-- Every command but page programs and resets leaves the array as it was. -/
theorem exec_array {c : Instr} (reads : mayWriteArray c = false) (run : exec c s = .next t) : ArrayAsWas s t := by
  have queried : ∀ s, ArrayAsWas s (id s) := fun _ => {}
  by_cases event : isLineEvent c = true
  · obtain ⟨u, ran, outer⟩ := exec_lineEvent event s
    cases run.symm.trans ran
    exact arrayAsWas_of_outer outer
  by_cases edge : isEdge c = true
  · obtain ⟨u, ran, outer, -⟩ := exec_edge edge s
    cases run.symm.trans ran
    exact ⟨(congrArg (·.rs.cells) outer :), (congrArg (·.rs.headers) outer :), (congrArg (·.pending) outer :)⟩
  cases c with
  | identify => cases run; exact array_takeRequest _ _ (ownKeepsArray_of_same fun _ => rfl) queried s
  | status => cases run; exact array_takeRequest _ _ (ownKeepsArray_of_same fun _ => rfl) queried s
  | restart => cases run; exact array_takeRequest _ _ array_restart queried s
  | clockSet => cases run; exact array_takeRequest _ _ (array_clockSet _ _) queried s
  | configSet => cases run; exact array_takeRequest _ _ (array_configSet _ _ _) array_settle s
  | configGet => cases run; exact array_takeRequest _ _ (array_configGet _ _) queried s
  | recipeWrite => cases run; exact array_takeRequest _ _ (array_recipeWrite _ _) queried s
  | recipeRead => cases run; exact array_takeRequest _ _ (array_recipeRead _) queried s
  | recipeSave => cases run; exact array_takeRequest _ _ array_recipeSave queried s
  | laneSelect => cases run; exact array_takeRequest _ _ (array_laneSelect _ _) array_settle s
  | lineStart => cases run; exact array_takeRequest _ _ array_lineStart array_flow s
  | lineHold => cases run; exact array_takeRequest _ _ array_lineHold array_flow s
  | lineResume => cases run; exact array_takeRequest _ _ array_lineResume array_flow s
  | lineDrain => cases run; exact array_takeRequest _ _ array_lineDrain array_flow s
  | lineStandby => cases run; exact array_takeRequest _ _ array_lineStandby array_flow s
  | laneEnable => cases run; exact array_takeRequest _ _ (array_laneEnable _ _) array_flow s
  | crumbClear => cases run; exact array_takeRequest _ _ (array_crumbClear _) array_flow s
  | magazineLoad => cases run; exact array_takeRequest _ _ (array_magazineLoad _ _) array_settle s
  | tyerResolve => cases run; exact array_takeRequest _ _ (array_tyerResolve _) array_flow s
  | faultList => cases run; exact array_takeRequest _ _ (array_faultList _) queried s
  | faultClear => cases run; exact array_takeRequest _ _ array_faultClear array_flow s
  | trackList => cases run; exact array_takeRequest _ _ (array_trackList _ _) queried s
  | loafQuery => cases run; exact array_takeRequest _ _ (array_loafQuery _) queried s
  | totalsRead => cases run; exact array_takeRequest _ _ (array_totalsRead _) queried s
  | shiftClose => cases run; exact array_takeRequest _ _ array_shiftClose queried s
  | shiftRead => cases run; exact array_takeRequest _ _ (array_shiftRead _ _) queried s
  | logIndex => cases run; exact array_takeRequest _ _ (ownKeepsArray_of_same fun _ => rfl) queried s
  | sensorRead => cases run; exact array_takeRequest _ _ (array_sensorRead _) queried s
  | dispatchFrame => cases run; exact array_dispatch s
  | startUpScanComplete =>
    cases run
    exact when_elim {} fun _ => (array_completeScan s).trans (array_settle _)
  | byteReceived => cases run; exact {}
  | assemblerTakesByte => cases run; exact {}
  | gapTimerRunOut => cases run; exact {}
  | transmitStart => cases run; exact {}
  | eyeSample => cases run; exact {}
  | debounceConfirm => cases run; exact {}
  | encoderCount => cases run; exact {}
  | calendarTick => cases run; exact {}
  | pusherHomeSwitchChange l closed =>
    obtain ⟨u, ran, outer⟩ := exec_pusherHome l closed s
    cases run.symm.trans ran
    exact ⟨(congrArg (·.rs.cells) outer :), (congrArg (·.rs.headers) outer :), (congrArg (·.pending) outer :)⟩
  | tyerHomeSwitchChange closed =>
    obtain ⟨u, ran, outer⟩ := exec_tyerHome closed s
    cases run.symm.trans ran
    exact ⟨(congrArg (·.rs.cells) outer :), (congrArg (·.rs.headers) outer :), (congrArg (·.pending) outer :)⟩
  | pageProgramComplete | reset | frameSent => cases reads
  | _ => exact absurd rfl ‹_›

/-- Settles O60: the events, edges and switches by the frame of the operations they are built from; the array beside them by the
owners of the requests and the link's own commands. -/
theorem commandsKeepTheOtherBlocks : Obligations.CommandsKeepTheOtherBlocks := by
  refine ⟨fun c s event => exec_lineEvent event s, fun c s edge => exec_edge edge s, exec_pusherHome, exec_tyerHome,
    fun c s t reads run => ?_⟩
  obtain ⟨cells, headers, pending⟩ := exec_array reads run
  exact ⟨cells, headers, pending⟩

end Sys2Proof.Machine
end

section
/-! PROOF. Every step keeps the array's cells in canonical form (R165, LOG 14). -/

namespace Sys2Proof.Machine

set_option Elab.async false

variable {s t : State}

theorem wf_writePage {r : RecordStore} (h : Memory.wf r.cells = true) (area k : Nat) (b : List Byte) :
    Memory.wf (r.writePage area k b).cells = true := Memory.wf_writeAll _ _ b h

/-- What a reset leaves of the program in flight: a header, or one written page (R166). -/
theorem wf_tearProgram {r : RecordStore} (h : Memory.wf r.cells = true) (tear : Tear) (count : Nat) (w : JobInProgress) :
    Memory.wf (tearProgram tear count w r).cells = true := by
  unfold tearProgram; dsimp only
  cases tear with
  | beforeProgram => dsimp only; split <;> [exact h; exact wf_writePage h _ _ _]
  | duringProgram markerReads =>
    dsimp only; split
    · (repeat' split) <;> exact h
    · exact wf_writePage h _ _ _

theorem arraySafe_resetMachine (h : arraySafe s = true) (baud1 baud0 : Bool) (tear : Tear) :
    arraySafe (resetMachine baud1 baud0 tear s) = true := by
  show Memory.wf (resetStore tear s.freeCount s.rs).cells = true
  unfold resetStore
  cases s.rs.writer with
  | none => exact h
  | some w => exact wf_tearProgram h tear _ w

theorem arraySafe_programVerified (h : arraySafe s = true) (w : JobInProgress) : arraySafe (programVerified w s) = true := by
  unfold programVerified; dsimp only; split
  · exact when_elim (P := fun t => arraySafe t = true) h fun _ => h
  · split
    · exact wf_writePage h _ _ _
    · rw [arraySafe, endJob_cells]; exact h

theorem arraySafe_programFailed (h : arraySafe s = true) (w : JobInProgress) : arraySafe (programFailed w s) = true := by
  unfold programFailed; split <;> rw [arraySafe, endJob_cells]
  · exact h
  · exact wf_writePage h _ _ _

theorem arraySafe_exec {c : Instr} (h : arraySafe s = true) (run : exec c s = .next t) : arraySafe t = true := by
  cases writes : mayWriteArray c with
  | false => rw [arraySafe, (exec_array writes run).cells]; exact h
  | true =>
    cases c with
    | pageProgramComplete verified =>
      cases run; split
      · split <;> [exact arraySafe_programVerified h _; exact arraySafe_programFailed h _]
      · exact h
    | reset b1 b0 tear => cases run; exact arraySafe_resetMachine h b1 b0 tear
    | frameSent b1 b0 =>
      cases run; split
      · exact h
      · split <;> [exact arraySafe_resetMachine h b1 b0 _; exact h]
    | _ => cases writes

/-- Settles O5: the array is written by page programs and resets alone, and every write of a page keeps the canonical form. -/
theorem everyStepKeepsTheArraysForm : Obligations.EveryStepKeepsTheArraysForm := by
  intro s t safe run
  unfold step at run
  split at run
  next rest _ => exact arraySafe_exec (s := s.withPending rest) safe run
  · split at run
    · exact arraySafe_exec (s := choiceUsed s) safe run
    · cases run; exact safe

end Sys2Proof.Machine
end

section
/-! PROOF. CLOCK_SET (R164). -/

namespace Sys2Proof.Machine

set_option Elab.async false

variable {s : State} {day : BitVec 16} {second : BitVec 32}

theorem clockSet_beyond (beyond : 86399 < second.toNat) : clockSetOwn day second s = (⟨3, []⟩, s) := by
  simp only [clockSetOwn, if_pos beyond]; rfl

/-- An open time that is absent is filled (R164). -/
theorem openTime_filled (r : Stamp) (s : State) :
    when s.tu.live.openTime.isNone (State.onLive fun t => { t with openTime := some r }) s
      = { s with tu := { s.tu with live := { s.tu.live with openTime :=
          match s.tu.live.openTime with
          | some t => some t
          | none => some r } } } := by
  cases absent : s.tu.live.openTime with
  | none => rfl
  | some t =>
    show s = { s with tu := { s.tu with live := { s.tu.live with openTime := some t } } }
    rw [← absent]

theorem clockSet_set (within : second.toNat ≤ 86399) : clockSetOwn day second s =
    (⟨0, u16 day.toNat ++ u32 second.toNat ++ [1] ++ flag s.tu.live.openTime.isNone⟩, { s with
      cal := { day := day.toNat, second := second.toNat, phase := 0, valid := true }
      tu := { s.tu with live := { s.tu.live with openTime :=
        match s.tu.live.openTime with
        | some t => some t
        | none => some { day := day.toNat, second := second.toNat } } } }) := by
  have filled := openTime_filled { day := day.toNat, second := second.toNat }
    (s.onCal fun _ => { day := day.toNat, second := second.toNat, phase := 0, valid := true })
  simp only [clockSetOwn, if_neg (Nat.not_lt.2 within)]
  exact Prod.ext rfl filled

/-- Settles O20: the dispatcher's refusal in INIT, else the owner's answer to a second in or out of its range. -/
theorem clockSetSetsTheCalendar : Obligations.ClockSetSetsTheCalendar := by
  intro tok day second s room quiet
  refine ⟨fun starting => ?_, fun started beyond => ?_, fun started within => ?_⟩
  · exact congrArg Host.Outcome.next (takeRequest_of_init room quiet starting (by decide) tok (clockSetOwn day second) id)
  · exact query_answers (serves_of_started room quiet started) rfl (clockSet_beyond beyond)
  · exact query_answers (serves_of_started room quiet started) rfl (clockSet_set within)

end Sys2Proof.Machine
end

section
/-! PROOF. The contents of the recipe area and of a shift record read back (R165, R171, R188). -/

namespace Sys2Proof.Machine

set_option Elab.async false

/-! ## The recipe table -/

/-- What a stored name's padding adds is trimmed again (R188, LOG 29). -/
theorem trimName_padTo (n : Nat) (name : List Byte) : trimName (padTo n 0x20 name) = trimName name := by
  have spaces : ∀ (k : Nat) (l : List Byte), (List.replicate k (0x20 : Byte) ++ l).dropWhile (· == 0x20) = l.dropWhile (· == 0x20) := by
    intro k l
    induction k with
    | zero => rfl
    | succ k ih => rw [List.replicate_succ, List.cons_append, List.dropWhile_cons_of_pos (by rfl), ih]
  rw [trimName, padTo, List.reverse_append, List.reverse_replicate, spaces]
  rfl

theorem length_padTo {n : Nat} {l : List Byte} (fits : l.length ≤ n) (fill : Byte) : (padTo n fill l).length = n := by
  rw [padTo, List.length_append, List.length_replicate]; omega

/-- A slot's bytes, split at its name. -/
def recipeTail (r : Recipe) : List Byte :=
  u16 r.nominal ++ (u8 r.tolerance ++ (u16 r.feed ++ (u8 r.crumb ++ (u16 r.blast ++ (u8 r.shelf ++ flag r.reject)))))

theorem recipeBytes_eq (r : Recipe) : recipeBytes r = u16 r.code ++ (padTo 12 0x20 r.name ++ recipeTail r) := by
  simp only [recipeBytes, recipeTail, List.append_assoc]

section
variable {r : Recipe} (stored : r.stored = true)
include stored

theorem length_recipeBytes : (recipeBytes r).length = 24 := by
  obtain ⟨-, name, -⟩ := (stored_iff r).1 stored
  rw [recipeBytes_eq, List.length_append, List.length_append, length_padTo name]
  rfl

theorem readRecipe_recipeBytes : readRecipe (recipeBytes r) = r := by
  obtain ⟨code, name, trimmed, nominal, tolerance, feed, crumb, blast, shelf⟩ := (stored_iff r).1 stored
  have twelve := length_padTo name 0x20
  have past (i n : Nat) : numAt (recipeBytes r) (14 + i) n = numAt (recipeTail r) i n := by
    have front : (u16 r.code ++ padTo 12 0x20 r.name).length = 14 := by rw [List.length_append, twelve]; rfl
    rw [recipeBytes_eq, ← List.append_assoc, ← front, numAt_append]
  have name_ : trimName (((recipeBytes r).drop 2).take 12) = r.name := by
    have padded : ((recipeBytes r).drop 2).take 12 = padTo 12 0x20 r.name := by
      rw [recipeBytes_eq]
      exact List.take_left' twelve
    rw [padded, trimName_padTo, trimmed]
  have code_ : numAt (recipeBytes r) 0 2 = r.code := by
    rw [recipeBytes_eq]; exact natOf_u16 code
  have reject_ : (numAt (recipeBytes r) 23 1 == 1) = r.reject := by
    have mark : numAt (recipeBytes r) 23 1 = natOf (flag r.reject) := past 9 1
    rw [mark]
    cases r.reject <;> rfl
  have nominal_ : numAt (recipeBytes r) 14 2 = r.nominal := (past 0 2).trans (natOf_u16 nominal)
  have tolerance_ : numAt (recipeBytes r) 16 1 = r.tolerance := (past 2 1).trans (natOf_u8 tolerance)
  have feed_ : numAt (recipeBytes r) 17 2 = r.feed := (past 3 2).trans (natOf_u16 feed)
  have crumb_ : numAt (recipeBytes r) 19 1 = r.crumb := (past 5 1).trans (natOf_u8 crumb)
  have blast_ : numAt (recipeBytes r) 20 2 = r.blast := (past 6 2).trans (natOf_u16 blast)
  have shelf_ : numAt (recipeBytes r) 22 1 = r.shelf := (past 8 1).trans (natOf_u8 shelf)
  simp only [readRecipe, code_, name_, nominal_, tolerance_, feed_, crumb_, blast_, shelf_, reject_]

end

theorem readRecipes_recipesContent (rt : List Recipe) (stored : ∀ r ∈ rt, r.stored = true) :
    readRecipes (recipesContent rt) rt.length = rt ∧ (recipesContent rt).length = 24 * rt.length := by
  induction rt with
  | nil => exact ⟨rfl, rfl⟩
  | cons r rt ih =>
    obtain ⟨first, others⟩ := List.forall_mem_cons.1 stored
    obtain ⟨read, length⟩ := ih others
    have field := length_recipeBytes first
    have content : recipesContent (r :: rt) = recipeBytes r ++ recipesContent rt := List.flatMap_cons
    rw [content, List.length_cons, readRecipes, List.take_left' field, List.drop_left' field, readRecipe_recipeBytes first, read]
    exact ⟨rfl, by rw [List.length_append, field, length]; omega⟩

/-! ## A shift record -/

/-- What stands before the count of product entries: the open and close times, carried_in and carried_out. -/
def closedFront (c : ClosedShift) : List Byte :=
  openBytes c.totals.openTime ++ (stampBytes c.closeTime ++ (u8 c.totals.carriedIn ++ u8 c.carriedOut))

theorem length_closedFront (c : ClosedShift) : (closedFront c).length = 15 := by
  rw [closedFront, List.length_append, length_openBytes]; rfl

theorem shiftContent_eq (c : ClosedShift) : shiftContent c = closedFront c ++ (tailBytes c.totals ++ entriesBytes c.totals) := by
  simp only [shiftContent, closedHead, closedFront, List.append_assoc]

theorem length_shiftContent (c : ClosedShift) : (shiftContent c).length = 103 + 34 * c.totals.products.length := by
  have tail : (tailBytes c.totals).length = 54 := rfl
  simp only [shiftContent_eq, entriesBytes, List.length_append, length_closedFront, tail, length_flatMap_entryBytes, length_entryBytes]
  omega

/-- The totals behind any front that holds their open time: the count, the other mark, the line block, the entries. -/
theorem readTotals_append {t : Totals} (fits : t.fits = true) (front : List Byte) (shift : Nat)
    (opened : readOpen (front ++ (tailBytes t ++ entriesBytes t)) = t.openTime) :
    readTotals shift t.carriedIn front.length (front ++ (tailBytes t ++ entriesBytes t)) = { t with shift := shift } := by
  simp only [Totals.fits, Bool.and_eq_true, decide_eq_true_eq] at fits
  obtain ⟨⟨⟨⟨-, line⟩, count⟩, products⟩, other⟩ := fits
  have entries : entriesBytes t = t.products.flatMap (fun e => entryBytes e.code e.counters) ++ entryBytes 0 (t.other.getD .zero) := rfl
  generalize content : front ++ (tailBytes t ++ entriesBytes t) = l at opened ⊢
  have count_ : numAt l front.length 1 = t.products.length := by
    rw [← content]
    exact (numAt_append front _ 0 1).trans (natOf_u8 (by omega))
  have mark : numAt l (front.length + 1) 1 = if t.other.isSome then 1 else 0 := by
    rw [← content]
    refine (numAt_append front _ 1 1).trans ?_
    show natOf (flag t.other.isSome) = _
    cases t.other <;> rfl
  have line_ : readLine l (front.length + 2) = t.line := by
    have split : l = (front ++ (u8 t.products.length ++ flag t.other.isSome)) ++ (lineBytes t.line ++ entriesBytes t) := by
      simp only [← content, tailBytes, List.append_assoc]
    have place : (front ++ (u8 t.products.length ++ flag t.other.isSome)).length = front.length + 2 := List.length_append
    rw [split, ← place, readLine_append, readLine_lineBytes _ line]
  have place : (front ++ tailBytes t).length = front.length + 54 := List.length_append
  have products_ : readProducts l (front.length + 54) t.products.length = t.products := by
    have past := readProducts_append (front ++ tailBytes t) (entriesBytes t) t.products.length 0
    rw [List.append_assoc, content, place] at past
    exact past.trans (by rw [entries, readProducts_flatMap _ products])
  have other_ : ∀ c, t.other = some c → readCounters l (front.length + 54 + 34 * t.products.length) = c := by
    intro c present
    have past := readCounters_append (front ++ tailBytes t ++ t.products.flatMap (fun e => entryBytes e.code e.counters))
      (entryBytes 0 (t.other.getD .zero)) 0
    rw [List.append_assoc, ← entries, List.append_assoc, content, List.length_append, place, length_flatMap_entryBytes] at past
    rw [present] at other past
    have read := readCounters_entryBytes [] 0 (c := c) other
    rw [List.append_nil] at read
    exact past.trans read
  simp only [readTotals, opened, count_, line_, products_, mark]
  cases present : t.other with
  | none => cases t; simp_all
  | some c => rw [other_ c present]; cases t; simp_all

theorem readShift_shiftContent {c : ClosedShift} (fits : c.fits = true) :
    readShift c.totals.shift (shiftContent c) = c := by
  simp only [ClosedShift.fits, Bool.and_eq_true, decide_eq_true_eq] at fits
  obtain ⟨⟨totals, closeTime⟩, carriedOut⟩ := fits
  have widths := totals
  simp only [Totals.fits, Bool.and_eq_true, decide_eq_true_eq] at widths
  obtain ⟨⟨⟨⟨⟨openTime, carriedIn⟩, -⟩, -⟩, -⟩, -⟩ := widths
  have past (i n : Nat) : numAt (shiftContent c) (7 + i) n = numAt (stampBytes c.closeTime ++ (u8 c.totals.carriedIn
      ++ (u8 c.carriedOut ++ (tailBytes c.totals ++ entriesBytes c.totals)))) i n := by
    simp only [shiftContent_eq, closedFront, List.append_assoc]
    rw [← length_openBytes c.totals.openTime, numAt_append]
  have closed : readStamp (shiftContent c) 7 = c.closeTime :=
    (congrArg₂ Stamp.mk (past 0 2) (past 2 4)).trans (readStamp_stampBytes _ closeTime)
  have carriedIn_ : numAt (shiftContent c) 13 1 = c.totals.carriedIn := (past 6 1).trans (natOf_u8 carriedIn)
  have carriedOut_ : numAt (shiftContent c) 14 1 = c.carriedOut := (past 7 1).trans (natOf_u8 carriedOut)
  have opened : readOpen (shiftContent c) = c.totals.openTime := by
    simp only [shiftContent_eq, closedFront, List.append_assoc]
    exact readOpen_openBytes _ openTime
  have totals_ : readTotals c.totals.shift c.totals.carriedIn 15 (shiftContent c) = c.totals := by
    rw [shiftContent_eq] at opened ⊢
    rw [← length_closedFront c]
    exact readTotals_append totals (closedFront c) c.totals.shift opened
  simp only [readShift, closed, carriedIn_, carriedOut_, totals_]

/-- Settles O12: each field is read at the place where it was written, behind the fields of fixed length that stand before it. -/
theorem storedContentsReadBack : Obligations.StoredContentsReadBack := by
  refine ⟨fun rt sixteen stored => ?_, fun c fits => ⟨readShift_shiftContent fits, length_shiftContent c⟩⟩
  obtain ⟨read, length⟩ := readRecipes_recipesContent rt (List.all_eq_true.1 stored)
  rw [sixteen] at read length
  exact ⟨read, length⟩

end Sys2Proof.Machine
end

section
/-! SUPPORT. The five counts of the balance of the live shift (R159): the operations that count none of them. -/

namespace Sys2Proof.Machine

set_option Elab.async false

/-- The counts of the live shift that its balance is made of. -/
structure Ledger where
  carriedIn : Nat
  admitted : Nat
  bagged : Nat
  rejected : Nat
  lost : Nat

def TotalsUnit.ledger (u : TotalsUnit) : Ledger where
  carriedIn := u.live.carriedIn
  admitted := u.live.line.admitted
  bagged := u.live.line.bagged
  rejected := u.live.line.rejected
  lost := u.live.line.lost

@[simp] theorem ledger_liveKept (u : TotalsUnit) (closed : Option ClosedShift) (tally : Nat) (isSet : Bool) :
    TotalsUnit.ledger { live := u.live, closeBuffer := closed, tally := tally, totalsSet := isSet } = u.ledger := rfl

@[simp] theorem when_ledger {f : State → State} (h : ∀ s, (f s).tu.ledger = s.tu.ledger) (c : Bool) (s : State) :
    (when c f s).tu.ledger = s.tu.ledger :=
  when_elim (P := fun t => t.tu.ledger = s.tu.ledger) rfl (fun _ => h s)

theorem foldl_ledger {α : Type} {f : State → α → State} (h : ∀ s x, (f s x).tu.ledger = s.tu.ledger) (l : List α) (s : State) :
    (l.foldl f s).tu.ledger = s.tu.ledger := by
  induction l generalizing s with
  | nil => rfl
  | cons x l ih => rw [List.foldl_cons, ih, h]

variable (s : State)

/-! ## The Fault Table -/

@[simp] theorem countFault_ledger : (countFault s).tu.ledger = s.tu.ledger := by
  unfold countFault; split <;> rfl
@[simp] theorem countLine_ledger {f : LineBlock → LineBlock} (admitted : ∀ b, (f b).admitted = b.admitted)
    (bagged : ∀ b, (f b).bagged = b.bagged) (rejected : ∀ b, (f b).rejected = b.rejected) (lost : ∀ b, (f b).lost = b.lost) :
    (countLine f s).tu.ledger = s.tu.ledger := by
  simp [countLine, State.onLive, TotalsUnit.ledger, admitted, bagged, rejected, lost]
@[simp] theorem presentNext_ledger : (presentNext s).tu.ledger = s.tu.ledger := by
  unfold presentNext present; split
  · simp
  · split <;> simp
  · rfl
@[simp] theorem placeEntry_ledger (e : FaultEntry) : (placeEntry e s).tu.ledger = s.tu.ledger := by
  unfold placeEntry; split
  · simp
  · split <;> simp
@[simp] theorem raiseFault_ledger (k : FaultKind) (subj : Subject) (detail : Option Nat) :
    (raiseFault k subj detail s).tu.ledger = s.tu.ledger := by
  simp only [raiseFault]; (repeat' split) <;> simp
@[simp] theorem removeEntry_ledger (k : FaultKind) (subj : Subject) : (removeEntry k subj s).tu.ledger = s.tu.ledger := by
  simp [removeEntry]
@[simp] theorem noticeCause_ledger (k : FaultKind) (subj : Subject) (isPresent : Bool) :
    (noticeCause k subj isPresent s).tu.ledger = s.tu.ledger := by
  simp only [noticeCause]; (repeat' split) <;> simp
@[simp] theorem removeAll_ledger (l : List FaultEntry) : (removeAll l s).tu.ledger = s.tu.ledger :=
  foldl_ledger (by simp) l s
@[simp] theorem noticeRemoval_ledger (hit : FaultEntry → Bool) : (noticeRemoval hit s).tu.ledger = s.tu.ledger := by
  simp only [noticeRemoval]; (repeat' split) <;> simp
@[simp] theorem matchNotice_ledger (subj : Subject) : (matchNotice subj s).tu.ledger = s.tu.ledger := by
  simp [matchNotice]
@[simp] theorem bagConfirmNotice_ledger : (bagConfirmNotice s).tu.ledger = s.tu.ledger := by
  simp [bagConfirmNotice]
@[simp] theorem clearCompletedNotice_ledger (l : Lane) : (clearCompletedNotice l s).tu.ledger = s.tu.ledger := by
  simp [clearCompletedNotice]
@[simp] theorem eyeStuckToAuto_ledger : (eyeStuckToAuto s).tu.ledger = s.tu.ledger := by
  simp [eyeStuckToAuto]
@[simp] theorem clearPresented_ledger (e : FaultEntry) : (clearPresented e s).tu.ledger = s.tu.ledger := by
  simp [clearPresented]
@[simp] theorem inputTaken_ledger (k : FaultKind) (was : Bool) (now : Bool) :
    (inputTaken k was now s).tu.ledger = s.tu.ledger := by
  simp [inputTaken]

/-! ## The magazines and the air manifold -/

@[simp] theorem evalBagLow_ledger : (evalBagLow s).tu.ledger = s.tu.ledger := by
  simp only [evalBagLow]; (repeat' split) <;> simp
@[simp] theorem evalClipLow_ledger : (evalClipLow s).tu.ledger = s.tu.ledger := by
  simp only [evalClipLow]; (repeat' split) <;> simp
@[simp] theorem setBagCount_ledger (n : Nat) : (setBagCount n s).tu.ledger = s.tu.ledger := by
  simp [setBagCount]
@[simp] theorem setClipCount_ledger (n : Nat) : (setClipCount n s).tu.ledger = s.tu.ledger := by
  simp [setClipCount]
@[simp] theorem openBag_ledger : (openBag s).tu.ledger = s.tu.ledger := by
  simp only [openBag]; (repeat' split) <;> simp
@[simp] theorem waitForBags_ledger : (waitForBags s).tu.ledger = s.tu.ledger := by
  simp [waitForBags]
@[simp] theorem grantBag_ledger (c : AirChannel) : (grantBag c s).tu.ledger = s.tu.ledger := by
  simp only [grantBag]; (repeat' split) <;> simp
@[simp] theorem grantNext_ledger (c : AirChannel) : (grantNext c s).tu.ledger = s.tu.ledger := by
  simp only [grantNext]; (repeat' split) <;> simp
@[simp] theorem grantTo_ledger (r : Requester) (c : AirChannel) : (grantTo r c s).tu.ledger = s.tu.ledger := by
  simp only [grantTo]; (repeat' split) <;> simp
@[simp] theorem airRequest_ledger (r : Requester) : (airRequest r s).tu.ledger = s.tu.ledger := by
  simp only [airRequest]; (repeat' split) <;> simp
@[simp] theorem releaseChannel_ledger (c : AirChannel) : (releaseChannel c s).tu.ledger = s.tu.ledger := by
  simp [releaseChannel]
@[simp] theorem airRelease_ledger (r : Requester) : (airRelease r s).tu.ledger = s.tu.ledger := by
  simp only [airRelease]; (repeat' split) <;> simp
@[simp] theorem airWithdraw_ledger (r : Requester) : (airWithdraw r s).tu.ledger = s.tu.ledger := by
  simp [airWithdraw]
@[simp] theorem steer_ledger (r : Requester) (e : Steer) : (steer r e s).tu.ledger = s.tu.ledger := by
  simp only [steer]; (repeat' split) <;> simp
@[simp] theorem airPressure_ledger (result : Nat) : (airPressure result s).tu.ledger = s.tu.ledger := by
  simp only [airPressure]; (repeat' split) <;> simp
@[simp] theorem requestBag_ledger : (requestBag s).tu.ledger = s.tu.ledger := by
  simp only [requestBag]; (repeat' split) <;> simp
@[simp] theorem requestKnife_ledger (l : Lane) : (requestKnife l s).tu.ledger = s.tu.ledger := by
  simp only [requestKnife]; (repeat' split) <;> simp

/-! ## Crumb clearing -/

@[simp] theorem makeGap_ledger (l : Lane) : (makeGap l s).tu.ledger = s.tu.ledger := by
  simp [makeGap]
@[simp] theorem overfullCheck_ledger (l : Lane) : (overfullCheck l s).tu.ledger = s.tu.ledger := by
  simp only [overfullCheck]; (repeat' split) <;> simp
@[simp] theorem endBlowing_ledger (l : Lane) : (endBlowing l s).tu.ledger = s.tu.ledger := by
  simp [endBlowing]
@[simp] theorem holdCrumb_ledger (l : Lane) : (holdCrumb l s).tu.ledger = s.tu.ledger := by
  simp [holdCrumb]
@[simp] theorem endOfInitCheck_ledger (l : Lane) : (endOfInitCheck l s).tu.ledger = s.tu.ledger := by
  simp [endOfInitCheck]

/-! ## The Tracking Table -/

@[simp] theorem eyeCleared_ledger (e : TrackedEye) : (eyeCleared e s).tu.ledger = s.tu.ledger := by
  simp [eyeCleared]
@[simp] theorem raiseStuck_ledger (e : TrackedEye) : (raiseStuck e s).tu.ledger = s.tu.ledger := by
  simp [raiseStuck]
@[simp] theorem slicerLeading_ledger (l : Lane) (x : Edge) : (slicerLeading l x s).tu.ledger = s.tu.ledger := by
  simp only [slicerLeading]; (repeat' split) <;> simp
@[simp] theorem mergeLeading_ledger (l : Lane) (x : Edge) : (mergeLeading l x s).tu.ledger = s.tu.ledger := by
  simp only [mergeLeading]; (repeat' split) <;> simp
@[simp] theorem exitLeading_ledger (x : Edge) : (exitLeading x s).tu.ledger = s.tu.ledger := by
  simp only [exitLeading]; (repeat' split) <;> simp
/-! ## The stations -/

@[simp] theorem enterTwist_ledger : (enterTwist s).tu.ledger = s.tu.ledger := by
  simp only [enterTwist]; (repeat' split) <;> simp
@[simp] theorem startTyer_ledger : (startTyer s).tu.ledger = s.tu.ledger := by
  simp only [startTyer]; (repeat' split) <;> simp
@[simp] theorem endPurge_ledger : (endPurge s).tu.ledger = s.tu.ledger := by
  simp [endPurge]
@[simp] theorem enterClip_ledger : (enterClip s).tu.ledger = s.tu.ledger := by
  simp only [enterClip]; (repeat' split) <;> simp
@[simp] theorem jamTyer_ledger : (jamTyer s).tu.ledger = s.tu.ledger := by
  simp [jamTyer]
@[simp] theorem handoff_ledger : (handoff s).tu.ledger = s.tu.ledger := by
  simp only [handoff]; (repeat' split) <;> simp
@[simp] theorem bagCheck_ledger : (bagCheck s).tu.ledger = s.tu.ledger := by
  simp only [bagCheck]; (repeat' split) <;> simp
@[simp] theorem startRoute_ledger : (startRoute s).tu.ledger = s.tu.ledger := by
  simp only [startRoute]; (repeat' split) <;> simp
@[simp] theorem selectLane_ledger (l : Lane) (r : LoafRecord) : (selectLane l r s).tu.ledger = s.tu.ledger := by
  simp only [selectLane]; (repeat' split) <;> simp
@[simp] theorem selectIfReady_ledger : (selectIfReady s).tu.ledger = s.tu.ledger := by
  simp only [selectIfReady]; (repeat' split) <;> simp
@[simp] theorem strokeStopped_ledger : (strokeStopped s).tu.ledger = s.tu.ledger := by
  simp only [strokeStopped]; (repeat' split) <;> simp
@[simp] theorem homingFailed_ledger : (homingFailed s).tu.ledger = s.tu.ledger := by
  simp only [homingFailed]; (repeat' split) <;> simp
@[simp] theorem strokeRunOut_ledger : (strokeRunOut s).tu.ledger = s.tu.ledger := by
  simp only [strokeRunOut]; (repeat' split) <;> simp
@[simp] theorem bagConfirmed_ledger : (bagConfirmed s).tu.ledger = s.tu.ledger := by
  simp only [bagConfirmed, when]; split <;> simp
@[simp] theorem endBlast_ledger : (endBlast s).tu.ledger = s.tu.ledger := by
  simp [endBlast]
@[simp] theorem abandonBagger_ledger : (abandonBagger s).tu.ledger = s.tu.ledger := by
  simp [abandonBagger]
@[simp] theorem abandonTyer_ledger : (abandonTyer s).tu.ledger = s.tu.ledger := by
  simp [abandonTyer]
@[simp] theorem bagsLoaded_ledger : (bagsLoaded s).tu.ledger = s.tu.ledger := by
  simp [bagsLoaded]
@[simp] theorem clipsLoaded_ledger : (clipsLoaded s).tu.ledger = s.tu.ledger := by
  simp [clipsLoaded]
@[simp] theorem retie_ledger : (retie s).tu.ledger = s.tu.ledger := by
  simp [retie]
/-! ## The writer of the Record Store -/

@[simp] theorem failureFault_ledger (k : JobKind) (done : Bool) : (failureFault k done s).tu.ledger = s.tu.ledger := by
  simp only [failureFault]; (repeat' split) <;> simp
@[simp] theorem endJob_ledger (w : JobInProgress) (e : LogEntry) : (endJob w e s).tu.ledger = s.tu.ledger := by
  simp only [endJob]; (repeat' split) <;> simp
@[simp] theorem programVerified_ledger (w : JobInProgress) : (programVerified w s).tu.ledger = s.tu.ledger := by
  simp only [programVerified, when]; (repeat' split) <;> simp
@[simp] theorem programFailed_ledger (w : JobInProgress) : (programFailed w s).tu.ledger = s.tu.ledger := by
  simp only [programFailed]; (repeat' split) <;> simp

end Sys2Proof.Machine
end

section
/-! SUPPORT. The balance of the live shift (R159) as a proposition that holds in the middle of an operation too: with admitted
records in hand, taken out of one zone and not yet counted or put into the next, and with room for admissions to come. -/

namespace Sys2Proof.Machine

set_option Elab.async false

variable {s t : State} {hand n room : Nat}

/-! ## The counts -/

theorem bump_of_lt {n : Nat} (h : n < 4294967295) : bump n = n + 1 := min_eq_left h

/-- The balance for a number of admitted records, with room in the counters for all of them and for some admissions more. -/
structure Ledger.Balances (room records : Nat) (c : Ledger) : Prop where
  balance : c.carriedIn + c.admitted = c.bagged + c.rejected + c.lost + records
  admitted : c.admitted + room ≤ 4294967295
  bagged : c.bagged + records + room ≤ 4294967295
  rejected : c.rejected + records + room ≤ 4294967295
  lost : c.lost + records + room ≤ 4294967295

namespace Ledger.Balances

variable {c : Ledger}

theorem lostOne (h : c.Balances room (n + 1)) : Ledger.Balances room n { c with lost := bump c.lost } := by
  obtain ⟨balance, admitted, bagged, rejected, lost⟩ := h
  constructor <;> simp only [bump_of_lt (show c.lost < 4294967295 by omega)] <;> omega

theorem baggedOne (h : c.Balances room (n + 1)) : Ledger.Balances room n { c with bagged := bump c.bagged } := by
  obtain ⟨balance, admitted, bagged, rejected, lost⟩ := h
  constructor <;> simp only [bump_of_lt (show c.bagged < 4294967295 by omega)] <;> omega

theorem rejectedOne (h : c.Balances room (n + 1)) : Ledger.Balances room n { c with rejected := bump c.rejected } := by
  obtain ⟨balance, admitted, bagged, rejected, lost⟩ := h
  constructor <;> simp only [bump_of_lt (show c.rejected < 4294967295 by omega)] <;> omega

theorem admittedOne (h : c.Balances (room + 1) n) : Ledger.Balances room (n + 1) { c with admitted := bump c.admitted } := by
  obtain ⟨balance, admitted, bagged, rejected, lost⟩ := h
  constructor <;> simp only [bump_of_lt (show c.admitted < 4294967295 by omega)] <;> omega

theorem narrow {less : Nat} (h : c.Balances room n) (few : less ≤ room) : c.Balances less n := by
  obtain ⟨balance, admitted, bagged, rejected, lost⟩ := h
  constructor <;> omega

end Ledger.Balances

/-! ## The records -/

/-- The records that wait before the gates. -/
def beforeGate (t : Tracking) : List LoafRecord := t.approach.a ++ t.approach.b

/-- The records past the gates. -/
def pastGate (t : Tracking) : List LoafRecord :=
  t.blade.a.toList ++ t.blade.b.toList ++ t.accum.a ++ t.accum.b ++ t.bagger.toList ++ t.tyer.toList ++ t.exit

theorem records_eq_gates (t : Tracking) : t.records = beforeGate t ++ pastGate t := by
  simp [Tracking.records, beforeGate, pastGate]

/-- The admitted records are the ones past the gates (R1), and the shift balances over them and the ones in hand. -/
structure Stock (hand room : Nat) (s : State) : Prop where
  waiting : ∀ r ∈ beforeGate s.tt, r.admitted = false
  admitted : ∀ r ∈ pastGate s.tt, r.admitted = true
  books : s.tu.ledger.Balances room ((pastGate s.tt).length + hand)

/-- The closure set tells of a record in BLADE (R65). -/
def BladeTold (s : State) : Prop :=
  ∀ l, (s.tt.blade.get l).isSome = true → (s.lic.get l).closure.bladeOccupied = true

/-- What `liveSafe` and the balance say, with some admitted records in hand and some admissions to come. -/
structure Live (hand room : Nat) (s : State) : Prop extends Stock hand room s where
  told : BladeTold s

/-- The admitted records are counted by the zones past the gates. -/
theorem admittedCount_of_gates (waiting : ∀ r ∈ beforeGate s.tt, r.admitted = false)
    (admitted : ∀ r ∈ pastGate s.tt, r.admitted = true) : admittedCount s = (pastGate s.tt).length := by
  have before : (beforeGate s.tt).countP (·.admitted) = 0 := List.countP_eq_zero.2 (fun r hr => by simp [waiting r hr])
  have past : (pastGate s.tt).countP (·.admitted) = (pastGate s.tt).length := List.countP_eq_length.2 admitted
  rw [admittedCount, State.records, records_eq_gates, List.countP_append, before, past, Nat.zero_add]

theorem Stock.admittedCount (h : Stock hand room s) : admittedCount s = (pastGate s.tt).length :=
  admittedCount_of_gates h.waiting h.admitted

theorem Live.narrow {less : Nat} (h : Live hand room s) (few : less ≤ room) : Live hand less s :=
  ⟨⟨h.waiting, h.admitted, h.books.narrow few⟩, h.told⟩

/-! ## What keeps it -/

theorem bladeTold_of_frames (h : BladeTold s)
    (blade : ∀ l, (t.tt.blade.get l).isSome = true → (s.tt.blade.get l).isSome = true)
    (flags : ∀ l, (t.lic.get l).holdAside = (s.lic.get l).holdAside) : BladeTold t := by
  intro l some
  have occupied : (t.lic.get l).closure.bladeOccupied = (s.lic.get l).closure.bladeOccupied := by
    show (t.lic.get l).holdAside.closure.bladeOccupied = (s.lic.get l).holdAside.closure.bladeOccupied
    rw [flags]
  rw [occupied]
  exact h l (blade l some)

theorem Stock.of_frames (h : Stock hand room s) (approach : t.tt.approach = s.tt.approach := by simp)
    (blade : t.tt.blade = s.tt.blade := by simp) (accum : t.tt.accum = s.tt.accum := by simp)
    (bagger : t.tt.bagger = s.tt.bagger := by simp) (tyer : t.tt.tyer = s.tt.tyer := by simp)
    (exit : t.tt.exit = s.tt.exit := by simp) (ledger : t.tu.ledger = s.tu.ledger := by simp) : Stock hand room t := by
  have before : beforeGate t.tt = beforeGate s.tt := by simp only [beforeGate, approach]
  have past : pastGate t.tt = pastGate s.tt := by simp only [pastGate, blade, accum, bagger, tyer, exit]
  exact ⟨before ▸ h.waiting, past ▸ h.admitted, past ▸ ledger ▸ h.books⟩

/-- An operation that keeps the zones, the counts of the balance and the lanes but for FAULT_HOLD keeps the balance. -/
theorem Live.of_frames (h : Live hand room s) (approach : t.tt.approach = s.tt.approach := by simp)
    (blade : t.tt.blade = s.tt.blade := by simp) (accum : t.tt.accum = s.tt.accum := by simp)
    (bagger : t.tt.bagger = s.tt.bagger := by simp) (tyer : t.tt.tyer = s.tt.tyer := by simp)
    (exit : t.tt.exit = s.tt.exit := by simp) (ledger : t.tu.ledger = s.tu.ledger := by simp)
    (flags : ∀ l, (t.lic.get l).holdAside = (s.lic.get l).holdAside := by simp) : Live hand room t :=
  ⟨h.toStock.of_frames approach blade accum bagger tyer exit ledger, bladeTold_of_frames h.told (by simp [blade]) flags⟩

/-- A lane's controller changed in nothing but what the balance does not speak of. -/
theorem Live.onLane (h : Live hand room s) (l : Lane) {f : LaneInfeed → LaneInfeed} (closure : ∀ i, (f i).closure = i.closure) :
    Live hand room (s.onLane l f) := by
  refine ⟨⟨h.waiting, h.admitted, h.books⟩, fun m some => ?_⟩
  have same : ((s.onLane l f).lic.get m).closure = (s.lic.get m).closure := by
    cases l <;> cases m <;> simp [State.onLane, PerLane.upd, PerLane.get, closure]
  rw [same]
  exact h.told m some

/-- A lane is told of its BLADE; the other keeps its flags. -/
theorem Stock.syncLane (h : Stock hand room s) (l : Lane)
    (other : (s.tt.blade.get (otherLane l)).isSome = true → (s.lic.get (otherLane l)).closure.bladeOccupied = true) :
    Live hand room (syncLane l s) := by
  refine ⟨h.of_frames, fun m some => ?_⟩
  have blade : (Machine.syncLane l s).tt = s.tt := by simp
  rw [blade] at some
  by_cases same : m = l
  · subst same
    rw [syncLane_lic_same]
    exact some
  · obtain rfl := eq_otherLane same
    rw [syncLane_lic_other same]
    exact other some

theorem live_syncLane (l : Lane) (h : Live hand room s) : Live hand room (syncLane l s) := h.toStock.syncLane l (h.told _)

theorem live_syncLanes (h : Live hand room s) : Live hand room (syncLanes s) := live_syncLane .b (live_syncLane .a h)

/-! ## Records counted -/

theorem countRecord_ledger (r : LoafRecord) (f : Counters → Counters) (s : State) :
    (countRecord r f s).tu.ledger = s.tu.ledger := by
  have live : (countRecord r f s).tu.live.carriedIn = s.tu.live.carriedIn := by
    unfold countRecord countProduct Totals.count State.onLive; split
    · simp only [onTu_tu]; (repeat' split) <;> rfl
    · rfl
  simp [TotalsUnit.ledger, countRecord_line, live]

theorem countLost_ledger (r : LoafRecord) (s : State) :
    (countLost r s).tu.ledger = { s.tu.ledger with lost := bump s.tu.ledger.lost } := by
  rw [countLost, countRecord_ledger]; rfl

theorem countBagged_ledger (r : LoafRecord) (s : State) :
    (countBagged r s).tu.ledger = { s.tu.ledger with bagged := bump s.tu.ledger.bagged } := by
  rw [countBagged, countRecord_ledger]; rfl

theorem countRejected_ledger (r : LoafRecord) (f : Counters → Counters) (s : State) :
    (countRejected r f s).tu.ledger = { s.tu.ledger with rejected := bump s.tu.ledger.rejected } := by
  rw [countRejected, countRecord_ledger]; rfl

/-- Zones and flags kept, and other counts that balance. -/
theorem Live.counted {less : Nat} (h : Live hand room s) (tt : t.tt = s.tt) (lic : t.lic = s.lic)
    (books : t.tu.ledger.Balances less ((pastGate s.tt).length + n)) : Live n less t :=
  ⟨⟨tt ▸ h.waiting, tt ▸ h.admitted, tt ▸ books⟩, fun l => tt ▸ lic ▸ h.told l⟩

theorem live_countLost (r : LoafRecord) (h : Live (hand + 1) room s) : Live hand room (countLost r s) :=
  h.counted (by simp) (by simp) (countLost_ledger r s ▸ h.books.lostOne)

theorem live_countBagged (r : LoafRecord) (h : Live (hand + 1) room s) : Live hand room (countBagged r s) :=
  h.counted (by simp) (by simp) (countBagged_ledger r s ▸ h.books.baggedOne)

theorem live_countRejected (r : LoafRecord) (f : Counters → Counters) (h : Live (hand + 1) room s) :
    Live hand room (countRejected r f s) :=
  h.counted (by simp) (by simp) (countRejected_ledger r f s ▸ h.books.rejectedOne)

/-- An admitted record in hand is lost (R6). -/
theorem live_lose (subj : Subject) {r : LoafRecord} (admitted : r.admitted = true) (h : Live (hand + 1) room s) :
    Live hand room (lose subj r s) := by
  have counted := live_countLost r h
  rw [lose, admitted, when_true]
  exact counted.of_frames

/-! ## Records moved -/

/-- Records moved past the gates: what is there is admitted, and none is gained or lost. -/
theorem Stock.moved (h : Stock hand room s) {f : Tracking → Tracking} (approach : (f s.tt).approach = s.tt.approach)
    (admitted : ∀ r ∈ pastGate (f s.tt), r.admitted = true)
    (count : (pastGate (f s.tt)).length + n = (pastGate s.tt).length + hand) : Stock n room (s.onTt f) := by
  have before : beforeGate (f s.tt) = beforeGate s.tt := by simp only [beforeGate, approach]
  exact ⟨fun r hr => h.waiting r (before ▸ hr), admitted, count ▸ h.books⟩

theorem Live.moved (h : Live hand room s) {f : Tracking → Tracking} (approach : (f s.tt).approach = s.tt.approach)
    (blade : (f s.tt).blade = s.tt.blade) (admitted : ∀ r ∈ pastGate (f s.tt), r.admitted = true)
    (count : (pastGate (f s.tt)).length + n = (pastGate s.tt).length + hand) : Live n room (s.onTt f) :=
  ⟨h.toStock.moved approach admitted count, bladeTold_of_frames h.told (fun l some => by simpa [blade] using some) (fun _ => rfl)⟩

theorem mem_pastGate {r : LoafRecord} {t : Tracking} : r ∈ pastGate t ↔ (∃ l, t.blade.get l = some r) ∨ (∃ l, r ∈ t.accum.get l)
    ∨ t.bagger = some r ∨ t.tyer = some r ∨ r ∈ t.exit := by
  have lanes (p : Lane → Prop) : (∃ l, p l) ↔ p .a ∨ p .b :=
    ⟨fun ⟨l, hl⟩ => by cases l; exacts [.inl hl, .inr hl], fun h => h.elim (⟨_, ·⟩) (⟨_, ·⟩)⟩
  simp [pastGate, lanes, PerLane.get, or_assoc]

theorem length_pastGate (t : Tracking) (l : Lane) : (pastGate t).length
    = (t.blade.get l).toList.length + (t.blade.get (otherLane l)).toList.length + (t.accum.get l).length
      + (t.accum.get (otherLane l)).length + t.bagger.toList.length + t.tyer.toList.length + t.exit.length := by
  cases l <;> simp [pastGate, otherLane, PerLane.get] <;> omega

/-- ACCUM changed: its records are admitted ones, and none is gained or lost. -/
theorem Live.onAccum (h : Live hand room s) (l : Lane) {f : List LoafRecord → List LoafRecord}
    (admitted : ∀ r ∈ f (s.tt.accum.get l), r.admitted = true)
    (count : (f (s.tt.accum.get l)).length + n = (s.tt.accum.get l).length + hand) : Live n room (s.onAccum l f) := by
  refine h.moved rfl rfl (fun r hr => ?_) ?_
  · rw [mem_pastGate] at hr
    obtain blade | ⟨m, accum⟩ | other := hr
    · exact h.admitted r (mem_pastGate.2 (.inl blade))
    · by_cases same : m = l
      · subst same
        rw [PerLane.get_upd_same] at accum
        exact admitted r accum
      · rw [PerLane.get_upd_other _ same] at accum
        exact h.admitted r (mem_pastGate.2 (.inr (.inl ⟨m, accum⟩)))
    · exact h.admitted r (mem_pastGate.2 (.inr (.inr other)))
  · have other : otherLane l ≠ l := by cases l <;> simp [otherLane]
    simp only [length_pastGate _ l, PerLane.get_upd_same, PerLane.get_upd_other _ other]
    omega

theorem Stock.onBladeZone (h : Stock hand room s) (l : Lane) {f : Option LoafRecord → Option LoafRecord}
    (admitted : ∀ r, f (s.tt.blade.get l) = some r → r.admitted = true)
    (count : (f (s.tt.blade.get l)).toList.length + n = (s.tt.blade.get l).toList.length + hand) :
    Stock n room (s.onBladeZone l f) := by
  refine h.moved rfl (fun r hr => ?_) ?_
  · rw [mem_pastGate] at hr
    obtain ⟨m, blade⟩ | other := hr
    · by_cases same : m = l
      · subst same
        rw [PerLane.get_upd_same] at blade
        exact admitted r blade
      · rw [PerLane.get_upd_other _ same] at blade
        exact h.admitted r (mem_pastGate.2 (.inl ⟨m, blade⟩))
    · exact h.admitted r (mem_pastGate.2 (.inr other))
  · have other : otherLane l ≠ l := by cases l <;> simp [otherLane]
    simp only [length_pastGate _ l, PerLane.get_upd_same, PerLane.get_upd_other _ other]
    omega

/-- BLADE emptied, or its record changed where it is. -/
theorem Live.onBladeZone (h : Live hand room s) (l : Lane) {f : Option LoafRecord → Option LoafRecord}
    (admitted : ∀ r, f (s.tt.blade.get l) = some r → r.admitted = true)
    (count : (f (s.tt.blade.get l)).toList.length + n = (s.tt.blade.get l).toList.length + hand)
    (fewer : (f (s.tt.blade.get l)).isSome = true → (s.tt.blade.get l).isSome = true) : Live n room (s.onBladeZone l f) :=
  ⟨h.toStock.onBladeZone l admitted count, bladeTold_of_frames h.told
    (PerLane.upd_related (P := fun q r : Option LoafRecord => q.isSome = true → r.isSome = true) (fun _ => id) fewer)
    (fun _ => rfl)⟩

theorem Live.setBagger (h : Live hand room s) (q : Option LoafRecord) (admitted : ∀ r, q = some r → r.admitted = true)
    (count : q.toList.length + n = s.tt.bagger.toList.length + hand) :
    Live n room (s.onTt (fun t => { t with bagger := q })) := by
  refine h.moved rfl rfl (fun r hr => ?_) ?_
  · rw [mem_pastGate] at hr
    obtain blade | accum | bagger | other := hr
    · exact h.admitted r (mem_pastGate.2 (.inl blade))
    · exact h.admitted r (mem_pastGate.2 (.inr (.inl accum)))
    · exact admitted r bagger
    · exact h.admitted r (mem_pastGate.2 (.inr (.inr (.inr other))))
  · simp only [length_pastGate _ .a]
    omega

theorem Live.setTyer (h : Live hand room s) (q : Option LoafRecord) (admitted : ∀ r, q = some r → r.admitted = true)
    (count : q.toList.length + n = s.tt.tyer.toList.length + hand) :
    Live n room (s.onTt (fun t => { t with tyer := q })) := by
  refine h.moved rfl rfl (fun r hr => ?_) ?_
  · rw [mem_pastGate] at hr
    obtain blade | accum | bagger | tyer | exit := hr
    · exact h.admitted r (mem_pastGate.2 (.inl blade))
    · exact h.admitted r (mem_pastGate.2 (.inr (.inl accum)))
    · exact h.admitted r (mem_pastGate.2 (.inr (.inr (.inl bagger))))
    · exact admitted r tyer
    · exact h.admitted r (mem_pastGate.2 (.inr (.inr (.inr (.inr exit)))))
  · simp only [length_pastGate _ .a]
    omega

theorem Live.onExit (h : Live hand room s) {f : List LoafRecord → List LoafRecord}
    (admitted : ∀ r ∈ f s.tt.exit, r.admitted = true) (count : (f s.tt.exit).length + n = s.tt.exit.length + hand) :
    Live n room (s.onExit f) := by
  refine h.moved rfl rfl (fun r hr => ?_) ?_
  · rw [mem_pastGate] at hr
    obtain blade | accum | bagger | tyer | exit := hr
    · exact h.admitted r (mem_pastGate.2 (.inl blade))
    · exact h.admitted r (mem_pastGate.2 (.inr (.inl accum)))
    · exact h.admitted r (mem_pastGate.2 (.inr (.inr (.inl bagger))))
    · exact h.admitted r (mem_pastGate.2 (.inr (.inr (.inr (.inl tyer)))))
    · exact admitted r exit
  · simp only [length_pastGate _ .a]
    omega

/-- APPROACH changed: its records are not admitted. -/
theorem Stock.onApproach (h : Stock hand room s) (l : Lane) {f : List LoafRecord → List LoafRecord}
    (waiting : ∀ r ∈ f (s.tt.approach.get l), r.admitted = false) : Stock hand room (s.onApproach l f) := by
  refine ⟨fun r hr => ?_, h.admitted, h.books⟩
  have old := h.waiting r
  cases l <;> simp only [beforeGate, List.mem_append] at hr old
  · exact hr.elim (waiting r) (fun other => old (.inr other))
  · exact hr.elim (fun other => old (.inl other)) (waiting r)

/-! ## Where a record is -/

theorem Stock.of_approach {r : LoafRecord} (h : Stock hand room s) {l : Lane} (there : r ∈ s.tt.approach.get l) :
    r.admitted = false := by
  refine h.waiting r (List.mem_append.2 ?_)
  cases l
  · exact .inl there
  · exact .inr there

theorem Stock.of_blade {r : LoafRecord} (h : Stock hand room s) {l : Lane} (there : s.tt.blade.get l = some r) :
    r.admitted = true := h.admitted r (mem_pastGate.2 (.inl ⟨l, there⟩))

theorem Stock.of_accum {r : LoafRecord} (h : Stock hand room s) {l : Lane} (there : r ∈ s.tt.accum.get l) :
    r.admitted = true := h.admitted r (mem_pastGate.2 (.inr (.inl ⟨l, there⟩)))

theorem Stock.of_bagger {r : LoafRecord} (h : Stock hand room s) (there : s.tt.bagger = some r) : r.admitted = true :=
  h.admitted r (mem_pastGate.2 (.inr (.inr (.inl there))))

theorem Stock.of_tyer {r : LoafRecord} (h : Stock hand room s) (there : s.tt.tyer = some r) : r.admitted = true :=
  h.admitted r (mem_pastGate.2 (.inr (.inr (.inr (.inl there)))))

theorem Stock.of_exit {r : LoafRecord} (h : Stock hand room s) (there : r ∈ s.tt.exit) : r.admitted = true :=
  h.admitted r (mem_pastGate.2 (.inr (.inr (.inr (.inr there)))))

/-! ## Records taken in hand -/

theorem live_takeBlade {l : Lane} {r : LoafRecord} (there : s.tt.blade.get l = some r) (h : Live hand room s) :
    Live (hand + 1) room (s.onBladeZone l (fun _ => none)) := by
  apply h.onBladeZone l
  · simp
  · simp [there, Nat.add_comm]
  · simp

theorem live_takeAccum {l : Lane} {r : LoafRecord} (there : r ∈ s.tt.accum.get l) (h : Live hand room s) :
    Live (hand + 1) room (removeAccumHead l s) := by
  have some := List.length_pos_of_mem there
  apply h.onAccum l
  · exact fun q hq => h.of_accum (List.mem_of_mem_tail hq)
  · rw [List.length_tail]; omega

theorem live_takeBagger {r : LoafRecord} (there : s.tt.bagger = some r) (h : Live hand room s) :
    Live (hand + 1) room (s.onTt (fun t => { t with bagger := none })) :=
  h.setBagger none (by simp) (by simp [there, Nat.add_comm])

theorem live_takeTyer {r : LoafRecord} (there : s.tt.tyer = some r) (h : Live hand room s) :
    Live (hand + 1) room (s.onTt (fun t => { t with tyer := none })) :=
  h.setTyer none (by simp) (by simp [there, Nat.add_comm])

theorem live_takeExit {r : LoafRecord} (there : r ∈ s.tt.exit) (h : Live hand room s) :
    Live (hand + 1) room (s.onExit List.tail) := by
  have some := List.length_pos_of_mem there
  apply h.onExit
  · exact fun q hq => h.of_exit (List.mem_of_mem_tail hq)
  · rw [List.length_tail]; omega

/-! ## Records put down -/

theorem Live.putAccum (h : Live (hand + 1) room s) (l : Lane) {r : LoafRecord} (admitted : r.admitted = true) :
    Live hand room (s.onAccum l (· ++ [r])) :=
  h.onAccum l (List.forall_mem_append.2 ⟨fun _ => h.of_accum, List.forall_mem_singleton.2 admitted⟩)
    (by rw [List.length_append, List.length_singleton]; omega)

theorem Live.putBagger (h : Live (hand + 1) room s) {r : LoafRecord} (admitted : r.admitted = true)
    (empty : s.tt.bagger = none) : Live hand room (s.onTt (fun t => { t with bagger := some r })) :=
  h.setBagger (some r) (fun _ new => Option.some.inj new ▸ admitted) (by simp [empty, Nat.add_comm])

theorem Live.putTyer (h : Live (hand + 1) room s) {r : LoafRecord} (admitted : r.admitted = true)
    (empty : s.tt.tyer = none) : Live hand room (s.onTt (fun t => { t with tyer := some r })) :=
  h.setTyer (some r) (fun _ new => Option.some.inj new ▸ admitted) (by simp [empty, Nat.add_comm])

theorem Live.putExit (h : Live (hand + 1) room s) {r : LoafRecord} (admitted : r.admitted = true) :
    Live hand room (s.onExit (· ++ [r])) :=
  h.onExit (List.forall_mem_append.2 ⟨fun _ => h.of_exit, List.forall_mem_singleton.2 admitted⟩)
    (by rw [List.length_append, List.length_singleton]; omega)

/-! ## Records changed where they are -/

theorem mapHead_admitted {f : LoafRecord → LoafRecord} (kept : ∀ r, (f r).admitted = r.admitted) {q : List LoafRecord}
    (admitted : ∀ r ∈ q, r.admitted = true) : ∀ r ∈ mapHead f q, r.admitted = true := by
  cases q with
  | nil => exact admitted
  | cons r rest =>
    obtain ⟨head, tail⟩ := List.forall_mem_cons.1 admitted
    exact List.forall_mem_cons.2 ⟨(kept r).trans head, tail⟩

theorem map_admitted {f : LoafRecord → LoafRecord} (kept : ∀ r, (f r).admitted = r.admitted) {q : Option LoafRecord}
    (admitted : ∀ r, q = some r → r.admitted = true) : ∀ r, q.map f = some r → r.admitted = true := by
  intro r hr
  obtain ⟨old, there, rfl⟩ := Option.map_eq_some_iff.1 hr
  exact (kept old).trans (admitted old there)

theorem length_toList_map (f : LoafRecord → LoafRecord) (q : Option LoafRecord) :
    (q.map f).toList.length = q.toList.length := by cases q <;> rfl

theorem Live.mapAccum (h : Live hand room s) (l : Lane) {f : LoafRecord → LoafRecord} (kept : ∀ r, (f r).admitted = r.admitted) :
    Live hand room (s.onAccum l (mapHead f)) :=
  h.onAccum l (mapHead_admitted kept (fun _ => h.of_accum)) (by rw [length_mapHead])

theorem Live.mapWholeAccum (h : Live hand room s) (l : Lane) {f : LoafRecord → LoafRecord}
    (kept : ∀ r, (f r).admitted = r.admitted) : Live hand room (s.onAccum l (List.map f)) :=
  h.onAccum l (List.forall_mem_map.2 (fun r there => (kept r).trans (h.of_accum there))) (by rw [List.length_map])

theorem Live.mapExit (h : Live hand room s) {f : LoafRecord → LoafRecord} (kept : ∀ r, (f r).admitted = r.admitted) :
    Live hand room (s.onExit (mapHead f)) :=
  h.onExit (mapHead_admitted kept (fun _ => h.of_exit)) (by rw [length_mapHead])

theorem Live.mapBlade (h : Live hand room s) (l : Lane) {f : LoafRecord → LoafRecord} (kept : ∀ r, (f r).admitted = r.admitted) :
    Live hand room (s.onBladeZone l (Option.map f)) :=
  h.onBladeZone l (map_admitted kept (fun _ => h.of_blade)) (by rw [length_toList_map]) (by simp)

theorem Live.mapBagger (h : Live hand room s) {f : LoafRecord → LoafRecord} (kept : ∀ r, (f r).admitted = r.admitted) :
    Live hand room (s.onTt (fun t => { t with bagger := t.bagger.map f })) :=
  h.setBagger (s.tt.bagger.map f) (map_admitted kept (fun _ => h.of_bagger)) (by rw [length_toList_map])

theorem Live.mapTyer (h : Live hand room s) {f : LoafRecord → LoafRecord} (kept : ∀ r, (f r).admitted = r.admitted) :
    Live hand room (s.onTt (fun t => { t with tyer := t.tyer.map f })) :=
  h.setTyer (s.tt.tyer.map f) (map_admitted kept (fun _ => h.of_tyer)) (by rw [length_toList_map])

end Sys2Proof.Machine
end

section
/-! SUPPORT. Every operation of the line keeps the balance of the live shift (R159): one lemma for each operation that brings a
lane's flags up to date, moves a record or counts one. -/

namespace Sys2Proof.Machine

set_option Elab.async false

variable {s : State} {m k : Nat}

/-! ## Crumb clearing -/

theorem live_requestClear (l : Lane) (cause : CycleCause) (h : Live m k s) : Live m k (requestClear l cause s) :=
  live_syncLane l h.of_frames

theorem live_clearTest (l : Lane) (holds : Bool) (cause : CycleCause) (h : Live m k s) : Live m k (clearTest l holds cause s) :=
  when_elim h (fun _ => live_requestClear l cause h)

theorem live_estimateTest (l : Lane) (h : Live m k s) : Live m k (estimateTest l s) := live_clearTest l _ _ h

theorem live_entryTest (l : Lane) (h : Live m k s) : Live m k (entryTest l s) := by
  unfold entryTest; dsimp only; split
  · exact live_clearTest l _ _ h
  · exact live_clearTest l _ _ h

theorem live_crumbResult (l : Lane) (result : Nat) (h : Live m k s) : Live m k (crumbResult l result s) := by
  unfold crumbResult; dsimp only; split
  · exact h.of_frames
  · exact live_clearTest l _ _ h.of_frames

theorem live_completeClear (l : Lane) (h : Live m k s) : Live m k (completeClear l s) := live_syncLane l h.of_frames

theorem live_backOff (l : Lane) (h : Live m k s) : Live m k (backOff l s) := live_syncLane l h.of_frames

theorem live_endBackOff (l : Lane) (h : Live m k s) : Live m k (endBackOff l s) := live_entryTest l h.of_frames

theorem live_abandonCrumb (l : Lane) (h : Live m k s) : Live m k (abandonCrumb l s) :=
  when_elim h (fun _ => live_syncLane l h.of_frames)

/-! ## The blades -/

theorem live_changeBlade (l : Lane) (b : BladeState) (wait : Timer) (h : Live m k s) : Live m k (changeBlade l b wait s) := by
  have told : Live m k (syncLane l (s.onLane l (fun i => { i with blade := b, spinWait := wait }))) :=
    live_syncLane l (h.onLane l (fun _ => rfl))
  unfold changeBlade
  exact told.of_frames

theorem live_startSpinUp (l : Lane) (h : Live m k s) : Live m k (startSpinUp l s) := by
  have changed := live_changeBlade l .spinning (some (spinUpMs (s.params.spinCode.get l))) h
  unfold startSpinUp
  exact changed.of_frames

theorem live_bladeOff (l : Lane) (h : Live m k s) : Live m k (bladeOff l s) := by
  have changed : Live m k (when ((s.lic.get l).blade != .off) (changeBlade l .off none) s) :=
    when_elim h (fun _ => live_changeBlade l .off none h)
  unfold bladeOff
  exact changed.of_frames

theorem live_bladeFollow (l : Lane) (h : Live m k s) : Live m k (bladeFollow l s) := by
  unfold bladeFollow; dsimp only
  cases (s.lic.get l).blade with
  | off => exact when_elim h (fun _ => live_startSpinUp l h)
  | spinning => exact when_elim h (fun _ => live_bladeOff l h)
  | ready => exact h

theorem live_spinUpEnd (l : Lane) (h : Live m k s) : Live m k (spinUpEnd l s) := by
  unfold spinUpEnd; dsimp only; split
  · exact live_changeBlade l .ready none h
  · exact (live_bladeOff l h).of_frames

theorem live_tensionResult (l : Lane) (result : Nat) (h : Live m k s) : Live m k (tensionResult l result s) := by
  have noticed : Live m k (noticeCause .bladeTension (laneSubject l) (decide (result < s.params.tLow)) s) := h.of_frames
  unfold tensionResult; dsimp only; split
  · exact noticed
  · split
    · exact (live_bladeOff l noticed).of_frames
    · split
      · exact noticed.of_frames
      · exact noticed

/-! ## Records that leave a zone -/

theorem live_startMergeWindow (l : Lane) (h : Live m k s) : Live m k (startMergeWindow l s) := by
  unfold startMergeWindow; split
  · exact when_elim h (fun _ => h.mapAccum l (fun _ => rfl))
  · exact h

theorem live_accumHeadLeft (l : Lane) (left : LoafRecord) (h : Live m k s) : Live m k (accumHeadLeft l left s) := by
  have told := live_syncLane l h
  unfold accumHeadLeft; dsimp only; split
  · exact told.of_frames
  · exact live_startMergeWindow l told

theorem live_loseAccumHead (l : Lane) (h : Live m k s) : Live m k (loseAccumHead l s) := by
  unfold loseAccumHead; split
  next r rest queue =>
    have there : r ∈ s.tt.accum.get l := queue ▸ List.mem_cons_self
    exact live_accumHeadLeft l r (live_lose _ (h.of_accum there) (live_takeAccum there h))
  · exact h

theorem live_bladeEmptied (l : Lane) (h : Live m k s) : Live m k (bladeEmptied l s) := live_syncLane l h.of_frames

theorem live_loseBlade (l : Lane) (h : Live m k s) : Live m k (loseBlade l s) := by
  unfold loseBlade; split
  next r there => exact live_bladeEmptied l (live_lose _ (h.of_blade there) (live_takeBlade there h))
  · exact h

theorem live_loseExitHead (h : Live m k s) : Live m k (loseExitHead s) := by
  unfold loseExitHead; split
  next r rest queue =>
    have there : r ∈ s.tt.exit := queue ▸ List.mem_cons_self
    exact live_lose _ (h.of_exit there) (live_takeExit there h)
  · exact h

theorem live_compareExitHead (n : Nat) (h : Live m k s) : Live m k (compareExitHead n s) := by
  induction n generalizing s with
  | zero => exact h
  | succ n ih =>
    rw [compareExitHead]; split
    · exact ih (live_loseExitHead h)
    · exact h

/-- The arrived head leaves the pool bagged (R22). -/
theorem live_exitTrailing (h : Live m k s) : Live m k (exitTrailing s) := by
  unfold exitTrailing; split
  next r rest queue =>
    have there : r ∈ s.tt.exit := queue ▸ List.mem_cons_self
    split
    · exact live_compareExitHead 3 (live_countBagged r (live_takeExit there h))
    · exact h
  · exact h

theorem live_lossesCounted (gone : List LoafRecord) (h : Live (m + gone.countP (·.admitted)) k s) :
    Live m k (lossesCounted gone s) := by
  induction gone generalizing s with
  | nil => exact h
  | cons r rest ih =>
    show Live m k (lossesCounted rest (when r.admitted (countLost r) s))
    apply ih
    cases admitted : r.admitted with
    | false =>
      rw [List.countP_cons_of_neg (by simp [admitted])] at h
      exact h
    | true =>
      rw [List.countP_cons_of_pos (by simp [admitted])] at h
      exact live_countLost r h

/-- The purge empties every zone, and counts the admitted records lost (R27). -/
theorem live_purgePool (h : Live m k s) : Live m k (purgePool s) := by
  have freed : Live (m + s.records.countP (·.admitted)) k (poolFreed s) := by
    have count : s.records.countP (·.admitted) = (pastGate s.tt).length := h.admittedCount
    refine ⟨⟨by simp [poolFreed, beforeGate], by simp [poolFreed, pastGate], ?_⟩, fun l some => ?_⟩
    · have books := h.books
      rw [Nat.add_comm, ← count] at books
      simpa [poolFreed, pastGate] using books
    · cases l <;> simp [poolFreed, PerLane.get] at some
  have counted := live_lossesCounted s.records freed
  rw [purgePool_eq]
  apply live_syncLanes
  unfold bladesQuiet
  exact counted.of_frames

theorem stopMarked_admitted (r : LoafRecord) : r.stopMarked.admitted = r.admitted := by
  unfold LoafRecord.stopMarked; split <;> rfl

/-- STOP marking changes records where they are (R25). -/
theorem live_stopMarking (h : Live m k s) : Live m k (stopMarking s) := by
  have blades := (h.mapBlade .a stopMarked_admitted).mapBlade .b stopMarked_admitted
  have accums := (blades.mapWholeAccum .a stopMarked_admitted).mapWholeAccum .b stopMarked_admitted
  have marked := (accums.mapBagger (f := fun r => { r with stopDiscard := true }) (fun _ => rfl)).mapTyer
    (f := fun r => { r with stopDiscard := true }) (fun _ => rfl)
  exact marked.of_frames rfl rfl rfl rfl rfl rfl rfl (fun _ => rfl)

/-! ## Records that join a zone -/

/-- A record joins APPROACH before its admission (R8). -/
theorem live_createRecord (l : Lane) (x : Edge) (h : Live m k s) : Live m k (createRecord l x s) := by
  unfold createRecord; dsimp only; split
  · generalize (if issuedTag s = 65535 then 1 else issuedTag s + 1) = next
    have issued : Live m k (s.onTt (fun t => { t with nextTag := next })) := h.of_frames
    have joined := issued.toStock.onApproach l (f := (· ++ [newRecord (issuedTag s) l x.length x.stamp]))
      (List.forall_mem_append.2 ⟨fun _ => issued.of_approach, List.forall_mem_singleton.2 rfl⟩)
    exact joined.syncLane l (issued.told _)
  · exact h.of_frames

/-- The BLADE record joins ACCUM (R13). -/
theorem live_slicerTrailing (l : Lane) (h : Live m k s) : Live m k (slicerTrailing l s) := by
  unfold slicerTrailing; split
  next r there =>
    split
    · have joined : Live m k ((s.onBladeZone l (fun _ => none)).onAccum l (· ++ [{ r with arrived := false }])) :=
        (live_takeBlade there h).putAccum l (h.of_blade there :)
      exact live_startMergeWindow l (live_bladeEmptied l joined)
    · exact h
  · exact h

/-- A record in hand joins EXIT (R4). -/
theorem live_joinExit {r : LoafRecord} (admitted : r.admitted = true) (h : Live (m + 1) k s) : Live m k (joinExit r s) := by
  have room : Live (m + 1) k (when (decide (3 ≤ s.tt.exit.length)) (fun s => exitHeadChanged (loseExitHead s)) s) :=
    when_elim h (fun _ => live_compareExitHead 3 (live_loseExitHead h))
  exact room.putExit admitted

theorem live_completeTie (h : Live m k s) : Live m k (completeTie s) := by
  unfold completeTie; dsimp only; split
  next r there =>
    have joined : Live m k (joinExit { r with clipCode := s.tsc.code } (s.onTt (fun t => { t with tyer := none }))) :=
      live_joinExit (h.of_tyer there :) (live_takeTyer there h)
    exact joined.of_frames
  · exact h.of_frames

theorem live_tieIfHome (h : Live m k s) : Live m k (tieIfHome s) := when_elim h (fun _ => live_completeTie h)

theorem live_enterHomeWait (h : Live m k s) : Live m k (enterHomeWait s) := live_tieIfHome h.of_frames

theorem live_activate (l : Lane) (slot : Nat) (h : Live m k s) : Live m k (activate l slot s) :=
  h.onLane l (fun _ => rfl)

theorem live_applyPending (l : Lane) (tag : Nat) (h : Live m k s) : Live m k (applyPending l tag s) := by
  unfold applyPending; split
  next slot _ =>
    have active : Live m k ((activate l slot s).onLane l (fun i => { i with appliedTag := tag })) :=
      (live_activate l slot h).onLane l (fun _ => rfl)
    exact active.of_frames
  · exact h

theorem count_carriedIn (code : Nat) (f : Counters → Counters) (t : Totals) :
    (Totals.count code f t).carriedIn = t.carriedIn := by
  unfold Totals.count; (repeat' split) <;> rfl

theorem countAdmission_ledger (offSize : Bool) (code : Nat) (s : State) :
    (countAdmission offSize code s).tu.ledger = { s.tu.ledger with admitted := bump s.tu.ledger.admitted } := by
  rw [countAdmission_tu, ← count_eq_productCounted, count_line]
  simp only [TotalsUnit.ledger, count_carriedIn]

/-- The head passes into an empty BLADE, and its admission is counted (R69 steps 2 to 6). -/
theorem stock_passHead {l : Lane} {r : LoafRecord} (slot : Nat) (blade : s.tt.blade.get l = none) (h : Live m (k + 1) s) :
    Stock m k (passHead l r slot s) := by
  have same : ∀ offSize code, (countAdmission offSize code s).tt = s.tt ∧ (countAdmission offSize code s).lic = s.lic :=
    fun offSize code => by rw [countAdmission_eq]; exact ⟨rfl, rfl⟩
  unfold passHead; dsimp only
  generalize passesOffSize r.length (recipeAt slot s) = offSize
  generalize (recipeAt slot s).code = code
  obtain ⟨tt, lic⟩ := same offSize code
  have counted : Live (m + 1) k (countAdmission offSize code s) :=
    h.counted tt lic (countAdmission_ledger offSize code s ▸ h.books.admittedOne)
  have taken : Stock (m + 1) k ((addCrumb l (recipeAt slot s).crumb (countAdmission offSize code s)).onApproach l List.tail) :=
    Stock.onApproach (counted.toStock.of_frames) l
      (fun q there => counted.of_approach (List.mem_of_mem_tail there))
  refine taken.onBladeZone l (fun q hq => Option.some.inj hq ▸ rfl) ?_
  simp [State.onApproach, tt, blade, Nat.add_comm]

theorem admission_eq_passHead (l : Lane) (r : LoafRecord) (s : State) : admission l r s = estimateTest l (syncLane l (armGate l
    (passHead l r (((applyPending l r.tag s).lic.get l).active.getD 0) (applyPending l r.tag s)))) := by
  unfold admission passHead
  simp only [passesOffSize_eq]
  rfl

/-- A loaf is admitted to an empty BLADE (R69). -/
theorem live_admission {l : Lane} (r : LoafRecord) (blade : s.tt.blade.get l = none) (h : Live m (k + 1) s) :
    Live m k (admission l r s) := by
  have applied := live_applyPending l r.tag h
  rw [admission_eq_passHead]
  generalize ((applyPending l r.tag s).lic.get l).active.getD 0 = slot
  have passed := stock_passHead (r := r) slot (by simpa using blade) applied
  have other : otherLane l ≠ l := by cases l <;> simp [otherLane]
  have told := applied.told (otherLane l)
  apply live_estimateTest
  have armed : Stock m k (armGate l (passHead l r slot (applyPending l r.tag s))) := passed.of_frames
  refine armed.syncLane l (fun some => ?_)
  simp only [passHead_eq] at some ⊢
  simp [PerLane.get_upd_other _ other] at some ⊢
  exact told (by simpa using some)

/-- A lane that admits has BLADE empty (R13). -/
theorem blade_of_admits {l : Lane} (told : BladeTold s) (admitted : admits l s = true) : s.tt.blade.get l = none := by
  have clear := admits_closure admitted
  simp only [ClosureSet.isEmpty, ClosureSet.toList, Bool.not_eq_true', List.any_cons, List.any_nil, id,
    Bool.or_eq_false_iff] at clear
  obtain ⟨_, _, _, occupied, _⟩ := clear
  rw [Option.eq_none_iff_forall_not_mem]
  intro r there
  rw [told l (Option.isSome_of_mem there)] at occupied
  cases occupied

theorem live_admitIfReady (l : Lane) (h : Live m (k + 1) s) : Live m k (admitIfReady l s) := by
  have unused := h.narrow (Nat.le_succ k)
  unfold admitIfReady; split
  next r _ _ => exact when_elim unused (fun admitted => live_admission r (blade_of_admits h.told admitted) h)
  · exact unused

/-! ## The bagger -/

theorem live_selectLane (l : Lane) (r : LoafRecord) (h : Live m k s) : Live m k (selectLane l r s) := by
  have selected : Live m k (s.onAccum l (mapHead .selected)) :=
    h.mapAccum l (fun r => by unfold LoafRecord.selected; split <;> rfl)
  unfold selectLane; dsimp only; split
  · exact selected.of_frames
  · exact selected.of_frames

theorem live_selectIfReady (h : Live m k s) : Live m k (selectIfReady s) := by
  unfold selectIfReady; split
  · exact when_elim h (fun _ => live_selectLane _ _ h)
  · exact h

/-- The selected record moves into an empty BAGGER (R88). -/
theorem live_openingOver (empty : s.tt.bagger = none) (h : Live m k s) : Live m k (openingOver s) := by
  have closed : Live m k (s.onMbc (fun m => { m with openTimer := none })) := h.of_frames
  unfold openingOver; dsimp only; split
  next l r head =>
    have there := selectedHead_mem head
    have moved := (live_takeAccum there closed).putBagger (r := { r with arrived := false, departure := none })
      (closed.of_accum there :) empty
    have left := live_accumHeadLeft l r moved
    exact left.of_frames
  · exact h.of_frames

theorem live_freeRejected (h : Live m k s) : Live m k (freeRejected s) := by
  unfold freeRejected; dsimp only; split
  next l r head =>
    have taken := live_takeAccum (selectedHead_mem head) h
    have left := live_accumHeadLeft l r (live_countRejected r (rejectCounter r) taken)
    exact left.of_frames
  · exact h.of_frames

theorem live_strokeDone (h : Live m k s) : Live m k (strokeDone s) := by
  unfold strokeDone; split
  · exact live_freeRejected h
  · split
    · exact h.of_frames
    · split
      · exact h.of_frames
      · exact h.of_frames

theorem live_pusherHome (l : Lane) (h : Live m k s) : Live m k (pusherHome l s) := by
  unfold pusherHome; split
  · exact h
  · split
    · exact h.of_frames
    · exact live_strokeDone h.of_frames
    · exact h

theorem live_endStopped (h : Live m k s) : Live m k (endStopped s) := when_elim h (fun _ => live_strokeDone h.of_frames)

/-! ## The line states -/

theorem live_crumbEntry (was : LineState) (h : Live m k s) : Live m k (crumbEntry was s) := by
  have tested : Live m k (entryTest .b (entryTest .a s)) := live_entryTest .b (live_entryTest .a h)
  cases was with
  | init | spinUp | stop => exact tested
  | standby | run | hold | drain => exact h

theorem live_enterStop (h : Live m k s) : Live m k (enterStop s) := by
  have marked : Live m k (stopMarking (dropOutputs (leaveHold (changeLine .stop s)))) := live_stopMarking h.of_frames
  have off := live_syncLanes (live_bladeOff .b (live_bladeOff .a marked))
  exact live_abandonCrumb .b (live_abandonCrumb .a off.of_frames)

theorem live_enterStandby (h : Live m k s) : Live m k (enterStandby s) := by
  have entered : Live m k (removeWatches (setConveyors false (leaveHold (changeLine .standby s)))) := h.of_frames
  have off := live_syncLanes (live_bladeOff .b (live_bladeOff .a entered))
  exact live_crumbEntry _ off.of_frames

theorem live_enterSpinUp (h : Live m k s) : Live m k (enterSpinUp s) := live_syncLanes h.of_frames

theorem live_enterRun (h : Live m k s) : Live m k (enterRun s) := live_crumbEntry _ (live_syncLanes h.of_frames)

theorem live_enterDrain (h : Live m k s) : Live m k (enterDrain s) := live_syncLanes h.of_frames

theorem live_enterHold (back : LineState) (h : Live m k s) : Live m k (enterHold back s) := by
  have synced : Live m k (syncLanes (setConveyors false ((changeLine .hold s).onLsc
      (fun c => { c with returnState := some back, holdHost := true })))) := live_syncLanes h.of_frames
  unfold enterHold
  exact synced.of_frames

theorem live_advanceLine (h : Live m k s) : Live m k (advanceLine s) := by
  have stopped : Live m k (stopIfFaulted s) := by
    unfold stopIfFaulted
    cases s.lsc.line with
    | init | standby | stop => exact h
    | spinUp | run | hold | drain => exact when_elim h (fun _ => live_enterStop h)
  have followed := live_bladeFollow .b (live_bladeFollow .a stopped)
  have running : Live m k (runIfSpun (bladeFollow .b (bladeFollow .a (stopIfFaulted s)))) :=
    when_elim followed (fun _ => live_enterRun followed)
  exact when_elim running (fun _ => live_enterStandby running)

/-- The BAGGER record moves into an empty TYER (R91). -/
theorem live_handoff (h : Live m k s) : Live m k (handoff s) := by
  unfold handoff; split
  next r bagger tyer =>
    split
    · have moved : Live m k (s.onTt (fun t => { t with bagger := none, tyer := some r })) :=
        (live_takeBagger bagger h).putTyer (h.of_bagger bagger) tyer
      have ended := moved.of_frames (t := endCycle (s.onTt (fun t => { t with bagger := none, tyer := some r })))
      exact when_elim ended (fun _ => ended.of_frames)
    · exact h
  · exact h

/-- The flow of a step admits two loaves at most (R67). -/
theorem live_flow (h : Live m (k + 2) s) : Live m k (flow s) := by
  have gaps : Live m (k + 2) (makeGap .b (makeGap .a s)) := h.of_frames
  have admitted := live_admitIfReady .b (live_admitIfReady .a (live_selectIfReady (live_handoff gaps)))
  unfold flow
  exact admitted.of_frames

theorem live_settle (h : Live m (k + 2) s) : Live m k (settle s) := live_flow (live_advanceLine h)

end Sys2Proof.Machine
end

section
/-! SUPPORT. Every command keeps the balance of the live shift (R159): the discards and the edges, the owners of the requests, and
the commands by what they run. -/

namespace Sys2Proof.Machine

set_option Elab.async false

variable {s t : State} {m k : Nat}

/-! ## Records counted as they leave the stations -/

theorem live_discardBagger (h : Live m k s) : Live m k (discardBagger s) := by
  unfold discardBagger; split
  next r there =>
    split
    · exact live_countRejected r _ (live_takeBagger there h)
    · exact h
  · exact h

theorem live_discardTyer (h : Live m k s) : Live m k (discardTyer s) := by
  unfold discardTyer; split
  next r there =>
    split
    · have counted : Live m k (countStopDiscard r (s.onTt (fun t => { t with tyer := none }))) :=
        live_countRejected r _ (live_takeTyer there h)
      exact counted.of_frames
    · exact h
  · exact h

theorem live_resumeDiscard (h : Live m k s) : Live m k (resumeDiscard s) := live_discardTyer (live_discardBagger h)

/-- The jammed record leaves TYER rejected (R96). -/
theorem live_discardJammed {r : LoafRecord} (there : s.tt.tyer = some r) (h : Live m k s) : Live m k (discardJammed r s) := by
  have counted := live_countRejected r (fun c => { c with rejectedTieFail := bump c.rejectedTieFail }) (live_takeTyer there h)
  unfold discardJammed
  exact counted.of_frames

theorem live_retie (h : Live m k s) : Live m k (retie s) := by
  have freed := h.mapTyer (f := fun r => { r with jammed := false }) (fun _ => rfl)
  unfold retie
  exact freed.of_frames

theorem live_jamTyer (h : Live m k s) : Live m k (jamTyer s) := by
  have off : Live m k (setPrinter none (setTyer false s)) := h.of_frames
  have jammed := off.mapTyer (f := fun r => { r with jammed := true }) (fun _ => rfl)
  unfold jamTyer
  exact jammed.of_frames

theorem live_bagConfirmed (h : Live m k s) : Live m k (bagConfirmed s) := by
  have noticed : Live m k (bagConfirmNotice (s.onMbc (fun m => { m with confirmed := true, confirmWatch := none }))) :=
    h.of_frames
  exact when_elim noticed (fun _ => noticed.of_frames)

theorem bagger_of_selectedInBagger {r : LoafRecord} (selected : selectedInBagger s = some r) : s.tt.bagger = some r := by
  unfold selectedInBagger at selected
  split at selected
  next q _ bagger =>
    split at selected
    · rw [bagger, selected]
    · cases selected
  · cases selected

/-- A bag miss counts the selected record lost (R89). -/
theorem live_bagMissed (h : Live m k s) : Live m k (bagMissed s) := by
  have closed : Live m k (s.onMbc (fun m => { m with confirmWatch := none })) := h.of_frames
  have ended {t : State} (ht : Live m k t) : Live m k (when (t.mbc.bagger == .confirm) endCycle t) :=
    when_elim ht (fun _ => ht.of_frames)
  unfold bagMissed; dsimp only
  apply ended
  split
  next r selected =>
    have counted := live_countLost r (live_takeBagger (bagger_of_selectedInBagger selected) closed)
    exact counted.of_frames
  · exact closed

/-! ## Edges and the Scan Converter -/

theorem live_slicerLeading (l : Lane) (x : Edge) (h : Live m k s) : Live m k (slicerLeading l x s) := by
  have watched : Live m k (startWatch (slicerEye l) x.stamp s) := h.of_frames
  have matched : Live m k ((startWatch (slicerEye l) x.stamp s).onBladeZone l (Option.map LoafRecord.matched)) :=
    watched.mapBlade l (fun _ => rfl)
  unfold slicerLeading; dsimp only; split
  · exact matched.of_frames
  · exact watched.of_frames

theorem live_mergeLeading (l : Lane) (x : Edge) (h : Live m k s) : Live m k (mergeLeading l x s) := by
  have matched : Live m k (s.onAccum l (mapHead LoafRecord.matched)) := h.mapAccum l (fun _ => rfl)
  have watched : Live m k (when (candidate l s).isNone (startWatch (mergeEye l) x.stamp) s) :=
    when_elim h (fun _ => h.of_frames)
  unfold mergeLeading; split
  · exact matched.of_frames
  · exact watched.of_frames

theorem live_exitLeading (x : Edge) (h : Live m k s) : Live m k (exitLeading x s) := by
  have watched : Live m k (startWatch .ex x.stamp s) := h.of_frames
  have matched : Live m k ((startWatch .ex x.stamp s).onExit (mapHead LoafRecord.matched)) := watched.mapExit (fun _ => rfl)
  unfold exitLeading; dsimp only; split
  · exact matched.of_frames
  · exact watched.of_frames

theorem live_handResult (c : Channel) (result : Nat) (h : Live m k s) : Live m k (handResult c result s) := by
  cases c with
  | tna => exact live_tensionResult .a result h
  | tnb => exact live_tensionResult .b result h
  | airp => show Live m k (airPressure result s); exact h.of_frames
  | cra => exact live_crumbResult .a result h
  | crb => exact live_crumbResult .b result h

theorem live_completeConversion (c : Channel) (result : Nat) (h : Live m k s) : Live m k (completeConversion c result s) := by
  unfold completeConversion; dsimp only
  generalize stored : s.onSc _ = t
  have ht : Live m k t := by subst stored; exact h.of_frames
  have handed := live_handResult c result ht
  exact handed.of_frames

theorem live_withEdge (e : Eye) (leading : Bool) {f : Edge → State → State} (hf : ∀ x {s}, Live 0 2 s → Live 0 0 (f x s))
    (h : Live 0 2 s) : Live 0 0 (withEdge e leading f s) := by
  have still : Live 0 0 s := h.narrow (Nat.zero_le 2)
  unfold withEdge; split
  · split
    · exact hf _ h.of_frames
    · exact still
  · exact still

theorem live_onEdge (e : Eye) (leading : Bool) {f : Edge → State → State} (hf : ∀ x {s}, Live 0 2 s → Live 0 2 (f x s))
    (h : Live 0 2 s) : Live 0 0 (onEdge e leading f s) :=
  live_withEdge e leading (fun x _ ht => live_settle (when_elim ht (fun _ => hf x ht))) h

theorem live_onTrailing (e : TrackedEye) {f : State → State} (hf : ∀ {s}, Live 0 2 s → Live 0 2 (f s)) (h : Live 0 2 s) :
    Live 0 0 (onTrailing e f s) := by
  refine live_withEdge _ _ (fun x t ht => live_settle ?_) h
  have cleared : Live 0 2 (eyeCleared e t) := ht.of_frames
  exact when_elim cleared (fun _ => hf cleared)

theorem addSecond_ledger (kind : LineTime) (s : State) : (countLine (LineBlock.addSecond kind) s).tu.ledger = s.tu.ledger := by
  cases kind <;> rfl

/-! ## The owners of the requests -/

/-- What an owner makes of a state whose shift balances balances, with the admissions of the flow still to come. -/
def KeepsLive (own : State → Answer × State) : Prop := ∀ s, Live 0 2 s → Live 0 2 (own s).2

/-- A query changes nothing. -/
theorem keepsLive_of_same {own : State → Answer × State} (same : ∀ s, (own s).2 = s) : KeepsLive own :=
  fun s h => (same s).symm ▸ h

theorem live_configGet (id index : Byte) : KeepsLive (configGetOwn id index) := keepsLive_of_same (configGetOwn_state id index)
theorem live_recipeRead (slot : Byte) : KeepsLive (recipeReadOwn slot) := keepsLive_of_same (recipeReadOwn_state slot)
theorem live_faultList (first : Byte) : KeepsLive (faultListOwn first) := keepsLive_of_same (faultListOwn_state first)
theorem live_trackList (zone lane : Byte) : KeepsLive (trackListOwn zone lane) := keepsLive_of_same (trackListOwn_state zone lane)
theorem live_loafQuery (tag : BitVec 16) : KeepsLive (loafQueryOwn tag) := keepsLive_of_same (loafQueryOwn_state tag)
theorem live_totalsRead (part : Byte) : KeepsLive (totalsReadOwn part) := keepsLive_of_same (totalsReadOwn_state part)
theorem live_sensorRead (channel : Byte) : KeepsLive (sensorReadOwn channel) := keepsLive_of_same (sensorReadOwn_state channel)

theorem live_shiftRead (number : BitVec 16) (part : Byte) : KeepsLive (shiftReadOwn number part) := by
  intro s h
  unfold shiftReadOwn
  (repeat' split) <;> exact h.of_frames

theorem live_restart : KeepsLive restartOwn := by
  intro s h
  unfold restartOwn
  (repeat' split) <;> exact h.of_frames

theorem live_recipeWrite (slot : Byte) (f : RecipeFields) : KeepsLive (recipeWriteOwn slot f) := by
  intro s h
  unfold recipeWriteOwn; dsimp only
  (repeat' split) <;> exact h.of_frames

theorem live_recipeWriteBody (body : List Byte) : KeepsLive (recipeWriteBody body) := by
  intro s h
  unfold recipeWriteBody; split
  · exact live_recipeWrite _ _ s h
  · exact h

theorem live_recipeSave : KeepsLive recipeSaveOwn := fun s h => show Live 0 2 (requestJob _ s) from h.of_frames

/-- What ends a request, the flow of its step included, keeps the balance. -/
def EndsLive (after : State → State) : Prop := ∀ s, Live 0 2 s → Live 0 0 (after s)

theorem endsLive_id : EndsLive id := fun _ h => h.narrow (Nat.zero_le 2)
theorem endsLive_flow : EndsLive flow := fun _ h => live_flow h
theorem endsLive_settle : EndsLive settle := fun _ h => live_settle h

theorem live_serveRequest (type tok : Byte) {own : State → Answer × State} {after : State → State} (hown : KeepsLive own)
    (hafter : EndsLive after) (h : Live 0 2 s) : Live 0 0 (serveRequest type tok own after s) := by
  have told : ∀ a : Answer, ∀ {t}, Live 0 2 t → Live 0 2 (queueReply type tok a t) := fun _ _ ht => ht.of_frames
  have replied : ∀ a : Answer, ∀ {t}, Live 0 2 t → Live 0 0 (queueReply type tok a t) := fun a _ ht => endsLive_id _ (told a ht)
  unfold serveRequest answerRequest
  split
  · exact replied _ h
  · split
    · exact replied _ h
    · exact when_elim (replied _ (hown s h)) (fun _ => hafter _ (told _ (hown s h)))

theorem live_takeRequest (type tok : Byte) {own : State → Answer × State} {after : State → State} (hown : KeepsLive own)
    (hafter : EndsLive after) (h : Live 0 2 s) : Live 0 0 (takeRequest type tok own after s) := by
  unfold takeRequest; split
  · exact live_serveRequest type tok hown hafter h
  · exact endsLive_id s h

theorem live_clockSet (day : BitVec 16) (second : BitVec 32) : KeepsLive (clockSetOwn day second) := by
  intro s h
  unfold clockSetOwn; dsimp only
  split
  · exact h
  · have dated : Live 0 2 (s.onCal (fun _ => { day := day.toNat, second := second.toNat, phase := 0, valid := true })) := h.of_frames
    exact when_elim (P := Live 0 2) dated (fun _ => dated.of_frames (ledger := rfl))

/-- A close carries the admitted records into the next shift (R161). -/
theorem live_closeShift (h : Live 0 2 s) : Live 0 2 (closeShift s) := by
  have books : Ledger.Balances 2 ((pastGate s.tt).length + 0) ⟨admittedCount s, 0, 0, 0, 0⟩ := by
    obtain ⟨balance, admitted, bagged, rejected, lost⟩ := h.books
    have count := h.admittedCount
    constructor <;> simp only [count] <;> omega
  have closed : (closeShift s).tu.ledger = ⟨admittedCount s, 0, 0, 0, 0⟩ := by simp [closeShift]; rfl
  exact h.counted (by simp [closeShift]) (by simp [closeShift]) (closed ▸ books)

theorem live_shiftClose : KeepsLive shiftCloseOwn := by
  intro s h
  unfold shiftCloseOwn
  split
  · exact h
  · split
    · exact h
    · exact live_closeShift h

theorem live_laneSelect (lane slot : Byte) : KeepsLive (laneSelectOwn lane slot) := by
  intro s h
  unfold laneSelectOwn
  split
  · exact h
  · dsimp only; split
    · exact h
    · split
      · exact h
      · split
        · exact h
        · exact live_syncLane _ (h.onLane _ (fun _ => rfl))

theorem live_lineStart : KeepsLive lineStartOwn := by
  intro s h
  unfold lineStartOwn; dsimp only
  split
  · exact h
  · split
    · exact h
    · exact live_advanceLine (live_enterSpinUp h)

theorem live_lineHold : KeepsLive lineHoldOwn := by
  intro s h
  have held := live_advanceLine (live_enterHold s.lsc.line h)
  unfold lineHoldOwn
  split
  · dsimp only; exact held
  · dsimp only; exact held
  · exact h
  · exact h

theorem live_lineResume : KeepsLive lineResumeOwn := by
  intro s h
  unfold lineResumeOwn; dsimp only
  split
  · apply live_advanceLine
    split
    · exact live_enterDrain h
    · exact live_enterRun h
  · split
    · exact h
    · exact live_advanceLine (live_enterSpinUp (live_resumeDiscard h))
  · exact h

theorem live_lineDrain : KeepsLive lineDrainOwn := by
  intro s h
  unfold lineDrainOwn; dsimp only
  split
  · exact live_advanceLine (live_enterDrain h)
  · exact h
  · exact h

theorem live_lineStandby : KeepsLive lineStandbyOwn := by
  intro s h
  unfold lineStandbyOwn; dsimp only
  split
  · exact live_enterStandby (live_purgePool h)
  · exact live_enterStandby (live_purgePool h)
  · exact h

theorem live_laneEnable (lane on : Byte) : KeepsLive (laneEnableOwn lane on) := by
  intro s h
  unfold laneEnableOwn; dsimp only
  split
  · exact h
  next l _ =>
    split
    · exact h
    · split
      · exact h
      · have synced : Live 0 2 (syncLane l (s.onLane l (fun i => { i with enabled := on == 1 }))) :=
          live_syncLane l (h.onLane l (fun _ => rfl))
        exact live_advanceLine synced.of_frames

theorem live_crumbClear (lane : Byte) : KeepsLive (crumbClearOwn lane) := by
  intro s h
  unfold crumbClearOwn; dsimp only
  split
  · exact h
  · split
    · exact h
    · split
      · exact h
      · exact live_requestClear _ _ h

theorem live_magazineLoad (which : Byte) (count : BitVec 16) : KeepsLive (magazineLoadOwn which count) := by
  intro s h
  unfold magazineLoadOwn; dsimp only
  split
  · exact h
  · split
    · have loaded : Live 0 2 (setBagCount count.toNat s) := h.of_frames
      exact when_elim (P := Live 0 2) loaded (fun _ => loaded.of_frames)
    · have loaded : Live 0 2 (setClipCount count.toNat s) := h.of_frames
      exact when_elim (P := Live 0 2) loaded (fun _ => loaded.of_frames)

theorem live_tyerResolve (action : Byte) : KeepsLive (tyerResolveOwn action) := by
  intro s h
  unfold tyerResolveOwn
  split
  · exact h
  · split
    next r there =>
      split
      · exact h
      · split
        · exact live_advanceLine (live_discardJammed there h)
        · split
          · exact h
          · exact live_advanceLine (live_retie h)
    · exact h

theorem live_faultClear : KeepsLive faultClearOwn := by
  intro s h
  unfold faultClearOwn; dsimp only
  split
  · exact h
  next e _ =>
    split
    · exact h
    · have cleared : Live 0 2 (clearPresented e s) := h.of_frames
      exact live_advanceLine (when_elim cleared (fun _ => live_endStopped cleared))

theorem live_paramActs (id index v : Nat) (h : Live m k s) : Live m k (paramActs id index v s) := by
  unfold paramActs; split
  · split
    · exact h.of_frames
    · exact h
  · split
    · exact live_syncLane _ h
    · exact h
  · split
    · exact live_syncLane _ h
    · exact h
  · exact live_estimateTest .b (live_estimateTest .a h)
  · split <;> exact h.of_frames
  · exact when_elim h (fun _ => h.of_frames)
  · split
    · exact h.of_frames
    · exact h
  · exact h

theorem live_configSet (id index : Byte) (value : BitVec 16) : KeepsLive (configSetOwn id index value) := by
  intro s h
  unfold configSetOwn; dsimp only
  split
  · exact h
  · split
    · exact h
    · split
      · exact h
      · exact live_paramActs _ _ _ h.of_frames

/-! ## The dispatcher -/

/-- What the catalogue names for a TYPE keeps the balance. -/
theorem live_catalogue {type : Byte} {body : List Byte} {c : Handler} (found : catalogue type body = some c) :
    KeepsLive c.own ∧ EndsLive c.after := by
  unfold catalogue at found
  split at found <;> first | (cases found; done) | (obtain rfl := Option.some.inj found; dsimp only)
  · exact ⟨keepsLive_of_same fun _ => rfl, endsLive_id⟩
  · exact ⟨keepsLive_of_same fun _ => rfl, endsLive_id⟩
  · exact ⟨live_restart, endsLive_id⟩
  · exact ⟨live_clockSet _ _, endsLive_id⟩
  · exact ⟨live_configSet _ _ _, endsLive_settle⟩
  · exact ⟨live_configGet _ _, endsLive_id⟩
  · exact ⟨live_recipeWriteBody _, endsLive_id⟩
  · exact ⟨live_recipeRead _, endsLive_id⟩
  · exact ⟨live_recipeSave, endsLive_id⟩
  · exact ⟨live_laneSelect _ _, endsLive_settle⟩
  · exact ⟨live_lineStart, endsLive_flow⟩
  · exact ⟨live_lineHold, endsLive_flow⟩
  · exact ⟨live_lineResume, endsLive_flow⟩
  · exact ⟨live_lineDrain, endsLive_flow⟩
  · exact ⟨live_lineStandby, endsLive_flow⟩
  · exact ⟨live_laneEnable _ _, endsLive_flow⟩
  · exact ⟨live_crumbClear _, endsLive_flow⟩
  · exact ⟨live_magazineLoad _ _, endsLive_settle⟩
  · exact ⟨live_tyerResolve _, endsLive_flow⟩
  · exact ⟨live_faultList _, endsLive_id⟩
  · exact ⟨live_faultClear, endsLive_flow⟩
  · exact ⟨live_trackList _ _, endsLive_id⟩
  · exact ⟨live_loafQuery _, endsLive_id⟩
  · exact ⟨live_totalsRead _, endsLive_id⟩
  · exact ⟨live_shiftClose, endsLive_id⟩
  · exact ⟨live_shiftRead _ _, endsLive_id⟩
  · exact ⟨keepsLive_of_same fun _ => rfl, endsLive_id⟩
  · exact ⟨live_sensorRead _, endsLive_id⟩

/-- A complete frame is answered, or served by what the catalogue names. -/
theorem live_takeFrame (type tok : Byte) (body : List Byte) (h : Live 0 2 s) : Live 0 0 (takeFrame type tok body s) := by
  have replied : ∀ a : Answer, Live 0 0 (queueReply type tok a s) := fun _ => endsLive_id _ h.of_frames
  unfold takeFrame; split
  · exact replied _
  next c found =>
    obtain ⟨hown, hafter⟩ := live_catalogue found
    split
    · exact live_serveRequest type tok hown hafter h
    · (repeat' split) <;> exact replied _

theorem live_dispatch (h : Live 0 2 s) : Live 0 0 (dispatch s) := by
  have still : Live 0 0 s := endsLive_id s h
  unfold dispatch; split
  · split
    · exact live_takeFrame _ _ _ h.of_frames
    · exact still
  · exact still

/-! ## The commands -/

/-- A command of a moment: nothing before it, else the effect and the rest of the step. -/
theorem live_settled {c : Bool} {f : State → State} (h : Live 0 2 s) (hf : c = true → Live 0 2 (f s)) :
    Live 0 0 (when c (fun s => settle (f s)) s) :=
  when_elim (endsLive_id s h) (fun due => live_settle (hf due))

/-- A reset ends in INIT (R189), and the start-up scan acts in INIT alone; any other command keeps the balance. -/
theorem live_exec (i : Instr) (h : Live 0 2 s) (empty : s.mbc.openTimer.isSome = true → s.tt.bagger = none)
    (started : s.lsc.line ≠ .init) (run : exec i s = .next t) (stays : t.lsc.line ≠ .init) : Live 0 0 t := by
  have still {t : State} (ht : Live 0 2 t) : Live 0 0 t := endsLive_id t ht
  cases i with
  | identify tok => cases run; exact live_takeRequest _ _ (keepsLive_of_same fun _ => rfl) endsLive_id h
  | status tok => cases run; exact live_takeRequest _ _ (keepsLive_of_same fun _ => rfl) endsLive_id h
  | restart tok => cases run; exact live_takeRequest _ _ live_restart endsLive_id h
  | clockSet tok day second => cases run; exact live_takeRequest _ _ (live_clockSet _ _) endsLive_id h
  | configSet tok p index value => cases run; exact live_takeRequest _ _ (live_configSet _ _ _) endsLive_settle h
  | configGet tok p index => cases run; exact live_takeRequest _ _ (live_configGet _ _) endsLive_id h
  | recipeWrite tok slot fields => cases run; exact live_takeRequest _ _ (live_recipeWrite _ _) endsLive_id h
  | recipeRead tok slot => cases run; exact live_takeRequest _ _ (live_recipeRead _) endsLive_id h
  | recipeSave tok => cases run; exact live_takeRequest _ _ live_recipeSave endsLive_id h
  | laneSelect tok lane slot => cases run; exact live_takeRequest _ _ (live_laneSelect _ _) endsLive_settle h
  | lineStart tok => cases run; exact live_takeRequest _ _ live_lineStart endsLive_flow h
  | lineHold tok => cases run; exact live_takeRequest _ _ live_lineHold endsLive_flow h
  | lineResume tok => cases run; exact live_takeRequest _ _ live_lineResume endsLive_flow h
  | lineDrain tok => cases run; exact live_takeRequest _ _ live_lineDrain endsLive_flow h
  | lineStandby tok => cases run; exact live_takeRequest _ _ live_lineStandby endsLive_flow h
  | laneEnable tok lane on => cases run; exact live_takeRequest _ _ (live_laneEnable _ _) endsLive_flow h
  | crumbClear tok lane => cases run; exact live_takeRequest _ _ (live_crumbClear _) endsLive_flow h
  | magazineLoad tok which count => cases run; exact live_takeRequest _ _ (live_magazineLoad _ _) endsLive_settle h
  | tyerResolve tok action => cases run; exact live_takeRequest _ _ (live_tyerResolve _) endsLive_flow h
  | faultList tok first => cases run; exact live_takeRequest _ _ (live_faultList _) endsLive_id h
  | faultClear tok => cases run; exact live_takeRequest _ _ live_faultClear endsLive_flow h
  | trackList tok zone lane => cases run; exact live_takeRequest _ _ (live_trackList _ _) endsLive_id h
  | loafQuery tok tag => cases run; exact live_takeRequest _ _ (live_loafQuery _) endsLive_id h
  | totalsRead tok part => cases run; exact live_takeRequest _ _ (live_totalsRead _) endsLive_id h
  | shiftClose tok => cases run; exact live_takeRequest _ _ live_shiftClose endsLive_id h
  | shiftRead tok number part => cases run; exact live_takeRequest _ _ (live_shiftRead _ _) endsLive_id h
  | logIndex tok => cases run; exact live_takeRequest _ _ (keepsLive_of_same fun _ => rfl) endsLive_id h
  | sensorRead tok channel => cases run; exact live_takeRequest _ _ (live_sensorRead _) endsLive_id h
  | reset b1 b0 tear => cases run; exact absurd rfl stays
  | startUpScanComplete =>
    cases run
    rw [beq_false_of_ne started]
    exact still h
  | byteReceived byte stopBit => cases run; exact still (when_elim h (fun _ => h.of_frames))
  | assemblerTakesByte => cases run; exact still h.of_frames
  | gapTimerRunOut => cases run; exact still (when_elim h (fun _ => h.of_frames))
  | dispatchFrame => cases run; exact live_dispatch h
  | transmitStart txHold =>
    cases run
    have held : Live 0 2 (s.onPins (fun p => { p with txHold := txHold })) := h.of_frames
    exact still (when_elim held (fun _ => held.of_frames))
  | frameSent b1 b0 =>
    cases run; split
    · exact still h
    next f sending =>
      split
      next restarts =>
        rw [sending] at stays
        simp only [restarts, if_true] at stays
        exact absurd rfl stays
      · exact still h.of_frames
  | eyeSample e level => cases run; exact still h.of_frames
  | debounceConfirm e => cases run; exact still (when_elim h (fun _ => h.of_frames))
  | encoderCount b phaseA phaseB => cases run; exact still h.of_frames
  | infeedTrailingEdge l => cases run; exact live_onEdge _ _ (fun x _ => live_createRecord l x) h
  | slicerLeadingEdge l => cases run; exact live_onEdge _ _ (fun x _ => live_slicerLeading l x) h
  | slicerTrailingEdge l => cases run; exact live_onTrailing _ (live_slicerTrailing l) h
  | mergeLeadingEdge l => cases run; exact live_onEdge _ _ (fun x _ => live_mergeLeading l x) h
  | mergeTrailingEdge l => cases run; exact live_onTrailing _ (live_startMergeWindow l) h
  | exitLeadingEdge => cases run; exact live_onEdge _ _ (fun x _ => live_exitLeading x) h
  | exitTrailingEdge => cases run; exact live_onTrailing _ live_exitTrailing h
  | bagConfirm =>
    cases run
    exact live_withEdge _ _ (fun _ _ ht => live_settle (when_elim ht (fun _ => live_bagConfirmed ht))) h
  | headAtGate l =>
    cases run
    have admitted := live_admitIfReady l h
    exact when_elim (still h) (fun _ => (admitted.narrow (Nat.zero_le 1)).of_frames)
  | bladeWindowRunOut l => cases run; exact live_settled h (fun _ => live_loseBlade l h)
  | mergeWindowRunOut l => cases run; exact live_settled h (fun _ => live_loseAccumHead l h)
  | exitWindowRunOut =>
    cases run
    exact live_settled (f := fun s => exitHeadChanged (loseExitHead s)) h
      (fun _ => live_compareExitHead 3 (live_loseExitHead h))
  | stuckLimitExceeded e => cases run; exact live_settled h (fun _ => h.of_frames)
  | scanTimerExpiry => cases run; exact still h.of_frames
  | conversionComplete result =>
    cases run; split
    · exact live_settle (live_completeConversion _ _ h)
    · exact still h
  | spinUpWaitEnd l => cases run; exact live_settled h (fun _ => live_spinUpEnd l h)
  | gateStrokeEnd l => cases run; exact live_settled h (fun _ => h.of_frames)
  | pushStrokeTimerRunOut => cases run; exact live_settled h (fun _ => h.of_frames)
  | flapSettleEnd => cases run; exact live_settled h (fun _ => h.of_frames)
  | openingEnd => cases run; exact live_settled h (fun opens => live_openingOver (empty opens) h)
  | bagConfirmWatchRunOut => cases run; exact live_settled h (fun _ => live_bagMissed h)
  | bagBlastEnd => cases run; exact live_settled h (fun _ => h.of_frames)
  | extendedSwitchCloses l => cases run; exact still (when_elim h (fun _ => h.of_frames))
  | pusherHomeSwitchChange l closed =>
    cases run
    have noticed : Live 0 2 (noticeCause .baggerJam .out (pusherOut { s.pins with home := s.pins.home.upd l (fun _ => closed) })
        (s.onPins (fun p => { p with home := p.home.upd l (fun _ => closed) }))) := h.of_frames
    exact live_settle (when_elim noticed (fun _ => live_pusherHome l noticed))
  | deadTimeEnd l => cases run; exact still (when_elim h (fun _ => h.of_frames))
  | purgeEnd => cases run; exact live_settled h (fun _ => h.of_frames)
  | twistEnd => cases run; exact live_settled h (fun _ => h.of_frames)
  | clipEnd => cases run; exact live_settled h (fun _ => live_enterHomeWait h)
  | tyerHomeSwitchChange closed =>
    cases run
    apply live_settle; split
    · exact live_tieIfHome h.of_frames
    · exact h.of_frames
  | tieTimerRunOut => cases run; exact live_settled h (fun _ => live_jamTyer h)
  | airWaitTimerRunOut l => cases run; exact live_settled h (fun _ => live_backOff l h)
  | blowingEnd l => cases run; exact live_settled h (fun _ => by unfold endBlowing; exact h.of_frames)
  | settleEnd l => cases run; exact live_settled h (fun _ => live_completeClear l h)
  | backoffEnd l => cases run; exact live_settled h (fun _ => live_endBackOff l h)
  | safetySample estopOpen guardOpen =>
    cases run
    apply live_settle
    exact h.of_frames
  | calendarTick => cases run; exact still h.of_frames
  | lineTimeSecond k => cases run; exact still (when_elim h (fun _ => h.of_frames (ledger := addSecond_ledger k _)))
  | pageProgramComplete verified =>
    cases run; split
    · split <;> exact still h.of_frames
    · exact still h

theorem live_tick (h : Live m k s) : Live m k (tick s) := by
  have lane {s : State} (h : Live m k s) (l : Lane) : Live m k (s.onLane l LaneInfeed.tick) :=
    h.onLane l (f := LaneInfeed.tick) (fun _ => rfl)
  have lanes : Live m k ((s.onLane .a LaneInfeed.tick).onLane .b LaneInfeed.tick) := lane (lane h .a) .b
  exact lanes.of_frames rfl rfl rfl rfl rfl rfl rfl (fun _ => rfl)

/-- A command of the queue and an idle event run on a state with the same line, zones and counts. -/
theorem live_step (h : Live 0 2 s) (empty : s.mbc.openTimer.isSome = true → s.tt.bagger = none)
    (started : s.lsc.line ≠ .init) (run : step s = .next t) (stays : t.lsc.line ≠ .init) : Live 0 0 t := by
  unfold step at run; split at run
  next c rest _ => exact live_exec (s := s.withPending rest) c h.of_frames empty started run stays
  · split at run
    · exact live_exec (s := choiceUsed s) _ h.of_frames empty started run stays
    · cases run; exact live_tick (endsLive_id s h)

end Sys2Proof.Machine
end

section
/-! PROOF. SHIFT_CLOSE (R161, R162), and the balance of the live shift that every step keeps outside INIT (R159). -/

namespace Sys2Proof.Machine

set_option Elab.async false

variable {s t : State}

/-! ## The close of a shift -/

theorem shiftClose_unset (unset : s.cal.valid = false) : shiftCloseOwn s = (⟨9, []⟩, s) := by
  simp only [shiftCloseOwn, unset, Bool.not_false, if_true]; rfl

theorem shiftClose_busy (valid : s.cal.valid = true) (busy : s.tu.closeBuffer ≠ none) : shiftCloseOwn s = (⟨5, []⟩, s) := by
  simp only [shiftCloseOwn, valid, Option.isSome_iff_ne_none.2 busy, Bool.not_true, Bool.false_eq_true, if_false, if_true]; rfl

theorem shiftClose_accepted (valid : s.cal.valid = true) (free : s.tu.closeBuffer = none) : shiftCloseOwn s =
    (answerOk (u16 s.tu.live.shift ++ u16 (nextShift s.tu.live.shift) ++ u8 (admittedCount s)), closeShift s) := by
  simp [shiftCloseOwn, valid, free]

/-- The closed shift's record is a job: an idle writer takes it at once, a busy one finds it queued (R162, R167). -/
theorem closeShift_eq (s : State) : closeShift s =
    let closed : ClosedShift := {
      totals := s.tu.live, closeTime := { day := s.cal.day, second := s.cal.second }, carriedOut := admittedCount s }
    let job : Job := { kind := .shiftRecord, number := some s.tu.live.shift, content := shiftContent closed }
    { s with
      tu := { s.tu with
        live := { shift := nextShift s.tu.live.shift, openTime := some { day := s.cal.day, second := s.cal.second }
                  carriedIn := admittedCount s, line := LineBlock.zero, products := [], other := none }
        closeBuffer := some closed }
      rs := match s.rs.writer with
        | none => { s.rs with queue := { s.rs.queue with checkpoint := none },
                              writer := some { job := job, area := nextSlot s.rs.index, programs := 0 } }
        | some _ => { s.rs with queue := { s.rs.queue with checkpoint := none, shiftRecord := some job } } } := by
  unfold closeShift requestJob
  cases busy : s.rs.writer <;>
    simp only [State.onRs, State.onTu, busy, Option.isNone_none, Option.isNone_some, if_true, Bool.false_eq_true, if_false] <;> rfl

theorem balanced_congr (tu : t.tu = s.tu) (tt : t.tt = s.tt) : balanced t ↔ balanced s := by
  have count : admittedCount t = admittedCount s := by unfold admittedCount State.records; rw [tt]
  unfold balanced; rw [tu, count]

theorem balanced_queueReply (type tok : Byte) (a : Answer) : balanced (queueReply type tok a s) ↔ balanced s :=
  balanced_congr (by simp) (by simp)

/-- A new shift has counted nothing but what it carries in (R161). -/
theorem balanced_closeShift (s : State) : balanced (closeShift s) := by
  have count : admittedCount (closeShift s) = admittedCount s := by
    unfold admittedCount State.records; rw [closeShift_eq]
  unfold balanced
  rw [count, closeShift_eq]
  simp [LineBlock.zero]

theorem balanced_shiftCloseOwn (h : balanced s) : balanced (shiftCloseOwn s).2 := by
  unfold shiftCloseOwn
  split
  · exact h
  · split
    · exact h
    · exact balanced_closeShift s

/-! ## The balance as the statement has it -/

theorem forall_mem_toList {α : Type} {p : α → Bool} (q : Option α) : (∀ r ∈ q.toList, p r = true) ↔ q.all p = true := by
  cases q <;> simp

theorem liveSafe_iff (s : State) : liveSafe s = true ↔ (∀ r ∈ beforeGate s.tt, r.admitted = false) ∧
    (∀ r ∈ pastGate s.tt, r.admitted = true) ∧ BladeTold s := by
  have told (l : Lane) : ((s.tt.blade.get l).isNone || (s.lic.get l).closure.bladeOccupied) = true ↔
      ((s.tt.blade.get l).isSome = true → (s.lic.get l).closure.bladeOccupied = true) := isNone_or_iff Iff.rfl
  have lanes : BladeTold s ↔ ((s.tt.blade.get .a).isNone || (s.lic.get .a).closure.bladeOccupied) = true ∧
      ((s.tt.blade.get .b).isNone || (s.lic.get .b).closure.bladeOccupied) = true := by
    rw [told, told]
    exact ⟨fun h => ⟨h .a, h .b⟩, fun ⟨a, b⟩ l => by cases l; exacts [a, b]⟩
  rw [lanes]
  simp only [liveSafe, beforeGate, pastGate, List.forall_mem_append, forall_mem_toList, List.all_cons, List.all_nil,
    Bool.and_eq_true, Bool.and_true, List.all_eq_true, PerLane.get, Bool.not_eq_true']
  constructor
  · rintro ⟨⟨⟨⟨⟨⟨⟨approachA, bladeA⟩, accumA⟩, toldA⟩, ⟨⟨approachB, bladeB⟩, accumB⟩, toldB⟩, bagger⟩, tyer⟩, exit⟩
    exact ⟨⟨approachA, approachB⟩, ⟨⟨⟨⟨⟨⟨bladeA, bladeB⟩, accumA⟩, accumB⟩, bagger⟩, tyer⟩, exit⟩, toldA, toldB⟩
  · rintro ⟨⟨approachA, approachB⟩, ⟨⟨⟨⟨⟨⟨bladeA, bladeB⟩, accumA⟩, accumB⟩, bagger⟩, tyer⟩, exit⟩, toldA, toldB⟩
    exact ⟨⟨⟨⟨⟨⟨⟨approachA, bladeA⟩, accumA⟩, toldA⟩, ⟨⟨approachB, bladeB⟩, accumB⟩, toldB⟩, bagger⟩, tyer⟩, exit⟩

/-- What the statement assumes of a state: no record in hand, and room for the two admissions of a step. -/
theorem live_of_balanced (safe : liveSafe s = true) (even : balanced s) (below : countersBelow s) : Live 0 2 s := by
  obtain ⟨waiting, admitted, told⟩ := (liveSafe_iff s).1 safe
  have records : s.records.length = (beforeGate s.tt).length + (pastGate s.tt).length := by
    rw [State.records, records_eq_gates, List.length_append]
  have count := admittedCount_of_gates waiting admitted
  refine ⟨⟨waiting, admitted, ?_⟩, told⟩
  simp only [countersBelow, List.forall_mem_cons, List.not_mem_nil, false_implies, implies_true, and_true] at below
  obtain ⟨admittedRoom, baggedRoom, rejectedRoom, lostRoom⟩ := below
  unfold balanced at even
  constructor <;> simp only [TotalsUnit.ledger] <;> omega

theorem Live.balanced (h : Live 0 0 s) : liveSafe s = true ∧ balanced s := by
  refine ⟨(liveSafe_iff s).2 ⟨h.waiting, h.admitted, h.told⟩, ?_⟩
  rw [Machine.balanced, h.admittedCount]
  exact h.books.balance

/-- Settles O22: a close is one of the owner's answers; every step keeps the balance because each operation takes a record out of
the pool as it counts it and admits one as it counts that, and `countersBelow` leaves its counters room. -/
theorem shiftCloseOpensTheNextShift : Obligations.ShiftCloseOpensTheNextShift := by
  refine ⟨fun tok s room quiet => ⟨fun starting => ?_, fun started unset => ?_, fun started valid busy => ?_,
    fun started valid free => ?_, fun even t run => ?_⟩, fun s t air safe even below started run stays => ?_⟩
  · exact congrArg Host.Outcome.next (takeRequest_of_init room quiet starting (by decide) tok shiftCloseOwn id)
  · exact query_answers (serves_of_started room quiet started) rfl (shiftClose_unset unset)
  · exact query_answers (serves_of_started room quiet started) rfl (shiftClose_busy valid busy)
  · have accepted := shiftClose_accepted valid free
    rw [closeShift_eq] at accepted
    exact query_answers (serves_of_started room quiet started) rfl accepted
  · cases run
    by_cases starting : s.lsc.line = .init
    · rw [takeRequest_of_init room quiet starting (by decide)]
      exact (balanced_queueReply ..).2 even
    · rw [takeRequest_of_serves (serves_of_started room quiet starting)]
      exact (balanced_queueReply ..).2 (balanced_shiftCloseOwn even)
  · obtain ⟨⟨bagger, -⟩, -⟩ := (airSafe_iff s).1 air
    have empty : s.mbc.openTimer.isSome = true → s.tt.bagger = none := by
      intro opens
      refine Option.not_isSome_iff_eq_none.1 (fun loaded => ?_)
      obtain ⟨-, -, notOpening⟩ := bagger.empty loaded
      exact notOpening (bagger.opening opens)
    exact (live_step (live_of_balanced safe even below) empty started run stays).balanced

end Sys2Proof.Machine
end
